-- ==== Sys2Proof/Word.lean ====
section
/-! DEFINITION. The words of the CV6464: bytes and the widths its registers and messages use (R9 to R12). -/

namespace Sys2Proof

/-- One byte. -/
abbrev Byte := BitVec 8
/-- A 16-bit field. -/
abbrev W16 := BitVec 16
/-- A 32-bit register or field (R17). -/
abbrev W32 := BitVec 32
/-- A 64-bit field. -/
abbrev W64 := BitVec 64
/-- The four double words of a TLP header (R47). -/
abbrev W128 := BitVec 128
/-- A survey code (R374). -/
abbrev SurveyCode := BitVec 24

end Sys2Proof
end

