-- ==== Sys2Proof/Syntax.lean ====
section
/-! DEFINITION. The commands of the CV6464: one constructor of `Instr` for each row of spec/opcode_table.json. A row
that reports something the device finds outside itself (an analog sample, an echo, an identity memory) carries
what it found as operands. -/

namespace Sys2Proof

/-- A function: 0 is PF0, n is VF n (R54 to R56). -/
abbrev FnId := Fin 1025
/-- A channel, 0 to 63 (the terms of spec/00_scope.md). -/
abbrev ChanId := Fin 64
/-- A loop engine, 4 times the channel plus the role. -/
abbrev EngId := Fin 256
/-- A result ring of one function (R78). -/
abbrev RingId := Fin 8
/-- An event route (R452). -/
abbrev RouteId := Fin 256
/-- A stage module (R513). -/
abbrev ModId := Fin 16
/-- A relay chain (R492). -/
abbrev ChainId := Fin 8
/-- A handshake engine (R300). -/
abbrev HsId := Fin 4
/-- An event timer (R472). -/
abbrev TimerId := Fin 16

/-- The stream a GAP record may stand in: a channel's stream or a function's vector-fail group (R309, R443). -/
inductive StreamId where
  /-- The stream of a channel. -/
  | chan (c : ChanId)
  /-- The vector-fail stream of a function's group. -/
  | group (fn : FnId) (g : Fin 4)
deriving DecidableEq, Repr

/-- A Hem comparator of a channel (R355). -/
inductive Comparator where
  /-- Upper voltage threshold. -/
  | vHi
  /-- Lower voltage threshold. -/
  | vLo
  /-- Upper current threshold. -/
  | iHi
  /-- Lower current threshold. -/
  | iLo
deriving DecidableEq, Repr

/-- One tick's raw codes of a pair of converter cores, with the stage check's verdict on each (R229, R230). -/
structure RawPair where
  a : W16
  b : W16
  okA : Bool
  okB : Bool
deriving DecidableEq, Repr

/-- The raw pair codes of one channel since the last sample instant, oldest tick first. -/
structure ChanSamples where
  ch : ChanId
  v : List RawPair
  i : List RawPair
deriving DecidableEq, Repr

/-- A fault an engine met in a period: the engine and the DETAIL of its log entry (R178, R180). -/
structure EngFault where
  eng : EngId
  detail : W32
deriving DecidableEq, Repr

/-- A sample of the upstream frame whose check code does not match (R238, R597, R311). -/
structure CodeFault where
  ch : ChanId
  cur : Bool
  meas : Bool
deriving DecidableEq, Repr

/-- What a calibration slot measured on one channel, or on the survey pair: the cores the stage check found faulty (V pair
core A bit 0, core B bit 1, I pair bits 2 and 3), the factors in the order of R401 (per pair OFS_A, OFS_B, GAIN_A, GAIN_B,
SKEW, LIN_A[0 to 15], LIN_B[0 to 15]; then DOFS, DGAIN, SEG[0 to 62]), and the die temperature in 1/16 °C (environment). -/
structure CalResult where
  ch : ChanId
  faulty : Fin 16
  factors : List Int
  temp : Int
deriving DecidableEq, Repr

/-- A chassis trigger line (R467). -/
inductive LineId where
  /-- TRIG_BUS[n]. -/
  | bus (n : Fin 8)
  /-- TRIG_STAR. -/
  | star
  /-- TRIG_FP[n]. -/
  | fp (n : Fin 4)
  /-- SYNC_IN. -/
  | sync
deriving DecidableEq, Repr

/-- What a scheduled start of R488 starts: the starts that a command puts at an instant of device time. -/
inductive SchedKind where
  /-- An armed swap, by its command's id (LOOP_SWAP WHEN 1). -/
  | swap (id : Nat)
  /-- The vector player (VEC_START WHEN 1). -/
  | vector
  /-- A timer's first pulse (EVT_TIMER START_NS). -/
  | timer (t : TimerId)
deriving DecidableEq, Repr

/-- One relay module as chain discovery reads it: the result windows of the READs of its record (64 words), its wear area
(counts, then the CRC word) and its darn area, in ascending word address (R498, R515, R520 to R523). -/
structure RelayFound where
  record : List W64
  wear : List W64
  darn : List W64
deriving DecidableEq, Repr

/-- What a chain discovery finds (R500): the number of modules the marker counts, whether a delay trained, the echo of the
all-open image as MX_DI delivers it (the segment of the highest position first, R495), and the modules in chain order. -/
structure ChainFound where
  count : Nat
  trained : Bool
  echo : List Nat
  modules : List RelayFound
deriving DecidableEq, Repr

/-- The outcome of reading a stage module's identity memory (R526). -/
inductive StageFound where
  /-- No module answered. -/
  | absent
  /-- The bus failed. -/
  | busFault
  /-- The record's bytes. -/
  | record (bytes : List Byte)
deriving DecidableEq, Repr

/-- An uncorrectable SRAM error, by partition and by what it named (R595). -/
inductive SramErr where
  /-- Vector memory. -/
  | vector
  /-- A Waystation slot of a channel; whether the instant of its record can still be read. -/
  | waystation (c : ChanId) (slot : Nat) (timeOk : Bool)
  /-- A sweep-list entry read by a channel. -/
  | sweep (c : ChanId)
  /-- The management complex. -/
  | mgmt (pair : Byte) (addr : W32) (dump : List Byte)
  /-- An engine local. -/
  | engine (e : EngId)
  /-- A session context. -/
  | session (f : FnId) (dump : List Byte)
  /-- A Caravan descriptor cache. -/
  | caravan (f : FnId) (r : RingId)
  /-- Matrix state and wear of a chain. -/
  | matrix (k : ChainId)
  /-- An event-queue entry of a function. -/
  | events (f : FnId) (idx : Nat)
  /-- The calibration working copy of a channel. -/
  | cal (c : ChanId)
  /-- Survey result of an entry. -/
  | survey (e : Fin 256)
  /-- A VFAIL record. -/
  | vfail (f : FnId) (g : Fin 4)
  /-- MSI-X state. -/
  | msix (f : FnId)
  /-- A log entry in retained SRAM. -/
  | log (idx : Fin 512)
  /-- The crash record. -/
  | crash
deriving DecidableEq, Repr

/-- A monitored clock (R600). -/
inductive ClockId where
  /-- Engine island i. -/
  | island (i : Fin 16)
  /-- The sequencer, result-former and Waystation island. -/
  | sequencer
  /-- The management complex. -/
  | mgmt
  /-- The always-on oscillator. -/
  | alwaysOn
  /-- The vector island. -/
  | vector
  /-- The matrix island. -/
  | matrix
  /-- Host link. -/
  | hostLink
  /-- Caravan and Tollgate. -/
  | caravan
deriving DecidableEq, Repr

/-- A trained link width (R46). -/
inductive LinkWidth where
  /-- One lane. -/
  | x1
  /-- Two lanes. -/
  | x2
  /-- Four lanes. -/
  | x4
  /-- Eight lanes. -/
  | x8
deriving DecidableEq, Repr

/-- A trained link rate (R46). -/
inductive LinkRate where
  /-- 2.5 GT/s. -/
  | g2_5
  /-- 5 GT/s. -/
  | g5
  /-- 8 GT/s. -/
  | g8
  /-- 16 GT/s. -/
  | g16
  /-- 32 GT/s. -/
  | g32
deriving DecidableEq, Repr

/-- A configuration write (or MSI-X table write) that the spec gives an effect (R56, R58, R536, R81, R86). -/
inductive CfgWrite where
  /-- Type 0 write that carries the bus number; `last` is the subordinate bus number of the upstream port (R58). -/
  | bus (b : Byte) (last : Byte)
  /-- NumVFs of PF0 (R56). -/
  | numVfs (n : W16)
  /-- VF Enable of PF0 (R56, R57). -/
  | vfEnable (on : Bool)
  /-- Initiate Function Level Reset (R536). -/
  | initiateFlr
  /-- MSI-X Enable. -/
  | msixEnable (on : Bool)
  /-- MSI-X Function Mask (R86). -/
  | functionMask (on : Bool)
  /-- The Mask bit of one vector (R86). -/
  | vectorMask (v : Fin 64) (on : Bool)
  /-- Bus Master Enable. -/
  | busMaster (on : Bool)
  /-- Completion timeout of Device Control 2: disable, and the Completion Timeout Value field (R47, R536). -/
  | cplTimeout (disable : Bool) (value : Fin 16)
  /-- Max Payload Size field, 0 to 2 for 128, 256 and 512 B (R47). -/
  | maxPayload (code : Fin 3)
  /-- Max Read Request Size field, 0 to 5 for 128 to 4,096 B (R47). -/
  | maxReadRequest (code : Fin 6)
  /-- Relaxed Ordering enable (R47). -/
  | relaxedOrdering (on : Bool)
  /-- ECRC checking and generation enables (R47, R50). -/
  | ecrc (check : Bool) (gen : Bool)
  /-- BAR0/1 and BAR2/3 of PF0 (R59). -/
  | bar (second : Bool) (addr : W64)
  /-- VF BAR0/1 and VF BAR2/3 of PF0's SR-IOV capability (R55). -/
  | vfBar (second : Bool) (addr : W64)
  /-- System Page Size of PF0's SR-IOV capability (R55). -/
  | systemPageSize (v : W32)
  /-- 10-bit tags: the requester enable (R47). -/
  | tag10 (on : Bool)
  /-- LTR of PF0: the enable (R47, R52). -/
  | ltr (on : Bool)
  /-- ASPM control of Link Control; L0s is not supported (R47). -/
  | aspmL1 (on : Bool)
  /-- L1.1 and L1.2 of ASPM (R47). -/
  | l1Substates (l11 l12 : Bool)
  /-- The power state of the power-management capability: D3hot, or D0 (R47). -/
  | powerState (d3hot : Bool)
  /-- AER status written with ones at the bits given: ECRC error and poisoned TLP (R50, R51). -/
  | aerClear (ecrc poison : Bool)
  /-- The address and data of one MSI-X table entry (R62): a write to BAR2. -/
  | vectorMessage (v : Fin 64) (addr : W64) (data : W32)
  /-- A write to any other field: reserved, read only or without effect. -/
  | other (off : W16) (val : W32)
deriving DecidableEq, Repr

/-- A JTAG instruction (R635, R636). -/
inductive JtagInstr where
  /-- BYPASS. -/
  | bypass
  /-- IDCODE. -/
  | idcode
  /-- SAMPLE or PRELOAD. -/
  | sample
  /-- EXTEST. -/
  | extest
  /-- CLAMP. -/
  | clamp
  /-- HIGHZ. -/
  | highz
  /-- A code the TAP does not list. -/
  | other (code : Nat)
deriving DecidableEq, Repr

/-- What an access of a command shows about a row of the MRAM, by its byte offset (R577). -/
inductive RowErr where
  /-- Its read-back differs from the data written, or a read of it returned an uncorrectable error. -/
  | failing (off : W32)
  /-- A read of it corrected an error in a bit position. -/
  | corrected (off : W32) (bit : Nat)
deriving DecidableEq, Repr

/-- What the world outside the device supplies when a command completes: whether the transfer or measurement
worked, bytes read (host memory, an identity memory), and what the MRAM's rows showed. -/
structure Ext where
  ok : Bool
  data : List Byte
  rows : List RowErr
deriving DecidableEq, Repr

/-- The value of a write to a register with W1C bits; `tie` has the bits that hardware set in the conversion tick of the write
(R18). -/
structure W1cWrite where
  val : W32
  tie : W32
deriving DecidableEq, Repr

/-- A TLP that the endpoint discards: the function it names, and its header (R47, R50, R51). -/
structure BadTlp where
  fn : FnId
  hdr : W128
deriving DecidableEq, Repr

/-- A comparator that was in violation since the last sample instant, and how many ps before this one it last was: 0 where it is
in violation at the instant (R362, R370). -/
structure Violation where
  ch : ChanId
  cmp : Comparator
  ago : W32
deriving DecidableEq, Repr

/-- The marks of Helon's monitors at a sample instant: limiter checks that fail, comparators that were in violation (R362, R598). -/
structure ChanMarks where
  limiter : List ChanId
  violating : List Violation
deriving DecidableEq, Repr

/-- The survey codes that the reference check compares: source 214 and the calibration sources (R397). -/
structure RefCodes where
  ref : SurveyCode
  cal : SurveyCode
deriving DecidableEq, Repr

/-- A mailbox request as its transport delivers it (R89): `ring` names the ring entry, none is the doorbell. -/
structure Req where
  fn : FnId
  ring : Option Nat
  tag : W16
  flags : W16
  len : Nat
  rsv : W64
  payload : List Byte
deriving DecidableEq, Repr

/-- The commands. The rule in each docstring is the one the opcode table names for the row. -/
inductive Instr where
  /-- REGISTER_WRITE (R18). -/
  | registerWrite (fn : FnId) (off : W16) (w : W1cWrite)
  /-- REGISTER_ACCESS_BAD_SIZE (R17). -/
  | registerAccessBadSize (fn : FnId) (off : W16) (size : Nat) (write : Bool)
  /-- UNASSIGNED_OFFSET_ACCESS (R61). -/
  | unassignedOffsetAccess (fn : FnId) (off : W16) (write : Bool) (val : W32)
  /-- REQUEST_WINDOW_WRITE (R64). -/
  | requestWindowWrite (fn : FnId) (word : Fin 64) (val : W32)
  /-- REPLY_WINDOW_WRITE (R100). -/
  | replyWindowWrite (fn : FnId) (word : Fin 64) (val : W32)
  /-- SUBMIT (R63). -/
  | submit (fn : FnId) (val : W32)
  /-- REPLY_CLEAR (R98). -/
  | replyClear (fn : FnId) (w : W1cWrite)
  /-- REPLY_ENTERS_WINDOW (R99). -/
  | replyEntersWindow (fn : FnId)
  /-- TOLLGATE_SERVE (R542). -/
  | tollgateServe
  /-- TOLLGATE_AGE (R541). -/
  | tollgateAge (caravan : Bool) (pos : Nat)
  /-- COMMAND_WAIT_RELEASE (R107). -/
  | commandWaitRelease (id : Nat)
  /-- FINAL_REPLY (R112). -/
  | finalReply (id : Nat) (ext : Ext)
  /-- COMMAND_TIMEOUT (R112). -/
  | commandTimeout (id : Nat)
  /-- CMDR_ENABLE (R66). -/
  | cmdrEnable (fn : FnId) (val : W32)
  /-- IDX_RESET (R70). -/
  | idxReset (fn : FnId) (val : W32)
  /-- CMDR_TAIL_WRITE (R67). -/
  | cmdrTailWrite (fn : FnId) (val : W32)
  /-- RING_ENTRY_FETCH (R102). -/
  | ringEntryFetch (fn : FnId) (bytes : List Byte)
  /-- FETCH_ERR (R68). -/
  | fetchErr (fn : FnId)
  /-- RING_REPLY_WRITE (R103). -/
  | ringReplyWrite (fn : FnId) (entry : Nat)
  /-- EVT_FIRE (R71). -/
  | evtFire (fn : FnId) (val : W32)
  /-- TIME_SNAP_LO_READ (R74). -/
  | timeSnapLoRead (fn : FnId)
  /-- RING_TAIL_WRITE (R79). -/
  | ringTailWrite (fn : FnId) (ring : RingId) (val : W32)
  /-- IRQ_CAUSE_WRITE (R85). -/
  | irqCauseWrite (fn : FnId) (w : W1cWrite)
  /-- IRQ_MASK_WRITE (R85). -/
  | irqMaskWrite (fn : FnId) (val : W32)
  /-- HOLDOFF_EXPIRY (R83). -/
  | holdoffExpiry (fn : FnId) (vec : Fin 64)
  /-- MSIX_UNMASK (R86). -/
  | msixUnmask (fn : FnId) (vec : Option (Fin 64))
  /-- ECRC_DISCARD (R50). -/
  | ecrcDiscard (tlp : BadTlp)
  /-- POISONED_WRITE (R51). -/
  | poisonedWrite (tlp : BadTlp)
  /-- VF_ENABLE_SET (R56). -/
  | vfEnableSet
  /-- VF_ENABLE_CLEAR (R57). -/
  | vfEnableClear
  /-- SESSION_INFO (R96). -/
  | sessionInfo (q : Req)
  /-- SESSION_STATUS (R97). -/
  | sessionStatus (q : Req)
  /-- SESSION_RESOURCES (R529). -/
  | sessionResources (q : Req)
  /-- DIAG_ECHO (R91). -/
  | diagEcho (q : Req)
  /-- LOG_READ (R119). -/
  | logRead (q : Req)
  /-- FUNC_STATUS (R97). -/
  | funcStatus (q : Req)
  /-- LOG_CLEAR_LOST (R606). -/
  | logClearLost (q : Req)
  /-- LOG_ARCHIVE_READ (R609). -/
  | logArchiveRead (q : Req)
  /-- CHAN_INFO (R124). -/
  | chanInfo (q : Req)
  /-- CHAN_CONFIG (R128). -/
  | chanConfig (q : Req)
  /-- CHAN_SET_SOURCE (R144). -/
  | chanSetSource (q : Req)
  /-- CHAN_SET_STATE (R138). -/
  | chanSetState (q : Req)
  /-- CHAN_STATUS (R131). -/
  | chanStatus (q : Req)
  /-- GANG_DEFINE (R152). -/
  | gangDefine (q : Req)
  /-- GANG_DISSOLVE (R153). -/
  | gangDissolve (q : Req)
  /-- TRANSITION_SETTLE_END (R138). -/
  | transitionSettleEnd (ch : ChanId)
  /-- STAGE_WORD_LATCH (R148). -/
  | stageWordLatch (m : ModId)
  /-- STAGE_CONFIRM_TRANSFER (R149). -/
  | stageConfirmTransfer (m : ModId) (readback : W64)
  /-- LOOP_LOAD_IMAGE (R189). -/
  | loopLoadImage (q : Req)
  /-- LOOP_READ_IMAGE (R182). -/
  | loopReadImage (q : Req)
  /-- LOOP_ENGINE_STATUS (R173). -/
  | loopEngineStatus (q : Req)
  /-- LOOP_READ_STATE (R192). -/
  | loopReadState (q : Req)
  /-- LOOP_LOAD_DEFAULT (R191). -/
  | loopLoadDefault (q : Req)
  /-- LOOP_SET_STRUCTURE (R198). -/
  | loopSetStructure (q : Req)
  /-- LOOP_STRUCT_STATUS (R199). -/
  | loopStructStatus (q : Req)
  /-- LOOP_SWAP_GROUP (R206). -/
  | loopSwapGroup (q : Req)
  /-- LOOP_SWAP (R207). -/
  | loopSwap (q : Req)
  /-- LOOP_SWAP_CANCEL (R210). -/
  | loopSwapCancel (q : Req)
  /-- LOOP_RANGE_STORE (R212). -/
  | loopRangeStore (q : Req)
  /-- SWAP_COMMIT (R210). -/
  | swapCommit (id : Nat)
  /-- SWAP_EVENT_LATCH (R209). -/
  | swapEventLatch (id : Nat)
  /-- SWAP_BOUNDARY (R208). -/
  | swapBoundary (id : Nat)
  /-- SAMPLE_INSTANT (R27). -/
  | sampleInstant (samples : List ChanSamples) (marks : ChanMarks)
  /-- UPSTREAM_FRAME_ARRIVAL (R158). -/
  | upstreamFrameArrival (residue : List EngFault) (codeFaults : List CodeFault)
  /-- UPSTREAM_FRAME_MISSING (R343). -/
  | upstreamFrameMissing
  /-- DOWNSTREAM_LAUNCH (R32). -/
  | downstreamLaunch (late : List EngFault)
  /-- DOWNSTREAM_FRAME_AT_HELON (R28). -/
  | downstreamFrameAtHelon
  /-- DOWNSTREAM_FRAME_MISSING (R342). -/
  | downstreamFrameMissing
  /-- SEAM_UP (R337). -/
  | seamUp
  /-- SEAM_LANE_LOCK_LOSS (R337). -/
  | seamLaneLockLoss
  /-- SIDE_CHANNEL_PACKET (R345). -/
  | sideChannelPacket (up : Bool) (seq : W16)
  /-- SIDE_CHANNEL_RETRANSMIT (R346). -/
  | sideChannelRetransmit (up : Bool) (seq : W16)
  /-- HEARTBEAT_INCREMENT (R347). -/
  | heartbeatIncrement
  /-- HEARTBEAT_LOSS (R348). -/
  | heartbeatLoss
  /-- HEM_TRIP (R355). -/
  | hemTrip (ch : ChanId) (cmp : Comparator)
  /-- HEM_SELFTEST (R359). -/
  | hemSelftest (ch : ChanId) (cmp : Comparator) (spare : Bool) (pass : Bool)
  /-- SELFTEST_OVERDUE (R359). -/
  | selftestOverdue (quadrant : Fin 4)
  /-- HEM_CLK_FAULT (R360): the monitor finds Hem's clock outside its limits, or within them again. -/
  | hemClkFault (outside : Bool)
  /-- CONV_CLK_LOSS (R360). -/
  | convClkLoss
  /-- INTLK_ASSERT (R354). -/
  | intlkAssert
  /-- INTLK_NEGATE (R354). -/
  | intlkNegate
  /-- HOLD_TIME_EXPIRY (R365). -/
  | holdTimeExpiry
  /-- HOLD_RAMP_TIMEOUT (R365). -/
  | holdRampTimeout
  /-- RANGE_PRIMING_DONE (R213). -/
  | rangePrimingDone (ch : ChanId)
  /-- RANGE_SETTLE_EXPIRY (R216). -/
  | rangeSettleExpiry (ch : ChanId)
  /-- RANGE_CHANGE_TIMEOUT (R224). -/
  | rangeChangeTimeout (ch : ChanId)
  /-- RAIL_STALE (R203). -/
  | railStale (ch : ChanId)
  /-- SEQ_WRITE (R270). -/
  | seqWrite (q : Req)
  /-- SEQ_READ (R267). -/
  | seqRead (q : Req)
  /-- SEQ_CONFIG (R268). -/
  | seqConfig (q : Req)
  /-- SEQ_ARM (R289). -/
  | seqArm (q : Req)
  /-- SEQ_START (R292). -/
  | seqStart (q : Req)
  /-- SEQ_STOP (R293). -/
  | seqStop (q : Req)
  /-- SEQ_STATUS (R290). -/
  | seqStatus (q : Req)
  /-- SEQ_START_EVENT (R292). -/
  | seqStartEvent (ch : ChanId)
  /-- SEQ_STOP_EVENT (R294). -/
  | seqStopEvent (ch : ChanId)
  /-- SEQ_TRIGGER (R286). -/
  | seqTrigger (ch : ChanId) (input : Fin 4)
  /-- ENTRY_CURRENT (R282). -/
  | entryCurrent (ch : ChanId)
  /-- SOURCE_INSTANT (R277). -/
  | sourceInstant (ch : ChanId)
  /-- APERTURE_START (R278). -/
  | apertureStart (ch : ChanId)
  /-- APERTURE_END (R278). -/
  | apertureEnd (ch : ChanId)
  /-- WAIT_TIMEOUT (R287). -/
  | waitTimeout (ch : ChanId)
  /-- END_ACTION (R291). -/
  | endAction (ch : ChanId)
  /-- HANDLER_CONFIG (R300). -/
  | handlerConfig (q : Req)
  /-- HANDLER_BIN (R303). -/
  | handlerBin (q : Req)
  /-- HANDLER_STATUS (R301). -/
  | handlerStatus (q : Req)
  /-- HS_SOT (R301). -/
  | hsSot (h : HsId)
  /-- HS_EOT (R303). -/
  | hsEot (h : HsId)
  /-- EOT_PULSE_END (R303). -/
  | eotPulseEnd (h : HsId)
  /-- RES_RING_CONFIG (R327). -/
  | resRingConfig (q : Req)
  /-- RES_RING_STATUS (R332). -/
  | resRingStatus (q : Req)
  /-- RES_CHAN_CONFIG (R317). -/
  | resChanConfig (q : Req)
  /-- RES_MEASURE (R278). -/
  | resMeasure (q : Req)
  /-- RES_CAPTURE (R322). -/
  | resCapture (q : Req)
  /-- RES_FLUSH (R333). -/
  | resFlush (q : Req)
  /-- RES_CHAN_STATUS (R320). -/
  | resChanStatus (q : Req)
  /-- MEAS_EVENT (R278). -/
  | measEvent (ch : ChanId)
  /-- BOX_APERTURE_END (R317). -/
  | boxApertureEnd (ch : ChanId)
  /-- WS_TRIG (R323). -/
  | wsTrig (ch : ChanId)
  /-- REARM_EXPIRY (R325). -/
  | rearmExpiry (ch : ChanId)
  /-- WAIT_SPACE_ARM (R325). -/
  | waitSpaceArm (ch : ChanId)
  /-- GAP_INSERT (R320). -/
  | gapInsert (stream : StreamId)
  /-- FLUSH_TIMER (R333). -/
  | flushTimer (fn : FnId) (ring : RingId)
  /-- CARAVAN_ADMIT (R543). -/
  | caravanAdmit
  /-- BLOCK_WRITE (R331). -/
  | blockWrite (fn : FnId) (ring : RingId)
  /-- SVY_TABLE_WRITE (R379). -/
  | svyTableWrite (q : Req)
  /-- SVY_TABLE_READ (R377). -/
  | svyTableRead (q : Req)
  /-- SVY_CONFIG (R385). -/
  | svyConfig (q : Req)
  /-- SVY_DATA (R387). -/
  | svyData (q : Req)
  /-- SVY_URGENT (R391). -/
  | svyUrgent (q : Req)
  /-- SVY_STATUS (R383). -/
  | svyStatus (q : Req)
  /-- SURVEY_TIMER_TICK (R382). -/
  | surveyTimerTick
  /-- SURVEY_START (R383). -/
  | surveyStart
  /-- SCAN_BEGIN (R379). -/
  | scanBegin
  /-- SURVEY_ENTRY_END (R380). -/
  | surveyEntryEnd (samples : List RawPair)
  /-- SURVEY_RESULT (R386). -/
  | surveyResult (delivered : Bool)
  /-- SURVEY_WATCHDOG (R384). -/
  | surveyWatchdog
  /-- CAL_SELF (R395). -/
  | calSelf (q : Req)
  /-- CAL_STATUS (R415). -/
  | calStatus (q : Req)
  /-- CAL_TRACE_BEGIN (R405). -/
  | calTraceBegin (q : Req)
  /-- CAL_TRACE_POINT (R406). -/
  | calTracePoint (q : Req)
  /-- CAL_TRACE_END (R407). -/
  | calTraceEnd (q : Req)
  /-- CAL_STORE (R416). -/
  | calStore (q : Req)
  /-- CAL_RUN_START (R395). -/
  | calRunStart
  /-- REFERENCE_CHECK_END (R397). -/
  | referenceCheckEnd (codes : RefCodes)
  /-- GROUP_SLOT_START (R398). -/
  | groupSlotStart
  /-- GROUP_SLOT_END (R398). -/
  | groupSlotEnd (results : List CalResult)
  /-- SURVEY_CAL_END (R401). -/
  | surveyCalEnd (result : CalResult)
  /-- VEC_BANK_CONFIG (R428). -/
  | vecBankConfig (q : Req)
  /-- VEC_CLOCK (R425). -/
  | vecClock (q : Req)
  /-- VEC_CONFIG (R429). -/
  | vecConfig (q : Req)
  /-- VEC_WRITE (R434). -/
  | vecWrite (q : Req)
  /-- VEC_LOAD (R431). -/
  | vecLoad (q : Req)
  /-- VEC_SEG_COMMIT (R433). -/
  | vecSegCommit (q : Req)
  /-- VEC_READ (R423). -/
  | vecRead (q : Req)
  /-- VEC_START (R435). -/
  | vecStart (q : Req)
  /-- VEC_STOP (R441). -/
  | vecStop (q : Req)
  /-- VEC_STATUS (R442). -/
  | vecStatus (q : Req)
  /-- VECTOR_CYCLE (R424). -/
  | vectorCycle (receivers : BitVec 128) (uncorrectable : Bool)
  /-- FAIL_LIMIT_END (R443). -/
  | failLimitEnd
  /-- VEC_START_EVENT (R435). -/
  | vecStartEvent
  /-- VEC_STOP_EVENT (R441). -/
  | vecStopEvent
  /-- VEC_TRIG (R437). -/
  | vecTrig (input : Fin 4)
  /-- EVT_ROUTE (R452). -/
  | evtRoute (q : Req)
  /-- EVT_ROUTE_STATUS (R471). -/
  | evtRouteStatus (q : Req)
  /-- EVT_OVERRUN (R463). -/
  | evtOverrun (q : Req)
  /-- EVT_READ (R464). -/
  | evtRead (q : Req)
  /-- EVT_LINE_CONFIG (R467). -/
  | evtLineConfig (q : Req)
  /-- EVT_TIMER (R472). -/
  | evtTimer (q : Req)
  /-- CHASSIS_LINE_EDGE (R467). -/
  | chassisLineEdge (line : LineId) (high : Bool)
  /-- TIMER_PULSE (R472). -/
  | timerPulse (t : TimerId)
  /-- HOST (R464). -/
  | host (fn : FnId) (route : RouteId)
  /-- PF_VEC (R465). -/
  | pfVec (v : Fin 32)
  /-- CHAN_OFF (R466). -/
  | chanOff (ch : ChanId)
  /-- ROUTE_FAULT (R471). -/
  | routeFault (route : RouteId)
  /-- LINE_STUCK (R469). -/
  | lineStuck (line : LineId)
  /-- TIME_STATUS (R474). -/
  | timeStatus (q : Req)
  /-- TIME_REF_CONFIG (R473). -/
  | timeRefConfig (q : Req)
  /-- TIME_SET_RATE (R478). -/
  | timeSetRate (q : Req)
  /-- TIME_SYNC_CONFIG (R482). -/
  | timeSyncConfig (q : Req)
  /-- TIME_SET (R487). -/
  | timeSet (q : Req)
  /-- TIME_SKEW_MEASURE (R483). -/
  | timeSkewMeasure (q : Req)
  /-- TIME_PAIR (R490). -/
  | timePair (q : Req)
  /-- REFERENCE_LOSS (R474). -/
  | referenceLoss (pcie : Bool)
  /-- REFERENCE_PRESENT (R474). -/
  | referencePresent (pcie : Bool)
  /-- LOCK_ACQUIRED (R474). -/
  | lockAcquired
  /-- SYNC_IN_EDGE (R480). -/
  | syncInEdge (tR : Nat)
  /-- REALIGNMENT (R481). -/
  | realignment
  /-- RATE_INSTANT (R478). -/
  | rateInstant
  /-- TIME_LOAD (R487). -/
  | timeLoad
  /-- SCHEDULED_START (R488). -/
  | scheduledStart (kind : SchedKind)
  /-- MX_CHAIN_STATUS (R499). -/
  | mxChainStatus (q : Req)
  /-- MX_SET_MEMBERS (R510). -/
  | mxSetMembers (q : Req)
  /-- MX_STAGE (R501). -/
  | mxStage (q : Req)
  /-- MX_APPLY (R501). -/
  | mxApply (q : Req)
  /-- MX_READ (R509). -/
  | mxRead (q : Req)
  /-- MX_WEAR_READ (R507). -/
  | mxWearRead (q : Req)
  /-- MX_LOCK (R510). -/
  | mxLock (q : Req)
  /-- MX_CHAIN_CTL (R500). -/
  | mxChainCtl (q : Req)
  /-- MX_APPLY_EVENT (R512). -/
  | mxApplyEvent (k : ChainId)
  /-- MX_UPDATE_START (R502). -/
  | mxUpdateStart (k : ChainId)
  /-- MX_ECHO_COMPARE (R502): the segments that the transfer returned on MX_DI, the highest position first (R495). -/
  | mxEchoCompare (k : ChainId) (echo : List Nat)
  /-- MX_RELEASE_SETTLE_END (R502). -/
  | mxReleaseSettleEnd (k : ChainId)
  /-- MX_DONE (R502). -/
  | mxDone (k : ChainId)
  /-- MX_PERIODIC_CONFIRM (R505): the segments returned, the highest position first. -/
  | mxPeriodicConfirm (k : ChainId) (echo : List Nat)
  /-- WEAR_WRITEBACK (R507): for each position, the result windows of each write and of its read-back, in order (R498). -/
  | wearWriteback (k : ChainId) (results : List (List (W64 × W64)))
  /-- DARN_VERIFY (R509): the result windows of the darn record's write and of its read-back (R498). -/
  | darnVerify (k : ChainId) (position : Fin 32) (spare : Nat) (result : W64 × W64)
  /-- CHAIN_DISCOVERY (R500). -/
  | chainDiscovery (k : ChainId) (found : ChainFound)
  /-- MOD_INFO (R525). -/
  | modInfo (q : Req)
  /-- MOD_READ (R514). -/
  | modRead (q : Req)
  /-- MOD_RESCAN (R526). -/
  | modRescan (q : Req)
  /-- STAGE_DISCOVERY (R526). -/
  | stageDiscovery (m : ModId) (found : StageFound)
  /-- ADM_ASSIGN (R529). -/
  | admAssign (q : Req)
  /-- ADM_RELEASE (R533). -/
  | admRelease (q : Req)
  /-- ADM_FUNC_CONFIG (R532). -/
  | admFuncConfig (q : Req)
  /-- ADM_CHAN_POLICY (R533). -/
  | admChanPolicy (q : Req)
  /-- ADM_TOLLGATE (R541). -/
  | admTollgate (q : Req)
  /-- ADM_HOLD (R534). -/
  | admHold (q : Req)
  /-- ADM_QUERY (R529). -/
  | admQuery (q : Req)
  /-- ADM_SESSION_RESET (R536). -/
  | admSessionReset (q : Req)
  /-- LOSS_POLICY (R533). -/
  | lossPolicy (ch : ChanId)
  /-- INITIATE_FUNCTION_LEVEL_RESET (R536). -/
  | initiateFunctionLevelReset (fn : FnId)
  /-- FLR_RING_DRAIN_DONE (R536). -/
  | flrRingDrainDone (fn : FnId)
  /-- FLR_COMPLETIONS_DONE (R536). -/
  | flrCompletionsDone (fn : FnId)
  /-- FLR_RESOURCES_RETURN (R536). -/
  | flrResourcesReturn (fn : FnId)
  /-- FLR_COMPLETE (R536). -/
  | flrComplete (fn : FnId)
  /-- LATE_CPL (R536). -/
  | lateCpl (fn : FnId)
  /-- SYS_RESET (R547). -/
  | sysReset (q : Req)
  /-- SYS_BLOCK_RESET (R567). -/
  | sysBlockReset (q : Req)
  /-- SYS_POWER (R570). -/
  | sysPower (q : Req)
  /-- SYS_OPT_READ (R558). -/
  | sysOptRead (q : Req)
  /-- SYS_OPT_WRITE (R581). -/
  | sysOptWrite (q : Req)
  /-- SYS_FW_LOAD (R585). -/
  | sysFwLoad (q : Req)
  /-- SYS_FW_COMMIT (R582). -/
  | sysFwCommit (q : Req)
  /-- SYS_STORE_STATUS (R578). -/
  | sysStoreStatus (q : Req)
  /-- BLOCK_IDLE_OR_TIMEOUT (R567). -/
  | blockIdleOrTimeout (block : Fin 6) (index : Fin 16) (forced : Bool)
  /-- VAON_POWER_ON (R547). -/
  | vaonPowerOn
  /-- DENRIX_POWER_ON (R547). -/
  | denrixPowerOn
  /-- HELON_POWER_ON (R547). -/
  | helonPowerOn
  /-- RESET_N (R549). -/
  | resetN
  /-- PERST_N (R547). -/
  | perstN
  /-- HOT_RESET (R547). -/
  | hotReset
  /-- WATCHDOG (R550). -/
  | watchdog (dump : List Byte)
  /-- LOCKSTEP (R592). -/
  | lockstep (pair : Byte) (dump : List Byte)
  /-- FW_FATAL (R592). -/
  | fwFatal (pair : Byte) (addr : W32) (dump : List Byte)
  /-- SEAM_LOSS_ESCALATION (R552). -/
  | seamLossEscalation
  /-- THERMAL (R551). -/
  | thermal
  /-- THERMAL_WARN (R551). -/
  | thermalWarn (hot : Bool)
  /-- SMB_MGMT_RESET_PACKAGE (R553). -/
  | smbMgmtResetPackage
  /-- SMB_MGMT_RESET_DENRIX (R553). -/
  | smbMgmtResetDenrix
  /-- SMB_MGMT_READ_STATUS (R553). -/
  | smbMgmtReadStatus
  /-- SMB_MGMT_INVALID (R553). -/
  | smbMgmtInvalid (code : Byte) (data : W16) (pecOk : Bool)
  /-- RESET_NEGATION (R548). -/
  | resetNegation
  /-- OPTION_LOAD_DONE (R558). -/
  | optionLoadDone
  /-- DOMAIN_RELEASE (R560). -/
  | domainRelease
  /-- ECC_INIT_DONE (R560). -/
  | eccInitDone
  /-- FIRMWARE_BANK_CHECK (R582). -/
  | firmwareBankCheck
  /-- READY (R562). -/
  | ready
  /-- DEEP_ENTRY_DONE (R571). -/
  | deepEntryDone
  /-- WAKE (R573). -/
  | wake (cause : Fin 5)
  /-- WAKE_DONE (R573). -/
  | wakeDone
  /-- SRAM_UNCORRECTABLE (R595). -/
  | sramUncorrectable (err : SramErr) (addr : W32)
  /-- SRAM_CORRECTED (R596). -/
  | sramCorrected (addr : W32)
  /-- SCRUB (R596). -/
  | scrub
  /-- CLOCK_FAULT (R600). -/
  | clockFault (clk : ClockId)
  /-- LOG_FIFO_DRAIN (R605). -/
  | logFifoDrain
  /-- LOG_ENTRY_FINAL (R605). -/
  | logEntryFinal
  /-- PERSISTENT_LOG_WRITE (R608). -/
  | persistentLogWrite (rows : List RowErr)
  /-- HELON_RAIL_FALL (R620). -/
  | helonRailFall
  /-- DENRIX_RAIL_FALL (R620). -/
  | denrixRailFall
  /-- LINK_UP (R561). -/
  | linkUp (width : LinkWidth) (rate : LinkRate)
  /-- CONFIGURATION_WRITE (R58). -/
  | configurationWrite (fn : FnId) (w : CfgWrite)
  /-- SYS_RESET_ASSERTION (R547). -/
  | sysResetAssertion
  /-- JTAG_INSTRUCTION_LOAD (R636). -/
  | jtagInstructionLoad (i : JtagInstr)
deriving DecidableEq, Repr

end Sys2Proof
end

