-- ==== Sys2Proof/Decode.lean ====
section
/-! DEFINITION. The command a word spells. spec/opcode_table.json gives no row any bits (every row's fields are empty), so
no word spells a command. -/

namespace Sys2Proof

/-- The command that the table's bits spell; the table gives none. -/
def decodeTableWord (_nbits _w : Nat) : Option Instr := none

end Sys2Proof
end

