-- ==== Sys2Proof/Config.lean ====
section
/-! DEFINITION. What the spec leaves open: the free values of the model. None has a body, so no proof can see one. -/

namespace Sys2Proof

/-- A 32-bit value the spec leaves open (EST_US of R93, undefined contents), indexed by the state's free counter. DESIGN
CHOICE, safe: a claim holds for every value (log entries 9, 10, 17, 36, 60, 66, 73, 76, 78, 107 to 110, 149, 154). -/
opaque Config.freeWord : Nat → BitVec 32

/-- A 32-bit value the spec leaves open that is the same whenever it is used, by the place of its use: the key of a drive error,
the index of the survey's CAL_FAIL entry, whether a pulse of 2 to 4 ns shows (R454). DESIGN CHOICE, safe (log entries 60, 99,
150). -/
opaque Config.freeConst : Nat → BitVec 32

/-- Whether an access of the MRAM that no command's operands describe meets an error (an uncorrectable read, a read-back that
differs), indexed by the state's free counter. DESIGN CHOICE, safe: a claim holds for both answers (log entry 154). -/
opaque Config.freeFlag : Nat → Bool

/-- A byte the spec leaves undefined (contents of a segment after a failed VEC_LOAD), indexed by counter and place. DESIGN
CHOICE, safe (log entry 89). -/
opaque Config.freeByte : Nat → Nat → BitVec 8

/-- A delay in ps inside a bound the spec states; the user of the value takes the smaller of it and the bound. DESIGN
CHOICE, safe (log entries 11, 12, 83). -/
opaque Config.freeDelay : Nat → Nat

end Sys2Proof
end

