-- ==== Sys2Proof/Machine/Tables.lean ====
section
/-! DEFINITION. Sparse tables: a list of numbered entries in one canonical form (numbers strictly rising, no entry
equal to the default of its number), with their read and write. The device's register groups, list memory and host
memory are held in them. -/

namespace Sys2Proof.Machine

/-- A sparse table: entry number and value. -/
abbrev Tbl (α : Type) := List (Nat × α)

/-- The value of entry `k`; an unlisted entry holds the default of its number. -/
def tblGet {α : Type} (d : Nat → α) (t : Tbl α) (k : Nat) : α :=
  match t with
  | [] => d k
  | e :: r => if e.1 = k then e.2 else tblGet d r k

/-- Puts an entry before the first one of a higher number. -/
def tblInsert {α : Type} (k : Nat) (v : α) (t : Tbl α) : Tbl α :=
  match t with
  | [] => [(k, v)]
  | e :: r => if k < e.1 then (k, v) :: e :: r else e :: tblInsert k v r

/-- The table without entry `k`. -/
def tblErase {α : Type} (k : Nat) (t : Tbl α) : Tbl α :=
  t.filter (fun e => decide (e.1 ≠ k))

/-- Entry `k` becomes `v`; writing the default removes the entry. -/
def tblSet {α : Type} [DecidableEq α] (d : Nat → α) (t : Tbl α) (k : Nat) (v : α) : Tbl α :=
  if v = d k then tblErase k t else tblInsert k v (tblErase k t)

/-- Every listed entry changed by `f`. -/
def tblMap {α : Type} [DecidableEq α] (d : Nat → α) (f : α → α) (t : Tbl α) : Tbl α :=
  t.foldl (fun a p => tblSet d a p.1 (f p.2)) []

/-- Numbers strictly rise from `lo` on and no entry equals its default. -/
def tblOkFrom {α : Type} [DecidableEq α] (d : Nat → α) (lo : Nat) (t : Tbl α) : Bool :=
  match t with
  | [] => true
  | e :: r => decide (lo ≤ e.1) && !decide (e.2 = d e.1) && tblOkFrom d (e.1 + 1) r

/-- The canonical form of a table. -/
def tblOk {α : Type} [DecidableEq α] (d : Nat → α) (t : Tbl α) : Bool := tblOkFrom d 0 t

/-- Every one of `n` entries from `k` on changed by `f`. -/
def tblModRange {α : Type} [DecidableEq α] (d : Nat → α) (f : α → α) (k : Nat) (n : Nat) (t : Tbl α) : Tbl α :=
  match n with
  | 0 => t
  | m + 1 => tblModRange d f (k + 1) m (tblSet d t k (f (tblGet d t k)))

end Sys2Proof.Machine
end

