-- ==== Sys2Proof/Machine/Bytes.lean ====
section
/-! DEFINITION. Little-endian fields of messages and records (R11), bit maps, and the checksums of the device. -/

namespace Sys2Proof.Machine

/-- Byte `o` of a message; 0 past its end. -/
def u8 (p : List Byte) (o : Nat) : Nat := (p.getD o 0).toNat

/-- `n` bytes from `o` as one little-endian number (R11). -/
def leN (p : List Byte) (o : Nat) (n : Nat) : Nat :=
  match n with
  | 0 => 0
  | m + 1 => u8 p o + 256 * leN p (o + 1) m

/-- A two-byte field. -/
def u16 (p : List Byte) (o : Nat) : Nat := leN p o 2
/-- A four-byte field. -/
def u32 (p : List Byte) (o : Nat) : Nat := leN p o 4
/-- An eight-byte field. -/
def u64 (p : List Byte) (o : Nat) : Nat := leN p o 8

/-- The two's complement value of an `n`-bit number (R12). -/
def toSigned (n : Nat) (v : Nat) : Int :=
  let m := v % 2 ^ n
  if m < 2 ^ (n - 1) then (m : Int) else (m : Int) - ((2 ^ n : Nat) : Int)

/-- The `n`-bit two's complement field of an integer (R12). -/
def ofSigned (n : Nat) (v : Int) : Nat := (v % ((2 ^ n : Nat) : Int)).toNat

/-- A signed four-byte field. -/
def s32 (p : List Byte) (o : Nat) : Int := toSigned 32 (u32 p o)
/-- A signed two-byte field. -/
def s16 (p : List Byte) (o : Nat) : Int := toSigned 16 (u16 p o)
/-- A signed eight-byte field. -/
def s64 (p : List Byte) (o : Nat) : Int := toSigned 64 (u64 p o)

/-- `n` bytes of a number, low byte first. -/
def toLe (n : Nat) (v : Nat) : List Byte :=
  match n with
  | 0 => []
  | m + 1 => BitVec.ofNat 8 v :: toLe m (v / 256)

/-- A one-byte field. -/
def w8 (v : Nat) : List Byte := toLe 1 v
/-- A two-byte field. -/
def w16 (v : Nat) : List Byte := toLe 2 v
/-- A four-byte field. -/
def w32 (v : Nat) : List Byte := toLe 4 v
/-- An eight-byte field. -/
def w64 (v : Nat) : List Byte := toLe 8 v
/-- A signed four-byte field. -/
def wi32 (v : Int) : List Byte := toLe 4 (ofSigned 32 v)
/-- A signed eight-byte field. -/
def wi64 (v : Int) : List Byte := toLe 8 (ofSigned 64 v)
/-- `n` zero bytes. -/
def zeros (n : Nat) : List Byte := List.replicate n 0
/-- `n` bytes of a message from `o`, zeros past its end. -/
def slice (p : List Byte) (o : Nat) (n : Nat) : List Byte := (p.drop o).take n ++ zeros (n - (p.length - o))
/-- The bytes cut or filled with zeros to length `n`. -/
def padTo (n : Nat) (p : List Byte) : List Byte := slice p 0 n
/-- Bytes `o` on replaced by `b`. -/
def splice (p : List Byte) (o : Nat) (b : List Byte) : List Byte := p.take o ++ b ++ p.drop (o + b.length)

/-- 1 for true. -/
def bit (b : Bool) : Nat := if b then 1 else 0
/-- 1 at bit `i` for true. -/
def bitAt (b : Bool) (i : Nat) : Nat := if b then 2 ^ i else 0
/-- Bits [hi:lo] of a number. -/
def bitsOf (v hi lo : Nat) : Nat := v / 2 ^ lo % 2 ^ (hi + 1 - lo)
/-- The bit map of the numbers below `n` that meet `f`. -/
def bitMap (f : Nat → Bool) (n : Nat) : Nat :=
  match n with
  | 0 => 0
  | m + 1 => bitMap f m + bitAt (f m) m
/-- The numbers below `n` whose bit is set. -/
def bitsSet (v : Nat) (n : Nat) : List Nat := (List.range n).filter (fun i => v.testBit i)
/-- A bit of a map set or cleared. -/
def putBit (m i : Nat) (on : Bool) : Nat := if on then m ||| 2 ^ i else if m.testBit i then m - 2 ^ i else m
/-- `n` all-one bits. -/
def ones (n : Nat) : Nat := 2 ^ n - 1

/-- One bit of a reflected CRC-32C (polynomial 0x82F6_3B78). -/
def crc32cBits (n : Nat) (c : BitVec 32) : BitVec 32 :=
  match n with
  | 0 => c
  | m + 1 => crc32cBits m (if c.getLsbD 0 then (c >>> 1) ^^^ 0x82F63B78#32 else c >>> 1)

/-- CRC-32C over bytes, with the parameters of R313. -/
def crc32c (p : List Byte) : BitVec 32 :=
  (p.foldl (fun c b => crc32cBits 8 (c ^^^ b.zeroExtend 32)) 0xFFFFFFFF#32) ^^^ 0xFFFFFFFF#32

/-- One bit of the 6-bit check code's CRC (x^6 + x + 1, R238), high bit first. -/
def crc6Step (c : Nat) (b : Bool) : Nat :=
  let f := xor (c.testBit 5) b
  let s := c * 2 % 64
  if f then s ^^^ 3 else s

/-- The check code of an `n`-bit sample (R238): CRC-6, most significant bit first, initial value 0. -/
def crc6 (n : Nat) (v : Nat) : Nat :=
  ((List.range n).reverse.map (fun i => v.testBit i)).foldl crc6Step 0

/-- One bit of CRC-16 (polynomial 0x1021). -/
def crc16Bits (n : Nat) (c : BitVec 16) : BitVec 16 :=
  match n with
  | 0 => c
  | m + 1 => crc16Bits m (if c.getLsbD 15 then (c <<< 1) ^^^ 0x1021#16 else c <<< 1)

/-- CRC-16 with polynomial 0x1021 and initial value 0xFFFF, high bit first. -/
def crc16 (p : List Byte) : BitVec 16 :=
  p.foldl (fun c b => crc16Bits 8 (c ^^^ (BitVec.ofNat 16 (b.toNat * 256)))) 0xFFFF#16

end Sys2Proof.Machine
end

