-- ==== Sys2Proof/Machine/Arith.lean ====
section
/-! DEFINITION. Exact arithmetic of the device: rounding shifts, saturation, and IEEE binary32 and binary64 values
held as exact fractions and rounded once where a rule says so. -/

namespace Sys2Proof.Machine

/-- Quotient rounded to nearest, ties to even. -/
def rhe (n : Int) (d : Nat) : Int :=
  let q := n / (d : Int)
  let r := n % (d : Int)
  if 2 * r < d then q else if 2 * r = d then (if q % 2 = 0 then q else q + 1) else q + 1

/-- `v / 2^n` rounded to nearest, ties to even. -/
def rheShift (v : Int) (n : Nat) : Int := rhe v (2 ^ n)

/-- Arithmetic shift right: rounds toward minus infinity. -/
def asr (v : Int) (n : Nat) : Int := v / ((2 ^ n : Nat) : Int)

/-- Saturation to `n`-bit two's complement. -/
def satN (n : Nat) (v : Int) : Int :=
  let hi : Int := ((2 ^ (n - 1) : Nat) : Int) - 1
  let lo : Int := -((2 ^ (n - 1) : Nat) : Int)
  if v > hi then hi else if v < lo then lo else v

/-- Whether `satN` changes the value. -/
def satHit (n : Nat) (v : Int) : Bool := !decide (satN n v = v)

/-- The value limited to `lo`..`hi`. -/
def clampI (lo hi v : Int) : Int := if v < lo then lo else if v > hi then hi else v

/-- The least integer not below `n / d`. -/
def ceilDiv (n d : Nat) : Nat := (n + d - 1) / d

/-- An exact fraction; the denominator is positive. -/
structure Frac where
  num : Int
  den : Nat
deriving DecidableEq, Repr

/-- An integer as a fraction. -/
def fracOf (n : Int) : Frac := ⟨n, 1⟩
/-- Sum. -/
def fracAdd (a b : Frac) : Frac := ⟨a.num * b.den + b.num * a.den, a.den * b.den⟩
/-- Negation. -/
def fracNeg (a : Frac) : Frac := ⟨-a.num, a.den⟩
/-- Difference. -/
def fracSub (a b : Frac) : Frac := fracAdd a (fracNeg b)
/-- Product. -/
def fracMul (a b : Frac) : Frac := ⟨a.num * b.num, a.den * b.den⟩
/-- Quotient; 0 for a zero divisor. -/
def fracDiv (a b : Frac) : Frac :=
  if b.num = 0 then ⟨0, 1⟩
  else if b.num > 0 then ⟨a.num * b.den, a.den * b.num.toNat⟩ else ⟨-(a.num * b.den), a.den * (-b.num).toNat⟩
/-- Order. -/
def fracLt (a b : Frac) : Bool := decide (a.num * b.den < b.num * a.den)
/-- Order or equal. -/
def fracLe (a b : Frac) : Bool := decide (a.num * b.den ≤ b.num * a.den)
/-- Magnitude. -/
def fracAbs (a : Frac) : Frac := ⟨a.num.natAbs, a.den⟩
/-- Nearest integer, ties to even. -/
def fracRhe (a : Frac) : Int := rhe a.num a.den
/-- `m * 2^e` for a possibly negative exponent. -/
def fracPow2 (m : Int) (e : Int) : Frac :=
  if e ≥ 0 then ⟨m * ((2 ^ e.toNat : Nat) : Int), 1⟩ else ⟨m, 2 ^ (-e).toNat⟩

/-- Whether a binary32 word is a finite number. -/
def f32Finite (w : Nat) : Bool := decide (bitsOf w 30 23 ≠ 255)
/-- Whether a binary64 word is a finite number. -/
def f64Finite (w : Nat) : Bool := decide (bitsOf w 62 52 ≠ 2047)

/-- The exact value of a finite binary32 word. -/
def f32Val (w : Nat) : Frac :=
  let e := bitsOf w 30 23
  let m := bitsOf w 22 0
  let v : Frac := if e = 0 then fracPow2 m (-149) else fracPow2 ((m + 2 ^ 23 : Nat)) ((e : Int) - 150)
  if w.testBit 31 then fracNeg v else v

/-- The exact value of a finite binary64 word. -/
def f64Val (w : Nat) : Frac :=
  let e := bitsOf w 62 52
  let m := bitsOf w 51 0
  let v : Frac := if e = 0 then fracPow2 m (-1074) else fracPow2 ((m + 2 ^ 52 : Nat)) ((e : Int) - 1075)
  if w.testBit 63 then fracNeg v else v

/-- Floor of the base-2 logarithm of a positive fraction. -/
def fracLog2 (n d : Nat) : Int :=
  let g : Int := (Nat.log2 n : Int) - (Nat.log2 d : Int)
  let le : Bool := if g ≥ 0 then decide (d * 2 ^ g.toNat ≤ n) else decide (d ≤ n * 2 ^ (-g).toNat)
  if le then g else g - 1

/-- A fraction rounded to nearest, ties to even, to a binary float of `p` significand bits, exponent bias `bias` and
total width `w`; overflow gives infinity. -/
def floatOf (p w : Nat) (bias : Int) (a : Frac) : Nat :=
  if a.num = 0 then 0
  else
    let n := a.num.natAbs
    let sgn := if a.num < 0 then 2 ^ (w - 1) else 0
    let l := fracLog2 n a.den
    let emin : Int := 1 - bias
    let e := if l < emin then emin else l
    -- unit in the last place is 2^(e - (p - 1))
    let u := e - ((p : Int) - 1)
    let m := if u ≥ 0 then rhe n (a.den * 2 ^ u.toNat) else rhe ((n * 2 ^ (-u).toNat : Nat) : Int) a.den
    let m := m.toNat
    let e' := if m = 2 ^ p then e + 1 else e
    let m' := if m = 2 ^ p then 2 ^ (p - 1) else m
    if e' > bias then sgn + (2 ^ (w - p) - 1) * 2 ^ (p - 1)
    else if m' < 2 ^ (p - 1) then sgn + m'
    else sgn + (e' + bias).toNat * 2 ^ (p - 1) + (m' - 2 ^ (p - 1))

/-- Rounded to binary32. -/
def f32Of (a : Frac) : Nat := floatOf 24 32 127 a
/-- Rounded to binary64. -/
def f64Of (a : Frac) : Nat := floatOf 53 64 1023 a
/-- A value rounded to binary64: one step of a computation in that format. -/
def r64 (a : Frac) : Frac := f64Val (f64Of a)

end Sys2Proof.Machine
end

