-- ==== Sys2Proof/Machine/TypesHost.lean ====
section
/-! DEFINITION. The state of the host side: functions and their BAR0 registers, MSI-X, mailboxes, Tollgate and
assignment (spec/02_host_link.md, spec/03_mailbox.md, spec/18_sessions.md). -/

namespace Sys2Proof.Machine

/-- The moderation and pending state of one MSI-X vector (R83 to R86). -/
structure Vec where
  /-- Occurrences counted since the last message. -/
  count : Nat
  /-- Instant of the first occurrence counted since the last message. -/
  start : Option Nat
  /-- HOLDOFF. -/
  holdoff : W16
  /-- COUNT. -/
  countReg : Byte
  /-- The vector's Mask bit in the MSI-X table. -/
  mask : Bool
  /-- The pending bit. -/
  pba : Bool
  /-- Message address and data of the table entry (R62). -/
  addr : W64
  data : W32
  /-- A directly signalled vector with an edge whose message has not been sent (R81). -/
  edge : Bool
deriving DecidableEq, Repr

/-- A reply that waits for its window (R92, R99). -/
structure Reply where
  op : W16
  tag : W16
  status : W16
  /-- FINAL: completes a command that returned ST_PENDING. -/
  final : Bool
  /-- The last reply of its request (R96). -/
  last : Bool
  payload : List Byte
  /-- The doorbell write of its request; none for a final reply (it ends no service time). -/
  arrival : Option Nat
deriving DecidableEq, Repr

/-- A ring reply that waits to be written to its entry (R103, R105). -/
structure RingReply where
  entry : Nat
  reply : Reply
  notify : Bool
deriving DecidableEq, Repr

/-- The bulk command ring's registers (R66 to R70). -/
structure Cmdr where
  baseLo : W32
  baseHi : W32
  log2 : Nat
  enable : Bool
  tail : Nat
  head : Nat
  cfgErr : Bool
  tailErr : Bool
  fetchErr : Bool
deriving DecidableEq, Repr

/-- A result record as formed (R305 to R309), with what the Waystation and the seal keep beside it: the stream it belongs
to (a channel, or 64 + 4 f + g for group g of function f), its ring, its slots (R319), whether it is a pair that Caravan
forms (R311), and the check-code differences of its samples in fold order (R312). -/
structure Rec where
  timeNs : Nat
  frac : Nat
  chan : Nat
  epoch : Nat
  type_ : Nat
  seq : Nat
  v : Nat
  i : Nat
  idx : Nat
  flags : Nat
  stream : Nat
  ring : Nat
  slots : Nat
  diffs : List Nat
  /-- The record's instant in ps. -/
  at_ : Nat
  /-- FI, UNLOCKED, VRANGE and IRANGE as they stand at its instant (R307). -/
  inst : Nat
deriving DecidableEq, Repr

/-- A survey result (the reply of SVY_DATA; R374, R375, R386). -/
structure SvyResult where
  entry : Nat
  dflags : Nat
  scan : Nat
  code : Int
  value : Nat
  timeNs : Nat
  epoch : Nat
deriving DecidableEq, Repr

/-- A closed block that waits for Caravan (R315, R333). -/
structure Block where
  recs : List Rec
  flushed : Bool
  closeNs : Nat
  closeEpoch : Nat
  /-- LOST of its header. -/
  lost : Nat
deriving DecidableEq, Repr

/-- A caravan: up to 8 closed blocks of one function, named by their rings in the order in which they closed, waiting
for admission or admitted (R541 to R543). -/
structure Caravan where
  fn : Nat
  rings : List Nat
  since : Nat
  eff : Nat
  /-- The weight of its function when it started waiting (R544). -/
  weight : Nat
  ages : List Nat
  agedAt : Nat
  admitted : Bool
deriving DecidableEq, Repr

/-- A result ring of one function (R78, R79, R327 to R335). -/
structure Ring where
  enabled : Bool
  base : Nat
  /-- Log2 of the number of blocks. -/
  size : Nat
  sealOn : Bool
  roData : Bool
  flushUs : Nat
  irqMode : Nat
  wbAddr : Nat
  wmark : Nat
  head : Nat
  tail : Nat
  wmarkHit : Bool
  tailErr : Bool
  /-- Whether the fill is at or above WMARK (R332). -/
  above : Bool
  blockSeq : Nat
  openRecs : List Rec
  openSince : Option Nat
  closed : List Block
  /-- Records lost since the previous block's header (LOSS and LOST of a block). -/
  lostSince : Nat
  /-- Total time full in µs, and the instant the ring became full. -/
  fullPs : Nat
  fullAt : Option Nat
  /-- Ring-space offset of its extent (R329). -/
  space : Nat
deriving DecidableEq, Repr

/-- A step of the function-level reset (R536); `none` of it runs at 0. -/
inductive FlrStep where
  /-- No reset runs. -/
  | idle
  /-- PF0's reset waits for those of the VFs (R540). -/
  | vfs
  /-- Step 2: Caravan finishes and rings are disabled. -/
  | drain
  /-- Step 3: outstanding completions. -/
  | completions
  /-- Steps 4 to 6: resources return. -/
  | resources
  /-- Step 7. -/
  | finishing
deriving DecidableEq, Repr

/-- The time snapshot latch (R74). -/
structure Snap where
  ns : W64
  frac : Byte
  unlocked : Bool
  epoch : W16
deriving DecidableEq, Repr

/-- An entry of a function's event queue (R464). -/
structure EvtEntry where
  timeNs : Nat
  frac : Nat
  epoch : Nat
  route : Nat
  flags : Nat
deriving DecidableEq, Repr

/-- One function of the endpoint: PF0 or a VF. -/
structure Fn where
  /-- PF0, or a VF that VF Enable has enabled. -/
  enabled : Bool
  reqWin : Tbl W32
  repWin : Tbl W32
  /-- BUSY reads 1 before this instant (R63). -/
  busyUntil : Nat
  reply : Bool
  ready : Bool
  completion : Bool
  reject : Bool
  fireDenied : Bool
  replyTag : W16
  /-- The reply in the window is the last of its request (R96). -/
  shownLast : Bool
  replies : List Reply
  ringReplies : List RingReply
  dropped : Nat
  completed : Nat
  maxService : Nat
  cmdr : Cmdr
  snap : Snap
  irqCause : Nat
  irqMask : Nat
  vecs : Tbl Vec
  msixEnable : Bool
  funcMask : Bool
  busMaster : Bool
  cplDisable : Bool
  /-- The Completion Timeout Value field of Device Control 2. -/
  cplValue : Nat
  maxPayload : Nat
  maxReadReq : Nat
  relaxed : Bool
  ecrcCheck : Bool
  ecrcGen : Bool
  aerEcrc : Bool
  aerPoison : Bool
  /-- The AER header log: the header of the TLP of the first error reported since the status was cleared (R47). -/
  aerLog : W128
  /-- The 10-bit tag requester enable (R47). -/
  tag10 : Bool
  /-- The function is in D3hot (R47). -/
  d3hot : Bool
  rings : Tbl Ring
  ringCount : Nat
  quota : Nat
  cls : Nat
  weight : Nat
  /-- Deficit counters of the mailbox and of Caravan (R542). -/
  deficit : Nat
  deficitCar : Nat
  flr : FlrStep
  flrAt : Nat
  /-- The ADM_SESSION_RESET that started the reset. -/
  flrCmd : Option Nat
  /-- The reset is one of those that clearing VF Enable runs in ascending order (R57). -/
  flrSeq : Bool
  lateCpl : Nat
  /-- Outstanding non-posted requests (R536 step 3). -/
  outstanding : Nat
  events : List EvtEntry
  evtLost : Nat
  /-- HOST entries made in DEEP, whose occurrences follow the wake (R470). -/
  evtDeep : Nat
  overrunHost : Nat
  view : Nat
  survey : SvyResult
  surveyUnread : Bool
  surveyOverrun : Bool
  surveyOverruns : Nat
  failMode : Nat
  failLimit : Nat
  groupRing : Nat
deriving DecidableEq, Repr

/-- A resource that commands wait for (R107). -/
inductive Res where
  /-- A channel with its engines and sequencer. -/
  | chan (c : Nat)
  /-- A gang. -/
  | gang (g : Nat)
  /-- An event route. -/
  | route (r : Nat)
  /-- A crosspoint set. -/
  | set (s : Nat)
  /-- A chain. -/
  | chain (k : Nat)
  /-- A vector segment. -/
  | seg (i : Nat)
  /-- The vector player and banks. -/
  | player
  /-- A result ring. -/
  | ring (f r : Nat)
  /-- The survey table. -/
  | survey
  /-- The timebase. -/
  | time
  /-- A stage module. -/
  | stage (m : Nat)
  /-- The store. -/
  | store
  /-- A function. -/
  | func (f : Nat)
  /-- A handshake engine. -/
  | handler (h : Nat)
  /-- A vector pin. -/
  | pin (p : Nat)
  /-- A trigger line: 0 to 7 bus, 8 star, 9 to 12 front panel. -/
  | line (l : Nat)
deriving DecidableEq, Repr

/-- A request on its way through Tollgate (R541, R544). -/
structure Job where
  id : Nat
  op : Nat
  q : Req
  /-- Doorbell write, or completion of the fetch (R113). -/
  arrival : Nat
  /-- Origin timestamp of the arrival, in 1/256 ns, and its epoch (R490). -/
  stamp : Nat
  epoch : Nat
  /-- Effective class, the weight and the thresholds that hold for it (R544), and the instant it took its class. -/
  eff : Nat
  weight : Nat
  ages : List Nat
  agedAt : Nat
deriving DecidableEq, Repr

/-- A command in the ST_PENDING state (R111, R112), or one in service from the ring. -/
structure Running where
  job : Job
  /-- False while it waits under R107 or R108. -/
  started : Bool
  names : List Res
  /-- Its working data. -/
  data : List Int
  /-- Status and payload once it has completed. -/
  result : Option (Nat × List Byte)
  /-- Its request was discarded: it runs on and makes no reply (R115). -/
  silent : Bool
  /-- It completes within the service bound: its one reply, which is not a final reply, is still to come (R111). -/
  direct : Bool
deriving DecidableEq, Repr

/-- Mailbox service and Tollgate (R541 to R544). -/
structure Tollgate where
  nextId : Nat
  waiting : List Job
  running : List Running
  ages : List Nat
  caravans : List Caravan
  /-- Function last served, for the deficit round robin. -/
  lastFn : Nat
  lastCar : Nat
deriving DecidableEq, Repr

/-- Who holds what (R529 to R534). Holders are function numbers; 0 is the owner. -/
structure Assign where
  chan : Tbl Nat
  route : Tbl Nat
  pin : Tbl Nat
  seg : Tbl Nat
  line : Tbl Nat
  set : Tbl Nat
  /-- Owner holds, as bit maps. -/
  holdChan : Nat
  holdRoute : Nat
  holdSet : Nat
  /-- Loss policy of each channel (R533), default 2 OFF. -/
  policy : Tbl Nat
  /-- Channels whose loss policy waits for its boundary, with the instant it was left (R533). -/
  leaving : Tbl Nat
deriving DecidableEq, Repr

/-- The host link (R46 to R58). -/
structure Link where
  up : Bool
  width : LinkWidth
  rate : LinkRate
  /-- B, and the subordinate bus number of the upstream port (R58). -/
  bus : Byte
  last : Byte
  vfEnable : Bool
  numVfs : Nat
  /-- The value of the last LTR message in µs (R52). -/
  ltrUs : Nat
  ltrOn : Bool
  /-- ASPM control: L1, and its substates L1.1 and L1.2 (R47). -/
  aspmL1 : Bool
  l11 : Bool
  l12 : Bool
  /-- BAR0/1 and BAR2/3 of PF0 (R59), and the VF BARs and System Page Size of the SR-IOV capability (R55). -/
  bar0 : W64
  bar2 : W64
  vfBar0 : W64
  vfBar2 : W64
  pageSize : W32
deriving DecidableEq, Repr

end Sys2Proof.Machine
end

