-- ==== Sys2Proof/Machine/TypesSys.lean ====
section
/-! DEFINITION. The state of start-up, reset, power, the MRAM store, the error log and the test port
(spec/19_startup_reset.md, spec/20_config_store.md, spec/21_integrity.md, spec/22_package_electrical.md). -/

namespace Sys2Proof.Machine

/-- An error-log entry (R603). `firstPs` is the instant of its first occurrence, for the 1 ms of R605. -/
structure LogEntry where
  timeNs : Nat
  epoch : Nat
  subsys : Nat
  severity : Nat
  code : Nat
  count : Nat
  rkind : Nat
  eflags : Nat
  lastDt : Nat
  rindex : Nat
  detail : Nat
  firstPs : Nat
  /-- 1 ms after the first occurrence (R605): no later one coalesces. -/
  final_ : Bool
deriving DecidableEq, Repr

/-- The error log: capture FIFO, ring, indices and persistent log (R603 to R609). -/
structure Log where
  fifo : List LogEntry
  /-- Ring entries by log position mod 512. -/
  ring : Tbl (Option LogEntry)
  head : Nat
  tail : Nat
  lost : Nat
  /-- Entries written since power-on. -/
  pos : Nat
  /-- Entries committed to the persistent log, by slot, their count, and the row being filled. -/
  archive : Tbl (Option LogEntry)
  archived : Nat
  row : List LogEntry
  rowAt : Option Nat
  /-- The 1,024 bytes of the region's header row: write index, wrap count, CRC-32C (R608). -/
  header : List Byte
  /-- The crash record of retained SRAM (R609). -/
  crash : List Byte
deriving DecidableEq, Repr

/-- The option record in force (R580). -/
structure OptRec where
  format : Nat
  seq : Nat
  channels : Nat
  options : Nat
  grade : Nat
  serial : List Byte
  subsysVid : Nat
  subsysId : Nat
  fwBank : Nat
  refSel : Nat
  calBoot : Nat
  mgmtAddr : Nat
  lineFreq : Nat
  holdTime : Nat
  safeDiv : Nat
  safeStep : Nat
  wdogMs : Nat
  wearWbMin : Nat
  integ : Nat
  jtag : Nat
deriving DecidableEq, Repr

/-- A firmware bank: its bytes as loaded, its header and whether its CRC is right (R44, R582). The spec does not give the bytes
of the bank that ships. -/
structure Bank where
  image : List Byte
  magic : Nat
  format : Nat
  rclass : Nat
  version : Nat
  length : Nat
  entry : Nat
  minStep : Nat
  optMax : Nat
  storeMax : Nat
  recMax : Nat
  rsvZero : Bool
  crcOk : Bool
  verified : Bool
deriving DecidableEq, Repr

/-- The MRAM store beside the calibration store and the persistent log (R575 to R585). -/
structure Store where
  /-- The two option-record copies. -/
  copy0 : List Byte
  copy1 : List Byte
  bankA : Bank
  bankB : Bank
  degraded : Nat
  rowsUsed : Tbl Nat
  /-- The mapping of the spare-row pool: the offset of the row that each pool row in use replaces, in order (R577). -/
  pool : List Nat
  /-- Copies of which a read has returned an uncorrectable error since they were last loaded or written: option copies 0 and 1,
  calibration copies 0 and 1 (R558, R579). -/
  unread : Nat
  /-- Rows found failing before firmware could replace them, in order; and the bit positions in which reads of a row have
  corrected errors since it was last written (R577). -/
  failing : List Nat
  corrected : Tbl (List Nat)
  /-- Executing bank: 0 A, 1 B. -/
  executing : Nat
  fallback : Bool
  recovery : Bool
  /-- A load, commit or option write is running. -/
  loadBusy : Bool
  optBusy : Bool
deriving DecidableEq, Repr

/-- Firmware's working area of 44 KiB in retained SRAM, at 0x5000 (R566): consecutive failed starts of a bank (R583), and the bytes
of the area, of which the spec says no more. -/
structure WorkArea where
  failedStarts : Nat
  failedBank : Nat
  bytes : Tbl Byte
deriving DecidableEq, Repr

/-- Where start-up stands (R558 to R562). -/
inductive Phase where
  /-- A source is asserted. -/
  | held
  /-- The option loader runs. -/
  | loading
  /-- Domains are being released: the number released so far (R560). -/
  | releasing (n : Nat)
  /-- The boot check of F1 has not been made. -/
  | firmware
  /-- Steps F2 to F6. -/
  | starting
  /-- READY on PF0. -/
  | ready
deriving DecidableEq, Repr

/-- The always-on reset controller, power state and status (R545 to R574). -/
structure SysCtl where
  phase : Phase
  /-- Sources collected since the first assertion until READY, and the LOAD_RESTART bit 12. -/
  causes : Nat
  /-- Widest scope of the start-up sequence that runs, or of the last one: 0 COLD, 1 PACKAGE, 2 DENRIX, 3 HELON, 4 SEAM. -/
  scope : Nat
  /-- ECC initialisation has ended, or is not part of this sequence. -/
  eccDone : Bool
  loadRestarts : Nat
  resets : Nat
  wdogResets : Nat
  /-- BKUP[0] to BKUP[31] (R88, R565). -/
  bkup : Tbl W32
  opt : OptRec
  optDefaults : Bool
  optCopy : Nat
  fwVersion : Nat
  gstatChg : Nat
  thermalWarn : Bool
  power : Nat
  deepEntering : Bool
  wakeLatched : Option Nat
  waking : Option Nat
  wakeCause : Nat
  wakes : Nat
  /-- The LEVEL of an accepted SYS_RESET. -/
  sysReset : Option Nat
  /-- Command ids of the block resets under way, by block number * 16 + index. -/
  blockReset : Tbl Nat
  /-- Instant of the last seam-loss escalation (R552). -/
  seamLossAt : Option Nat
  denrixGood : Bool
  helonGood : Bool
  perst : Bool
  tap : JtagInstr
  smbData : W16
  /-- Instant of the last domain release, or of the end of option loading or of ECC initialisation (R560). -/
  relAt : Nat
  /-- Device time and power state as the last reset latched them (R565). -/
  latchNs : Nat
  latchPower : Nat
  /-- The instant at which SYS_RESET was accepted. -/
  sysResetAt : Nat
  /-- Scrub passes made (R596). -/
  scrubs : Nat
  /-- Firmware's retained working area. -/
  work : WorkArea
deriving DecidableEq, Repr

end Sys2Proof.Machine
end

