-- ==== Sys2Proof/Machine/TypesTime.lean ====
section
/-! DEFINITION. The state of the timebase (spec/15_timebase.md). -/

namespace Sys2Proof.Machine

/-- The state of the timebase's lock (R474). -/
inductive TState where
  /-- No reference locked since reset. -/
  | free
  /-- Acquiring. -/
  | locking
  /-- Locked. -/
  | locked
  /-- Reference lost after lock. -/
  | holdover
deriving DecidableEq, Repr

/-- An armed TIME_SET (R487). `dueAt` is t_A for WHEN 0, none before its edge; for WHEN 1 the instant from which the next
sample instant is t_S. -/
structure TimeSetArm where
  id : Nat
  /-- WHEN 0. -/
  bySync : Bool
  /-- T_new in 1/256 ns. -/
  value : Nat
  dueAt : Option Nat
deriving DecidableEq, Repr

/-- The timebase. Instants are in ps of the model's clock `now`. -/
structure Timebase where
  tstate : TState
  /-- A reference has been locked since the timebase was last cleared. -/
  wasLocked : Bool
  refSel : Nat
  /-- A reference is present at REF_IN, at the nominal frequency of the REF_SEL `refNom` (0 or 1); and at PCIE_REFCLK. -/
  refIn : Bool
  refNom : Nat
  refPcie : Bool
  /-- The loop divider D (R477). -/
  d : Nat
  /-- The last sample instant. -/
  lastSample : Nat
  /-- Conversion-clock edges lie a tick apart on the grid of `edgeBase`, an edge at which a stretched cycle ended; before it
  they lay on the grid of `edgeWas` (R476, R481). -/
  edgeBase : Nat
  edgeWas : Nat
  /-- Where the next sample instant lies when a realignment lengthens the period in progress (R481). -/
  stretched : Option Nat
  /-- A t_A that moves the period after the next sample instant, which is a rate instant (R482). -/
  alignNext : Option Nat
  /-- The instant at which MONO_NS was 0 (R486). -/
  monoZero : Nat
  /-- TIME minus MONO in 1/256 ns (R487, R488). -/
  stepOff : Int
  epoch : Nat
  /-- The steps taken, newest first: t_S, and TIME minus MONO and EPOCH before it (R489). -/
  steps : List (Nat × Int × Nat)
  /-- 0 OFF, 1 ONCE, 2 EVERY (R482). -/
  syncMode : Nat
  skew : Nat
  skewPending : Option Nat
  syncIgnored : Nat
  syncCount : Nat
  lastTA : Option Nat
  /-- A SYNC_IN edge whose realignment instant t_A is still to come. -/
  nextTA : Option Nat
  lastAlignNs : Nat
  lastShift : Nat
  aligned : Bool
  timeSet : Option TimeSetArm
  /-- A pending rate change: new D, the instant from which the next sample instant is the rate instant, and command (R478). -/
  rateD : Option Nat
  rateAt : Nat
  rateId : Nat
deriving DecidableEq, Repr

end Sys2Proof.Machine
end

