-- ==== Sys2Proof/Machine/TypesLoop.lean ====
section
/-! DEFINITION. The state of channels, stage modules, loop engines, converters, the Seam and Hem
(spec/04_channels.md to spec/07_converters.md, spec/10_seam_and_hem.md, spec/17_module_identity.md). -/

namespace Sys2Proof.Machine

/-! ### Module identity (R513 to R527) -/

/-- One range of a stage's identity (R518). Binary32 fields are kept as their words. -/
structure RangeDef where
  fs : Nat
  bipolar : Bool
  calPath : Bool
  calValid : Bool
  rly : Nat
  settleNs : Nat
  vFs : Nat
  aux : Nat
  limHi : Nat
  limLo : Nat
  calRg : Nat
  calRo : Int
deriving DecidableEq, Repr

/-- The content of a valid stage record (R516 to R518). -/
structure StageId where
  serial : List Byte
  model : List Byte
  hwRev : Nat
  chPresent : Nat
  span : Nat
  step : Nat
  divr : Nat
  enSettleNs : Nat
  outSettleNs : Nat
  capMax : Nat
  volts : List RangeDef
  amps : List RangeDef
deriving DecidableEq, Repr

/-- MSTATE of a module (R525, R526). -/
inductive MState where
  /-- Discovery runs. -/
  | discovering
  /-- No memory answered. -/
  | absent
  /-- The record failed. -/
  | corrupt
  /-- Another format or kind. -/
  | unsupported
  /-- The stage-control bus failed. -/
  | busFault
  /-- A valid record. -/
  | valid
deriving DecidableEq, Repr

/-- A stage module with its stage-control bus (R145 to R150, R526). -/
structure Stage where
  mstate : MState
  ident : Option StageId
  /-- The command of a MOD_RESCAN under way. -/
  rescan : Option Nat
  /-- The word latched in the module, the word that is wanted, and whether one has been latched at all. -/
  latched : W64
  wanted : W64
  /-- The word that is shifted, or is shifted and waits for its boundary, with the instant at which its shift ends. -/
  shift : Option (W64 × Nat)
  /-- Instant of the last latch. -/
  lastLatch : Option Nat
  /-- A latched word that no readback has confirmed yet. -/
  unconfirmed : Bool
  /-- The last check of the latched word failed once (R150). -/
  failedOnce : Bool
  /-- Last readback. -/
  readback : W64
  /-- STG_CLK, STG_DAT, STG_LAT and STG_RB are configured: idle low, where they were high-impedance (R146, R563). -/
  driven : Bool
deriving DecidableEq, Repr

/-! ### Engines (R158 to R192) -/

/-- A coefficient slot (R188). -/
structure Coef where
  c : Int
  s : Nat
deriving DecidableEq, Repr

/-- A second-order section (R169, R187). -/
structure Sec where
  b0 : Coef
  b1 : Coef
  b2 : Coef
  a1 : Coef
  a2 : Coef
deriving DecidableEq, Repr

/-- A parsed coefficient image (R187). -/
structure Img where
  ffD1 : Bool
  ffD2 : Bool
  ffRail : Bool
  track : Bool
  zeroStates : Bool
  trackSec : Nat
  limLo : Int
  limHi : Int
  secs : List Sec
  kff1 : Coef
  kff2 : Coef
  kfr : Coef
  kt : Coef
deriving DecidableEq, Repr

/-- A range-library slot or an inactive bank: 0 EMPTY, 1 PARTIAL, 2 VALID; the parts written; the bytes (R182, R212). -/
structure Slot where
  state : Nat
  parts : Nat
  bytes : List Byte
deriving DecidableEq, Repr

/-- The values an engine computed in the period in progress, before the downstream launch decides (R179, R180). -/
structure Computed where
  st : List (Int × Int)
  out : Int
  sat : Bool
  limit : Bool
deriving DecidableEq, Repr

/-- A loop engine. -/
structure Engine where
  /-- The active bank: 0 A, 1 B. -/
  active : Nat
  image : List Byte
  other : Slot
  lib : Tbl Slot
  /-- Section states s1, s2. -/
  st : List (Int × Int)
  et : Int
  out : Int
  sat : Bool
  limit : Bool
  satSeen : Bool
  limitSeen : Bool
  heldSeen : Bool
  heldRes : Nat
  heldLate : Nat
  periods : Nat
  /-- Held samples in a row (R35). -/
  heldRow : Nat
  /-- This period's results. -/
  next : Option Computed
  /-- Residue failure of this period, with its DETAIL; late or no-sample cause of this period (R36). -/
  resFail : Option Nat
  lateFail : Option Nat
  /-- A saturation of a rescale, to be shown with the first period (R185). -/
  satCarry : Bool
  /-- Sample instant of the last committed period (R192). -/
  atNs : Nat
deriving DecidableEq, Repr

/-! ### Channels (R120 to R157, R193 to R228) -/

/-- The step of a transition that runs (R138). -/
inductive TStep where
  /-- The authority request has been sent. -/
  | request
  /-- Waiting for the stage word with EN = 1, then for the stage-enable settle time. -/
  | enable
  /-- Waiting for the word with OUT = 1, then for the output-relay settle time. -/
  | close
  /-- ZERO to ON at the next boundary. -/
  | goOn
  /-- ON to ZERO: the ramp or step to 0. -/
  | rampDown
  /-- Waiting for the word with OUT = 0, then for the settle time. -/
  | release
  /-- HIGH_Z to OFF, and FAST OFF: at the next boundary, with the word EN = 0. -/
  | off
deriving DecidableEq, Repr

/-- How far the acknowledge of a trip has come (R361). -/
inductive AckStep where
  /-- No acknowledge belongs to the transition. -/
  | none_
  /-- It goes in the next downstream frame. -/
  | toSend
  /-- Its frame has been launched. -/
  | sent
  /-- The upstream frame of its instant has arrived. -/
  | reported
deriving DecidableEq, Repr

/-- A transition in progress (R138). `cmd` is the command to answer, none for one the device started. -/
structure Trans where
  target : Nat
  /-- The state in which it began. -/
  origin : Nat
  step : TStep
  /-- Instant at which the settle time or boundary of the step ends, once it is known. -/
  due : Option Nat
  /-- Upstream frames seen since the request reached Helon (R140). -/
  frames : Nat
  cmd : Option Nat
  fast : Bool
  /-- The trip acknowledge of a FAST OFF (R361): none, to be sent, sent, reported. -/
  ack : AckStep
deriving DecidableEq, Repr

/-- RC_PHASE of LOOP_STRUCT_STATUS (R216, R218). -/
inductive RcPhase where
  /-- In OFF or HIGH_Z: waiting for the word, then for the settle time (CHAN_CONFIG). -/
  | plain
  /-- Priming. -/
  | priming
  /-- Waiting for the make word, or made and counting. -/
  | made
  /-- Switched, waiting. -/
  | switched
  /-- Breaking, checking. -/
  | breaking
deriving DecidableEq, Repr

/-- A range change in progress (R213 to R224). -/
structure RangeChange where
  /-- The current range changes, else the voltage range. -/
  cur : Bool
  old : Nat
  new : Nat
  phase : RcPhase
  started : Nat
  /-- Settle count m and periods left (R214). -/
  m : Nat
  left : Nat
  /-- The make or switch word has latched. -/
  latched : Bool
  /-- The engines have swapped. -/
  swapped : Bool
  /-- The settle count runs (R216, R220). -/
  counting : Bool
  /-- RSET before the change (R339). -/
  rset : Bool
  /-- Requests sent since the word latched without the expected path report (R220). -/
  repeats : Nat
  /-- Boundary of the latch of the make, switch or break word. -/
  wordAt : Option Nat
  /-- Helon has reported the set of after the swap (R220). -/
  pathOk : Bool
  /-- The ranges that a change in OFF or HIGH_Z leads to, and the end of its settle time. -/
  tgtV : Nat
  tgtI : Nat
  due : Option Nat
  /-- A voltage change that follows (R219). -/
  also : Option Nat
  /-- The CHAN_CONFIG command, or none for a sweep entry. -/
  cmd : Option Nat
  /-- Deadline of R224. -/
  limit : Nat
deriving DecidableEq, Repr

/-- A setpoint ramp (R204). -/
structure Ramp where
  r0 : Int
  tgt : Int
  nr : Nat
  j : Nat
  smooth : Bool
  /-- The boundary K at which it started. -/
  k0 : Nat
deriving DecidableEq, Repr

/-- Source values that wait for their boundary (R132, R144). -/
structure SourceWait where
  at_ : Nat
  setpoint : Option Int
  compPos : Option Int
  compNeg : Option Int
  soft : Bool
deriving DecidableEq, Repr

/-- A channel as Denrix sees it. -/
structure Chan where
  /-- 0 OFF, 1 HIGH_Z, 2 ZERO, 3 ON. -/
  state : Nat
  /-- Force mode: FI, else FV. -/
  fi : Bool
  vr : Nat
  ir : Nat
  senseLocal : Bool
  setpoint : Int
  compPos : Int
  compNeg : Int
  /-- The compliance magnitudes that CLAMP uses: COMP_POS and COMP_NEG as the channel last took them in ON (R144, R199);
  before its first ON the reset states (DESIGN CHOICE, log entry 166). -/
  compUse : Int × Int
  soft : Bool
  compliance : Bool
  compSeen : Bool
  tripped : Bool
  degraded : Bool
  stageFault : Bool
  shareFault : Bool
  trans : Option Trans
  rc : Option RangeChange
  sourceWait : List SourceWait
  -- loop structure
  n : Nat
  rampSmooth : Bool
  rampNs : Nat
  ff1 : Nat
  ff2 : Nat
  trimDiv : Nat
  railEntry : Nat
  railNom : Nat
  /-- Structure changes that wait, each with its boundary: N, M_T, feed-forward shifts, rail (R198). -/
  pendN : List (Nat × Nat)
  pendTrim : List (Nat × Nat)
  pendFf : List (Nat × Nat × Nat)
  pendRail : List (Nat × Nat × Nat)
  k0Outer : Nat
  k0Trim : Nat
  r : Int
  r1 : Int
  r2 : Int
  d1 : Int
  d2 : Int
  uSel : Int
  dirNeg : Bool
  rail : Int
  railStale : Bool
  railAt : Option Nat
  /-- A rail value that waits for its boundary with its arrival, and the boundary of the last value taken (R392). -/
  railNext : Option (Int × Nat)
  railTaken : Option Nat
  ramp : Option Ramp
  /-- TRIM's window: sum and number of measurement samples (R197). -/
  trimSum : Int
  trimCnt : Nat
  /-- Computed periods in a row in which INNER saturated (R599). -/
  satRun : Nat
  /-- Periods in a row outside the share (R156). -/
  shareRun : Nat
  /-- Latest loop and measurement samples received, with validity, and their check-code differences. -/
  loopV : Int
  loopI : Int
  measV : Int
  measI : Int
  measVok : Bool
  measIok : Bool
  codeErr : Nat
  ovrV : Bool
  ovrI : Bool
  /-- Denrix's request, the grant it last saw, the upstream frame's status byte. -/
  req : Bool
  grantSeen : Bool
  status : Nat
  /-- SAFE is set in every downstream frame until the revocation is seen (R590). -/
  safe : Bool
  /-- Control bits to send in the next frame: SLEW_START, RPATH_REQ, ACK (R340). -/
  slewStart : Bool
  rpathReq : Nat
  ackReq : Bool
  /-- The replica of the slew limiter, with its values before the last instant (R260, R261). -/
  repOut : Int
  repAct : Bool
  repCnt : Nat
  repOutPrev : Int
  repActPrev : Bool
  /-- The code of the last launched frame (R32). -/
  lastCode : Int
  /-- Instants of the last range-change swap of the voltage and of the current (R197, R251). -/
  swapV : Option Nat
  swapI : Option Nat
deriving DecidableEq, Repr

/-- A gang (R152). -/
structure Gang where
  leader : Nat
  members : Nat
deriving DecidableEq, Repr

/-- An armed swap of a group or engine (R207 to R210). -/
structure Swap where
  id : Nat
  fn : Nat
  /-- 0 to 63, or 255 for a single engine. -/
  group : Nat
  engines : List Nat
  /-- 0 next boundary, 1 device time, 2 event. -/
  kind : Nat
  route : Nat
  /-- MONO_NS target of kind 1. -/
  target : Nat
  boundary : Option Nat
  committed : Bool
deriving DecidableEq, Repr

/-! ### Helon (R229 to R264, R349 to R371) -/

/-- A trip cause, in the order of R356. -/
inductive TripCause where
  /-- V_HI. -/
  | vHi
  /-- V_LO. -/
  | vLo
  /-- I_HI. -/
  | iHi
  /-- I_LO. -/
  | iLo
  /-- GANG. -/
  | gang
  /-- SELFTEST. -/
  | selftest
  /-- HEM_CLK. -/
  | hemClk
deriving DecidableEq, Repr

/-- Correction factors of one interleaved pair with the active range's scale (R234). -/
structure PairCal where
  ofsA : Int
  ofsB : Int
  gainA : Nat
  gainB : Nat
  skew : Int
  rg : Nat
  ro : Int
deriving DecidableEq, Repr

/-- One interleaved pair on Helon: factors, history of the detectors, faults, last samples (R231 to R245). -/
structure Pair where
  cal : PairCal
  /-- The factors that hold from the next sample instant on (R235, R236). -/
  nextCal : Option PairCal
  /-- The last core A sample, corrected and scaled by 2^27, for the next skew term. -/
  prevA : Int
  /-- Invalid marks of the last 64 samples of each core, newest at bit 0 (R241). -/
  histA : Nat
  histB : Nat
  faultyA : Bool
  faultyB : Bool
  /-- Sum and count of d over the running block of 256 core B samples (R242). -/
  consSum : Int
  consCnt : Nat
  loop : Int
  meas : Int
  noSamp : Bool
  noLoop : Bool
  /-- A pair sample of the period window is overrange (R239), and the measurement sample is. -/
  ovrRaw : Bool
  ovr : Bool
  /-- Whether a sample has been formed since the converters started. -/
  have_ : Bool
deriving DecidableEq, Repr

/-- What a range change gives Helon of one quantity: RG and RO, thresholds, the full scales of the old and the new range (binary32),
and INNER's rescale factors of a voltage range (R234, R236, R264, R357). -/
structure RangeSet where
  cur : Bool
  rg : Nat
  ro : Int
  hi : Int
  lo : Int
  fsOld : Nat
  fsNew : Nat
  ks : List Coef
deriving DecidableEq, Repr

/-- A channel as Helon holds it. -/
structure Helon where
  v : Pair
  i : Pair
  span : Nat
  step : Nat
  divr : Nat
  cOut : Int
  dac : Nat
  limAct : Bool
  /-- Sample instants since INNER started, mod DIV (R259). -/
  cnt : Nat
  grant : Bool
  trip : Option TripCause
  /-- The output is held or ramping under hold-then-safe. -/
  hold : Bool
  rpath : Nat
  rset : Bool
  /-- The two threshold sets V_HI, V_LO, I_HI, I_LO: the one that RSET selects, and the other (R357). -/
  thr : List Int
  thrOther : List Int
  /-- The set that a BREAK or SWITCH consumes (R340). -/
  staged : Option RangeSet
  /-- STG_OFF_N driven low (asserted). -/
  off : Bool
  /-- Last instant at which a comparator was in violation (R362). -/
  violation : Option Nat
  /-- Self-tests passed in a row by each comparator: V_HI, V_LO, I_HI, I_LO. -/
  passes : List Nat
  /-- c_req of the last good downstream frame. -/
  cReq : Int
  reqBit : Bool
  safeBit : Bool
  slewStart : Bool
  rpathReq : Nat
  /-- The gang map of GANG_DEFINE: the members of the channel's gang, 0 without one (R358). -/
  gang : Nat
  /-- Comparators whose last self-test failed: V_HI, V_LO, I_HI, I_LO in bits 0 to 3 (R338, R359). -/
  stFail : Nat
deriving DecidableEq, Repr

/-- A downstream frame in flight (R41). -/
structure DownFrame where
  fseq : Nat
  enterHold : Bool
  seamHold : Bool
  hb : Nat
  scAck : Nat
  /-- Per channel: code, control byte, request. -/
  chans : List (Int × Nat × Bool)
deriving DecidableEq, Repr

/-- One channel's part of an upstream frame (R40, R339). -/
structure UpChan where
  loopV : Int
  loopI : Int
  measV : Int
  measI : Int
  status : Nat
  flags : Nat
  noLoopV : Bool
  noLoopI : Bool
  grant : Bool
  /-- Check codes of the V and I loop samples and the V and I measurement samples (R238). -/
  codes : List Nat
deriving DecidableEq, Repr

/-- An upstream frame in flight (R40). -/
structure UpFrame where
  fseq : Nat
  t0 : Nat
  dnBad : Bool
  holdAny : Bool
  intlk : Bool
  selftestFail : Bool
  hbEcho : Nat
  scAck : Nat
  chans : List UpChan
deriving DecidableEq, Repr

/-- What a side-channel packet carries (R345); a survey result on its way is a `SvyFlight`. -/
inductive SideMsg where
  /-- Downstream: a safe packet (R590). -/
  | safe
  /-- Upstream: a trip with its cause (R355). -/
  | tripCause (cause : Nat)
  /-- Upstream: a core of a pair has become faulty (R241): the current pair, core B. -/
  | coreFault (cur coreB : Bool)
  /-- Upstream: a comparator or spare failed its self-test (R359). -/
  | selftest (cmp : Nat) (spare : Bool)
  /-- Upstream: the copies of a slew limiter differ (R598). -/
  | limiter
  /-- Upstream: a pair runs on one core, or on none (R243). -/
  | degraded (cur : Bool)
  /-- Upstream: a pair has no core that is not faulty (cause 3), or fails its consistency check (cause 2) (R242, R244). -/
  | pairFault (cur : Bool) (cause : Nat)
  /-- Downstream: correction factors of a pair of the channel (R234, R235). -/
  | factors (cur : Bool) (cal : PairCal)
  /-- Downstream: the active thresholds of a quantity (R357). -/
  | thresholds (cur : Bool) (hi lo : Int)
  /-- Downstream: the set of a range, staged for a BREAK or SWITCH (R340, R346). -/
  | stage (x : RangeSet)
  /-- Downstream: the set of a range for a change in OFF or HIGH_Z (R236, R346, R357). -/
  | range (x : RangeSet)
  /-- Downstream: the slew settings of a channel (R257). -/
  | slew (span step divr : Nat)
  /-- Downstream: the safe-slew settings and HOLD_TIME (R366). -/
  | safeSlew (time step divr : Nat)
  /-- Downstream: the gang map (R358). -/
  | gangMap (members : Nat)
  /-- Downstream: the bank configuration of STG_OFF_N (R371). -/
  | bank
deriving DecidableEq, Repr

/-- A side-channel packet that its sender keeps until it is acknowledged (R346). -/
structure SidePacket where
  seq : Nat
  up : Bool
  attempts : Nat
  sentAt : Nat
  /-- The channel that the message is about. -/
  chan : Option Nat
  msg : SideMsg
  /-- The FSEQ of the instant at which the write takes effect, where it names one. -/
  named : Option Nat
  /-- Sent and not received since; received at least once. -/
  flying : Bool
  received : Bool
deriving DecidableEq, Repr

/-- Phase of hold-then-safe (R365). -/
inductive HoldPhase where
  /-- Not running. -/
  | none_
  /-- Holding since t_L. -/
  | hold
  /-- Ramping. -/
  | ramp
deriving DecidableEq, Repr

/-- The Seam, hold-then-safe and Hem's device-wide state. -/
structure Seam where
  up : Bool
  /-- The Seam is up as Helon sees it: a reset of Denrix alone does not end that (R25, R371). -/
  upHelon : Bool
  locked : Bool
  /-- Good frames in a row in each direction, up to 16. -/
  goodUp : Nat
  goodDn : Nat
  badUp : Nat
  badDn : Nat
  fseq : Nat
  dnBad : Bool
  enterHold : Bool
  seamHold : Bool
  upFrame : Option UpFrame
  dnFrame : Option DownFrame
  /-- The good downstream frame that waits for its sample instant. -/
  atHelon : Option DownFrame
  /-- Whether this period's upstream frame has arrived or been found missing. -/
  scSeqUp : Nat
  scSeqDn : Nat
  scAckUp : Nat
  scAckDn : Nat
  packets : List SidePacket
  /-- Writes staged on Helon for the instant of an FSEQ: FSEQ, channel, message (R346). -/
  timed : List (Nat × Nat × SideMsg)
  hb : Nat
  hbHelon : Nat
  hbRunning : Bool
  hbLost : Bool
  hbChangedAt : Nat
  hold : HoldPhase
  holdAt : Nat
  rampAt : Nat
  rampCnt : Nat
  holdTime : Nat
  safeStep : Nat
  safeDiv : Nat
  substitute : Bool
  clkGated : Bool
  intlk : Bool
  hemClkOk : Bool
  /-- Bank configuration of STG_OFF_N and FRC_OUT (R371). -/
  stgConfigured : Bool
  /-- Quadrants whose spare comparator failed. -/
  spareFail : Nat
  lossAt : Option Nat
  powered : Bool
deriving DecidableEq, Repr

end Sys2Proof.Machine
end

