-- ==== Sys2Proof/Machine/EngineMath.lean ====
section
/-! DEFINITION. The arithmetic of a loop engine and its coefficient images (R160 to R191), the setpoint ramp (R204) and
the demand selection (R199), as pure functions. -/

namespace Sys2Proof.Machine

/-- Saturation to a signal (R167). -/
def sat32 (v : Int) : Int := satN 32 v

/-- A product aligned to the accumulator (R163). -/
def coefMul (k : Coef) (x : Int) : Int := asr (k.c * x) k.s

/-- Accumulator to signal, with its saturation mark (R166, R167). -/
def accToSignal (acc : Int) : Int × Bool :=
  let q := rheShift acc 24
  (satN 32 q, satHit 32 q)

/-- Accumulator to state, with its saturation mark (R165, R166). -/
def accToState (acc : Int) : Int × Bool :=
  let q := rheShift acc 14
  (satN 48 q, satHit 48 q)

/-- A loop sample as a signal (R161). -/
def widenLoop (v : Int) : Int := v * 4096
/-- A measurement sample as a signal (R161). -/
def widenMeas (v : Int) : Int := v * 256

/-! ### Images -/

/-- A coefficient slot at an offset (R188). -/
def parseCoef (b : List Byte) (o : Nat) : Coef := ⟨s32 b o, u8 b (o + 4) % 32⟩

/-- Section `j` of an image (R187). -/
def parseSec (b : List Byte) (j : Nat) : Sec :=
  let o := 16 + 40 * j
  ⟨parseCoef b o, parseCoef b (o + 8), parseCoef b (o + 16), parseCoef b (o + 24), parseCoef b (o + 32)⟩

/-- NSEC of an image. -/
def imgNsec (b : List Byte) : Nat := u8 b 2

/-- An image's fields (R187). -/
def parseImg (b : List Byte) : Img :=
  let f := u8 b 3
  { ffD1 := f.testBit 0, ffD2 := f.testBit 1, ffRail := f.testBit 2, track := f.testBit 3, zeroStates := f.testBit 4,
    trackSec := u8 b 4, limLo := s32 b 8, limHi := s32 b 12,
    secs := (List.range (imgNsec b)).map (parseSec b),
    kff1 := parseCoef b 0x150, kff2 := parseCoef b 0x158, kfr := parseCoef b 0x160, kt := parseCoef b 0x168 }

/-- The computation time in engine cycles (R174); `ganged` adds 4 to INNER. -/
def imgCycles (b : List Byte) (role : Nat) (ganged : Bool) : Nat :=
  let f := u8 b 3
  (if role = 1 then 16 else 12) + 5 * imgNsec b
    + 2 * (bit (f.testBit 0) + bit (f.testBit 1) + bit (f.testBit 2)) + 3 * bit (f.testBit 3)
    + (if role = 0 && ganged then 4 else 0)

/-- The engine budget in cycles at divider `d` (R175). -/
def engineBudget (d : Nat) : Nat := (d * 25 - 280) / 2

/-- An image fits a loop rate (R175). -/
def imgFits (b : List Byte) (role : Nat) (ganged : Bool) (d : Nat) : Bool :=
  decide (imgCycles b role ganged ≤ engineBudget d)

/-- The sum of the 96 words of an image modulo 2^32 (R189). -/
def imgSum (b : List Byte) : Nat :=
  ((List.range 96).foldl (fun a i => a + u32 b (4 * i)) 0) % 2 ^ 32

/-- Whether `n` bytes from `o` are all 0. -/
def allZero (b : List Byte) (o n : Nat) : Bool := leN b o n == 0

/-- Whether the reserved bits of a slot are 0 (R188). -/
def slotClean (b : List Byte) (o : Nat) : Bool := decide (u8 b (o + 4) < 32) && allZero b (o + 5) 3

/-- Checks 2 to 4 of R189. -/
def imgFieldsOk (b : List Byte) : Bool :=
  let n := imgNsec b
  let f := u8 b 3
  let coefs := (List.range 40).map (fun i => 16 + 8 * i) ++ [0x150, 0x158, 0x160, 0x168]
  u16 b 0 == 1 && decide (1 ≤ n) && decide (n ≤ 8) && decide (f < 32) && allZero b 5 3 && allZero b 0x170 12
    && coefs.all (slotClean b)
    && (if f.testBit 3 then decide (u8 b 4 < n) else u8 b 4 == 0)
    && (List.range 8).all (fun j => decide (j < n) || allZero b (16 + 40 * j) 40)
    && (f.testBit 0 || allZero b 0x150 8) && (f.testBit 1 || allZero b 0x158 8)
    && (f.testBit 2 || allZero b 0x160 8) && (f.testBit 3 || allZero b 0x168 8)
    && decide (s32 b 8 ≤ s32 b 12)

/-- The checks of R189 without the fit: none when they pass, else the status. -/
def imgCheck (b : List Byte) : Option Nat :=
  if imgSum b ≠ 0 then some 0x000A else if imgFieldsOk b then none else some 0x0003

/-- An image body of 380 bytes with its check word. -/
def imgSealed (b : List Byte) : List Byte := b ++ w32 ((2 ^ 32 - imgSum (b ++ w32 0)) % 2 ^ 32)

/-- A coefficient slot as bytes. -/
def coefBytes (c : Nat) (s : Nat) : List Byte := w32 c ++ w8 s ++ zeros 3

/-- The default image of a role (R191). -/
def defaultImage (role : Nat) : List Byte :=
  let trim := role == 3
  let lims := if trim then w32 0 ++ w32 0 else w32 0xC0000000 ++ w32 0x40000000
  let b0 := if trim then zeros 8 else coefBytes 0x00040000 6
  let a1 := if trim then zeros 8 else coefBytes 0xC0000000 6
  imgSealed (w16 1 ++ w8 1 ++ zeros 5 ++ lims ++ b0 ++ zeros 16 ++ a1 ++ zeros 8 ++ zeros (380 - 56))

/-! ### One period (R168 to R171) -/

/-- One section: output, new states, and whether anything saturated. -/
def secStep (q : Sec) (s1 s2 x t : Int) : Int × (Int × Int) × Bool :=
  let y := accToSignal (coefMul q.b0 x + s1 * 16384)
  let n1 := accToState (coefMul q.b1 x - coefMul q.a1 y.1 + s2 * 16384 + t)
  let n2 := accToState (coefMul q.b2 x - coefMul q.a2 y.1)
  (y.1, (n1.1, n2.1), y.2 || n1.2 || n2.2)

/-- The cascade from section `j` on. -/
def cascade (img : Img) (et : Int) (j : Nat) (secs : List Sec) (st : List (Int × Int)) (x : Int) :
    Int × List (Int × Int) × Bool :=
  match secs with
  | [] => (x, st, false)
  | q :: qs =>
    let p := st.headD (0, 0)
    let t := if img.track && j == img.trackSec then coefMul img.kt et else 0
    let r := secStep q p.1 p.2 x t
    let rest := cascade img et (j + 1) qs st.tail r.1
    (rest.1, r.2.1 :: rest.2.1, r.2.2 || rest.2.2)

/-- An engine's computation for one period (R168 to R171). -/
def enginePeriod (img : Img) (st : List (Int × Int)) (et a b d1 d2 rail : Int) : Computed :=
  let x0 := a - b
  let r := cascade img et 0 img.secs st (sat32 x0)
  let acc := r.1 * 16777216 + (if img.ffD1 then coefMul img.kff1 d1 else 0)
    + (if img.ffD2 then coefMul img.kff2 d2 else 0) + (if img.ffRail then coefMul img.kfr rail else 0)
  let u := accToSignal acc
  let v := if u.1 < img.limLo then img.limLo else if u.1 > img.limHi then img.limHi else u.1
  { st := r.2.1, out := v, sat := satHit 32 x0 || r.2.2 || u.2, limit := !decide (v = u.1) }

/-! ### Swaps and rescales (R184, R185) -/

/-- The largest shift for a factor of magnitude below 128: |C| < 2^31 (R185). -/
def factorShift (fuel : Nat) (f : Frac) (s : Nat) : Nat :=
  match fuel with
  | 0 => s
  | k + 1 =>
    if s ≥ 31 then s
    else if (rhe (f.num * ((2 ^ (s + 25) : Nat) : Int)) f.den).natAbs < 2 ^ 31 then factorShift k f (s + 1) else s

/-- A factor below 128 as a coefficient (R185). -/
def factorCoef (f : Frac) : Coef :=
  let s := factorShift 31 f 0
  ⟨rhe (f.num * ((2 ^ (s + 24) : Nat) : Int)) f.den, s⟩

/-- The largest factor below 128 that a coefficient holds. -/
def bigFactor : Frac := ⟨2147483647, 16777216⟩

/-- A rescale factor split into the least number of factors below 128 (R185); the spec leaves the split open
(DESIGN CHOICE, unsafe, log entry 41). -/
def splitFactor (fuel : Nat) (f : Frac) : List Coef :=
  match fuel with
  | 0 => [factorCoef f]
  | k + 1 =>
    if fracLt (fracAbs f) ⟨128, 1⟩ then [factorCoef f]
    else factorCoef bigFactor :: splitFactor k (fracDiv f bigFactor)

/-- A 32-bit value through one factor (R185). -/
def rescale32 (k : Coef) (v : Int) : Int × Bool := accToSignal (coefMul k v)
/-- A 48-bit state through one factor: exact product, rounded and saturated (R185). -/
def rescale48 (k : Coef) (v : Int) : Int × Bool :=
  let q := rheShift (k.c * v) (k.s + 24)
  (satN 48 q, satHit 48 q)

/-- Through all factors. -/
def rescaleAll (f : Coef → Int → Int × Bool) (ks : List Coef) (v : Int) : Int × Bool :=
  ks.foldl (fun a k => let r := f k a.1; (r.1, a.2 || r.2)) (v, false)

/-- The states that a new image of `n` sections keeps; the others become 0 (R184). -/
def keptStates (n : Nat) (st : List (Int × Int)) : List (Int × Int) :=
  st.take n ++ List.replicate (8 - (st.take n).length) (0, 0)

/-! ### Setpoint ramp and selection -/

/-- The ramp's value at period `j` (R204). -/
def rampValue (p : Ramp) (j : Nat) : Int :=
  let d := p.tgt - p.r0
  if j ≥ p.nr then p.tgt
  else if !p.smooth then p.r0 + rhe (d * j) p.nr
  else if 2 * j ≤ p.nr then p.r0 + rhe (2 * d * j * j) (p.nr * p.nr)
  else let q := p.nr - j
       p.tgt - rhe (2 * d * q * q) (p.nr * p.nr)

/-- HYST of R199. -/
def clampHyst : Int := 0x00100000

/-- The selected demand (R199). -/
def selectDemand (o c : Int) (neg : Bool) : Int :=
  if !neg then (if c < o then c else o) else (if c > o then c else o)

/-- Whether the selection returns c (R199). -/
def clampSelected (o c : Int) (neg : Bool) : Bool := if !neg then decide (c < o) else decide (c > o)

/-- The next clamp direction (R199): true is -1. -/
def nextDir (neg : Bool) (o : Int) : Bool :=
  if !neg && decide (o < -clampHyst) then true else if neg && decide (o > clampHyst) then false else neg

/-- Derivative inputs of a ramp (R202). -/
def ffInput (diff : Int) (shift : Nat) : Int := sat32 (diff * ((2 ^ shift : Nat) : Int))

end Sys2Proof.Machine
end

