-- ==== Sys2Proof/Machine/Convert.lean ====
section
/-! DEFINITION. Converter arithmetic on Helon: correction, loop and period samples, core checks (R229 to R245), and
the slew limiter with the force-DAC codes (R253 to R264), as pure functions. -/

namespace Sys2Proof.Machine

/-- A raw code's value. -/
def rawVal (w : W16) : Int := toSigned 16 w.toNat

/-- x_k of R231, scaled by 2^27: exact. -/
def coreX27 (raw : W16) (ofs : Int) (gain : Nat) : Int := (rawVal raw * 16 - ofs) * gain

/-- s of R233 from x scaled by 2^43; the mark is its saturation. -/
def pairSample (x43 : Int) (rg : Nat) (ro : Int) : Int × Bool :=
  let q := rheShift (x43 * rg - ro * ((2 ^ 53 : Nat) : Int)) 59
  let m : Int := 2097152
  if q > m then (m, true) else if q < -m then (-m, true) else (q, false)

/-- A corrected pair sample with its validity and its overrange mark (R233, R239, R240). -/
structure Samp where
  s : Int
  ok : Bool
  ovr : Bool
deriving DecidableEq, Repr

/-- A core code at its end value (R239). -/
def endCode (w : W16) : Bool := w == 0x7FFF#16 || w == 0x8000#16

/-- The pair samples of a list of ticks, oldest first: core B then core A of each tick (R229, R231 to R233). `prevA` is the
core A sample last taken, also where the converters have just started or a slot lies between (log entry 127). -/
def pairSamples (c : PairCal) (fA fB : Bool) (prevA : Int) (ticks : List RawPair) : List Samp × Int :=
  match ticks with
  | [] => ([], prevA)
  | p :: r =>
    let a27 := coreX27 p.a c.ofsA c.gainA
    let b43 := coreX27 p.b c.ofsB c.gainB * 65536 - c.skew * (a27 - prevA)
    let sb := pairSample b43 c.rg c.ro
    let sa := pairSample (a27 * 65536) c.rg c.ro
    let rest := pairSamples c fA fB a27 r
    (⟨sb.1, p.okB && !fB, sb.2 || endCode p.b⟩ :: ⟨sa.1, p.okA && !fA, sa.2 || endCode p.a⟩ :: rest.1, rest.2)

/-- Consistency differences d of R242 scaled by 2^44 and by RG, oldest first: of every sample, also of those the stage check
marked invalid (log entry 126). -/
def consistDiffs (c : PairCal) (prevA : Int) (ticks : List RawPair) : List Int :=
  match ticks with
  | [] => []
  | p :: r =>
    let a27 := coreX27 p.a c.ofsA c.gainA
    let b43 := coreX27 p.b c.ofsB c.gainB * 65536 - c.skew * (a27 - prevA)
    (2 * b43 - (prevA + a27) * 65536) * c.rg :: consistDiffs c a27 r

/-- 2^-7 FS over a block of 256, in the scale of `consistDiffs`: 2^13 sample codes, 2^16, 2^44, 256. -/
def consistLimit : Nat := 2 ^ 81

/-- Runs the blocks of 256 differences: sum, count and whether a block's mean passed the limit (R242). -/
def consistRun (sum : Int) (cnt : Nat) (ds : List Int) : Int × Nat × Bool :=
  match ds with
  | [] => (sum, cnt, false)
  | d :: r =>
    if cnt + 1 = 256 then
      let rest := consistRun 0 0 r
      (rest.1, rest.2.1, decide ((sum + d).natAbs > consistLimit) || rest.2.2)
    else consistRun (sum + d) (cnt + 1) r

/-- Number of set bits among the low `n`. -/
def popCount (n v : Nat) : Nat := (bitsSet v n).length

/-- Shifts invalid marks into a core's history; true once 4 of any 64 are set (R241). -/
def stageCheck (hist : Nat) (marks : List Bool) : Nat × Bool :=
  match marks with
  | [] => (hist, false)
  | m :: r =>
    let h := (hist * 2 + bit m) % 2 ^ 64
    let rest := stageCheck h r
    (rest.1, decide (popCount 64 h ≥ 4) || rest.2)

/-- Mean of the valid samples times `k`, rounded half to even, with the number of valid samples. -/
def meanOf (k : Nat) (den : Nat) (l : List Samp) : Int × Nat :=
  let v := l.filter (·.ok)
  let n := v.length
  (if n = 0 then 0 else rhe ((v.foldl (fun a x => a + x.s) 0) * k) (den * n), n)

/-- 1.05 FS in codes of LSB 2^-20 times 20: |v| * 20 > 21 * FS (R239). -/
def outOfBand (v : Int) (fs : Nat) : Bool := decide (v.natAbs * 20 > 21 * fs)

/-- What a sample instant makes of one pair: the pair, newly faulty cores, a consistency fault (R237 to R245).
A core is excluded from the window that marks it (R241). DESIGN CHOICE, log entry 160. -/
def pairInstant (p : Pair) (ticks : List RawPair) : Pair × Bool × Bool × Bool :=
  let hA := stageCheck p.histA (ticks.map (fun t => !t.okA))
  let hB := stageCheck p.histB (ticks.map (fun t => !t.okB))
  let fA := p.faultyA || hA.2
  let fB := p.faultyB || hB.2
  let ps := pairSamples p.cal fA fB p.prevA ticks
  let loopWin := ps.1.drop (ps.1.length - 4)
  let lp := meanOf 1 4 loopWin
  let ms := meanOf 4 1 ps.1
  let loop := if lp.2 = 0 then p.loop else satN 20 lp.1
  let meas := if ms.2 = 0 then p.meas else satN 24 ms.1
  let raw := ps.1.any (fun x => x.ok && x.ovr)
  let ov := raw || outOfBand meas (2 ^ 22)
  let deg := fA || fB
  let cons := if deg then (0, 0, false) else consistRun p.consSum p.consCnt (consistDiffs p.cal p.prevA ticks)
  ({ p with cal := p.nextCal.getD p.cal, nextCal := none, prevA := ps.2, histA := hA.1, histB := hB.1,
            faultyA := fA, faultyB := fB, consSum := cons.1, consCnt := cons.2.1, loop := loop, meas := meas,
            noSamp := ms.2 == 0, noLoop := lp.2 == 0, ovrRaw := raw, ovr := ov, have_ := p.have_ || ms.2 != 0 },
   hA.2 && !p.faultyA, hB.2 && !p.faultyB, cons.2.2)

/-- A sample expressed in a new full scale (R236): multiplied by old/new, rounded, saturated. -/
def rescaleSample (n : Nat) (f : Frac) (v : Int) : Int × Bool :=
  let q := rhe (v * f.num) f.den
  (satN n q, satHit n q)

/-- A pair's samples of an instant in a new full scale, with the overrange of R239 (R236). -/
def Pair.express (p : Pair) (f : Frac) : Pair :=
  let l := rescaleSample 20 f p.loop
  let m := rescaleSample 24 f p.meas
  { p with loop := l.1, meas := m.1, ovr := p.ovrRaw || m.2 || outOfBand m.1 (2 ^ 22) }

/-! ### What a frame carries of a channel (R40, R42, R238, R339) -/

/-- The check codes of a channel's four samples (R238). -/
def sampleCodes (loopV loopI measV measI : Int) : List Nat :=
  [crc6 20 (ofSigned 20 loopV), crc6 20 (ofSigned 20 loopI), crc6 24 (ofSigned 24 measV), crc6 24 (ofSigned 24 measI)]

/-- The upstream payload of a channel: status bits always; the samples, their codes and flags of a granted channel, zero
otherwise (R42; log entry 45). -/
def upChan (h : Helon) : UpChan :=
  let st := bitAt h.v.ovr 0 + bitAt h.i.ovr 1 + bitAt h.limAct 2 + bitAt h.trip.isSome 3
    + 16 * h.rpath + bitAt h.rset 6 + bitAt h.hold 7
  if h.grant then
    { loopV := h.v.loop, loopI := h.i.loop, measV := h.v.meas, measI := h.i.meas, status := st,
      flags := bit h.v.noSamp + 2 * bit h.i.noSamp, noLoopV := h.v.noLoop, noLoopI := h.i.noLoop, grant := h.grant,
      codes := sampleCodes h.v.loop h.i.loop h.v.meas h.i.meas }
  else
    { loopV := 0, loopI := 0, measV := 0, measI := 0, status := st, flags := 0, noLoopV := false, noLoopI := false, grant := false,
      codes := [0, 0, 0, 0] }

/-- The payload of a channel of which nothing is known. -/
def upChanZero : UpChan :=
  { loopV := 0, loopI := 0, measV := 0, measI := 0, status := 0, flags := 0, noLoopV := false, noLoopI := false, grant := false,
    codes := [0, 0, 0, 0] }

/-- A sample of a payload with its width: 0 V loop, 1 I loop, 2 V measurement, 3 I measurement. -/
def UpChan.sample (u : UpChan) (k : Nat) : Nat × Int :=
  match k with | 0 => (20, u.loopV) | 1 => (20, u.loopI) | 2 => (24, u.measV) | _ => (24, u.measI)

/-- The difference of a sample's carried code and the code recomputed (R238, R311). -/
def UpChan.diff (u : UpChan) (k : Nat) : Nat :=
  let p := u.sample k
  Nat.xor (crc6 p.1 (ofSigned p.1 p.2)) (u.codes.getD k 0)

/-- A payload whose samples of one quantity are scaled: each carries the code of the scaled sample with the difference it
had, and the overrange of R239 (R220 step 3, R239). -/
def UpChan.scale (u : UpChan) (cur : Bool) (f : Frac) : UpChan :=
  let l := rescaleSample 20 f (if cur then u.loopI else u.loopV)
  let m := rescaleSample 24 f (if cur then u.measI else u.measV)
  let k := bit cur
  let code := fun (n j : Nat) (v : Int) => Nat.xor (crc6 n (ofSigned n v)) (u.diff j)
  let codes := (u.codes.set k (code 20 k l.1)).set (k + 2) (code 24 (k + 2) m.1)
  let ovr := m.2 || outOfBand m.1 (2 ^ 22)
  let st := u.status ||| bitAt ovr k
  if cur then { u with loopI := l.1, measI := m.1, codes := codes, status := st }
  else { u with loopV := l.1, measV := m.1, codes := codes, status := st }

/-! ### The frames as they travel (R40, R41, R338, R341): fields in the order of the tables, low bits and low bytes first
(log entry 135) -/

/-- The 128 bits of a channel's upstream payload (R40). -/
def UpChan.bits (u : UpChan) : Nat :=
  let c := fun (k : Nat) => u.codes.getD k 0 % 64
  ofSigned 20 u.loopV + 2 ^ 20 * ofSigned 20 u.loopI + 2 ^ 40 * ofSigned 24 u.measV + 2 ^ 64 * ofSigned 24 u.measI
    + 2 ^ 88 * (u.status % 256) + 2 ^ 96 * c 0 + 2 ^ 102 * c 1 + 2 ^ 108 * c 2 + 2 ^ 114 * c 3 + 2 ^ 120 * (u.flags % 256)

/-- The upstream header (R338). -/
def UpFrame.header (u : UpFrame) : Nat :=
  0xA5 + 2 ^ 8 * (u.fseq % 65536) + bitAt u.dnBad 24 + bitAt u.holdAny 25 + bitAt u.intlk 26 + bitAt u.selftestFail 27
    + 2 ^ 32 * (u.hbEcho % 65536) + 2 ^ 48 * (u.scAck % 65536)

/-- An upstream frame: header, authority word, 64 payloads, CRC-32C; 8,352 bits (R40, R42, R341). -/
def UpFrame.wire (u : UpFrame) : List Byte :=
  let ch := fun (c : Nat) => u.chans.getD c upChanZero
  let b := w64 u.header ++ w64 (bitMap (fun c => (ch c).grant) 64) ++ (List.range 64).flatMap (fun c => toLe 16 (ch c).bits)
  b ++ w32 (crc32c b).toNat

/-- The downstream header (R338). -/
def DownFrame.header (f : DownFrame) : Nat :=
  0x5A + 2 ^ 8 * (f.fseq % 65536) + bitAt f.enterHold 24 + bitAt f.seamHold 25 + 2 ^ 32 * (f.hb % 65536)
    + 2 ^ 48 * (f.scAck % 65536)

/-- A downstream frame: header, authority word, 64 payloads, CRC-32C; 2,208 bits (R41, R42, R341). -/
def DownFrame.wire (f : DownFrame) : List Byte :=
  let ch := fun (c : Nat) => f.chans.getD c (0, 0, false)
  let b := w64 f.header ++ w64 (bitMap (fun c => (ch c).2.2) 64)
    ++ (List.range 64).flatMap (fun c => toLe 4 (ofSigned 24 (ch c).1 + 2 ^ 24 * ((ch c).2.1 % 256)))
  b ++ w32 (crc32c b).toNat

/-- The kind and payload of a side-channel message (R345; log entry 135). -/
def SideMsg.content (m : SideMsg) : Nat × List Byte :=
  let cal := fun (k : PairCal) => wi32 k.ofsA ++ wi32 k.ofsB ++ w32 k.gainA ++ w32 k.gainB ++ wi32 k.skew ++ w32 k.rg ++ wi32 k.ro
  let set := fun (x : RangeSet) => w8 (bit x.cur) ++ w32 x.rg ++ wi32 x.ro ++ wi32 x.hi ++ wi32 x.lo ++ w32 x.fsOld ++ w32 x.fsNew
    ++ x.ks.flatMap (fun k => wi32 k.c ++ w8 k.s)
  match m with
  | .safe => (0, [])
  | .tripCause c => (1, w8 c)
  | .coreFault cur b => (2, w8 (bit cur) ++ w8 (bit b))
  | .selftest c s => (3, w8 c ++ w8 (bit s))
  | .limiter => (4, [])
  | .factors cur k => (5, w8 (bit cur) ++ cal k)
  | .thresholds cur hi lo => (6, w8 (bit cur) ++ wi32 hi ++ wi32 lo)
  | .stage x => (7, set x)
  | .degraded cur => (12, w8 (bit cur))
  | .pairFault cur c => (13, w8 (bit cur) ++ w8 c)
  | .range x => (14, set x)
  | .slew span step divr => (8, w8 span ++ w32 step ++ w16 divr)
  | .safeSlew t step divr => (9, w16 t ++ w32 step ++ w16 divr)
  | .gangMap ms => (10, w64 ms)
  | .bank => (11, [])

/-- A side-channel packet: a 64-bit header, at most 64 bytes of payload, its own CRC-32C (R345; log entry 135). -/
def SidePacket.wire (p : SidePacket) : List Byte :=
  let c := p.msg.content
  let b := w16 p.seq ++ w8 c.1 ++ w8 c.2.length ++ w8 (match p.chan with | some n => n % 64 | none => 0xFF)
    ++ w8 (bit p.up + 2 * bit p.named.isSome) ++ w16 (p.named.getD 0) ++ c.2
  b ++ w32 (crc32c b).toNat

/-! ### Force DAC and slew limiter -/

/-- c_min of a span (R254). -/
def cMin (span : Nat) : Int := if span ≥ 2 then -0x400000 else 0
/-- c_max of a span (R254). -/
def cMax (span : Nat) : Int := if span ≥ 2 then 0x3FFFF8 else 0x3FFFFC
/-- The force code of an INNER output (R254). -/
def forceCode (u : Int) : Int := satN 24 (rhe u 256)
/-- The DAC code of a latched force code (R254). -/
def dacCode (span : Nat) (c : Int) : Nat := if span ≥ 2 then (2 ^ 19 + rhe c 8).toNat else (rhe c 4).toNat

/-- The slew limiter at a sample instant (R258, R259): new c_out, lim_act and count. -/
def slewStep (span step divr : Nat) (cReq cOut : Int) (cnt : Nat) : Int × Bool × Nat :=
  let c := clampI (cMin span) (cMax span) cReq
  let d := c - cOut
  let out :=
    if cnt % divr ≠ 0 then cOut
    else if step ≠ 0 && decide (d > step) then cOut + step
    else if step ≠ 0 && decide (d < -(step : Int)) then cOut - step
    else c
  (out, !decide (out = cReq), (cnt + 1) % divr)

/-- c_out through the rescale of a switch-over (R264). -/
def rescaleCode (span : Nat) (f : Frac) (c : Int) : Int := clampI (cMin span) (cMax span) (rhe (c * f.num) f.den)

end Sys2Proof.Machine
end

