-- ==== Sys2Proof/Machine/TypesMx.lean ====
section
/-! DEFINITION. The state of the switch-matrix controller (spec/16_matrix.md). -/

namespace Sys2Proof.Machine

/-- A relay module of a chain (R493, R520 to R524). Bit maps are indexed by local index. -/
structure RelayMod where
  serial : List Byte
  model : List Byte
  hwRev : Nat
  nxp : Nat
  rated : Nat
  tRelNs : Nat
  tOpNs : Nat
  /-- Map entries: spare first and last, serves first and last (R521). -/
  map : List (Nat × Nat × Nat × Nat)
  wear : Tbl Nat
  /-- The counts as the module's wear area holds them: as loaded, or as last written back (R507). -/
  saved : Tbl Nat
  /-- Word addresses of the wear area and the darn area (R520). -/
  wearAt : Nat
  darnAt : Nat
  /-- Spare in service for a logical crosspoint: (spare, logical). -/
  darns : List (Nat × Nat)
  /-- Spares whose darn word failed (R524). -/
  outOfService : List Nat
  retired : Nat
  warn : Nat
  suspect : Bool
  /-- Drive image after the last latch, by physical crosspoint. -/
  drive : Nat
  /-- Darn records written and not yet read back: (logical, spare). -/
  darning : List (Nat × Nat)
  /-- Windows that write retirements and wait for the next write-back (R509, R523). -/
  writes : List Nat
deriving DecidableEq, Repr

/-- The state of a chain (R499). -/
inductive ChainState where
  /-- Discovery runs. -/
  | discovering
  /-- No module. -/
  | empty
  /-- Usable. -/
  | ready
  /-- An update runs. -/
  | updating
  /-- Held in release. -/
  | failed
deriving DecidableEq, Repr

/-- The step an update is in (R502). -/
inductive UpdPhase where
  /-- The break transfer runs; its echo compare is next. -/
  | brk
  /-- Release settle. -/
  | settle
  /-- The make transfer runs. -/
  | mk
  /-- The confirm transfer runs. -/
  | confirm
  /-- Operate settle. -/
  | operate
deriving DecidableEq, Repr

/-- An update in progress (R502). -/
structure Update where
  phase : UpdPhase
  /-- Break and make images by position. -/
  brkImg : List Nat
  mkImg : List Nat
  tRelNs : Nat
  tOpNs : Nat
  /-- Commands whose targets it took. -/
  cmds : List Nat
  /-- The instant t_m of the make latch. -/
  made : Nat
  /-- Instant at which the present step ends. -/
  due : Nat
deriving DecidableEq, Repr

/-- A relay chain. -/
structure Chain where
  state : ChainState
  reason : Nat
  mods : List RelayMod
  update : Option Update
  /-- Requests whose targets are due: the command, or none for an edge or a break-only update (R501). -/
  queue : List (Option Nat)
  /-- Logical crosspoints, by position, that the next update opens because their set left its function (R511). -/
  opening : Tbl Nat
  /-- A latch has been repeated once after a mismatch (R504). -/
  retried : Bool
  conflicts : Nat
  echoErr : Nat
  wbFail : Bool
  lastWbNs : Nat
  /-- Discovery has been started: by step F4 of R562, or by a rediscovery (R525). -/
  begun : Bool
  /-- A rediscovery's command, and the command of a write-back. -/
  discCmd : Option Nat
  wbCmd : Option Nat
  /-- A write-back is wanted before a rediscovery, an entry to DEEP or a reset goes on; the instant of the next periodic one
  (R507). -/
  wbWant : Bool
  wbNext : Nat
  /-- First module that gave FAILED with reason IDENTITY: its position and MSTATE code (R528). -/
  badPos : Nat
  badState : MState
  overrun : Nat
deriving DecidableEq, Repr

/-- A crosspoint set (R501, R510, R511). Maps go from position to a bit map of local indices. -/
structure XSet where
  chain : Nat
  members : Tbl Nat
  staged : Tbl Nat
  armed : Bool
  locked : Bool
  keepOnLoss : Bool
  /-- The staged target is due; by an edge rather than a command. -/
  due : Bool
  byEdge : Bool
  lockSkip : Nat
deriving DecidableEq, Repr

end Sys2Proof.Machine
end

