-- ==== Sys2Proof/Machine/TypesFab.lean ====
section
/-! DEFINITION. The state of the event fabric, the chassis lines and the timers (spec/14_events.md). -/

namespace Sys2Proof.Machine

/-- An event route (R452). -/
structure Route where
  enable : Bool
  invSrc : Bool
  invGate : Bool
  source : Nat
  gate : Nat
  /-- Consumer set, as a bit map of consumer numbers. -/
  consumers : Nat
  fault : Bool
  fires : Nat
deriving DecidableEq, Repr

/-- An event timer (R472): the instant of its next pulse. -/
structure Timer where
  enable : Bool
  period : Nat
  next : Nat
deriving DecidableEq, Repr

/-- The fabric. Line maps use the layout of LEVEL: [7:0] TRIG_BUS, [8] TRIG_STAR, [12:9] TRIG_FP, [13] SYNC_IN. -/
structure Fabric where
  routes : Tbl Route
  /-- Attached consumers: consumer and route (R460). -/
  attached : List (Nat × Nat)
  /-- Edges that have reached consumers and wait for the consumer's own step, oldest first: consumer, route, and the instant
  at which the source asserted (R71). -/
  edges : List (Nat × Nat × Nat)
  /-- Pulses that sources have made of late: source, assertion and end. A source of a line that this device drives stands for the
  50 ns of R467, and 4,096 + r for the fire pulse of route r (R456). -/
  pulses : List (Nat × Nat × Nat)
  /-- The instant at which this device's drive of a line last ended (R469). -/
  drove : Tbl Nat
  /-- The instant from which the next firing may start (R73). -/
  fireFrom : Nat
  /-- OVERRUN flags by consumer; HOST's are in the functions. -/
  overrun : Tbl Bool
  /-- Lines another driver asserts. -/
  ext : Nat
  /-- Instants at which lines became asserted. -/
  since : Tbl Nat
  stuck : Nat
  /-- Lines held under R468. -/
  held : Nat
  fpDir : Nat
  fpPol : Nat
  starPol : Bool
  stuckMs : Nat
  timers : Tbl Timer
  /-- The chassis-line banks are configured (R563). -/
  configured : Bool
deriving DecidableEq, Repr

end Sys2Proof.Machine
end

