-- ==== Sys2Proof/Machine/TypesSeq.lean ====
section
/-! DEFINITION. The state of sweep sequencers, handshake engines, result channels and apertures
(spec/08_sweeps.md, spec/09_results.md, R247 to R252). -/

namespace Sys2Proof.Machine

/-! ### Apertures (R247 to R252) -/

/-- An aperture that runs, or is to run. Lists are newest first. -/
structure Aper where
  /-- 1 LOOP_RATE, 2 BOX, 3 LINE. -/
  mode : Nat
  /-- Aperture start t_a. -/
  ta : Nat
  /-- Periods it has, and periods gone by. -/
  n : Nat
  k : Nat
  /-- Weight of the last period sample in units of 1/65,536 (R249). -/
  w16 : Nat
  /-- Samples with their weights. -/
  vs : List (Int × Nat)
  is : List (Int × Nat)
  dv : List Nat
  di : List Nat
  /-- Aperture flags of R306 so far. -/
  flags : Nat
  /-- SWEEP_INDEX of its records. -/
  idx : Nat
  /-- Instant of the last period taken. -/
  te : Nat
  /-- The result was cut short (R252). -/
  stale : Bool
deriving DecidableEq, Repr

/-! ### Sequencers (R267 to R299) -/

/-- Where a running sequencer stands in an execution (R277). -/
inductive SeqPhase where
  /-- Not running. -/
  | none_
  /-- An entry is to become current at this instant. -/
  | current (at_ : Nat)
  /-- Current since t_c; waits for its range change and source trigger. -/
  | wait
  /-- t_src is set. -/
  | source (at_ : Nat)
  /-- Past t_src; the delay ends at this instant, and the measure trigger has or has not come. -/
  | delay (at_ : Nat)
  /-- t_a is set. -/
  | ready (at_ : Nat)
  /-- The aperture runs. -/
  | aperture
deriving DecidableEq, Repr

/-- A sweep sequencer. -/
structure Seq where
  /-- 0 IDLE, 1 ARMED, 2 RUNNING, 3 DONE (R289). -/
  state : Nat
  reason : Nat
  endAction : Nat
  trigMode : Nat
  base : Nat
  len : Nat
  first : Nat
  waitTimeout : Nat
  /-- List index of the current entry. -/
  cur : Nat
  /-- ENTRY of SEQ_STATUS, an absolute index. -/
  entry : Nat
  points : Nat
  repLeft : Nat
  /-- Counters of the JUMP entries by list index (R275). -/
  cnt : Tbl Nat
  pend : Nat
  earlyStops : Nat
  startIgnored : Nat
  trigOverrun : Nat
  armErrEntry : Nat
  armErrCode : Nat
  lastNs : Nat
  phase : SeqPhase
  /-- Instants of the execution: t_c, the latching edge of the awaited trigger, the beginning of the wait. -/
  tc : Nat
  trigAt : Option Nat
  waitFrom : Nat
  /-- The entry's range change runs. -/
  rcRun : Bool
  aper : Option Aper
  /-- The edge of its last start (R292, R294): it is RUNNING from then on, ARMED before. -/
  startEdge : Nat
  /-- The SEQ_START whose start edge has not passed. -/
  startCmd : Option Nat
  /-- The edge of the stop that cancelled its arm (R294). -/
  stopEdge : Option Nat
  /-- A stop, with its edge and its reason, that is latched after the end of an aperture whose last sample has not come yet (R294). -/
  stopHeld : Option (Nat × Nat)
  /-- Device time at which it was armed. -/
  armNs : Nat
  /-- Values in force when it was armed: setpoint and compliance with their ranges (R291). -/
  rest : Int × Int × Int
  /-- Instant at which the end action is due (R291). -/
  endAt : Option Nat
deriving DecidableEq, Repr

/-- A handshake engine (R300 to R304). -/
structure Handler where
  /-- 0 IDLE, 1 BUSY, 2 WAIT_BIN, 3 EOT. -/
  state : Nat
  eotMode : Nat
  eotWidth : Nat
  channels : Nat
  bin : Nat
  accepted : Nat
  rejected : Nat
  /-- HS_READY. -/
  readyOn : Bool
  /-- Instants at which the EOT pulse starts after HANDLER_BIN, and ends. -/
  eotAt : Option Nat
  eotEnd : Option Nat
  /-- The edge at which HS_READY last changed (R301, R303). -/
  readyAt : Nat
  /-- The bound sequencers that have not ended since the accepted SOT, and the instant of the last end (R303). -/
  waits : Nat
  lastEnd : Nat
deriving DecidableEq, Repr

/-! ### Streams and the Waystation (R309 to R326) -/

/-- A stream of records with its FIFO: a channel's Waystation or a fail group's FIFO (R309, R319, R320, R444). -/
structure Stream where
  ring : Nat
  seq : Nat
  /-- Records that wait for Caravan, oldest first. -/
  recs : List Rec
  /-- Slots of records in blocks whose last write has not been issued (R321): of pairs, and of the other records. -/
  takenPairs : Nat
  takenFour : Nat
  lost : Nat
  /-- A GAP record that waits: its count, the time fields and the instant of the first lost record (R320). -/
  gap : Option (Nat × Rec)
  codeErr : Nat
deriving DecidableEq, Repr

/-- A RES_MEASURE pending or running (R278, spec/09_results.md). -/
structure Meas where
  aper : Aper
  /-- None while it waits for its event. -/
  start : Option Nat
  route : Nat
deriving DecidableEq, Repr

/-- Capture states (R322). -/
inductive CapState where
  /-- Not armed. -/
  | idle
  /-- Armed. -/
  | armed
  /-- Triggered. -/
  | triggered
  /-- Rearming. -/
  | rearm
  /-- Waiting for free slots. -/
  | waitSpace
deriving DecidableEq, Repr

/-- The result former of a channel. -/
structure ResChan where
  st : Stream
  /-- STREAM as configured, as in effect, and the changes that wait for their boundaries, oldest first. -/
  stream : Nat
  active : Nat
  changes : List (Nat × Nat)
  aperture : Nat
  pre : Nat
  post : Nat
  capMode : Nat
  /-- Periods since the LOOP stream started. -/
  periods : Nat
  box : Option Aper
  /-- Apertures of earlier STREAMs that complete, oldest first (R317). -/
  boxOld : List Aper
  /-- Apertures of lists that a trip ended and that run on while the sequencer is armed again (R296). -/
  seqOld : List Aper
  meas : Option Meas
  cap : CapState
  /-- t_arm: ARMED from then on (R322, R323). -/
  armAt : Nat
  /-- Pairs before this instant are not held (R322, R325). -/
  histFrom : Nat
  /-- History of pairs while ARMED, newest first. -/
  hist : List Rec
  /-- Trigger sample, index of the next pair, and the end of REARM. -/
  trigAt : Nat
  capNext : Int
  rearmAt : Nat
  /-- A disarm while TRIGGERED: it becomes IDLE when complete (R326). -/
  disarm : Bool
  /-- Captures triggered, and since the stream was configured. -/
  captures : Nat
  capNum : Nat
  missed : Nat
  /-- Last period samples received since the converters started, with the ranges' swap already applied (R252, R317). -/
  lastV : Int
  lastI : Int
deriving DecidableEq, Repr

end Sys2Proof.Machine
end

