-- ==== Sys2Proof/Machine/TypesSvy.lean ====
section
/-! DEFINITION. The state of the survey converter and of calibration (spec/11_survey.md, spec/12_calibration.md). -/

namespace Sys2Proof.Machine

/-- A conversion of the survey converter: a table entry or an urgent request (R380, R391). -/
structure SvyConv where
  /-- Entry number, 0xFFFF for an urgent request with its own data. -/
  entry : Nat
  bytes : List Byte
  /-- The function of an urgent request. -/
  fn : Nat
  /-- The urgent request's command; none for a table entry. `bank` is a vector bank whose enable waits for it (R428). -/
  cmd : Option Nat
  bank : Option Nat
deriving DecidableEq, Repr

/-- A conversion in progress with its end. -/
structure SvyRun where
  conv : SvyConv
  endAt : Nat
  /-- Its open-wire current was held off when it began (R390). -/
  supp : Bool := false
deriving DecidableEq, Repr

/-- A result on its way to Denrix: its code, after DIFF, and what the result carries (R380, R381). -/
structure SvyFlight where
  conv : SvyConv
  code : Int
  scan : Nat
  saturated : Bool
  suppressed : Bool
  degraded : Bool
  fallback : Bool
  /-- Device time and epoch of the last sample. -/
  timeNs : Nat
  epoch : Nat
deriving DecidableEq, Repr

/-- SVY_CONFIG's fields (R382). -/
structure SvyCfg where
  mode : Nat
  nent : Nat
  startDelay : Nat
  timerUs : Nat
  watchdogUs : Nat
deriving DecidableEq, Repr

/-- The survey converter. -/
structure Survey where
  shadow : Tbl (List Byte)
  active : Tbl (List Byte)
  cfg : SvyCfg
  /-- A configuration that waits for the end of the scan or entry (R385). -/
  newCfg : Option SvyCfg
  run : Option SvyRun
  /-- A scan is in progress, and its next entry. -/
  scanning : Bool
  next : Nat
  fallback : Bool
  /-- The running scan began in fallback. -/
  scanFb : Bool
  fellBack : Bool
  scans : Nat
  missed : Nat
  lost : Nat
  /-- Instants (start + START_DELAY) of the start that waits and of the pending one (R383). -/
  starts : List Nat
  urgent : List SvyConv
  /-- An urgent request has run since the last table entry. -/
  urgentRan : Bool
  flights : List SvyFlight
  /-- Code and saturation of the last table entry of this scan (R381). -/
  last : Option (Nat × Int × Bool)
  results : Tbl SvyResult
  /-- VALUE of each entry's latest result without SATURATED, and the instant it arrived: V_rail (R203, R392). -/
  rails : Tbl (Option (Nat × Nat))
  /-- Window states: 0 UNKNOWN, 1 IN, 2 ABOVE, 3 BELOW (R389). -/
  win : Tbl Nat
  /-- Base of the timer ticks and of the watchdog. -/
  modeAt : Nat
  ticks : Nat
  wdFrom : Nat
  /-- Pauses in force (R393): calibration, power. -/
  pausedCal : Bool
  pausedPwr : Bool
  /-- The instant at which the pause took effect. -/
  pauseAt : Nat
  faultState : Bool
  pair : Pair
deriving DecidableEq, Repr

/-! ### Calibration -/

/-- Self-calibration factors of one pair (R394, R412). -/
structure PairWc where
  ofsA : Int
  ofsB : Int
  gainA : Nat
  gainB : Nat
  skew : Int
  linA : List Int
  linB : List Int
deriving DecidableEq, Repr

/-- A self-calibration record (R412). -/
structure SelfRec where
  timeNs : Nat
  epoch : Nat
  temp : Int
  valid : Bool
  dac : Bool
deriving DecidableEq, Repr

/-- A range record (R412). -/
structure RangeRec where
  rg : Nat
  ro : Int
  timeNs : Nat
  epoch : Nat
  temp : Int
  valid : Bool
  traceable : Bool
  stdId : List Byte
deriving DecidableEq, Repr

/-- A channel's part of the working copy or of a store copy (R412). -/
structure CalChan where
  v : PairWc
  i : PairWc
  dofs : Int
  dgain : Nat
  seg : List Int
  self : SelfRec
  serial : List Byte
  ranges : Tbl RangeRec
  /-- The factors in force come from a self-calibration of this device since the last loss of VAON (R401). -/
  here : Bool
  dacHere : Bool
deriving DecidableEq, Repr

/-- A whole working copy or store copy: header, survey factors and channel records (R410 to R412). -/
structure CalCopy where
  /-- The copy was written whole and its rows read (R416, R578). -/
  ok : Bool
  /-- STORE_FORMAT and CRC of its header (R411, R413). -/
  format : Nat
  crc : W32
  seq : Nat
  writeNs : Nat
  writeEpoch : Nat
  svy : PairWc
  svySelf : SelfRec
  svyHere : Bool
  chans : Tbl CalChan
deriving DecidableEq, Repr

/-- The part a run is in (R396). -/
inductive CalPart where
  /-- It waits. -/
  | waiting
  /-- The reference check. -/
  | reference
  /-- Between parts: the group slots that are left. -/
  | between
  /-- The slot of a group. -/
  | slot (g : Nat)
  /-- The survey converter. -/
  | survey
deriving DecidableEq, Repr

/-- A run of self-calibration (R395); `cmd` is none for the start-up run (R404). -/
structure CalRun where
  cmd : Option Nat
  scope : Nat
  skipLive : Bool
  /-- Channels still to calibrate. -/
  todo : Nat
  passed : Nat
  failed : Nat
  skipped : Nat
  survey : Nat
  refFail : Bool
  integrity : Bool
  part : CalPart
  /-- Start of the first part, and of the present one. -/
  startAt : Nat
  partAt : Nat
  /-- Channels of the present slot that were in OFF at its start (R398, step 4), and those taking part. -/
  dacChans : Nat
  slotChans : Nat
deriving DecidableEq, Repr

/-- A measurement of a traceable-calibration session (R406). Binary64 values are kept as words. -/
structure TracePt where
  ref : Nat
  meas : Nat
  ovr : Bool
deriving DecidableEq, Repr

/-- A measurement of a session that runs: its command, its place 2 * pass + point, REF, and its aperture (R406). -/
structure TraceRun where
  cmd : Nat
  k : Nat
  ref : Nat
  aper : Aper
deriving DecidableEq, Repr

/-- The ranges and values of a channel before a session (R95): setpoint, compliance stored and in use. -/
structure SourceKeep where
  vr : Nat
  ir : Nat
  setpoint : Int
  compPos : Int
  compNeg : Int
  compUse : Int × Int
deriving DecidableEq, Repr

/-- A traceable-calibration session (R405, R406). -/
structure Trace where
  ch : Nat
  cur : Bool
  code : Nat
  nplc : Nat
  settleUs : Nat
  /-- Measurements by 2 * pass + point. -/
  pts : Tbl (Option TracePt)
  run : Option TraceRun
  /-- Its word has been latched: the session is open, with the channel's ranges and values of before it (R95). -/
  before : Option SourceKeep
deriving DecidableEq, Repr

/-- Calibration. -/
structure Cal where
  wc : CalCopy
  copy0 : CalCopy
  copy1 : CalCopy
  runs : List CalRun
  trace : Option Trace
  /-- GSTAT.CAL_DEFAULTS (R413, R417). -/
  defaults : Bool
  storeSeq : Nat
  /-- CONSISTENCY: channels that require a calibration before they leave OFF (R242). -/
  required : Nat
  /-- A CAL_STORE is under way: its command and the copy as it stood at its start. -/
  storing : Option (Nat × CalCopy)
deriving DecidableEq, Repr

end Sys2Proof.Machine
end

