-- ==== Sys2Proof/Machine/TypesVec.lean ====
section
/-! DEFINITION. The state of the vector engine (spec/13_vectors.md). -/

namespace Sys2Proof.Machine

/-- A pin bank (R419, R428). -/
structure VBank where
  enabled : Bool
  vio : Nat
  drive : Nat
  /-- Steps of 10 ps. -/
  delay : Nat
  strobe : Nat
  zUp : Bool
  dcheck : Bool
  dhalt : Bool
  /-- The instant at which a bank that was disabled takes its pins to high impedance (R428). -/
  offAt : Nat
deriving DecidableEq, Repr

/-- What a pin's driver does: off, low or high, or off with the bank's weak pull on (R420). -/
inductive PinDrive where
  /-- Off. -/
  | hiz
  /-- Low. -/
  | low
  /-- High. -/
  | high
  /-- Off, with the weak pull-down on. -/
  | pullDown
  /-- Off, with the weak pull-up on. -/
  | pullUp
deriving DecidableEq, Repr

/-- What VEC_STATUS shows of a function's last or present pattern. -/
structure VStat where
  reason : Nat
  addr : Nat
  cycles : Nat
  failCycles : List Nat
  failedPins : Nat
  firstFail : Option (Nat × Nat)
  driveErr : Nat
  missed : Nat
deriving DecidableEq, Repr

/-- State of the player. -/
inductive PState where
  /-- Idle. -/
  | idle
  /-- Armed. -/
  | armed
  /-- Playing. -/
  | playing
  /-- A word waits for its trigger. -/
  | waiting
deriving DecidableEq, Repr

/-- The resolver of the prefetcher: marks and counters by level, and whether the next word is reached by a LOOP, and of
which level (R424, R432). -/
structure VResolve where
  marks : List Nat
  counters : List Nat
  byLoop : Option Nat
deriving DecidableEq, Repr

/-- The player. -/
structure Player where
  state : PState
  /-- Holder of the player lock (R449). -/
  fn : Option Nat
  /-- 0 next, 1 device time, 2 event. -/
  kind : Nat
  route : Nat
  /-- Instant at or after which the first cycle starts, once it is known (R435, R488). -/
  startAt : Option Nat
  /-- Prefetched words in play order, the next address to fetch, and whether the prefetcher is stopped by a segment (R432). -/
  pf : List Nat
  fetch : Option Nat
  blocked : Bool
  /-- Prefetched words with an uncorrectable error (R445). -/
  ecc : List Nat
  res : VResolve
  /-- The word that plays and its cycles left; none before the first. -/
  word : Option Nat
  left : Nat
  /-- Instant of the next cycle's start edge. -/
  edge : Nat
  /-- Pending triggers, and the input waited on. -/
  pend : Nat
  /-- The edges at which the pending triggers were latched, by input (R437). -/
  pendAt : Tbl Nat
  waitIn : Nat
  /-- Groups that have failed in this pass through the word, and in this pattern (R443). -/
  failedWord : Nat
  failedPat : Nat
  fails : Nat
  /-- Instant from which FAIL_LIMIT, DRIVE_CHECK or a latched stop ends the pattern, with its reason. -/
  endFrom : Option (Nat × Nat)
  /-- Instant since which each pin's weak pull is on (R421). -/
  pull : Tbl (Option Nat)
  /-- Pin codes of the cycle that plays. -/
  pins : Nat
  lastEnd : Nat
deriving DecidableEq, Repr

/-- The vector engine. -/
structure Vec_ where
  banks : Tbl VBank
  /-- The requested frequency in Hz, and the synthesiser's settings: N + f / 2^24 times 2^24, and O (R479). -/
  freq : Nat
  mul : Nat
  odiv : Nat
  /-- Instant of edge 0 and VCLK_ALIGNED (R427). -/
  edge0 : Nat
  aligned : Bool
  words : Tbl (List Byte)
  /-- Segment states 0 EMPTY, 1 LOADING, 2 READY (ACTIVE is 2 with a word played or prefetched). -/
  segs : Tbl Nat
  idle : Tbl Nat
  /-- An idle state that still shows, with the start edge at which the new one takes effect (R429). -/
  idleWas : Tbl (Nat × Nat)
  player : Player
  stats : Tbl VStat
  /-- Fail streams by 4 * function + group (R444). -/
  fails : Tbl Stream
deriving DecidableEq, Repr

end Sys2Proof.Machine
end

