-- ==== Sys2Proof/Machine/State.lean ====
section
/-! DEFINITION. The whole state of the CV6464, the reasons a step could stop, and the state right after reset (a COLD
power-on, R545, before its start-up sequence). -/

namespace Sys2Proof.Machine

/-- Faults. None: no command of the table stops the device; errors are replies, log entries and safe states. -/
inductive Fault where
deriving DecidableEq, Repr

/-- Refusals. -/
inductive Refusal where
  /-- Raised by an arm of exec whose command has no meaning yet; safe. -/
  | notModelled (mnemonic : String)
deriving DecidableEq, Repr

/-- Everything the device holds. Host memory and the queue of commands stand beside it in `State`, so that only a row
that writes host memory can change it. -/
structure Dev where
  /-- The model's clock in ps; it never goes back (DESIGN CHOICE, log entry 3). -/
  now : Nat
  /-- Counter of the free values taken so far (the model's own: DESIGN CHOICE, safe, log entry 10). -/
  freeCtr : Nat
  /-- What the last read row returned (the model's own, log entry 20). -/
  readData : W32
  /-- MSI-X messages sent, newest first: function and vector (the model's own, log entries 16, 20). -/
  msgs : List (Nat × Nat)
  fns : Tbl Fn
  tg : Tollgate
  assign : Assign
  link : Link
  log : Log
  sys : SysCtl
  store : Store
  tb : Timebase
  stages : Tbl Stage
  engines : Tbl Engine
  chans : Tbl Chan
  gangs : Tbl (Option Gang)
  /-- Swap groups: function * 64 + group, as a bit map of engines (R206). -/
  swapGroups : Tbl Nat
  swaps : List Swap
  hel : Tbl Helon
  seam : Seam
  mxChains : Tbl Chain
  mxSets : Tbl XSet
  fab : Fabric
  /-- List memory by absolute entry index (R267). -/
  seqMem : Tbl (List Byte)
  seqs : Tbl Seq
  handlers : Tbl Handler
  results : Tbl ResChan
  svy : Survey
  cal : Cal
  vec : Vec_
deriving DecidableEq, Repr

/-- The state of the machine. -/
structure State where
  /-- Commands that wait, first in first out (DESIGN CHOICE, log entry 1). -/
  pending : List Instr
  /-- Host memory as the device has written it; an unlisted byte has not been written (DESIGN CHOICE, safe, log entry 13). -/
  mem : List Host.Cell
  dev : Dev
deriving DecidableEq, Repr

/-! ### Reset values -/

/-- A command ring after reset (spec/02_host_link.md). -/
def cmdrInit : Cmdr :=
  { baseLo := 0, baseHi := 0, log2 := 0, enable := false, tail := 0, head := 0, cfgErr := false, tailErr := false,
    fetchErr := false }

/-- A vector after reset: the Mask bit is set, as the MSI-X rules of PCI Express give it (PRESUMED, unsafe, log entry 14). -/
def vecInit : Nat → Vec := fun _ =>
  { count := 0, start := none, holdoff := 0, countReg := 0, mask := true, pba := false, addr := 0, data := 0, edge := false }

/-- A result ring after reset (R327). -/
def ringInit : Nat → Ring := fun _ =>
  { enabled := false, base := 0, size := 0, sealOn := true, roData := true, flushUs := 100, irqMode := 0, wbAddr := 0,
    wmark := 0, head := 0, tail := 0, wmarkHit := false, tailErr := false, above := false, blockSeq := 0,
    openRecs := [], openSince := none, closed := [], lostSince := 0, fullPs := 0,
    fullAt := none, space := 0 }

/-- No survey result: ENTRY 0xFFFF (the reply table of SVY_DATA). -/
def svyNone : SvyResult := { entry := 0xFFFF, dflags := 0, scan := 0, code := 0, value := 0, timeNs := 0, epoch := 0 }

/-- A function after reset: PF0 is present, a VF is not until VF Enable. The configuration fields take the defaults of PCI
Express (PRESUMED, unsafe, log entry 14). -/
def fnInit : Nat → Fn := fun f =>
  { enabled := f == 0, reqWin := [], repWin := [], busyUntil := 0, reply := false, ready := false,
    completion := false, reject := false, fireDenied := false, replyTag := 0, shownLast := false, replies := [],
    ringReplies := [], dropped := 0, completed := 0, maxService := 0, cmdr := cmdrInit,
    snap := { ns := 0, frac := 0, unlocked := false, epoch := 0 }, irqCause := 0, irqMask := 0, vecs := [],
    msixEnable := false, funcMask := false, busMaster := false, cplDisable := false, cplValue := 0,
    maxPayload := 0, maxReadReq := 2, relaxed := true, ecrcCheck := false, ecrcGen := false, aerEcrc := false,
    aerPoison := false, aerLog := 0, tag10 := false, d3hot := false, rings := [], ringCount := 0, quota := 0, cls := 0,
    weight := 1, deficit := 0, deficitCar := 0,
    flr := .idle, flrAt := 0, flrCmd := none, flrSeq := false, lateCpl := 0, outstanding := 0, events := [], evtLost := 0,
    evtDeep := 0, overrunHost := 0, view := 0,
    survey := svyNone, surveyUnread := false, surveyOverrun := false, surveyOverruns := 0,
    failMode := 0, failLimit := 0, groupRing := 0xFFFFFFFF }

/-- Tollgate after reset: every AGE is 50 µs (R541). -/
def tgInit : Tollgate :=
  { nextId := 0, waiting := [], running := [], ages := List.replicate 7 50, caravans := [], lastFn := 0, lastCar := 0 }

/-- The default holder of a resource is the owner (R529). -/
def holderInit : Nat → Nat := fun _ => 0
/-- The default loss policy is OFF (R533). -/
def policyInit : Nat → Nat := fun _ => 2

/-- Assignment after reset (R529). -/
def assignInit : Assign :=
  { chan := [], route := [], pin := [], seg := [], line := [], set := [], holdChan := 0, holdRoute := 0, holdSet := 0,
    policy := [], leaving := [] }

/-- The link after reset (PRESUMED, unsafe, log entry 14). -/
def linkInit : Link :=
  { up := false, width := .x1, rate := .g2_5, bus := 0, last := 0xFF, vfEnable := false, numVfs := 0, ltrUs := 20, ltrOn := false,
    aspmL1 := false, l11 := false, l12 := false, bar0 := 0, bar2 := 0, vfBar0 := 0, vfBar2 := 0, pageSize := 1 }

/-- The header row of the persistent log after `n` entries: the slot of the next one, the wraps, and a CRC-32C in the last 4 bytes
(R608). -/
def logHeader (n : Nat) : List Byte :=
  let b := w32 (n % 32736) ++ w32 (n / 32736) ++ zeros 1012
  b ++ w32 (crc32c b).toNat

/-- The log after COLD (R87). -/
def logInit : Log :=
  { fifo := [], ring := [], head := 0, tail := 0, lost := 0, pos := 0, archive := [], archived := 0, row := [],
    rowAt := none, header := logHeader 0, crash := [] }

/-- The option record of ROM defaults (R580). -/
def optRom : OptRec :=
  { format := 1, seq := 0, channels := 0x10, options := 0, grade := 0, serial := zeros 16, subsysVid := 0xB0C9,
    subsysId := 0, fwBank := 0, refSel := 0, calBoot := 1, mgmtAddr := 0x3A, lineFreq := 50000, holdTime := 100,
    safeDiv := 16, safeStep := 0x4000, wdogMs := 100, wearWbMin := 10, integ := 7, jtag := 1 }

/-- An option record as 256 bytes with its CRC (R580). -/
def optBytes (o : OptRec) : List Byte :=
  let b := w16 o.format ++ zeros 2 ++ w32 o.seq ++ w8 o.channels ++ w8 o.options ++ w8 o.grade ++ zeros 1
    ++ padTo 16 o.serial ++ zeros 4 ++ w16 o.subsysVid ++ w16 o.subsysId ++ w8 o.fwBank ++ w8 o.refSel
    ++ w8 o.calBoot ++ w8 o.mgmtAddr ++ w32 o.lineFreq ++ w16 o.holdTime ++ w16 o.safeDiv ++ w32 o.safeStep
    ++ w16 o.wdogMs ++ w16 o.wearWbMin ++ w8 o.integ ++ w8 o.jtag ++ zeros 194
  b ++ w32 (crc32c b).toNat

/-- The factory's option record of the configuration this manual describes (R1): CV6464-VMTG, owner section at the
ROM defaults (DESIGN CHOICE, unsafe, log entry 17). -/
def optFactory : OptRec := { optRom with channels := 0x40, options := 0x0F, seq := 1 }

/-- A qualified firmware bank as shipped (R1): the version is the free constant `Config.freeWord 0` (DESIGN CHOICE, log
entry 17). -/
def bankFactory : Bank :=
  { image := [], magic := 0x57465643, format := 1, rclass := 1, version := (Config.freeWord 0).toNat, length := 1, entry := 0,
    minStep := 0xB1, optMax := 1, storeMax := 1, recMax := 1, rsvZero := true, crcOk := true, verified := true }

/-- The store as shipped. -/
def storeInit : Store :=
  { copy0 := optBytes optFactory, copy1 := optBytes optFactory, bankA := bankFactory, bankB := bankFactory,
    degraded := 0, rowsUsed := [], pool := [], unread := 0, failing := [], corrected := [], executing := 0, fallback := false,
    recovery := false, loadBusy := false,
    optBusy := false }

/-- The reset controller after COLD power-on: the source is asserted until RESET_NEGATION (R547, R560). -/
def sysInit : SysCtl :=
  { phase := .held, causes := 1, scope := 0, eccDone := false, loadRestarts := 0, resets := 0, wdogResets := 0,
    bkup := [], opt := optRom, optDefaults := false, optCopy := 0, fwVersion := 0, gstatChg := 0, thermalWarn := false,
    power := 0, deepEntering := false, wakeLatched := none, waking := none, wakeCause := 0, wakes := 0,
    sysReset := none, blockReset := [], seamLossAt := none, denrixGood := true,
    helonGood := true, perst := false, tap := .bypass, smbData := 0, relAt := 0, latchNs := 0,
    latchPower := 0, sysResetAt := 0, scrubs := 0, work := { failedStarts := 0, failedBank := 0, bytes := [] } }

/-- The timebase after reset (R474, R477, R485). -/
def tbInit : Timebase :=
  { tstate := .free, wasLocked := false, refSel := 0, refIn := false, refNom := 0, refPcie := false, d := 16,
    lastSample := 0, edgeBase := 0, edgeWas := 0, stretched := none, alignNext := none,
    monoZero := 0, stepOff := 0, epoch := 0, steps := [], syncMode := 0, skew := 0, skewPending := none, syncIgnored := 0,
    syncCount := 0, lastTA := none, nextTA := none, lastAlignNs := 0, lastShift := 0, aligned := false,
    timeSet := none, rateD := none, rateAt := 0, rateId := 0 }

/-- The all-reset stage word: every half-word 0x8000 (R145). -/
def stageWordReset : W64 := 0x8000800080008000

/-- A stage module after reset: discovery has not run. -/
def stageInit : Nat → Stage := fun _ =>
  { mstate := .discovering, ident := none, rescan := none, latched := stageWordReset, wanted := stageWordReset,
    shift := none, lastLatch := none, unconfirmed := false, failedOnce := false, readback := stageWordReset, driven := false }

/-- An EMPTY slot or bank. -/
def slotEmpty : Slot := { state := 0, parts := 0, bytes := [] }
/-- The default library slot (R212). -/
def slotInit : Nat → Slot := fun _ => slotEmpty

/-- Eight sections at 0. -/
def statesZero : List (Int × Int) := List.replicate 8 (0, 0)

/-- An engine after reset (R190). -/
def engInit : Nat → Engine := fun e =>
  { active := 0, image := defaultImage (e % 4), other := slotEmpty, lib := [], st := statesZero, et := 0, out := 0,
    sat := false, limit := false, satSeen := false, limitSeen := false, heldSeen := false, heldRes := 0,
    heldLate := 0, periods := 0, heldRow := 0, next := none, resFail := none, lateFail := none, satCarry := false,
    atNs := 0 }

/-- The reset value of a compliance magnitude (R137). -/
def compReset : Int := 0x04000000

/-- A channel after reset (R137, R190, spec/06_loop_structure.md). -/
def chanInit : Nat → Chan := fun _ =>
  { state := 0, fi := false, vr := 0, ir := 0, senseLocal := false, setpoint := 0, compPos := compReset,
    compNeg := compReset, compUse := (compReset, compReset), soft := false, compliance := false, compSeen := false,
    tripped := false, degraded := false,
    stageFault := false, shareFault := false, trans := none, rc := none, sourceWait := [], n := 1,
    rampSmooth := false, rampNs := 100000, ff1 := 0, ff2 := 0, trimDiv := 256, railEntry := 0xFFFF, railNom := 0,
    pendN := [], pendTrim := [], pendFf := [], pendRail := [], k0Outer := 0, k0Trim := 0, r := 0, r1 := 0,
    r2 := 0, d1 := 0, d2 := 0, uSel := 0, dirNeg := false, rail := 0, railStale := true, railAt := none, railNext := none,
    railTaken := none,
    ramp := none,
    trimSum := 0, trimCnt := 0, satRun := 0, shareRun := 0, loopV := 0, loopI := 0, measV := 0, measI := 0,
    measVok := false, measIok := false, codeErr := 0, ovrV := false, ovrI := false, req := false, grantSeen := false,
    status := 0, safe := false, slewStart := false, rpathReq := 0, ackReq := false, repOut := 0, repAct := false,
    repCnt := 0, repOutPrev := 0, repActPrev := false, lastCode := 0, swapV := none, swapI := none }

/-- No gang is defined after reset. -/
def gangInit : Nat → Option Gang := fun _ => none
/-- No swap group has members after reset. -/
def groupInit : Nat → Nat := fun _ => 0

/-- The default factors of a pair (R234); RG is the nominal 1.0 until a module gives its V_FS. -/
def pairCalInit : PairCal := { ofsA := 0, ofsB := 0, gainA := 0x800000, gainB := 0x800000, skew := 0, rg := 0x400000, ro := 0 }

/-- A converter pair after reset. -/
def pairInit : Pair :=
  { cal := pairCalInit, nextCal := none, prevA := 0, histA := 0, histB := 0, faultyA := false, faultyB := false,
    consSum := 0, consCnt := 0, loop := 0, meas := 0, noSamp := false, noLoop := false, ovrRaw := false, ovr := false, have_ := false }

/-- Helon's part of a channel after reset (R253, R257, R349). -/
def helonInit : Nat → Helon := fun _ =>
  { v := pairInit, i := pairInit, span := 2, step := 0, divr := 1, cOut := 0, dac := 2 ^ 19, limAct := false, cnt := 0,
    grant := false, trip := none, hold := false, rpath := 0, rset := false, thr := [0, 0, 0, 0], thrOther := [0, 0, 0, 0], staged := none,
    off := true, violation := none, passes := [0, 0, 0, 0], cReq := 0, reqBit := false, safeBit := false,
    slewStart := false, rpathReq := 0, gang := 0, stFail := 0 }

/-- The Seam and Hem after reset; hold-then-safe settings are the ROM defaults (R366, R559). -/
def seamInit : Seam :=
  { up := false, upHelon := false, locked := false, goodUp := 0, goodDn := 0, badUp := 0, badDn := 0, fseq := 0, dnBad := false,
    enterHold := false, seamHold := false, upFrame := none, dnFrame := none, atHelon := none, scSeqUp := 0,
    scSeqDn := 0, scAckUp := 0, scAckDn := 0, packets := [], timed := [], hb := 0, hbHelon := 0, hbRunning := true, hbLost := false,
    hbChangedAt := 0, hold := .none_, holdAt := 0, rampAt := 0, rampCnt := 0, holdTime := 100, safeStep := 0x4000,
    safeDiv := 16, substitute := false, clkGated := false, intlk := false, hemClkOk := true, stgConfigured := false,
    spareFail := 0, lossAt := none, powered := true }

/-- A chain after reset (R499). -/
def chainInit : Nat → Chain := fun _ =>
  { state := .discovering, reason := 0, mods := [], update := none, queue := [], opening := [], retried := false, conflicts := 0,
    echoErr := 0, wbFail := false, lastWbNs := 0, begun := false, discCmd := none, wbCmd := none, wbWant := false, wbNext := 0,
    badPos := 0, badState := .valid,
    overrun := 0 }

/-- A crosspoint set after reset: empty, unlocked, unarmed (R512). -/
def xsetInit : Nat → XSet := fun _ =>
  { chain := 0, members := [], staged := [], armed := false, locked := false, keepOnLoss := false, due := false,
    byEdge := false, lockSkip := 0 }

/-- A route after reset: GATE is ONE (R459). -/
def routeInit : Nat → Route := fun _ =>
  { enable := false, invSrc := false, invGate := false, source := 0, gate := 1, consumers := 0, fault := false, fires := 0 }

/-- A timer after reset. -/
def timerInit : Nat → Timer := fun _ => { enable := false, period := 0, next := 0 }

/-- The fabric after reset (R467). -/
def fabInit : Fabric :=
  { routes := [], attached := [], edges := [], pulses := [], drove := [], fireFrom := 0, overrun := [], ext := 0, since := [],
    stuck := 0, held := 0, fpDir := 0,
    fpPol := 0, starPol := false, stuckMs := 1000, timers := [], configured := false }

/-- A stream after reset: no ring (R319). -/
def streamInit : Stream := { ring := 0xFF, seq := 0, recs := [], takenPairs := 0, takenFour := 0, lost := 0, gap := none, codeErr := 0 }

/-- A sequencer after reset (SEQ_CONFIG, SEQ_STATUS). -/
def seqInit : Nat → Seq := fun c =>
  { state := 0, reason := 0, endAction := 0, trigMode := 0, base := 4096 * c, len := 0, first := 0, waitTimeout := 0,
    cur := 0, entry := 4096 * c, points := 0, repLeft := 0, cnt := [], pend := 0, earlyStops := 0, startIgnored := 0,
    trigOverrun := 0, armErrEntry := 0xFFFFFFFF, armErrCode := 0, lastNs := 0, phase := .none_, tc := 0,
    trigAt := none, waitFrom := 0, rcRun := false, aper := none, startEdge := 0,
    startCmd := none, stopEdge := none, stopHeld := none, armNs := 0, rest := (0, 0, 0), endAt := none }

/-- A handshake engine after reset (HANDLER_CONFIG). -/
def handlerInit : Nat → Handler := fun _ =>
  { state := 0, eotMode := 0, eotWidth := 40, channels := 0, bin := 0, accepted := 0, rejected := 0, readyOn := false,
    eotAt := none, eotEnd := none, readyAt := 0, waits := 0, lastEnd := 0 }

/-- A result channel after reset (RES_CHAN_CONFIG, R322). -/
def resInit : Nat → ResChan := fun _ =>
  { st := streamInit, stream := 0, active := 0, changes := [], aperture := 4000, pre := 0, post := 1, capMode := 0,
    periods := 0, box := none, boxOld := [], seqOld := [], meas := none, cap := .idle, armAt := 0, histFrom := 0, hist := [],
    trigAt := 0, capNext := 0, rearmAt := 0,
    disarm := false, captures := 0, capNum := 0, missed := 0, lastV := 0, lastI := 0 }

/-- An entry of list memory or of the survey table after reset: 32 zero bytes (R269, R377). -/
def entryInit : Nat → List Byte := fun _ => zeros 32

/-- SVY_CONFIG after reset. -/
def svyCfgInit : SvyCfg := { mode := 0, nent := 0, startDelay := 0, timerUs := 0, watchdogUs := 0 }

/-- The survey converter after reset. -/
def svyInit : Survey :=
  { shadow := [], active := [], cfg := svyCfgInit, newCfg := none, run := none, scanning := false, next := 0,
    fallback := false, scanFb := false, fellBack := false, scans := 0, missed := 0, lost := 0, starts := [], urgent := [],
    urgentRan := false, flights := [], last := none, results := [], rails := [], win := [], modeAt := 0, ticks := 0, wdFrom := 0,
    pausedCal := false, pausedPwr := false, pauseAt := 0, faultState := false, pair := pairInit }

/-- Default self-calibration factors of a pair (R394). -/
def pairWcInit : PairWc :=
  { ofsA := 0, ofsB := 0, gainA := 0x800000, gainB := 0x800000, skew := 0, linA := List.replicate 16 0,
    linB := List.replicate 16 0 }

/-- A self-calibration record that lacks VALID. -/
def selfInit : SelfRec := { timeNs := 0, epoch := 0, temp := 0, valid := false, dac := false }

/-- A range record that lacks VALID (R414). -/
def rangeRecInit : Nat → RangeRec := fun _ =>
  { rg := 0, ro := 0, timeNs := 0, epoch := 0, temp := 0, valid := false, traceable := false, stdId := zeros 16 }

/-- A channel record at defaults (R394). -/
def calChanInit : Nat → CalChan := fun _ =>
  { v := pairWcInit, i := pairWcInit, dofs := 0, dgain := 0x800000, seg := List.replicate 63 0, self := selfInit,
    serial := zeros 16, ranges := [], here := false, dacHere := false }

/-- A copy at defaults: as a store copy it has never been written (R413). -/
def calCopyInit : CalCopy :=
  { ok := false, format := 1, crc := 0, seq := 0, writeNs := 0, writeEpoch := 0, svy := pairWcInit, svySelf := selfInit, svyHere := false,
    chans := [] }

/-- Calibration after a COLD power-on: no store copy has been written. -/
def calInit : Cal :=
  { wc := calCopyInit, copy0 := calCopyInit, copy1 := calCopyInit, runs := [], trace := none, defaults := false,
    storeSeq := 0, required := 0, storing := none }

/-- A bank after reset (VEC_BANK_CONFIG). -/
def vbankInit : Nat → VBank := fun _ =>
  { enabled := false, vio := 0, drive := 1, delay := 0, strobe := 128, zUp := false, dcheck := false, dhalt := false, offAt := 0 }

/-- VEC_STATUS of a function that has played nothing. -/
def vstatInit : Nat → VStat := fun _ =>
  { reason := 0, addr := 0, cycles := 0, failCycles := [0, 0, 0, 0], failedPins := 0, firstFail := none, driveErr := 0,
    missed := 0 }

/-- A vector word after reset: 64 zero bytes (R431). -/
def wordInit : Nat → List Byte := fun _ => zeros 64

/-- The resolver at the start of a pattern: every counter 0, every mark undefined (R424). -/
def resolveInit : VResolve := { marks := [0, 0, 0, 0], counters := [0, 0, 0, 0], byLoop := none }

/-- The player after reset. -/
def playerInit : Player :=
  { state := .idle, fn := none, kind := 0, route := 0, startAt := none, pf := [], fetch := none,
    blocked := false, ecc := [], res := resolveInit, word := none, left := 0, edge := 0, pend := 0, pendAt := [], waitIn := 0,
    failedWord := 0,
    failedPat := 0, fails := 0, endFrom := none, pull := [], pins := 0, lastEnd := 0 }

/-- The vector engine after reset: the sample clock is 100 MHz (R425), in binary64 0x4197_D784_0000_0000. -/
def vecEngInit : Vec_ :=
  { banks := [], freq := 100000000, mul := 0x50000000, odiv := 32, edge0 := 0, aligned := false, words := [], segs := [],
    idle := [], idleWas := [], player := playerInit, stats := [], fails := [] }

/-- The device right after reset. What the spec gives no reset value is 0, off or none (DESIGN CHOICE, unsafe, log entries
18, 19). -/
def Dev.reset : Dev :=
  { now := 0, freeCtr := 1, readData := 0, msgs := [], fns := [], tg := tgInit, assign := assignInit,
    link := linkInit, log := logInit, sys := sysInit, store := storeInit, tb := tbInit, stages := [],
    engines := [], chans := [], gangs := [], swapGroups := [], swaps := [], hel := [], seam := seamInit,
    mxChains := [], mxSets := [], fab := fabInit, seqMem := [], seqs := [], handlers := [], results := [],
    svy := svyInit, cal := calInit, vec := vecEngInit }

/-- The machine right after reset: nothing waits and the device has written no host memory. -/
def State.reset : State := { pending := [], mem := [], dev := Dev.reset }

end Sys2Proof.Machine
end

