-- ==== Sys2Proof/Machine/Ops.lean ====
section
/-! DEFINITION. The operations every command is written over: reading and changing one entry of a register group, time,
free values, the error log (R603 to R607), interrupts (R80 to R86), GSTAT, holders, and replies (R92 to R112). -/

namespace Sys2Proof.Machine

/-- The outcome of a step of this machine. -/
abbrev Out := Host.Outcome State Fault Refusal

/-! ### Entries of the register groups -/

/-- A function's registers. -/
def Dev.fn (s : Dev) (f : Nat) : Fn := tblGet fnInit s.fns f
/-- A function's registers changed by `g`. -/
def Dev.modFn (s : Dev) (f : Nat) (g : Fn → Fn) : Dev := { s with fns := tblSet fnInit s.fns f (g (s.fn f)) }
/-- A channel. -/
def Dev.chan (s : Dev) (c : Nat) : Chan := tblGet chanInit s.chans c
/-- A channel changed by `g`. -/
def Dev.modChan (s : Dev) (c : Nat) (g : Chan → Chan) : Dev :=
  { s with chans := tblSet chanInit s.chans c (g (s.chan c)) }
/-- A loop engine. -/
def Dev.eng (s : Dev) (e : Nat) : Engine := tblGet engInit s.engines e
/-- An engine changed by `g`. -/
def Dev.modEng (s : Dev) (e : Nat) (g : Engine → Engine) : Dev :=
  { s with engines := tblSet engInit s.engines e (g (s.eng e)) }
/-- A stage module. -/
def Dev.stage (s : Dev) (m : Nat) : Stage := tblGet stageInit s.stages m
/-- A stage module changed by `g`. -/
def Dev.modStage (s : Dev) (m : Nat) (g : Stage → Stage) : Dev :=
  { s with stages := tblSet stageInit s.stages m (g (s.stage m)) }
/-- Helon's part of a channel. -/
def Dev.helon (s : Dev) (c : Nat) : Helon := tblGet helonInit s.hel c
/-- Helon's part of a channel changed by `g`. -/
def Dev.modHelon (s : Dev) (c : Nat) (g : Helon → Helon) : Dev :=
  { s with hel := tblSet helonInit s.hel c (g (s.helon c)) }
/-- A gang. -/
def Dev.gang (s : Dev) (g : Nat) : Option Gang := tblGet gangInit s.gangs g
/-- Sets a gang. -/
def Dev.setGang (s : Dev) (g : Nat) (v : Option Gang) : Dev := { s with gangs := tblSet gangInit s.gangs g v }
/-- A vector of a function. -/
def Fn.vec (f : Fn) (v : Nat) : Vec := tblGet vecInit f.vecs v
/-- A vector changed by `g`. -/
def Fn.modVec (f : Fn) (v : Nat) (g : Vec → Vec) : Fn := { f with vecs := tblSet vecInit f.vecs v (g (f.vec v)) }
/-- A ring of a function. -/
def Fn.ring (f : Fn) (r : Nat) : Ring := tblGet ringInit f.rings r
/-- A ring changed by `g`. -/
def Fn.modRing (f : Fn) (r : Nat) (g : Ring → Ring) : Fn := { f with rings := tblSet ringInit f.rings r (g (f.ring r)) }
/-- A relay chain. -/
def Dev.chain (s : Dev) (k : Nat) : Chain := tblGet chainInit s.mxChains k
/-- A relay chain changed by `g`. -/
def Dev.modChain (s : Dev) (k : Nat) (g : Chain → Chain) : Dev :=
  { s with mxChains := tblSet chainInit s.mxChains k (g (s.chain k)) }
/-- A crosspoint set. -/
def Dev.xset (s : Dev) (k : Nat) : XSet := tblGet xsetInit s.mxSets k
/-- A crosspoint set changed by `g`. -/
def Dev.modSet (s : Dev) (k : Nat) (g : XSet → XSet) : Dev :=
  { s with mxSets := tblSet xsetInit s.mxSets k (g (s.xset k)) }
/-- An event route. -/
def Dev.route (s : Dev) (r : Nat) : Route := tblGet routeInit s.fab.routes r
/-- The fabric changed by `g`. -/
def Dev.modFab (s : Dev) (g : Fabric → Fabric) : Dev := { s with fab := g s.fab }
/-- An event route changed by `g`. -/
def Dev.modRoute (s : Dev) (r : Nat) (g : Route → Route) : Dev :=
  s.modFab (fun f => { f with routes := tblSet routeInit f.routes r (g (s.route r)) })
/-- The Seam changed by `g`. -/
def Dev.modSeam (s : Dev) (g : Seam → Seam) : Dev := { s with seam := g s.seam }
/-- The reset controller changed by `g`. -/
def Dev.modSys (s : Dev) (g : SysCtl → SysCtl) : Dev := { s with sys := g s.sys }
/-- The timebase changed by `g`. -/
def Dev.modTb (s : Dev) (g : Timebase → Timebase) : Dev := { s with tb := g s.tb }
/-- Tollgate changed by `g`. -/
def Dev.modTg (s : Dev) (g : Tollgate → Tollgate) : Dev := { s with tg := g s.tg }
/-- The log changed by `g`. -/
def Dev.modLog (s : Dev) (g : Log → Log) : Dev := { s with log := g s.log }
/-- The store changed by `g`. -/
def Dev.modStore (s : Dev) (g : Store → Store) : Dev := { s with store := g s.store }
/-- A sequencer. -/
def Dev.seq (s : Dev) (c : Nat) : Seq := tblGet seqInit s.seqs c
/-- A sequencer changed by `g`. -/
def Dev.modSeq (s : Dev) (c : Nat) (g : Seq → Seq) : Dev :=
  { s with seqs := tblSet seqInit s.seqs c (g (s.seq c)) }
/-- An entry of list memory. -/
def Dev.listEntry (s : Dev) (i : Nat) : List Byte := tblGet entryInit s.seqMem i
/-- A handshake engine. -/
def Dev.handler (s : Dev) (h : Nat) : Handler := tblGet handlerInit s.handlers h
/-- A handshake engine changed by `g`. -/
def Dev.modHandler (s : Dev) (h : Nat) (g : Handler → Handler) : Dev :=
  { s with handlers := tblSet handlerInit s.handlers h (g (s.handler h)) }
/-- A result channel. -/
def Dev.res (s : Dev) (c : Nat) : ResChan := tblGet resInit s.results c
/-- A result channel changed by `g`. -/
def Dev.modRes (s : Dev) (c : Nat) (g : ResChan → ResChan) : Dev :=
  { s with results := tblSet resInit s.results c (g (s.res c)) }
/-- The survey converter changed by `g`. -/
def Dev.modSvy (s : Dev) (g : Survey → Survey) : Dev := { s with svy := g s.svy }
/-- Calibration changed by `g`. -/
def Dev.modCal (s : Dev) (g : Cal → Cal) : Dev := { s with cal := g s.cal }
/-- The vector engine changed by `g`. -/
def Dev.modVec (s : Dev) (g : Vec_ → Vec_) : Dev := { s with vec := g s.vec }
/-- The vector player changed by `g`. -/
def Dev.modPlayer (s : Dev) (g : Player → Player) : Dev := s.modVec (fun v => { v with player := g v.player })
/-- A vector bank. -/
def Dev.vbank (s : Dev) (b : Nat) : VBank := tblGet vbankInit s.vec.banks b
/-- VEC_STATUS fields of a function. -/
def Dev.vstat (s : Dev) (f : Nat) : VStat := tblGet vstatInit s.vec.stats f
/-- VEC_STATUS fields of a function changed by `g`. -/
def Dev.modVstat (s : Dev) (f : Nat) (g : VStat → VStat) : Dev :=
  s.modVec (fun v => { v with stats := tblSet vstatInit v.stats f (g (s.vstat f)) })
/-- Runs `f` for every number of a list. -/
def Dev.forAll (s : Dev) (l : List Nat) (f : Dev → Nat → Dev) : Dev := l.foldl f s

/-! ### Time -/

/-- The clock moves forward to `t`; it never goes back. -/
def Dev.advance (s : Dev) (t : Nat) : Dev := { s with now := max s.now t }
/-- One conversion tick in ps. -/
def tickPs : Nat := 25000
/-- The loop period in ps (R477). -/
def Dev.periodPs (s : Dev) : Nat := s.tb.d * tickPs
/-- The timebase runs: the sequence did not reset it, or it has been released with the Seam (R560; log entry 57). -/
def Dev.tbRuns (s : Dev) : Bool :=
  decide (s.sys.scope ≥ 3)
    || (match s.sys.phase with | .held => false | .loading => false | .releasing n => decide (n ≥ 3) | _ => true)
/-- MONO at an instant, in 1/256 ns (R486); 0 before the timebase runs. -/
def Dev.monoAt (s : Dev) (t : Nat) : Nat := if s.tbRuns then (t - s.tb.monoZero) * 256 / 1000 else 0
/-- TIME minus MONO and EPOCH in force at an instant: those of before the first step that came later (R489). -/
def Dev.stepAt (s : Dev) (t : Nat) : Int × Nat :=
  match s.tb.steps.reverse.find? (fun x => decide (t < x.1)) with | some x => x.2 | none => (s.tb.stepOff, s.tb.epoch)
/-- Device time at an instant, in 1/256 ns (R485, R489). -/
def Dev.timeAt (s : Dev) (t : Nat) : Nat := ((s.monoAt t : Int) + (s.stepAt t).1).toNat
/-- EPOCH at an instant (R489). -/
def Dev.epochAt (s : Dev) (t : Nat) : Nat := (s.stepAt t).2
/-- TIME_NS at an instant. -/
def Dev.nsAt (s : Dev) (t : Nat) : Nat := s.timeAt t / 256 % 2 ^ 64
/-- TIME_NS. -/
def Dev.timeNs (s : Dev) : Nat := s.nsAt s.now
/-- FRAC. -/
def Dev.timeFrac (s : Dev) : Nat := s.timeAt s.now % 256
/-- MONO_NS. -/
def Dev.monoNs (s : Dev) : Nat := s.monoAt s.now / 256
/-- The first instant of a grid through `a` with period `p` that is not before `lo` (R481). -/
def gridAfter (a lo p : Nat) : Nat := a + ceilDiv (lo - a) p * p
/-- The next sample instant (R477, R481). -/
def Dev.nextSample (s : Dev) : Nat := s.tb.stretched.getD (s.tb.lastSample + s.periodPs)
/-- The first sample instant at or after `t`. -/
def Dev.boundaryAt (s : Dev) (t : Nat) : Nat :=
  let n := s.nextSample
  if t ≤ n then n else n + ceilDiv (t - n) s.periodPs * s.periodPs
/-- The first sample instant at least `us` µs from now. -/
def Dev.boundaryIn (s : Dev) (us : Nat) : Nat := s.boundaryAt (s.now + us * 1000000)

/-- The first instant at or after `t` of a grid of period `p` that passes through `a`. -/
def gridEdge (a t p : Nat) : Nat := t + (a % p + p - t % p) % p
/-- The first conversion-clock edge at or after `t` (R476). The cycle before `edgeBase` is the stretched one (R481). -/
def Dev.edgeAt (s : Dev) (t : Nat) : Nat :=
  if s.tb.edgeBase ≤ t then gridEdge s.tb.edgeBase t tickPs
  else
    let e := gridEdge s.tb.edgeWas t tickPs
    if e + tickPs ≤ s.tb.edgeBase then e else s.tb.edgeBase
/-- The first edge of the 100 MHz phase clock at or after `t`: its edges lie 10 ns apart, and every fifth meets every second
conversion-clock edge of a grid that no SKEW has moved (R476). -/
def phaseEdge (t : Nat) : Nat := gridEdge 0 t 10000
/-- The first conversion-clock edge after `t`: the one that ends the tick in which `t` lies. -/
def Dev.edgeAfter (s : Dev) (t : Nat) : Nat := s.edgeAt (t + 1)

/-- A rate change is pending (R478). -/
def Dev.ratePending (s : Dev) : Bool := s.tb.rateD.isSome

/-! ### Free values -/

/-- The next free 32-bit value. -/
def Dev.freeVal (s : Dev) : Nat := (Config.freeWord s.freeCtr).toNat
/-- The free counter moves on. -/
def Dev.freeNext (s : Dev) : Dev := { s with freeCtr := s.freeCtr + 1 }

/-! ### Statuses (R117) -/

/-- ST_OK. -/
def stOk : Nat := 0
/-- ST_PENDING. -/
def stPending : Nat := 1
/-- ST_OPCODE. -/
def stOpcode : Nat := 2
/-- ST_ARG. -/
def stArg : Nat := 3
/-- ST_OWNERSHIP. -/
def stOwnership : Nat := 4
/-- ST_STATE. -/
def stState : Nat := 5
/-- ST_RESOURCE. -/
def stResource : Nat := 6
/-- ST_STALE. -/
def stStale : Nat := 7
/-- ST_LOCKED. -/
def stLocked : Nat := 8
/-- ST_WORN. -/
def stWorn : Nat := 9
/-- ST_INTEGRITY. -/
def stIntegrity : Nat := 10
/-- ST_TIMEOUT. -/
def stTimeout : Nat := 11
/-- ST_AUTHORITY. -/
def stAuthority : Nat := 12
/-- ST_CAL_PLAUS. -/
def stCalPlaus : Nat := 13
/-- ST_CAL_AGREE. -/
def stCalAgree : Nat := 14
/-- ST_NOT_READY. -/
def stNotReady : Nat := 15

/-! ### The error log (R603 to R607) -/

/-- What an occurrence names: the columns of R604. -/
structure LogKey where
  code : Nat
  subsys : Nat
  severity : Nat
  rkind : Nat
  rindex : Nat
deriving DecidableEq, Repr

/-- An entry an occurrence is identical to (R605). -/
def LogEntry.same (e : LogEntry) (k : LogKey) (now : Nat) : Bool :=
  e.code == k.code && e.subsys == k.subsys && e.severity == k.severity && e.rkind == k.rkind
    && e.rindex == k.rindex && decide (now ≤ e.firstPs + 1000000000) && !e.final_

/-- One more occurrence in an entry: COUNT saturates, LAST_DT in units of 16 ns (R603, R605). -/
def LogEntry.bump (e : LogEntry) (now : Nat) : LogEntry :=
  { e with count := min (e.count + 1) 0xFFFF, lastDt := min ((now - e.firstPs) / 16000) 0xFFFF }

/-- The first entry of a list that meets `p` changed by `g`. -/
def updFirst {α : Type} (p : α → Bool) (g : α → α) (l : List α) : List α :=
  match l with
  | [] => []
  | a :: r => if p a then g a :: r else a :: updFirst p g r

/-- The instant that the log records: in DEEP the device time has a resolution of 40 ns (R470, R603). -/
def Dev.logInstant (s : Dev) : Nat := if s.sys.power = 3 then s.now / 40000 * 40000 else s.now

/-- An occurrence enters the log: it coalesces, enters the FIFO, or counts in LOST (R605, R606); one of DEEP is COARSE (R603). -/
def Dev.logIt (s : Dev) (k : LogKey) (detail : Nat) (eflags : Nat := 0) : Dev :=
  let same := fun (e : LogEntry) => e.same k s.now
  let sameR := fun (p : Nat × Option LogEntry) => match p.2 with | some e => same e | none => false
  if s.log.fifo.any same then
    s.modLog (fun l => { l with fifo := updFirst same (·.bump s.now) l.fifo })
  else if s.log.ring.any sameR then
    s.modLog (fun l => { l with ring := updFirst sameR (fun p => (p.1, p.2.map (·.bump s.now))) l.ring })
  else if s.log.fifo.length ≥ 64 then
    s.modLog (fun l => { l with lost := min (l.lost + 1) 0xFFFFFFFF })
  else
    s.modLog (fun l => { l with fifo := l.fifo ++ [
      { timeNs := s.nsAt s.logInstant, epoch := s.epochAt s.logInstant, subsys := k.subsys, severity := k.severity, code := k.code,
        count := 1, rkind := k.rkind, eflags := eflags ||| bitAt (s.sys.power == 3) 2, lastDt := 0, rindex := k.rindex, detail := detail,
        firstPs := s.now, final_ := false }] })

/-! ### Interrupts (R80 to R86) -/

/-- The vector of a cause bit (R80); none for a bit the function does not have. -/
def vecOf (f bitNo : Nat) : Option Nat :=
  if f = 0 then
    (if bitNo < 2 then some bitNo else if bitNo < 4 then some 2 else if bitNo < 8 then some 3
     else if bitNo < 16 then some (4 + (bitNo - 8)) else if bitNo = 16 then some 12
     else if bitNo = 17 then some 13 else none)
  else
    (if bitNo < 2 then some bitNo else if bitNo < 4 then some 2 else if bitNo < 8 then some 3
     else if bitNo < 16 then some (4 + (bitNo - 8) / 2) else none)

/-- The cause bits of a vector, as a map. -/
def vecBits (f v : Nat) : Nat := bitMap (fun b => vecOf f b == some v) 18

/-- A vector is armed while one of its cause bits is 1 with its mask bit 1 (R83), or a direct edge waits (R81). -/
def Fn.armed (r : Fn) (f v : Nat) : Bool :=
  (r.irqCause &&& r.irqMask &&& vecBits f v) != 0 || (r.vec v).edge

/-- A message of a vector is sent, or sets the PBA bit where a mask blocks it (R83, R86); the count and timer reset. -/
def Dev.signal (s : Dev) (f v : Nat) : Dev :=
  let r := s.fn f
  let clear := fun (x : Vec) => { x with count := 0, start := none }
  if !r.msixEnable || r.flr != .idle then s.modFn f (fun r => r.modVec v clear)
  else if r.funcMask || (r.vec v).mask then
    s.modFn f (fun r => r.modVec v (fun x => { clear x with pba := true }))
  else
    { s.modFn f (fun r => r.modVec v (fun x => { clear x with pba := false, edge := false })) with
      msgs := (f, v) :: s.msgs }

/-- The function that an occurrence for `f` reaches: PF0 while the reset of `f` runs (R537). -/
def Dev.irqTarget (s : Dev) (f : Nat) : Nat := if (s.fn f).flr == .idle then f else 0

/-- One occurrence of a cause on a function (R82, R83, R537). -/
def Dev.irq (s : Dev) (f bitNo : Nat) : Dev :=
  let f := s.irqTarget f
  match vecOf f bitNo with
  | none => s
  | some v =>
    let s1 := s.modFn f (fun r => { r with irqCause := r.irqCause ||| 2 ^ bitNo })
    if (s1.fn f).irqMask.testBit bitNo then
      let s2 := s1.modFn f (fun r => r.modVec v (fun x =>
        { x with count := x.count + 1, start := some (x.start.getD s.now) }))
      let x := (s2.fn f).vec v
      if x.holdoff = 0 || x.count ≥ max 1 x.countReg.toNat then s2.signal f v else s2
    else s1

/-- Cause bits by name (R80). -/
def irqMbx : Nat := 0
/-- EVENT. -/
def irqEvent : Nat := 1
/-- CHAN. -/
def irqChan : Nat := 2
/-- SEQ. -/
def irqSeq : Nat := 3
/-- ERROR. -/
def irqError : Nat := 4
/-- TIME. -/
def irqTime : Nat := 5
/-- SURVEY. -/
def irqSurvey : Nat := 6
/-- MATRIX. -/
def irqMatrix : Nat := 7
/-- GLOBAL. -/
def irqGlobal : Nat := 16
/-- SESSION. -/
def irqSession : Nat := 17

/-- The functions that exist: PF0 and the enabled VFs. -/
def Dev.functions (s : Dev) : List Nat :=
  0 :: (if s.link.vfEnable then (List.range s.link.numVfs).map (· + 1) else [])

/-- One occurrence for every function. -/
def Dev.irqEvery (s : Dev) (bitNo : Nat) : Dev := s.forAll s.functions (fun s f => s.irq f bitNo)

/-! ### Part and holders -/

/-- Channels the variant enables (R2). -/
def Dev.nChan (s : Dev) : Nat := s.sys.opt.channels
/-- Option V. -/
def Dev.optV (s : Dev) : Bool := s.sys.opt.options.testBit 0
/-- Option M. -/
def Dev.optM (s : Dev) : Bool := s.sys.opt.options.testBit 1
/-- Option T. -/
def Dev.optT (s : Dev) : Bool := s.sys.opt.options.testBit 2
/-- Option G. -/
def Dev.optG (s : Dev) : Bool := s.sys.opt.options.testBit 3
/-- TotalVFs (R55). -/
def Dev.totalVfs (s : Dev) : Nat := if s.optT then 1024 else 16
/-- The function that holds a channel. -/
def Dev.chanHolder (s : Dev) (c : Nat) : Nat := tblGet holderInit s.assign.chan c
/-- A channel's pair runs on one core: DEGRADED, an occurrence of CHAN where it was not set (R80, R241). -/
def Dev.setDegraded (s : Dev) (c : Nat) : Dev :=
  let s1 := s.modChan c (fun x => { x with degraded := true })
  if (s.chan c).degraded then s1 else s1.irq (s.chanHolder c) irqChan
/-- The function that holds a route. -/
def Dev.routeHolder (s : Dev) (r : Nat) : Nat := tblGet holderInit s.assign.route r
/-- The function that holds a vector pin. -/
def Dev.pinHolder (s : Dev) (p : Nat) : Nat := tblGet holderInit s.assign.pin p
/-- The function that holds a vector segment. -/
def Dev.segHolder (s : Dev) (i : Nat) : Nat := tblGet holderInit s.assign.seg i
/-- The function that holds a trigger line: 0 to 7 bus, 8 star, 9 to 12 front panel. -/
def Dev.lineHolder (s : Dev) (l : Nat) : Nat := tblGet holderInit s.assign.line l
/-- The function that holds a crosspoint set. -/
def Dev.setHolder (s : Dev) (k : Nat) : Nat := tblGet holderInit s.assign.set k

/-- The gang a channel is in, by identifier and content. -/
def Dev.gangOf (s : Dev) (c : Nat) : Option (Nat × Gang) :=
  s.gangs.findSome? (fun p => match p.2 with | some g => if g.members.testBit c then some (p.1, g) else none | none => none)
/-- Whether a channel is a gang member that is not the leader. -/
def Dev.follower (s : Dev) (c : Nat) : Bool := match s.gangOf c with | some p => p.2.leader != c | none => false
/-- The channels that act with a channel: its gang's members, or itself. -/
def Dev.team (s : Dev) (c : Nat) : List Nat :=
  match s.gangOf c with | some p => bitsSet p.2.members 64 | none => [c]

/-! ### GSTAT -/

/-- GSTAT's fields [11:0] (spec/02_host_link.md). -/
def Dev.gstatLow (s : Dev) : Nat :=
  bitAt (s.fn 0).ready 0 + bitAt s.sys.optDefaults 1 + bitAt (s.store.executing == 1) 2 + bitAt s.seam.up 3
    + bitAt (s.tb.tstate == .locked) 4 + bitAt ((List.range 64).any (fun c => (s.chan c).tripped)) 5
    + bitAt s.sys.thermalWarn 6 + bitAt (s.store.degraded != 0) 7 + bitAt s.seam.intlk 8
    + bitAt s.cal.defaults 9 + 1024 * s.sys.power

/-- Changed GSTAT bits set GSTAT_CHG, each an occurrence of GLOBAL; bit 10 stands for any change of PWR_STATE. -/
def Dev.gstatNote (new old : Dev) : Dev :=
  let d := Nat.xor new.gstatLow old.gstatLow
  let d := if d / 1024 % 4 ≠ 0 then d ||| 1024 else d
  if d = 0 then new
  else (bitsSet d 12).foldl (fun s i =>
    (s.modSys (fun y => { y with gstatChg := y.gstatChg ||| 2 ^ i })).irq 0 irqGlobal) new

/-- A change that GSTAT may show. -/
def Dev.withGstat (s : Dev) (g : Dev → Dev) : Dev := (g s).gstatNote s

/-! ### Replies and commands in progress (R92 to R112) -/

/-- Whether a request came through the doorbell. -/
def Job.doorbell (j : Job) : Bool := j.q.ring.isNone

/-- The issuing function. -/
def Job.f (j : Job) : Nat := j.q.fn.val

/-- A request's service time, begun at `arrival`, ends now: MAX_SERVICE_NS keeps the longest (R113). -/
def Dev.served (s : Dev) (f : Nat) (arrival : Option Nat) : Dev :=
  match arrival with
  | none => s
  | some a => s.modFn f (fun x => { x with maxService := max x.maxService (min ((s.now - a) / 1000) 0xFFFFFFFF) })

/-- Queues one reply of a job: to the window's queue, or as its ring entry's reply (R99, R103, R105). `final`: it completes
a command that was pending, whose service time has ended (R113). -/
def Dev.post (s : Dev) (j : Job) (status : Nat) (payload : List Byte) (final last : Bool) : Dev :=
  let r : Reply := { op := BitVec.ofNat 16 j.op, tag := j.q.tag, status := BitVec.ofNat 16 status, final := final,
                     last := last, payload := payload, arrival := if final then none else some j.arrival }
  match j.q.ring with
  | none => s.modFn j.q.fn.val (fun f => { f with replies := f.replies ++ [r] })
  | some e => s.modFn j.q.fn.val (fun f =>
      { f with ringReplies := f.ringReplies ++ [{ entry := e, reply := { r with final := false }, notify := j.q.flags.getLsbD 1 }] })

/-- A command's final reply is issued and it leaves the pending list (R99, R103, R112). -/
def Dev.finalReply (s : Dev) (r : Running) (status : Nat) (payload : List Byte) : Dev :=
  let s1 := s.modTg (fun t => { t with running := t.running.filter (fun x => x.job.id != r.job.id) })
  if r.silent then s1
  else
    (s1.post r.job status payload (!r.direct) true).modFn r.job.f (fun f => { f with completed := (f.completed + 1) % 2 ^ 32 })

/-- The doorbell commands of a function that have finished and whose final replies are not yet queued, in the order in
which they finished. -/
def Dev.finished (s : Dev) (f : Nat) : List Running :=
  s.tg.running.filter (fun r => r.job.f == f && r.job.doorbell && r.result.isSome)

/-- The final replies of commands that have finished are queued in the order of a list. -/
def Dev.settleAll (s : Dev) (l : List Running) : Dev :=
  l.foldl (fun s r => match r.result with | some p => s.finalReply r p.1 p.2 | none => s) s

/-- A pending command leaves with its final reply, after the doorbell commands of its function that finished before it
(R99). -/
def Dev.leaves (s : Dev) (r : Running) (status : Nat) (payload : List Byte) : Dev :=
  (if r.job.doorbell then s.settleAll ((s.finished r.job.f).takeWhile (fun x => x.job.id != r.job.id)) else s).finalReply r
    status payload

/-- Before a later reply of a function is queued, those of its finished commands are (R99). -/
def Dev.settle (s : Dev) (f : Nat) : Dev := s.settleAll (s.finished f)

/-- A command ends at once with its one reply. -/
def Dev.done (s : Dev) (j : Job) (status : Nat) (payload : List Byte) : Dev :=
  let s1 := if j.doorbell then s.settle j.f else s
  (s1.post j status payload false true).modFn j.q.fn.val (fun f => { f with completed := (f.completed + 1) % 2 ^ 32 })

/-- A command stays pending: a doorbell command answers ST_PENDING with a free EST_US (R93, R111); a ring entry's service
time ends here too (R113). -/
def Dev.pend (s : Dev) (j : Job) (started : Bool) (names : List Res) (data : List Int) : Dev :=
  let s1 := if j.doorbell then ((s.settle j.f).post j stPending (w32 s.freeVal) false false).freeNext
    else s.served j.f (some j.arrival)
  s1.modTg (fun t => { t with running := t.running ++
    [{ job := j, started := started, names := names, data := data, result := none, silent := false, direct := false }] })

/-- A command runs on to an instant within its service bound: it has made no reply yet (R111). -/
def Dev.hold (s : Dev) (j : Job) (names : List Res) (data : List Int) : Dev :=
  s.modTg (fun t => { t with running := t.running ++
    [{ job := j, started := true, names := names, data := data, result := none, silent := false, direct := true }] })

/-- A pending command by its id. -/
def Dev.running? (s : Dev) (id : Nat) : Option Running := s.tg.running.find? (fun r => r.job.id == id)

/-- A pending command has completed: its final reply may be issued. The first result stands. A command that finishes moves
behind those that finished before it, so the list keeps the finishing order (R99). -/
def Dev.finish (s : Dev) (id : Nat) (status : Nat) (payload : List Byte) : Dev :=
  match s.running? id with
  | none => s
  | some r =>
    if r.result.isSome then s
    else
      let l := s.tg.running.filter (fun x => x.job.id != id) ++ [{ r with result := some (status, payload) }]
      s.modTg (fun t => { t with running := l })

/-- As `finish`, for the command of an activity that may have none. -/
def Dev.finish? (s : Dev) (id : Option Nat) (status : Nat) (payload : List Byte) : Dev :=
  match id with
  | some i => s.finish i status payload
  | none => s

/-- Working data of a pending command replaced. -/
def Dev.setData (s : Dev) (id : Nat) (d : List Int) : Dev :=
  s.modTg (fun t => { t with running := updFirst (fun r => r.job.id == id) (fun r => { r with data := d }) t.running })

/-- A number added to the working data of a pending command. -/
def Dev.addData (s : Dev) (id : Nat) (v : Int) : Dev :=
  s.modTg (fun t => { t with running := updFirst (fun r => r.job.id == id) (fun r => { r with data := r.data ++ [v] }) t.running })

/-! ### The machine's state around the device -/

/-- A change of the device alone. -/
def State.on (s : State) (g : Dev → Dev) : State := { s with dev := g s.dev }

/-! ### Host memory -/

/-- A byte of host memory becomes `b`. -/
def memWrite (m : List Host.Cell) (a : Nat) (b : Byte) : List Host.Cell := tblInsert a b (tblErase a m)

/-- Bytes written to host memory from address `a`; addresses have 64 bits. -/
def memWriteBytes (m : List Host.Cell) (a : Nat) (p : List Byte) : List Host.Cell :=
  match p with
  | [] => m
  | b :: r => memWriteBytes (memWrite m (a % 2 ^ 64) b) (a + 1) r

/-- Memory writes in order: address and bytes of each. -/
def memWrites (m : List Host.Cell) (ws : List (Nat × List Byte)) : List Host.Cell :=
  ws.foldl (fun m w => memWriteBytes m w.1 w.2) m

/-- A change of the device together with memory writes it sends to the host. -/
def State.onWith (s : State) (r : Dev × List (Nat × List Byte)) : State :=
  { s with mem := memWrites s.mem r.2, dev := r.1 }

/-- What the device has written to a byte of host memory, if anything. -/
def memRead (m : List Host.Cell) (a : Nat) : Option Byte := (m.find? (fun c => c.1 == a)).map (·.2)

/-- The canonical form of host memory: addresses strictly rising. -/
def memOkFrom (lo : Nat) (m : List Host.Cell) : Bool :=
  match m with
  | [] => true
  | c :: r => decide (lo ≤ c.1) && memOkFrom (c.1 + 1) r

/-- Host memory is in its canonical form. -/
def Memory.wf (m : List Host.Cell) : Bool := memOkFrom 0 m

end Sys2Proof.Machine
end

