-- ==== Sys2Proof/Machine/Mailbox.lean ====
section
/-! DEFINITION. The command protocol (spec/03_mailbox.md): what a command sheet consists of, the checks of a request in
order (R94), waiting (R106 to R108), starting, and replies. Every mailbox command is one `Cmd` run by `runCmd`. -/

namespace Sys2Proof.Machine

/-- How a command's execution ends: with a status and payload, or later, with working data (R111). -/
inductive Result where
  /-- A final status with its payload. -/
  | done (status : Nat) (payload : List Byte)
  /-- ST_PENDING: it completes later. -/
  | later (data : List Int)
  /-- It completes at an instant within the service bound, with its one reply (R111). -/
  | soon (data : List Int)
deriving DecidableEq, Repr

/-- The option a command needs (R4). -/
inductive Opt where
  /-- None. -/
  | none_
  /-- Vector engine. -/
  | v
  /-- Matrix. -/
  | m
  /-- Ganging. -/
  | g
deriving DecidableEq, Repr

/-- A command sheet: checks 2 to 9 of R94 and the execution. A check answers true when it passes; `state` answers the
status of check 9, ST_OK when it passes. `names` are the resources of R107. `preempt` is what happens when the command
has to wait (R142, R222). -/
structure Cmd where
  op : Nat
  owner : Bool := false
  opt : Opt := .none_
  len : Option Nat
  args : Dev → Job → Bool := fun _ _ => true
  held : Dev → Job → Bool := fun _ _ => true
  ready : Dev → Job → Bool := fun _ _ => true
  unlocked : Dev → Job → Bool := fun _ _ => true
  state : Dev → Job → Nat := fun _ _ => 0
  names : Dev → Job → List Res := fun _ _ => []
  preempt : Dev → Job → Dev := fun s _ => s
  body : Dev → Job → Dev × Result

/-- The payload bytes a command reads: exactly LENGTH (R91). -/
def Job.p (j : Job) : List Byte := j.q.payload.take j.q.len

/-- Whether the option a command needs is present (R4). -/
def Dev.hasOpt (s : Dev) (o : Opt) : Bool :=
  match o with | .none_ => true | .v => s.optV | .m => s.optM | .g => s.optG

/-- Check 1: LENGTH, FLAGS and the reserved header field (R89, R90). -/
def headerOk (j : Job) : Bool :=
  decide (j.q.len ≤ 240) && decide (j.q.flags.toNat < (if j.doorbell then 2 else 4)) && j.q.rsv == 0#64

/-- In recovery only groups 0x01, 0x0E and 0x0F execute (R584). -/
def recoveryOk (s : Dev) (op : Nat) : Bool :=
  !s.store.recovery || op / 256 == 0x01 || op / 256 == 0x0E || op / 256 == 0x0F

/-- Checks 1 to 8 of R94, in order: the status of the first that fails. -/
def firstFail (c : Cmd) (s : Dev) (j : Job) : Option Nat :=
  if !headerOk j then some stArg
  else if !s.hasOpt c.opt then some stOpcode
  else if c.owner && j.f != 0 then some stOwnership
  else if (match c.len with | some n => j.q.len != n | none => false) then some stArg
  else if !c.args s j then some stArg
  else if !c.held s j then some stOwnership
  else if !(recoveryOk s c.op && c.ready s j) then some stNotReady
  else if !c.unlocked s j then some stLocked
  else none

/-- A pending command that has not completed. -/
def Running.live (r : Running) : Bool := r.result.isNone

/-- Whether a command may start: the order of its transport (R106), a fence (R108), its resources (R107). -/
def mayStart (s : Dev) (j : Job) (names : List Res) : Bool :=
  let earlier := s.tg.running.filter (fun r => r.live && decide (r.job.id < j.id))
  let mine := earlier.filter (fun r => r.job.f == j.f)
  mine.all (fun r => r.started || r.job.doorbell != j.doorbell)
    && (!j.q.flags.getLsbD 0 ||
        (mine.isEmpty && s.tg.waiting.all (fun w => w.f != j.f || decide (w.id ≥ j.id))))
    && (s.tg.running.filter (fun r => r.live && (r.started || decide (r.job.id < j.id)))).all
        (fun r => r.job.id == j.id || names.all (fun n => !r.names.contains n))

/-- A check against values that an earlier command may still change: it is made when the command can start (R223). -/
def atStart (s : Dev) (j : Job) (names : List Res) (ok : Bool) : Bool := !mayStart s j names || ok

/-- Check 9 and execution (R94): one reply, or ST_PENDING. -/
def startCmd (c : Cmd) (s : Dev) (j : Job) : Dev :=
  let st := c.state s j
  if st ≠ 0 then s.done j st []
  else
    let r := c.body s j
    match r.2 with
    | .done status p => r.1.done j status p
    | .later d => r.1.pend j true (c.names s j) d
    | .soon d => r.1.hold j (c.names s j) d

/-- Firmware serves a request: the checks, then start or wait (R94, R106 to R108). -/
def runCmd (c : Cmd) (s : Dev) (j : Job) : Dev :=
  match firstFail c s j with
  | some st => s.done j st []
  | none =>
    if mayStart s j (c.names s j) then startCmd c s j
    else
      let s1 := c.preempt s j
      if mayStart s1 j (c.names s1 j) then startCmd c s1 j else s1.pend j false (c.names s1 j) []

/-- A command that waited starts: the checks are made against the present state, and its end is a result (R107). -/
def releaseCmd (c : Cmd) (s : Dev) (r : Running) : Dev :=
  let j := r.job
  if !r.live || r.started || !mayStart s j (c.names s j) then s
  else
    let mark := fun (s : Dev) (names : List Res) => s.modTg (fun t =>
      { t with running := updFirst (fun x => x.job.id == j.id) (fun x => { x with started := true, names := names }) t.running })
    match firstFail c s j with
    | some st => (mark s []).finish j.id st []
    | none =>
      let st := c.state s j
      if st ≠ 0 then (mark s []).finish j.id st []
      else
        let e := c.body s j
        match e.2 with
        | .done status p => (mark e.1 []).finish j.id status p
        | .later d => (mark e.1 (c.names s j)).setData j.id d
        | .soon d => (mark e.1 (c.names s j)).setData j.id d

/-- The job of a request that firmware takes now. -/
def Dev.jobOf (s : Dev) (op : Nat) (q : Req) : Job :=
  { id := s.tg.nextId, op := op, q := q, arrival := s.now, stamp := s.timeAt s.now, epoch := s.tb.epoch,
    eff := (s.fn q.fn.val).cls, weight := (s.fn q.fn.val).weight, ages := s.tg.ages, agedAt := s.now }

/-- Takes the next command number. -/
def Dev.nextJob (s : Dev) : Dev := s.modTg (fun t => { t with nextId := t.nextId + 1 })

/-- Whether firmware serves a function's mailbox (R113, R114). -/
def Dev.serves (s : Dev) (f : Nat) : Bool := (s.fn f).enabled && (s.fn f).ready

/-- A memory write to BAR0 in DEEP wakes the device; during DEEP entry it is latched (R573, R574). -/
def Dev.wakeBy (s : Dev) (code : Nat) : Dev :=
  if s.sys.deepEntering then s.modSys (fun y => { y with wakeLatched := some (y.wakeLatched.getD code) })
  else if s.sys.power = 3 && s.sys.waking.isNone then
    s.modSys (fun y => { y with waking := some code, wakeCause := code })
  else s

/-- Whether host accesses reach a function's registers: it exists and is not in function-level reset (R538). -/
def Dev.reachable (s : Dev) (f : Nat) : Bool := (s.fn f).enabled && (s.fn f).flr == .idle

/-- The mailbox credits in use: requests that firmware serves, from taking them up to their first reply (R543; DEDUCED, log
entry 144). A function in reset gives its credits back in step 5 of R536. -/
def Dev.credits (s : Dev) : List Running :=
  let kept := fun (f : Nat) => (s.fn f).flr == .drain || (s.fn f).flr == .completions || (s.fn f).flr == .resources
  s.tg.running.filter (fun r => r.direct && r.live && (!r.silent || kept r.job.f))

/-- Tollgate has a mailbox credit for a function: at most 64 in all and 16 of one function (R543). -/
def Dev.mailCredit (s : Dev) (f : Nat) : Bool :=
  decide (s.credits.length < 64) && decide ((s.credits.filter (fun r => r.job.f == f)).length < 16)

/-- A request that firmware may take up as it arrives: not in DEEP, with a credit, and no request of the same transport of its
function waits before it (R106, R108, R543, R573). -/
def Dev.takesNow (s : Dev) (j : Job) : Bool :=
  decide (s.sys.power ≠ 3) && s.mailCredit j.f && s.tg.waiting.all (fun w => w.f != j.f || w.doorbell != j.doorbell)

/-- The device as it takes a request in: a doorbell write is a wake cause, in DEEP and while it is entered (R573, R574). -/
def Dev.taken (s : Dev) (q : Req) : Dev :=
  (if s.sys.power = 3 || (s.sys.deepEntering && q.ring.isNone) then s.wakeBy 1 else s).nextJob

/-- A mailbox command row: the request reaches a served mailbox, and firmware runs it at once or it waits in Tollgate; else a
doorbell is refused with REJECT (R64) and a ring entry is not fetched. -/
def Dev.command (s : Dev) (c : Cmd) (q : Req) : Dev :=
  let f := q.fn.val
  if s.serves f then
    let j := s.jobOf c.op q
    if s.takesNow j then runCmd c (s.taken q) j else (s.taken q).modTg (fun t => { t with waiting := t.waiting ++ [j] })
  else if q.ring.isNone && s.reachable f then s.modFn f (fun f => { f with reject := true })
  else s

/-! ### Registers of the doorbell transport (R63 to R65, R96 to R99) -/

/-- BUSY (R63). -/
def Dev.busy (s : Dev) (f : Nat) : Bool := decide (s.now < (s.fn f).busyUntil)

/-- Outstanding doorbell requests of a function (R96). -/
def Dev.outstanding (s : Dev) (f : Nat) : Nat :=
  (s.tg.waiting.filter (fun j => j.f == f && j.doorbell)).length
    + (s.tg.running.filter (fun r => r.job.f == f && r.job.doorbell && !r.silent)).length
    + ((s.fn f).replies.filter (·.last)).length + bit ((s.fn f).reply && (s.fn f).shownLast)

/-- Ring entries of a function in service (R102). -/
def Dev.inService (s : Dev) (f : Nat) : Nat :=
  (s.tg.waiting.filter (fun j => j.f == f && !j.doorbell)).length
    + (s.tg.running.filter (fun r => r.job.f == f && !r.job.doorbell && !r.silent)).length + (s.fn f).ringReplies.length

/-- A window as bytes. -/
def winBytes (w : Tbl W32) : List Byte := (List.range 64).flatMap (fun i => w32 (tblGet (fun _ => 0) w i).toNat)

/-- The request that 256 bytes spell (R89). -/
def reqOf (f : FnId) (ring : Option Nat) (b : List Byte) : Nat × Req :=
  (u16 b 0, { fn := f, ring := ring, tag := BitVec.ofNat 16 (u16 b 2), flags := BitVec.ofNat 16 (u16 b 6), len := u16 b 4,
              rsv := BitVec.ofNat 64 (u64 b 8), payload := slice b 16 (min (u16 b 4) 240) })

/-- A doorbell write (R63, R64, R96, R97). -/
def Dev.doorbell (s : Dev) (f : FnId) (val : W32) : Dev :=
  if !s.reachable f.val || !val.getLsbD 0 then s
  else if s.busy f.val || !(s.fn f.val).ready then s.modFn f.val (fun r => { r with reject := true })
  else
    let until_ := s.now + min 1000000 (Config.freeDelay s.freeCtr)
    let s1 := (s.modFn f.val (fun r => { r with busyUntil := until_ })).freeNext
    if s.outstanding f.val ≥ 32 then
      s1.modFn f.val (fun r => { r with dropped := min (r.dropped + 1) 0xFFFFFFFF })
    else
      let p := reqOf f none (winBytes (s.fn f.val).reqWin)
      let j := s1.jobOf p.1 p.2
      s1.nextJob.modTg (fun t => { t with waiting := t.waiting ++ [j] })

/-- The reply window's bytes for a reply (R92). -/
def replyBytes (r : Reply) : List Byte :=
  w16 r.op.toNat ++ w16 r.tag.toNat ++ w16 r.payload.length ++ w16 r.status.toNat ++ w16 (1 + 2 * bit r.final) ++ zeros 6
    ++ r.payload

/-- Bytes as window words from 0. -/
def winOf (b : List Byte) : Tbl W32 :=
  (List.range 64).foldl (fun w i => tblSet (fun _ => 0) w i (BitVec.ofNat 32 (u32 b (4 * i)))) []

/-- The next queued reply enters the free window (R65, R98, R99). -/
def Dev.showReply (s : Dev) (f : Nat) : Dev :=
  match (s.fn f).replies with
  | [] => s
  | r :: rest =>
    if (s.fn f).reply then s
    else
      let s1 := s.modFn f (fun x => { x with
        replies := rest, repWin := winOf (replyBytes r), reply := true, replyTag := r.tag, shownLast := r.last,
        completion := x.completion || r.final })
      (s1.served f r.arrival).irq f irqMbx

/-! ### Tollgate (R541, R542) -/

/-- Highest effective class among waiting requests. -/
def topClass (l : List Job) : Nat := l.foldl (fun m j => max m j.eff) 0

/-- The function that deficit round robin serves next: the last one while its deficit lasts, else the next one in
ascending order, cyclically (R542). -/
def drrPick (last deficit : Nat) (fs : List Nat) : Nat × Bool :=
  if deficit > 0 && fs.contains last then (last, false)
  else ((fs.filter (fun f => decide (f > last))).headD (fs.headD 0), true)

/-- The functions of a list of numbers, ascending, each once. -/
def sortedFns (l : List Nat) : List Nat := l.foldl (fun a f => insertNat f a) []
where
  /-- Insertion that keeps one of each. -/
  insertNat (x : Nat) (l : List Nat) : List Nat :=
    match l with
    | [] => [x]
    | y :: r => if x < y then x :: y :: r else if x = y then y :: r else y :: insertNat x r

/-- The waiting request that Tollgate serves next among those with a credit, and whether its function's quantum starts anew
(R106, R542, R543). -/
def tollgateNext (s : Dev) : Option (Job × Bool) :=
  match s.tg.waiting.filter (fun j => s.mailCredit j.f) with
  | [] => none
  | w =>
    let top := w.filter (fun j => j.eff == topClass w)
    let d := drrPick s.tg.lastFn (s.fn s.tg.lastFn).deficit (sortedFns (top.map Job.f))
    match top.find? (fun j => j.f == d.1) with
    | none => none
    | some j =>
      match w.find? (fun x => x.f == j.f && x.doorbell == j.doorbell) with
      | none => none
      | some x => some (x, d.2)

/-- Takes a request out of the waiting list and charges its function's deficit; a new quantum is the weight that the request
started waiting with (R542, R544). -/
def Dev.takeJob (s : Dev) (j : Job) (fresh : Bool) : Dev :=
  let s1 := s.modTg (fun t => { t with waiting := t.waiting.filter (fun x => x.id != j.id), lastFn := j.f })
  s1.modFn j.f (fun r => { r with deficit := (if fresh then j.weight else r.deficit) - 1 })

end Sys2Proof.Machine
end

