-- ==== Sys2Proof/Machine/HostLink.lean ====
section
/-! DEFINITION. Host accesses to BAR0, the bulk ring, interrupts and the endpoint (spec/02_host_link.md,
spec/03_mailbox.md, R17, R18). -/

namespace Sys2Proof.Machine

/-! ### Reading (R17, R18, R61) -/

/-- MBX_STATUS (spec/02_host_link.md). -/
def mbxStatus (s : Dev) (f : Nat) : Nat :=
  let r := s.fn f
  bitAt (s.busy f) 0 + bitAt r.reply 1 + bitAt r.ready 2 + bitAt r.completion 3 + bitAt r.reject 4
    + bitAt r.fireDenied 5 + 65536 * r.replyTag.toNat

/-- Channels usable by a function (R76). -/
def capChan (s : Dev) (f : Nat) : Nat :=
  bitMap (fun c => decide (c < s.nChan) && (s.fn 0).ready && s.chanHolder c == f && (s.fn f).flr == .idle) 64

/-- CAP_DEVICE (R77). -/
def capDevice (s : Dev) : Nat :=
  0xB1 + 256 * s.sys.opt.channels + 65536 * (s.sys.opt.options % 16) + bitAt (s.sys.opt.grade == 1) 20

/-- CAP_FW: 0 until READY and in recovery (spec/02_host_link.md, R584). -/
def capFw (s : Dev) : Nat := if (s.fn 0).ready && !s.store.recovery then s.sys.fwVersion % 2 ^ 32 else 0

/-- CAP_FUNC. -/
def capFunc (s : Dev) (f : Nat) : Nat := f + 4096 * (s.fn f).cls + 65536 * (s.fn f).ringCount

/-- CMDR_STAT.IDLE: no fetched entry is in service and none is left to fetch; a disabled ring fetches none, so its
unfetched entries do not count (R69, R70; DEDUCED, log entry 115). -/
def cmdrIdle (s : Dev) (f : Nat) : Bool :=
  ((s.fn f).cmdr.head == (s.fn f).cmdr.tail || !(s.fn f).cmdr.enable) && s.inService f == 0

/-- Free and used blocks of a ring: HEAD - TAIL modulo its size. -/
def Ring.used (r : Ring) : Nat := (r.head + 2 ^ r.size - r.tail) % 2 ^ r.size
/-- The ring has no free block. -/
def Ring.full (r : Ring) : Bool := r.enabled && r.used == 2 ^ r.size - 1

/-- GSTAT (spec/02_host_link.md). -/
def gstat (s : Dev) : Nat :=
  let held := fun (f : Nat) => s.assign.chan.any (·.2 == f) || s.assign.route.any (·.2 == f)
    || s.assign.pin.any (·.2 == f) || s.assign.seg.any (·.2 == f) || s.assign.line.any (·.2 == f)
    || s.assign.set.any (·.2 == f) || (s.fn f).view != 0 || (s.fn f).ringCount != 0 || (s.fn f).quota != 0
  s.gstatLow + 65536 * (s.functions.filter (fun f => f != 0 && held f)).length

/-- The bytes of a log entry (R603). -/
def entryBytes (e : LogEntry) : List Byte :=
  w64 e.timeNs ++ w16 e.epoch ++ w8 e.subsys ++ w8 e.severity ++ w16 e.code ++ w16 e.count ++ w8 e.rkind ++ w8 e.eflags
    ++ w16 e.lastDt ++ w32 e.rindex ++ w64 e.detail

/-- Ring entry `i` of the error log. -/
def logEntryAt (s : Dev) (i : Nat) : Option LogEntry := tblGet (fun _ => none) s.log.ring i

/-- BKUP[i] (R88). -/
def bkup (s : Dev) (i : Nat) : Nat := (tblGet (fun _ => (0 : W32)) s.sys.bkup i).toNat

/-- A BAR0 word of a function by its offset (R60, R61). TIME_SNAP_LO latches; its row is TIME_SNAP_LO_READ. -/
def readReg (s : Dev) (f off : Nat) : Nat :=
  let r := s.fn f
  if off < 0x100 then (tblGet (fun _ => (0 : W32)) r.reqWin (off / 4)).toNat
  else if off < 0x200 then (tblGet (fun _ => (0 : W32)) r.repWin ((off - 0x100) / 4)).toNat
  else if off = 0x204 then mbxStatus s f
  else if off = 0x300 then r.cmdr.baseLo.toNat
  else if off = 0x304 then r.cmdr.baseHi.toNat
  else if off = 0x308 then r.cmdr.log2 + bitAt r.cmdr.enable 8
  else if off = 0x30C then r.cmdr.tail
  else if off = 0x310 then r.cmdr.head
  else if off = 0x314 then
    bitAt (cmdrIdle s f) 0 + bitAt r.cmdr.cfgErr 1 + bitAt r.cmdr.tailErr 2 + bitAt r.cmdr.fetchErr 3
  else if off = 0x500 then r.irqCause
  else if off = 0x504 then r.irqMask
  else if 0x540 ≤ off && off < 0x640 then
    let v := (off - 0x540) / 4
    if f ≠ 0 && v ≥ 8 then 0 else (r.vec v).holdoff.toNat + 65536 * (r.vec v).countReg.toNat
  else if off = 0x800 then r.snap.ns.toNat % 2 ^ 32
  else if off = 0x804 then r.snap.ns.toNat / 2 ^ 32
  else if off = 0x808 then r.snap.frac.toNat + bitAt r.snap.unlocked 8 + 65536 * r.snap.epoch.toNat
  else if off = 0xC00 then capDevice s
  else if off = 0xC04 then capChan s f % 2 ^ 32
  else if off = 0xC08 then capChan s f / 2 ^ 32
  else if off = 0xC0C then capFw s
  else if off = 0xC10 then capFunc s f
  else if 0x1000 ≤ off && off < 0x1080 then
    let g := r.ring ((off - 0x1000) / 16)
    let k := off % 16
    if k = 0 then (if g.enabled then g.head else 0)
    else if k = 4 then (if g.enabled then g.tail else 0)
    else if k = 8 then bitAt g.enabled 0 + bitAt g.full 1 + bitAt g.wmarkHit 2 + bitAt g.tailErr 3
    else 0
  else if f ≠ 0 then 0
  else if off = 0x2000 then gstat s
  else if off = 0x2004 then s.sys.gstatChg
  else if off = 0x3000 then s.log.head
  else if off = 0x3004 then s.log.tail
  else if off = 0x3008 then s.log.lost
  else if 0x4000 ≤ off && off < 0x8000 then
    (match logEntryAt s ((off - 0x4000) / 32) with | some e => u32 (entryBytes e) (off % 32) | none => 0)
  else if 0x8000 ≤ off && off < 0x8080 then bkup s ((off - 0x8000) / 4)
  else 0

/-- The registers at their reset states: retained ones hold their values (R546), CAP_DEVICE and GSTAT.FW_BANK show the option
record. -/
def Dev.atReset (s : Dev) (f : Nat) : Dev :=
  { Dev.reset with
    fns := [(f, fnInit f)], log := s.log, sys := { sysInit with opt := s.sys.opt, bkup := s.sys.bkup },
    store := { storeInit with executing := s.sys.opt.fwBank } }

/-- Before READY BAR0 reads return the reset states (R561); during function-level reset too (R538). -/
def hostRead (s : Dev) (f off : Nat) : Nat :=
  if (s.fn f).flr != .idle || (s.sys.phase != .ready && decide (s.sys.scope ≤ 2)) then readReg (s.atReset f) f off
  else readReg s f off

/-! ### Writing -/

/-- A TAIL write of the bulk ring (R67): it adds the entries from the present TAIL on to those not fetched yet. -/
def Cmdr.writeTail (c : Cmdr) (v : Nat) : Cmdr :=
  let n := 2 ^ c.log2
  let v := v % 4096
  let waiting := (c.tail + n - c.head % n) % n
  let added := (v + n - c.tail % n) % n
  if v ≥ n || waiting + added > n - 1 then { c with tailErr := true } else { c with tail := v }

/-- A write of CMDR_CFG (R66, R69, R70). Where IDX_RESET is refused, R66 is still applied to ENABLE (DESIGN CHOICE, log
entry 116). -/
def Dev.writeCmdrCfg (s : Dev) (f : Nat) (val : W32) : Dev :=
  let c := (s.fn f).cmdr
  let log2 := if c.enable then c.log2 else val.toNat % 16
  let c1 := { c with log2 := log2 }
  let c2 :=
    if !val.getLsbD 9 then c1
    else if c.enable || !cmdrIdle s f then { c1 with cfgErr := true }
    else { c1 with head := 0, tail := 0 }
  let bad := decide (log2 < 4) || decide (log2 > 12) || (c2.baseLo == 0#32 && c2.baseHi == 0#32)
    || decide (c2.head ≥ 2 ^ log2) || decide (c2.tail ≥ 2 ^ log2)
  let c3 :=
    if !val.getLsbD 8 then { c2 with enable := false }
    else if c.enable then c2
    else if bad then { c2 with cfgErr := true, enable := false }
    else { c2 with enable := true }
  s.modFn f (fun r => { r with cmdr := c3 })

/-- A RING_TAIL write (R78, R79): the position must lie in the blocks written and not yet consumed, HEAD included. -/
def Ring.writeTail (r : Ring) (v : Nat) : Ring :=
  let n := 2 ^ r.size
  let v := v % 2 ^ 23
  if !r.enabled then r
  else if v ≥ n || (v + n - r.tail) % n > r.used then { r with tailErr := true }
  else
    let r1 := { r with tail := v }
    { r1 with above := r.above && decide (r.wmark ≤ r1.used) }

/-- Vectors that have at least one of the given cause bits. -/
def vecsOf (f bits : Nat) : List Nat := sortedFns ((bitsSet bits 18).filterMap (vecOf f))

/-- After a write to IRQ_CAUSE or IRQ_MASK: each considered vector that is armed sends a further message (R85). -/
def Dev.reconsider (s : Dev) (f bits : Nat) : Dev :=
  (vecsOf f bits).foldl (fun s v => if (s.fn f).armed f v then s.signal f v else s) s

/-- Cause bits a function has: PF0 18, a VF 16. -/
def causeMask (f : Nat) : Nat := if f = 0 then 0x3FFFF else 0xFFFF

/-- The bits of a W1C register that a write clears: those written 1, but for bits that hardware set in the same conversion
tick (R18). -/
def w1c (val tie : W32) : W32 := val &&& ~~~tie

/-- A write to IRQ_CAUSE (R85): it clears the bits `w1c` gives and considers the vectors of every bit written 1. -/
def Dev.writeCause (s : Dev) (f : Nat) (val tie : W32) : Dev :=
  let m := (w1c val tie).toNat &&& causeMask f
  (s.modFn f (fun r => { r with irqCause := Nat.xor r.irqCause (r.irqCause &&& m) })).reconsider f (val.toNat &&& causeMask f)

/-- A write to IRQ_MASK (R85). -/
def Dev.writeMask (s : Dev) (f : Nat) (val : W32) : Dev :=
  let m := val.toNat &&& causeMask f
  let d := Nat.xor m (s.fn f).irqMask
  (s.modFn f (fun r => { r with irqMask := m })).reconsider f d

/-- A write to MBX_STATUS whose ones are `val` (R18, R98). -/
def Dev.writeMbxStatus (s : Dev) (f : Nat) (val : W32) : Dev :=
  s.modFn f (fun r => { r with
    reply := r.reply && !val.getLsbD 1, shownLast := r.shownLast && !(r.reply && val.getLsbD 1),
    completion := r.completion && !val.getLsbD 3, reject := r.reject && !val.getLsbD 4,
    fireDenied := r.fireDenied && !val.getLsbD 5 })

/-- The read-side effect of TIME_SNAP_LO (R74). -/
def Dev.latchSnap (s : Dev) (f : Nat) : Dev :=
  s.modFn f (fun r => { r with snap :=
    { ns := BitVec.ofNat 64 s.timeNs, frac := BitVec.ofNat 8 s.timeFrac, unlocked := s.tb.tstate != .locked,
      epoch := BitVec.ofNat 16 s.tb.epoch } })

/-- A request-window write (R64). -/
def Dev.writeReqWin (s : Dev) (f i : Nat) (val : W32) : Dev :=
  if s.busy f then s.modFn f (fun r => { r with reject := true })
  else s.modFn f (fun r => { r with reqWin := tblSet (fun _ => 0) r.reqWin i val })

/-- ELOG_TAIL written by the owner (R607). -/
def Dev.writeElogTail (s : Dev) (val : W32) : Dev := s.modLog (fun l => { l with tail := val.toNat % 512 })

/-- A write to a register that has no row of its own (R18, R61): CMDR_BASE, IRQ_MOD, CMDR_STAT, RING_STAT,
GSTAT_CHG, ELOG_TAIL, BKUP and the rest by their access codes. A write of IRQ_MOD releases no message by itself: a COUNT
at or below the occurrences counted acts at the next occurrence (DESIGN CHOICE, log entry 117). -/
def Dev.writePlain (s : Dev) (f off : Nat) (val tie : W32) : Dev :=
  let w := w1c val tie
  if off = 0x300 then
    s.modFn f (fun r => if r.cmdr.enable then r else { r with cmdr := { r.cmdr with baseLo := val &&& 0xFFFFF000#32 } })
  else if off = 0x304 then
    s.modFn f (fun r => if r.cmdr.enable then r else { r with cmdr := { r.cmdr with baseHi := val } })
  else if off = 0x314 then
    s.modFn f (fun r => { r with cmdr := { r.cmdr with
      cfgErr := r.cmdr.cfgErr && !w.getLsbD 1, tailErr := r.cmdr.tailErr && !w.getLsbD 2,
      fetchErr := r.cmdr.fetchErr && !w.getLsbD 3 } })
  else if 0x540 ≤ off && off < 0x640 then
    let v := (off - 0x540) / 4
    if f ≠ 0 && v ≥ 8 then s
    else s.modFn f (fun r => r.modVec v (fun x =>
      { x with holdoff := val.setWidth 16, countReg := BitVec.ofNat 8 (val.toNat / 65536) }))
  else if 0x1000 ≤ off && off < 0x1080 && off % 16 = 8 then
    s.modFn f (fun r => r.modRing ((off - 0x1000) / 16) (fun g =>
      { g with wmarkHit := g.wmarkHit && !w.getLsbD 2, tailErr := g.tailErr && !w.getLsbD 3 }))
  else if f ≠ 0 then s
  else if off = 0x2004 then
    s.modSys (fun y => { y with gstatChg := Nat.xor y.gstatChg (y.gstatChg &&& (w.toNat % 4096)) })
  else if off = 0x3004 then s.writeElogTail val
  else if 0x8000 ≤ off && off < 0x8060 then
    s.modSys (fun y => { y with bkup := tblSet (fun _ => 0) y.bkup ((off - 0x8000) / 4) val })
  else s

/-! ### MSI-X masks (R81, R86) -/

/-- After a mask was cleared: a blocked message is sent if the vector is still armed, else its PBA bit clears. -/
def Dev.flushPba (s : Dev) (f v : Nat) : Dev :=
  let r := s.fn f
  if !(r.vec v).pba || r.funcMask || (r.vec v).mask then s
  else if r.armed f v then s.signal f v
  else s.modFn f (fun r => r.modVec v (fun x => { x with pba := false }))

/-- The vectors of a function. -/
def vecCount (f : Nat) : Nat := if f = 0 then 64 else 8

/-- All vectors after the Function Mask was cleared. -/
def Dev.flushAll (s : Dev) (f : Nat) : Dev := s.forAll (List.range (vecCount f)) (fun s v => s.flushPba f v)

end Sys2Proof.Machine
end

