-- ==== Sys2Proof/Machine/ConfigSpace.lean ====
section
/-! DEFINITION. Configuration space as the host reads it: identities, BARs, capabilities, routing IDs, the MSI-X table and
PBA (R6, R47, R48, R54, R55, R57 to R59, R62). The offsets of these fields are PCI Express's own, which the spec does not
give, so each is named. -/

namespace Sys2Proof.Machine

/-! ### Routing IDs (R57, R58) -/

/-- The routing ID of a function: that of PF0, function 0 of bus B, plus n for VF n. -/
def Dev.routingId (s : Dev) (f : Nat) : Nat := 256 * s.link.bus.toNat + f

/-- The bus number of a function, B to B + 4. -/
def Dev.busOf (s : Dev) (f : Nat) : Nat := s.routingId f / 256

/-- The function whose configuration requests the endpoint claims under a routing ID: PF0, or a VF up to TotalVFs. -/
def Dev.claims (s : Dev) (rid : Nat) : Option Nat :=
  let n := rid - s.routingId 0
  if s.routingId 0 ≤ rid && decide (n ≤ s.totalVfs) then some n else none

/-- Whether the upstream port passes requests for a function's bus: it lies in the secondary-to-subordinate range (R58). -/
def Dev.routed (s : Dev) (f : Nat) : Bool := f == 0 || decide (s.busOf f ≤ s.link.last.toNat)

/-! ### Base addresses (R55, R59) -/

/-- A BAR's base: the low bits below its size are 0. -/
def barBase (a : W64) (size : Nat) : W64 := BitVec.ofNat 64 (a.toNat / size * size)

/-- Supported Page Sizes: 4 KiB, 8 KiB and 64 KiB (R55). -/
def supportedPageSizes : Nat := 0x13

/-- A System Page Size the device supports: one bit of Supported Page Sizes; another value is not taken (DESIGN CHOICE, log
entry 119). -/
def pageSizeOk (v : W32) : Bool := v.toNat == 1 || v.toNat == 2 || v.toNat == 0x10

/-- The System Page Size in bytes. -/
def pageBytes (l : Link) : Nat := 4096 * l.pageSize.toNat

/-- BAR0/1 or BAR2/3 of PF0 set. -/
def Link.setBar (l : Link) (second : Bool) (a : W64) : Link := if second then { l with bar2 := a } else { l with bar0 := a }
/-- VF BAR0/1 or VF BAR2/3 set. -/
def Link.setVfBar (l : Link) (second : Bool) (a : W64) : Link :=
  if second then { l with vfBar2 := a } else { l with vfBar0 := a }

/-- The host address at which a function's BAR0 window of 64 KiB begins. -/
def Dev.bar0Base (s : Dev) (f : Nat) : Nat :=
  if f = 0 then s.link.bar0.toNat else s.link.vfBar0.toNat + (f - 1) * 65536

/-- The host address at which a function's BAR2 window begins: 4 KiB of PF0, System Page Size for each VF. -/
def Dev.bar2Base (s : Dev) (f : Nat) : Nat :=
  if f = 0 then s.link.bar2.toNat else s.link.vfBar2.toNat + (f - 1) * pageBytes s.link

/-- The low word of a 64-bit, non-prefetchable memory BAR: type field 0b10, bit 3 0. -/
def barLow (a : W64) : Nat := a.toNat % 2 ^ 32 / 16 * 16 + 4

/-! ### BAR2: the MSI-X table and the PBA (R62) -/

/-- A word of a function's BAR2 window: 16 bytes a vector from 0x0000, and the PBA from 0x0800. -/
def bar2Read (s : Dev) (f off : Nat) : Nat :=
  let n := vecCount f
  let x := (s.fn f).vec (off / 16)
  if off < 16 * n then
    (match off % 16 / 4 with
      | 0 => x.addr.toNat % 2 ^ 32
      | 1 => x.addr.toNat / 2 ^ 32
      | 2 => x.data.toNat
      | _ => bit x.mask)
  else if off = 0x800 then bitMap (fun v => decide (v < n) && ((s.fn f).vec v).pba) 32
  else if off = 0x804 then bitMap (fun v => decide (32 + v < n) && ((s.fn f).vec (32 + v)).pba) 32
  else 0

/-! ### The completion timeout (R47, R536) -/

/-- The upper end in µs of the completion-timeout range that a value of Device Control 2 names: the default range, then the
two of each of ranges A to D; 0 for a value that names none (PRESUMED of the codes, log entry 131). -/
def cplUpperUs (v : Nat) : Nat :=
  match v with
  | 0 => 50000 | 1 => 100 | 2 => 10000 | 5 => 55000 | 6 => 210000 | 9 => 900000 | 10 => 3500000 | 13 => 13000000
  | 14 => 64000000 | _ => 0

/-- A value that names a range; another one is not taken (log entry 131). -/
def cplValueOk (v : Nat) : Bool := decide (0 < cplUpperUs v)

/-! ### Fields of configuration space -/

/-- The capabilities of R47. -/
inductive Capability where
  /-- PCI Express. -/
  | pcie
  /-- Power management. -/
  | pm
  /-- MSI-X. -/
  | msix
  /-- Advanced error reporting. -/
  | aer
  /-- Alternative routing IDs. -/
  | ari
  /-- SR-IOV. -/
  | sriov
  /-- Latency tolerance reporting. -/
  | ltr
  /-- L1 PM substates. -/
  | l1Pm
deriving DecidableEq, Repr

/-- The capabilities a function carries (R47, R48): none for MSI, ATS, PRI, PASID, TPH or Resizable BAR. -/
def capabilities (f : Nat) : List Capability :=
  if f = 0 then [.pcie, .pm, .msix, .aer, .ari, .sriov, .ltr, .l1Pm] else [.pcie, .pm, .msix, .aer]

/-- A field of a function's configuration space to which the spec gives a value. -/
inductive CfgField where
  /-- Vendor ID. -/
  | vendorId
  /-- Device ID. -/
  | deviceId
  /-- Revision ID. -/
  | revisionId
  /-- Class code. -/
  | classCode
  /-- Subsystem Vendor ID. -/
  | subsysVid
  /-- Subsystem ID. -/
  | subsysId
  /-- Header Type. -/
  | headerType
  /-- Interrupt Pin. -/
  | interruptPin
  /-- BAR n, 0 to 5. -/
  | bar (n : Nat)
  /-- The expansion ROM BAR. -/
  | rom
  /-- Max Payload Size that the capability reports. -/
  | mpsCap
  /-- Max Payload Size in force. -/
  | mps
  /-- Max Read Request Size in force. -/
  | mrrs
  /-- 8-bit extended tags and 10-bit tags, completer and requester, are supported. -/
  | tagsCap
  /-- 10-bit tag requester enable. -/
  | tag10
  /-- Relaxed Ordering enable. -/
  | relaxed
  /-- Completion Timeout Ranges Supported: A to D. -/
  | cplRanges
  /-- Completion Timeout Disable Supported. -/
  | cplDisableCap
  /-- Completion Timeout Disable. -/
  | cplDisable
  /-- Completion Timeout Value. -/
  | cplValue
  /-- Function-level reset capability. -/
  | flrCap
  /-- ASPM Support: L1, not L0s. -/
  | aspmCap
  /-- ASPM Control. -/
  | aspm
  /-- ASPM L1.1 and L1.2 supported. -/
  | l1Cap
  /-- ASPM L1.1 and L1.2 enabled. -/
  | l1Enable
  /-- LTR mechanism enable. -/
  | ltr
  /-- PowerState: 0 D0, 3 D3hot. -/
  | powerState
  /-- ECRC generation capable and checking capable. -/
  | ecrcCap
  /-- ECRC generation and checking enables. -/
  | ecrc
  /-- AER status of a poisoned TLP and of an ECRC error. -/
  | aerStatus
  /-- Double word n of the AER header log, 0 to 3. -/
  | aerLog (n : Nat)
  /-- Corrected and Uncorrectable Internal Error of AER: not implemented (R49). -/
  | aerInternal
  /-- Table Size of MSI-X, N - 1. -/
  | msixSize
  /-- Table Offset with its BIR. -/
  | msixTable
  /-- PBA Offset with its BIR. -/
  | msixPba
  /-- MSI-X Enable. -/
  | msixEnable
  /-- MSI-X Function Mask. -/
  | msixMask
  /-- InitialVFs. -/
  | initialVfs
  /-- TotalVFs. -/
  | totalVfs
  /-- NumVFs. -/
  | numVfs
  /-- VF Enable. -/
  | vfEnable
  /-- First VF Offset. -/
  | firstVfOffset
  /-- VF Stride. -/
  | vfStride
  /-- VF Device ID. -/
  | vfDeviceId
  /-- Supported Page Sizes. -/
  | supportedPages
  /-- System Page Size. -/
  | systemPage
  /-- VF BAR n, 0 to 5. -/
  | vfBar (n : Nat)
  /-- VF Migration Capable. -/
  | vfMigration
  /-- Function Dependency Link. -/
  | dependency
deriving DecidableEq, Repr

/-- A field of the SR-IOV capability of PF0 (R55). -/
def Dev.sriovRead (s : Dev) (r : CfgField) : Nat :=
  match r with
  | .initialVfs => s.totalVfs
  | .totalVfs => s.totalVfs
  | .numVfs => s.link.numVfs
  | .vfEnable => bit s.link.vfEnable
  | .firstVfOffset => 1
  | .vfStride => 1
  | .vfDeviceId => 0x6465
  | .supportedPages => supportedPageSizes
  | .systemPage => s.link.pageSize.toNat
  | .vfBar 0 => barLow s.link.vfBar0
  | .vfBar 1 => s.link.vfBar0.toNat / 2 ^ 32
  | .vfBar 2 => barLow s.link.vfBar2
  | .vfBar 3 => s.link.vfBar2.toNat / 2 ^ 32
  | _ => 0

/-- A field of a function's PCI Express, power-management, AER and MSI-X capabilities (R47, R49, R62). -/
def Dev.capRead (s : Dev) (f : Nat) (r : CfgField) : Nat :=
  let x := s.fn f
  match r with
  | .mpsCap => 2
  | .mps => x.maxPayload
  | .mrrs => x.maxReadReq
  | .tagsCap => 7
  | .tag10 => bit x.tag10
  | .relaxed => bit x.relaxed
  | .cplRanges => 0xF
  | .cplDisableCap => 1
  | .cplDisable => bit x.cplDisable
  | .cplValue => x.cplValue
  | .flrCap => 1
  | .aspmCap => 2
  | .aspm => 2 * bit s.link.aspmL1
  | .l1Cap => 3
  | .l1Enable => bitAt s.link.l11 0 + bitAt s.link.l12 1
  | .ltr => bit (f == 0 && s.link.ltrOn)
  | .powerState => if x.d3hot then 3 else 0
  | .ecrcCap => 3
  | .ecrc => bitAt x.ecrcGen 0 + bitAt x.ecrcCheck 1
  | .aerStatus => bitAt x.aerPoison 0 + bitAt x.aerEcrc 1
  | .aerLog n => x.aerLog.toNat / 2 ^ (32 * (3 - n)) % 2 ^ 32
  | .msixSize => vecCount f - 1
  | .msixTable => 2
  | .msixPba => 0x800 + 2
  | .msixEnable => bit x.msixEnable
  | .msixMask => bit x.funcMask
  | _ => 0

/-- What a read of a configuration field of a function returns: the identities of R54 (R6), the Interrupt Pin 0x00 (R48),
the BARs of R59, and the fields of its capabilities. A VF's own BAR words read 0: its windows are those of the VF BARs. -/
def Dev.cfgRead (s : Dev) (f : Nat) (r : CfgField) : Nat :=
  match r with
  | .vendorId => if f = 0 then 0xB0C9 else 0xFFFF
  | .deviceId => if f = 0 then 0x6464 else 0xFFFF
  | .revisionId => 0xB1
  | .classCode => 0x118000
  | .subsysVid => s.sys.opt.subsysVid
  | .subsysId => s.sys.opt.subsysId
  | .headerType => 0x00
  | .interruptPin => 0x00
  | .bar 0 => if f = 0 then barLow s.link.bar0 else 0
  | .bar 1 => if f = 0 then s.link.bar0.toNat / 2 ^ 32 else 0
  | .bar 2 => if f = 0 then barLow s.link.bar2 else 0
  | .bar 3 => if f = 0 then s.link.bar2.toNat / 2 ^ 32 else 0
  | .bar _ => 0
  | .rom => 0
  | _ => if f = 0 then max (s.capRead 0 r) (s.sriovRead r) else s.capRead f r

end Sys2Proof.Machine
end

