-- ==== Sys2Proof/Machine/CalLayout.lean ====
section
/-! DEFINITION. The copies of the calibration store: their bytes, which is valid, and what is loaded (R410 to R414). -/

namespace Sys2Proof.Machine

/-- The pair layout: 128 bytes (R412). -/
def PairWc.bytes (p : PairWc) : List Byte :=
  let s16 := fun (v : Int) => w16 (ofSigned 16 v)
  let lin := fun (l : List Int) => (List.range 16).flatMap (fun k => s16 (l.getD k 0))
  s16 p.ofsA ++ s16 p.ofsB ++ w32 (p.gainA % 2 ^ 24) ++ w32 (p.gainB % 2 ^ 24) ++ s16 p.skew ++ zeros 2 ++ lin p.linA
    ++ lin p.linB ++ zeros 48

/-- A self-calibration record: 32 bytes (R412). -/
def SelfRec.bytes (r : SelfRec) : List Byte :=
  w64 r.timeNs ++ w16 r.epoch ++ w16 (ofSigned 16 r.temp) ++ w16 (bit r.valid + 2 * bit r.dac) ++ zeros 18

/-- A range record: 64 bytes (R412). -/
def RangeRec.bytes (r : RangeRec) : List Byte :=
  w32 (r.rg % 2 ^ 24) ++ w32 (ofSigned 24 r.ro) ++ w64 r.timeNs ++ w16 r.epoch ++ w16 (ofSigned 16 r.temp)
    ++ w16 (bit r.valid + 2 * bit r.traceable) ++ zeros 2 ++ padTo 16 r.stdId ++ zeros 24

/-- A channel record: 2,048 bytes (R412). -/
def CalChan.bytes (x : CalChan) : List Byte :=
  x.v.bytes ++ x.i.bytes ++ w16 (ofSigned 16 x.dofs) ++ zeros 2 ++ w32 (x.dgain % 2 ^ 24)
    ++ (List.range 63).flatMap (fun k => w16 (ofSigned 16 (x.seg.getD k 0))) ++ zeros 122 ++ x.self.bytes
    ++ padTo 16 x.serial ++ zeros 16
    ++ (List.range 18).flatMap (fun k => (tblGet rangeRecInit x.ranges k).bytes) ++ zeros 320

/-- Bytes 0 to 59 of the header (R411). -/
def CalCopy.head (c : CalCopy) : List Byte :=
  w16 c.format ++ zeros 2 ++ w32 c.seq ++ w64 c.writeNs ++ w16 c.writeEpoch ++ zeros 2 ++ w32 0x22000 ++ zeros 36

/-- Bytes 64 to LENGTH − 1: the survey's factors and record, and the channel records at 0x2000 + 0x800 × c (R410). -/
def CalCopy.body (c : CalCopy) : List Byte :=
  zeros 4032 ++ c.svy.bytes ++ c.svySelf.bytes ++ zeros 3936
    ++ (List.range 64).flatMap (fun k => (tblGet calChanInit c.chans k).bytes)

/-- The CRC-32C of a copy (R411). -/
def CalCopy.crcNow (c : CalCopy) : W32 := crc32c (c.head ++ c.body)

/-- Bytes 0 to 0x2_1FFF of a copy, its CRC at 60; every byte after them is reserved, 0 (R410, R411). -/
def CalCopy.bytes (c : CalCopy) : List Byte := c.head ++ w32 c.crc.toNat ++ c.body

/-- A copy is valid for firmware that reads STORE_FORMAT up to `max` (R413). -/
def CalCopy.valid (c : CalCopy) (max : Nat) : Bool :=
  c.ok && decide (1 ≤ c.format) && decide (c.format ≤ max) && c.crc == c.crcNow

/-- A channel's record as it is loaded: without VALID the factors of self-calibration are the defaults (R414). -/
def CalChan.loaded (x : CalChan) : CalChan :=
  if x.self.valid then x
  else { x with v := pairWcInit, i := pairWcInit, dofs := 0, dgain := 0x800000, seg := List.replicate 63 0 }

/-- A copy as it is loaded (R413, R414). -/
def CalCopy.loaded (c : CalCopy) : CalCopy :=
  { c with svy := if c.svySelf.valid then c.svy else pairWcInit, chans := tblMap calChanInit CalChan.loaded c.chans }

/-- Copy 1 is the newer valid one (R411, R413). -/
def Cal.newer1 (k : Cal) (max : Nat) : Bool := k.copy1.valid max && (!k.copy0.valid max || decide (k.copy1.seq > k.copy0.seq))
/-- The newer valid copy, if there is one. -/
def Cal.newest (k : Cal) (max : Nat) : Option CalCopy :=
  if k.newer1 max then some k.copy1 else if k.copy0.valid max then some k.copy0 else none
/-- The copies as they read: one of which a read failed is not valid (R579). -/
def Cal.seen (k : Cal) (unread : Nat) : Cal :=
  { k with copy0 := { k.copy0 with ok := k.copy0.ok && !unread.testBit 2 },
           copy1 := { k.copy1 with ok := k.copy1.ok && !unread.testBit 3 } }

/-- A bank by number. -/
def Store.bank (t : Store) (n : Nat) : Bank := if n = 1 then t.bankB else t.bankA
/-- A bank replaced. -/
def Store.setBank (t : Store) (n : Nat) (b : Bank) : Store := if n = 1 then { t with bankB := b } else { t with bankA := b }

/-- The highest STORE_FORMAT that the running firmware reads (R413). -/
def Dev.storeMax (s : Dev) : Nat := (s.store.bank s.store.executing).storeMax
/-- Copy 1 is the newer valid one. -/
def Dev.calNewer1 (s : Dev) : Bool := (s.cal.seen s.store.unread).newer1 s.storeMax
/-- The newer valid copy of the calibration store. -/
def Dev.calNewest (s : Dev) : Option CalCopy := (s.cal.seen s.store.unread).newest s.storeMax
/-- The copy that is not the newer valid one is written (R416). -/
def Dev.calWrite (s : Dev) (c : CalCopy) : Dev :=
  let one := !s.calNewer1
  (s.modCal (fun k => if one then { k with copy1 := c } else { k with copy0 := c })).modStore (fun t =>
    { t with unread := putBit t.unread (2 + bit one) false })

end Sys2Proof.Machine
end

