-- ==== Sys2Proof/Machine/Fabric.lean ====
section
/-! DEFINITION. How the event fabric carries sources to consumers (R452 to R460): source levels, route outputs, pulses,
and the edges that reach consumers. An edge waits in `fab.edges` until its consumer's own row takes it. -/

namespace Sys2Proof.Machine

/-- The level of a source that is no route output (R459): pulse sources rest negated; in DEEP only chassis inputs, ONE
and INTLK change (R470). -/
def baseLevel (s : Dev) (n : Nat) : Bool :=
  if n = 1 then true
  else if n = 16 then s.seam.intlk
  else if 2 ≤ n && n ≤ 15 then s.fab.ext.testBit (n - 2)
  else if s.sys.power = 3 then false
  else if n = 18 then s.tb.tstate != .locked
  else if n = 19 then s.sys.thermalWarn
  else if 40 ≤ n && n < 44 then (s.handler (n - 40)).readyOn
  else if 52 ≤ n && n < 68 then (s.handler ((n - 52) / 4)).bin.testBit ((n - 52) % 4)
  else if 448 ≤ n && n < 704 then
    (if n % 4 = 0 then (s.chan ((n - 448) / 4)).compliance
     else if n % 4 = 3 then (s.chan ((n - 448) / 4)).grantSeen else false)
  else false

/-- The instant of a level source's last change, where the model keeps it: HS_READY follows its engine's edges (R303). -/
def Dev.levelAt (s : Dev) (n : Nat) : Nat := if 40 ≤ n && n < 44 then (s.handler (n - 40)).readyAt else s.now

/-- The pulse sources asserted from an instant on; 4,096 + r stands for the fire pulse of route r (R456). -/
def activeAt (l : List (Nat × Nat × Nat)) (t : Nat) : List Nat :=
  (l.filter (fun p => decide (p.2.1 ≤ t) && decide (t < p.2.2))).map (·.1)

/-- The pulse sources asserted until an instant. -/
def activeUntil (l : List (Nat × Nat × Nat)) (t : Nat) : List Nat :=
  (l.filter (fun p => decide (p.2.1 < t) && decide (t ≤ p.2.2))).map (·.1)

/-- The output of a route (R452, R456, R457) while the pulse sources `on` are asserted. A TRIG_BUS source, and a TRIG_FP source
whose line is an output, reports this device's own drive too (R467). -/
def routeOut (fuel : Nat) (s : Dev) (on : List Nat) (r : Nat) : Bool :=
  match fuel with
  | 0 => false
  | k + 1 =>
    let x := s.route r
    let driven := fun (c : Nat) => s.fab.configured && s.fab.routes.any (fun e => e.2.consumers.testBit c && routeOut k s on e.1)
    let src := fun (n : Nat) =>
      if 1024 ≤ n then routeOut k s on (n - 1024)
      else if 2 ≤ n && n < 10 then on.contains n || baseLevel s n || driven (n - 2)
      else if 11 ≤ n && n < 15 && s.fab.fpDir.testBit (n - 11) then on.contains n || driven (n - 3)
      else on.contains n || baseLevel s n
    !x.fault && ((x.enable && (xor (src x.source) x.invSrc) && (xor (src x.gate) x.invGate)) || on.contains (4096 + r))

/-- The pulse sources asserted now. -/
def Dev.pulsing (s : Dev) : List Nat := activeAt s.fab.pulses s.now
/-- The present output of a route. -/
def Dev.outNow (s : Dev) (r : Nat) : Bool := routeOut 5 s s.pulsing r

/-- The line, in the layout of LEVEL, that an output source of R467 reports. -/
def lineOf (n : Nat) : Option Nat := if 2 ≤ n && n < 15 then some (n - 2) else none

/-- The routes that are not in their reset state. -/
def Dev.liveRoutes (s : Dev) : List Nat := s.fab.routes.map (·.1)

/-- The consumers of a route, attachments included. -/
def Dev.consumersOf (s : Dev) (r : Nat) : List Nat :=
  bitsSet (s.route r).consumers 897 ++ (s.fab.attached.filter (fun a => a.2 == r)).map (·.1)

/-- Consumer numbers that are level consumers (R454). -/
def isLevelConsumer (n : Nat) : Bool := decide (n < 13)

/-- The level of a level consumer: the OR of its routes (R454). -/
def Dev.levelOut (s : Dev) (n : Nat) : Bool :=
  s.fab.configured && s.liveRoutes.any (fun r => (s.route r).consumers.testBit n && s.outNow r)

/-- The source that reports the line of an output consumer: TRIG_BUS, or a TRIG_FP line that is an output (R467). -/
def Dev.lineSource (s : Dev) (n : Nat) : Option Nat :=
  if n < 8 then some (2 + n) else if n < 12 && s.fab.fpDir.testBit (n - 8) then some (3 + n) else none

/-- An edge in a list ordered by instants. -/
def insertEdge (e : Nat × Nat × Nat) (l : List (Nat × Nat × Nat)) : List (Nat × Nat × Nat) :=
  match l with
  | [] => [e]
  | a :: r => if e.2.2 < a.2.2 then e :: a :: r else a :: insertEdge e r

/-- An edge of the instant `t` reaches a consumer; in DEEP only HOST and PF_VEC take edges, and theirs start the wake (R470,
R574). -/
def Dev.edgeTo (s : Dev) (r n t : Nat) : Dev :=
  let wakes := n == 13 || (decide (16 ≤ n) && decide (n < 48))
  if isLevelConsumer n then s
  else if s.sys.power = 3 && !wakes then s
  else
    let s1 := s.modFab (fun f => { f with edges := insertEdge (n, r, t) f.edges })
    if wakes && (s.sys.power == 3 || s.sys.deepEntering) then s1.wakeBy (if n = 13 then 2 else 3) else s1

/-- A pulse of `w` ps at a consumer is delivered: none under 2 ns, every one of 4 ns or more; between them it is open (R454). A
level has `w` = 0. -/
def pulseShows (n t w : Nat) : Bool :=
  w == 0 || decide (w ≥ 4000) || (decide (w ≥ 2000) && (Config.freeConst (2 + n + 1024 * t)).getLsbD 0)

/-- The outputs of routes rise: FIRES counts, and each consumer whose OR rises gets one edge. `held` are the routes asserted
already; HOST is separate for each function (R464). Edges wait for a step of their own (R73, R454). -/
def Dev.arrive (s : Dev) (rising held : List Nat) (t w : Nat → Nat) : Dev :=
  let s1 := s.forAll rising (fun s r => s.modRoute r (fun x => { x with fires := (x.fires + 1) % 2 ^ 32 }))
  s1.forAll rising (fun s r =>
    s.forAll (s.consumersOf r) (fun s n =>
      let shut := (held ++ rising.takeWhile (· != r)).any
        (fun q => (s.consumersOf q).contains n && (n != 13 || s.routeHolder q == s.routeHolder r))
      if shut || !pulseShows n (t r) (w r) then s else s.edgeTo r n (t r)))

/-- Edges of the instant `u` that routes have made are taken back: a pulse that came to be known later covers them. -/
def Dev.takeBack (s : Dev) (gone : List Nat) (u : Nat) : Dev :=
  (s.forAll gone (fun s r => s.modRoute r (fun x => { x with fires := (x.fires + 2 ^ 32 - 1) % 2 ^ 32 }))).modFab (fun f =>
    { f with edges := if gone.isEmpty then f.edges else f.edges.filter (fun e => !(gone.contains e.2.1 && e.2.2 == u)) })

/-- The routes that a set of routes may reach through ROUTE_OUT (R457). -/
def Dev.downstream (fuel : Nat) (s : Dev) (l : List Nat) : List Nat :=
  match fuel with
  | 0 => l
  | k + 1 => s.downstream k (l ++ s.liveRoutes.filter (fun r =>
      !l.contains r && l.any (fun q => (s.route r).source == 1024 + q || (s.route r).gate == 1024 + q)))

/-- The routes that have been configured anew between two states, or whose line has changed its direction, with those they
reach: what they assert at that moment is held and makes no edge (R455). -/
def Dev.reconfigured (new old : Dev) : List Nat :=
  let turned := fun (n : Nat) => decide (11 ≤ n) && decide (n < 15) && new.fab.fpDir.testBit (n - 11) != old.fab.fpDir.testBit (n - 11)
  new.downstream 4 (new.liveRoutes.filter (fun r =>
    let x := new.route r
    let y := old.route r
    { x with fires := 0, fault := false } != { y with fires := 0, fault := false } || (y.fault && !x.fault)
      || turned x.source || turned x.gate))

/-- The routes that rise between two states of the sources. -/
def Dev.risen (s old : Dev) (before after : List Nat) : List Nat :=
  (sortedFns (s.liveRoutes ++ (after.filter (4096 ≤ ·)).map (· - 4096))).filter (fun r =>
    !routeOut 5 old before r && routeOut 5 s after r)

/-- The drives of lines that rising routes begin: each lasts at least 50 ns (R467). -/
def Dev.drives (s : Dev) (rising : List Nat) : List Nat := (rising.flatMap s.consumersOf).filterMap s.lineSource

/-- The instants, later than `u`, at which pulses begin or end, earliest first. -/
def turnsAfter (l : List (Nat × Nat × Nat)) (u : Nat) : List Nat :=
  sortedFns ((l.flatMap (fun p => [p.2.1, p.2.2])).filter (u < ·))

/-- What the pulse `p` changes at the instant `u`, beside the pulses `l` that are known: routes that rise only with it make their
edges, those that would rise only without it are taken back. A pulse `anew` rises though its source is asserted. -/
def Dev.cut (s : Dev) (l : List (Nat × Nat × Nat)) (p : Nat × Nat × Nat) (anew : Bool) (u : Nat) : Dev × List (Nat × Nat) :=
  let m := l ++ [p]
  let before := (activeUntil m u).filter (fun n => !(anew && u == p.2.1 && n == p.1))
  let rise := s.risen s before (activeAt m u)
  let known := s.risen s (activeUntil l u) (activeAt l u)
  let new := rise.filter (fun r => !known.contains r)
  let width := fun (r : Nat) =>
    match (turnsAfter m u).find? (fun v => !routeOut 5 s (activeAt m v) r) with | some v => v - u | none => 0
  let held := s.liveRoutes.filter (fun r => routeOut 5 s before r) ++ known
  ((s.takeBack (known.filter (fun r => !rise.contains r)) u).arrive new held (fun _ => u) width,
    (s.drives new).map (fun n => (n, u)))

/-- A pulse source asserts for `w` ps from the instant `t` (R453), and the lines that routes then drive stay driven for 50 ns
(R467). -/
def Dev.pulseGo (fuel : Nat) (s : Dev) (n t w : Nat) (anew : Bool) : Dev :=
  match fuel with
  | 0 => s
  | k + 1 =>
    let l := s.fab.pulses.filter (fun p => decide (min s.now t < p.2.2 + 10000000))
    let s1 := s.modFab (fun f => { f with pulses := l ++ [(n, t, t + w)], drove := match lineOf n with
      | some i => tblSet (fun _ => 0) f.drove i (max (tblGet (fun _ => 0) f.drove i) (t + w)) | none => f.drove })
    let turns := t :: (turnsAfter l t).filter (· < t + w) ++ [t + w]
    let r := turns.foldl (fun (a : Dev × List (Nat × Nat)) u => let b := a.1.cut l (n, t, t + w) anew u; (b.1, a.2 ++ b.2)) (s1, [])
    r.2.foldl (fun s x => s.pulseGo k x.1 x.2 50000 false) r.1

/-- A pulse source asserts for `w` ps from the instant `t`, and negates again (R453); not in DEEP (R470). -/
def Dev.pulseFor (s : Dev) (n t w : Nat) : Dev := if s.sys.power = 3 then s else s.pulseGo 6 n t w false

/-- A pulse source asserts once, at the instant `t`, for 20 ns (R453; log entry 139). -/
def Dev.pulseAt (s : Dev) (n t : Nat) : Dev := s.pulseFor n t 20000

/-- A pulse source asserts once, now (R453). -/
def Dev.pulse (s : Dev) (n : Nat) : Dev := s.pulseAt n s.now

/-- A route is fired: a pulse of 20 ns, at least 20 ns after the firing before it (R71, R73, R456). -/
def Dev.fire (s : Dev) (r : Nat) : Dev :=
  let t := max s.now s.fab.fireFrom
  (s.modFab (fun f => { f with fireFrom := t + 40000 })).pulseGo 6 (4096 + r) t 20000 false

/-- The instant at which a route's level sources that differ between two states changed. -/
def Dev.turnedAt (fuel : Nat) (s old : Dev) (r : Nat) : Nat :=
  match fuel with
  | 0 => 0
  | k + 1 =>
    let one := fun (n : Nat) =>
      if 1024 ≤ n then s.turnedAt k old (n - 1024) else if baseLevel s n != baseLevel old n then s.levelAt n else 0
    max (one (s.route r).source) (one (s.route r).gate)

/-- This device drives a line, at least for the 50 ns of R467. -/
def Dev.drivesLine (s : Dev) (n : Nat) : Bool :=
  let cons := if n < 8 then some n else if 9 ≤ n && n < 13 && s.fab.fpDir.testBit (n - 9) then some (n - 1) else none
  match cons with
  | some k => s.fab.configured && (s.pulsing.contains (n + 2) || s.levelOut k)
  | none => false

/-- The level of a line: asserted or not. -/
def Dev.lineOn (s : Dev) (n : Nat) : Bool :=
  if n = 14 then s.seam.intlk
  else if 9 ≤ n && n < 13 && s.fab.fpDir.testBit (n - 9) then s.drivesLine n
  else s.fab.ext.testBit n || s.drivesLine n

/-- A negated line is neither STUCK nor HELD (R468, R469), and a drive that has ended leaves its instant. -/
def Dev.linesNote (new old : Dev) : Dev :=
  let ended := (List.range 13).filter (fun n => old.drivesLine n && !new.drivesLine n)
  let on := bitMap new.lineOn 15
  new.modFab (fun f =>
    { f with stuck := f.stuck &&& on, held := f.held &&& on,
             drove := ended.foldl (fun t n => tblSet (fun _ => 0) t n (max (tblGet (fun _ => 0) t n) new.now)) f.drove })

/-- A change of source levels between two states. -/
def Dev.fabricNote (new old : Dev) : Dev :=
  let on := activeAt new.fab.pulses new.now
  let still := new.reconfigured old
  let rising := (new.risen old on on).filter (fun r => !still.contains r)
  let held := new.liveRoutes.filter (fun r => routeOut 5 old on r || (still.contains r && routeOut 5 new on r))
  let at_ := fun (r : Nat) => let t := new.turnedAt 5 old r; if t = 0 then new.now else t
  let s1 := new.arrive rising held at_ (fun _ => 0)
  ((new.drives rising).foldl (fun s n => s.pulseGo 6 n new.now 50000 false) s1).linesNote old

/-- A change that fabric sources may show. -/
def Dev.withFabric (s : Dev) (g : Dev → Dev) : Dev := (g s).fabricNote s

/-- The first element that meets a condition taken out of a list. -/
def eraseFirst {α : Type} (p : α → Bool) (l : List α) : List α :=
  match l with
  | [] => []
  | a :: r => if p a then r else a :: eraseFirst p r

/-- The consumer's step takes its oldest edge out of the list. -/
def Dev.takeEdge (s : Dev) (n : Nat) : Dev :=
  s.modFab (fun f => { f with edges := eraseFirst (fun e => e.1 == n) f.edges })

/-- An edge waits at a consumer. -/
def Dev.hasEdge (s : Dev) (n : Nat) : Bool := s.fab.edges.any (fun e => e.1 == n)

/-- The instant of the oldest edge that waits at a consumer; now where none waits. -/
def Dev.edgeTime (s : Dev) (n : Nat) : Nat :=
  match s.fab.edges.find? (fun e => e.1 == n) with | some e => e.2.2 | none => s.now

/-- The conversion-clock edge that latches a consumer's edge: the one that ends the tick in which it arrived (R285). -/
def Dev.latchOf (s : Dev) (n : Nat) : Nat := s.edgeAfter (s.edgeTime n)

/-- The consumer sets OVERRUN (R463). -/
def Dev.setOverrun (s : Dev) (n : Nat) : Dev :=
  s.modFab (fun f => { f with overrun := tblSet (fun _ => false) f.overrun n true })

/-- The consumer's OVERRUN flag clears: its resource changes holder (R463). -/
def Dev.clearOverrun (s : Dev) (n : Nat) : Dev :=
  s.modFab (fun f => { f with overrun := tblSet (fun _ => false) f.overrun n false })
/-- The route of the oldest edge that waits at a consumer. -/
def Dev.edgeRoute (s : Dev) (n : Nat) : Option Nat := (s.fab.edges.find? (fun e => e.1 == n)).map (·.2.1)

/-- What the routes of function `f` keep when a resource leaves it: the consumers and the sources that pass; attachments and
edges of other consumers go, and a route whose SOURCE or GATE goes takes NONE (R462). -/
def Dev.routesCut (s : Dev) (f : Nat) (cons src : Nat → Bool) : Dev :=
  let cut := fun (x : Route) =>
    let x1 := { x with consumers := bitMap (fun n => x.consumers.testBit n && cons n) 1024 }
    if src x.source && src x.gate then x1 else { x1 with source := 0, gate := 0, invSrc := false, invGate := false }
  let s1 := s.forAll (s.liveRoutes.filter (fun r => s.routeHolder r == f)) (fun s r => s.modRoute r cut)
  let stays := fun (n r : Nat) => s.routeHolder r != f || cons n
  s1.modFab (fun x =>
    { x with attached := x.attached.filter (fun a => stays a.1 a.2), edges := x.edges.filter (fun e => stays e.1 e.2.1) })

/-- Attaches a consumer to a route (R460). -/
def Dev.attach (s : Dev) (n r : Nat) : Dev := s.modFab (fun f => { f with attached := f.attached ++ [(n, r)] })
/-- Detaches a consumer. -/
def Dev.detach (s : Dev) (n : Nat) : Dev :=
  s.modFab (fun f => { f with attached := f.attached.filter (fun a => a.1 != n) })

end Sys2Proof.Machine
end

