-- ==== Sys2Proof/Machine/LogKinds.lean ====
section
/-! DEFINITION. The codes of the error log with their SUBSYS, SEVERITY and RKIND (R604). -/

namespace Sys2Proof.Machine

/-- A key from the table of R604. -/
def key (code subsys severity rkind rindex : Nat) : LogKey := ⟨code, subsys, severity, rkind, rindex⟩

/-- SRAM_CORRECTED. -/
def kSramCorrected : LogKey := key 0x0101 20 0 0 0
/-- SRAM_UNCORRECTABLE, by partition. -/
def kSramUncorrectable (rkind rindex : Nat) : LogKey := key 0x0102 20 2 rkind rindex
/-- MRAM_ROW_REPLACED. -/
def kMramRow (region : Nat) : LogKey := key 0x0103 18 1 11 region
/-- MRAM_DEGRADED. -/
def kMramDegraded (region : Nat) : LogKey := key 0x0104 18 2 11 region
/-- HELD_RESIDUE. -/
def kHeldResidue (e : Nat) : LogKey := key 0x0201 5 1 2 e
/-- HELD_LATE. -/
def kHeldLate (e : Nat) : LogKey := key 0x0202 5 1 2 e
/-- SUBSYS of CHAN_FAULT by cause; `clkSub` is the subsystem of the clock of cause 6. -/
def chanFaultSub (cause clkSub : Nat) : Nat :=
  if cause = 2 || cause = 3 then 8 else if cause = 4 then 9 else if cause = 6 then clkSub else if cause = 7 then 6 else 5
/-- CHAN_FAULT. -/
def kChanFault (c cause clkSub : Nat) : LogKey := key 0x0203 (chanFaultSub cause clkSub) 2 1 c
/-- CORE_FAULT of a channel. -/
def kCoreFault (c : Nat) : LogKey := key 0x0204 8 1 1 c
/-- CORE_FAULT of the survey pair. -/
def kSurveyCore : LogKey := key 0x0204 10 1 0 0
/-- CODE_ERR. -/
def kCodeErr (c : Nat) : LogKey := key 0x0205 19 2 1 c
/-- SEAM_FRAME_BAD. -/
def kSeamFrame : LogKey := key 0x0301 7 1 0 0
/-- SEAM_LOSS. -/
def kSeamLoss : LogKey := key 0x0302 7 2 0 0
/-- SIDE_CHANNEL. -/
def kSideChannel : LogKey := key 0x0303 7 2 0 0
/-- HELON_REVOKE. -/
def kRevoke (c : Nat) : LogKey := key 0x0304 11 2 1 c
/-- ACK_IGNORED. -/
def kAckIgnored (c : Nat) : LogKey := key 0x0305 11 0 1 c
/-- HEM_TRIP. -/
def kHemTrip (c : Nat) : LogKey := key 0x0401 11 2 1 c
/-- HEM_SELFTEST; MASKED for a failed spare. -/
def kSelftest (c : Nat) (spare : Bool) : LogKey := key 0x0402 11 (if spare then 1 else 2) 1 c
/-- STAGE_READBACK; DETECTED for a second mismatch. -/
def kStageReadback (m : Nat) (second : Bool) : LogKey := key 0x0501 17 (if second then 2 else 1) 3 m
/-- LOCKSTEP. -/
def kLockstep : LogKey := key 0x0601 2 3 0 0
/-- WATCHDOG. -/
def kWatchdog : LogKey := key 0x0602 2 3 0 0
/-- FW_FATAL. -/
def kFwFatal : LogKey := key 0x0603 2 3 0 0
/-- CLOCK_FAULT. -/
def kClock (sub severity rkind rindex : Nat) : LogKey := key 0x0604 sub severity rkind rindex
/-- ROUTE_FAULT. -/
def kRouteFault (r : Nat) : LogKey := key 0x0701 14 2 6 r
/-- LINE_STUCK. -/
def kLineStuck (l : Nat) : LogKey := key 0x0702 14 0 13 l
/-- MX_ECHO; DETECTED for a second mismatch. -/
def kMxEcho (k : Nat) (second : Bool) : LogKey := key 0x0801 16 (if second then 2 else 1) 4 k
/-- MX_WEAR; DETECTED for a retirement. -/
def kMxWear (set : Nat) (retired : Bool) : LogKey := key 0x0802 16 (if retired then 2 else 0) 5 set
/-- MX_WB_FAIL. -/
def kMxWbFail (k : Nat) : LogKey := key 0x0803 16 2 4 k
/-- ORPHANED. -/
def kOrphaned (rkind rindex : Nat) : LogKey := key 0x0901 4 2 rkind rindex
/-- TIME_STEP_BACK. -/
def kTimeStep : LogKey := key 0x0A01 15 0 0 0
/-- TIME_STEP_VALUE; the two entries of one step stay apart by their index. -/
def kTimeValue : LogKey := key 0x0A02 15 0 0 0
/-- MODULE_DISCOVERY. -/
def kModule (rkind rindex : Nat) : LogKey := key 0x0B01 17 2 rkind rindex
/-- CAL_FAIL. -/
def kCalFail (rkind rindex : Nat) : LogKey := key 0x0B02 12 2 rkind rindex
/-- CAL_FAIL of the survey converter: the table gives RKIND 1 and no channel, so RINDEX is a free value (log entry 150). -/
def kSvyCalFail : LogKey := kCalFail 1 ((Config.freeConst 1).toNat % 65536)
/-- RESET; ESCALATED for sources 6 to 9 of R547. -/
def kReset (esc : Bool) : LogKey := key 0x0C01 18 (if esc then 3 else 0) 0 0
/-- SEQ_REST_FAIL. -/
def kRestFail (c : Nat) : LogKey := key 0x0D01 6 2 1 c

end Sys2Proof.Machine
end

