-- ==== Sys2Proof/Machine/Waystation.lean ====
section
/-! DEFINITION. Records on their way to the host: streams and Waystations (R305 to R321), blocks and their seal (R312 to
R316), rings and Caravan (R327 to R335). -/

namespace Sys2Proof.Machine

/-! ### Streams -/

/-- The stream of channel `c` has number `c`; of group `g` of function `f`, 64 + 4 f + g (R309, R444). -/
def groupStream (f g : Nat) : Nat := 64 + 4 * f + g

/-- A stream by its number. -/
def Dev.stream (s : Dev) (i : Nat) : Stream :=
  if i < 64 then (s.res i).st else tblGet (fun _ => streamInit) s.vec.fails (i - 64)

/-- A stream changed by `g`. -/
def Dev.modStream (s : Dev) (i : Nat) (g : Stream → Stream) : Dev :=
  if i < 64 then s.modRes i (fun r => { r with st := g r.st })
  else s.modVec (fun v => { v with fails := tblSet (fun _ => streamInit) v.fails (i - 64) (g (s.stream i)) })

/-- The function whose rings a stream feeds. -/
def Dev.streamFn (s : Dev) (i : Nat) : Nat := if i < 64 then s.chanHolder i else (i - 64) / 4

/-- Slots of waiting pairs, and of waiting four-slot records (R319). -/
def Stream.pairs (t : Stream) : Nat := ((t.recs.filter (fun r => r.slots == 1)).length) + t.takenPairs
/-- Slots of four-slot records. -/
def Stream.fours (t : Stream) : Nat := 4 * ((t.recs.filter (fun r => r.slots != 1)).length) + t.takenFour

/-- Slots of a Waystation (R319); of a fail FIFO of 2,048 records (R444). -/
def capacity (i : Nat) : Nat := if i < 64 then 32768 else 8192

/-- Slots that a capture keeps beside the stream's records: pairs held in its history and slots still to come (R322). -/
def ResChan.window (r : ResChan) : Nat :=
  match r.cap with
  | .armed => r.pre + r.post
  | .triggered => ((r.post : Int) - r.capNext).toNat
  | _ => 0

/-- The capture state at an instant: ARMED from t_arm on (R322). -/
def ResChan.capAt (r : ResChan) (now : Nat) : CapState := if r.cap == .armed && decide (now < r.armAt) then .idle else r.cap

/-- Slots in use, a capture's history included (WS_USED). -/
def Dev.wsUsed (s : Dev) (i : Nat) : Nat :=
  let t := s.stream i
  t.pairs + t.fours + (if i < 64 then (s.res i).hist.length else 0)

/-- Slots in use of a group's fail FIFO, which the streams of every function share (R444). -/
def Dev.failUsed (s : Dev) (g : Nat) : Nat :=
  (s.vec.fails.filter (fun p => p.1 % 4 == g)).foldl (fun n p => n + p.2.pairs + p.2.fours) 0

/-- Whether `n` more slots are free for records (R320, R444). -/
def Dev.roomFor (s : Dev) (i n : Nat) : Bool :=
  let t := s.stream i
  decide ((if i < 64 then t.pairs + t.fours + (s.res i).window else s.failUsed (i % 4)) + n ≤ capacity i)

/-- Slots free for a capture's pairs: 512 stay reserved for four-slot records (R322). -/
def Dev.captureFree (s : Dev) (c : Nat) : Nat :=
  let t := s.stream c
  32768 - t.pairs - max t.fours 512

/-- One more, saturating at 32 bits. -/
def sat32n (n : Nat) : Nat := min n 0xFFFFFFFF

/-- A GAP record in place of a lost one (R307, R320). -/
def gapOf (n : Nat) (r : Rec) (seq : Nat) : Rec :=
  { r with type_ := 6, seq := seq, v := n, i := 0, idx := 0, slots := 4, diffs := [],
           flags := if r.stream < 64 then r.inst else r.inst &&& 0x100 }

/-- Inserts the GAP record that waits, when four slots are free (R320). -/
def Dev.insertGap (s : Dev) (i : Nat) : Dev :=
  match (s.stream i).gap with
  | none => s
  | some g =>
    if s.roomFor i 4 then
      s.modStream i (fun t => { t with recs := t.recs ++ [gapOf g.1 g.2 t.seq], seq := (t.seq + 1) % 65536, gap := none })
    else s

/-- One record is lost: the channel's LOST, the ring's LOST, and the GAP that waits (R320). -/
def Dev.lose (s : Dev) (i : Nat) (r : Rec) (n : Nat) : Dev :=
  let s1 := s.modStream i (fun t => { t with lost := sat32n (t.lost + n), gap := some (match t.gap with
    | some g => (sat32n (g.1 + n), g.2)
    | none => (n, r)) })
  s1.modFn (s.streamFn i) (fun f => f.modRing r.ring (fun g => { g with lostSince := sat32n (g.lostSince + n) }))

/-- A record formed for a stream: it takes the next SEQ and waits, or is lost (R309, R319, R320). -/
def Dev.formRec (s : Dev) (r : Rec) : Dev :=
  if (s.stream r.stream).ring = 0xFF then s
  else
    let s1 := s.insertGap r.stream
    let t := s1.stream r.stream
    let r1 := { r with seq := t.seq, ring := t.ring }
    let s2 := s1.modStream r.stream (fun t => { t with seq := (t.seq + 1) % 65536 })
    if t.gap.isNone && s1.roomFor r.stream r.slots then s2.modStream r.stream (fun t => { t with recs := t.recs ++ [r1] })
    else s2.lose r.stream r1 1

/-- A pair of a capture enters a slot that the capture has kept for it (R322, R324): it is never lost. DESIGN CHOICE (log
133): a GAP record that waits for four slots follows it. -/
def Dev.formPair (s : Dev) (r : Rec) : Dev :=
  if (s.stream r.stream).ring = 0xFF then s
  else s.modStream r.stream (fun t =>
    { t with recs := t.recs ++ [{ r with seq := t.seq, ring := t.ring }], seq := (t.seq + 1) % 65536 })

/-! ### Records as bytes, blocks and the seal -/

/-- The 32 bytes of a record (R305). -/
def recBytes (r : Rec) : List Byte :=
  w64 r.timeNs ++ w8 r.frac ++ w8 r.chan ++ w16 r.epoch ++ w8 r.type_ ++ w8 0 ++ w16 r.seq ++ w32 r.v ++ w32 r.i
    ++ w32 r.idx ++ w32 r.flags

/-- Eight steps of the fold's shift (R312). -/
def foldBits (n : Nat) (d : BitVec 32) : BitVec 32 :=
  match n with
  | 0 => d
  | m + 1 => foldBits m (if d.getLsbD 0 then (d >>> 1) ^^^ 0x82F63B78#32 else d >>> 1)

/-- The fold D of R312 over a list of differences. -/
def foldDiffs (d : BitVec 32) (l : List Nat) : BitVec 32 :=
  l.foldl (fun d x => foldBits 8 (d ^^^ BitVec.ofNat 32 x)) d

/-- The header bytes 0 to 59 of a block (R315). -/
def blockHeader (b : Block) (sealOn : Bool) (ring fn seqNo space : Nat) : List Byte :=
  w16 1 ++ w8 b.recs.length ++ w8 (bitAt sealOn 0 + bitAt b.flushed 1 + bitAt (b.lost != 0) 2) ++ w8 ring ++ w8 0
    ++ w16 fn ++ w64 seqNo ++ w64 b.closeNs ++ w16 b.closeEpoch ++ zeros 2 ++ w32 b.lost ++ w64 space ++ zeros 20

/-- The record bytes of a block with their padding (R316). -/
def blockRecs (b : Block) : List Byte := padTo 4032 (b.recs.flatMap recBytes)

/-- The SEAL field (R313, R314). -/
def blockSeal (hdr recs : List Byte) (b : Block) (sealOn : Bool) : Nat :=
  if sealOn then (crc32c (hdr ++ recs) ^^^ foldDiffs 0#32 (b.recs.flatMap (·.diffs))).toNat else 0

/-! ### Caravan takes records (R321, R333) -/

/-- Adds a closed block of a function's ring to the caravan it forms (R541; at most 8 blocks). -/
def Dev.joinCaravan (s : Dev) (f r : Nat) : Dev :=
  let isOpen := fun (c : Caravan) => c.fn == f && !c.admitted && decide (c.rings.length < 8)
  if s.tg.caravans.any isOpen then
    s.modTg (fun t => { t with caravans := updFirst isOpen (fun c => { c with rings := c.rings ++ [r] }) t.caravans })
  else
    s.modTg (fun t => { t with caravans := t.caravans ++
      [{ fn := f, rings := [r], since := s.now, eff := (s.fn f).cls, weight := (s.fn f).weight, ages := t.ages, agedAt := s.now,
         admitted := false }] })

/-- Closes the block being filled, if it holds a record (R333). -/
def Dev.closeBlock (s : Dev) (f r : Nat) (flushed : Bool) : Dev :=
  let g := (s.fn f).ring r
  if g.openRecs.isEmpty then s
  else
    let b : Block := { recs := g.openRecs, flushed := flushed, closeNs := s.timeNs, closeEpoch := s.tb.epoch, lost := g.lostSince }
    let s1 := s.modFn f (fun x => x.modRing r (fun g =>
      { g with openRecs := [], openSince := none, lostSince := 0, closed := g.closed ++ [b] }))
    s1.joinCaravan f r

/-- Caravan forms a pair's record: its check codes are checked here, else at the merge (R311). -/
def Dev.readPair (s : Dev) (i : Nat) (r : Rec) : Dev × Rec :=
  let bad := r.diffs.filter (· != 0)
  if r.slots ≠ 1 || bad.isEmpty then (s, r)
  else
    let s1 := s.modStream i (fun t => { t with codeErr := sat32n (t.codeErr + bad.length) })
    (s1.logIt (kCodeErr i) (bad.headD 0), { r with flags := r.flags ||| 128 })

/-- One record enters the block of its ring. -/
def Dev.takeOne (s : Dev) (i : Nat) (r0 : Rec) : Dev :=
  let f := s.streamFn i
  let p := s.readPair i r0
  let s1 := p.1.modStream i (fun t =>
    { t with recs := t.recs.tail, takenPairs := t.takenPairs + (if r0.slots = 1 then 1 else 0),
             takenFour := t.takenFour + (if r0.slots = 1 then 0 else 4) })
  let s2 := s1.modFn f (fun x => x.modRing r0.ring (fun g =>
    { g with openRecs := g.openRecs ++ [p.2], openSince := some (g.openSince.getD s.now) }))
  if ((s2.fn f).ring r0.ring).openRecs.length ≥ 126 then s2.closeBlock f r0.ring false else s2

/-- Takes records of a stream while their ring is enabled and not FULL (R321). -/
def Dev.takeList (s : Dev) (i : Nat) (l : List Rec) : Dev :=
  match l with
  | [] => s
  | r :: rest =>
    let g := (s.fn (s.streamFn i)).ring r.ring
    if g.enabled && !g.full then Dev.takeList (s.takeOne i r) i rest else s

/-- Caravan takes what it may of a stream. -/
def Dev.take (s : Dev) (i : Nat) : Dev := s.takeList i (s.stream i).recs

/-- The streams that a function's rings can receive. -/
def Dev.streamsOf (s : Dev) (f : Nat) : List Nat :=
  (s.results.map (·.1)).filter (fun c => s.chanHolder c == f) ++ (List.range 4).map (groupStream f)

/-- Caravan takes what it may of every stream of a function. -/
def Dev.takeAll (s : Dev) (f : Nat) : Dev := s.forAll (s.streamsOf f) Dev.take

/-- A record formed and, where the ring allows, taken at once. -/
def Dev.record (s : Dev) (r : Rec) : Dev := (s.formRec r).take r.stream

/-! ### Rings -/

/-- The ring's FULL or fill changes are accounted: FULL_US, WMARK and their occurrences (R332, R334). -/
def Dev.ringNote (s : Dev) (f r : Nat) (wasFull : Bool) : Dev :=
  let g := (s.fn f).ring r
  let rises := g.full && !wasFull
  let wm := g.wmark != 0 && decide (g.wmark ≤ g.used) && !g.above
  let s1 := s.modFn f (fun x => x.modRing r (fun g =>
    { g with above := g.wmark != 0 && decide (g.wmark ≤ g.used), wmarkHit := g.wmarkHit || wm,
             fullAt := if g.full then some (g.fullAt.getD s.now) else none,
             fullPs := g.fullPs + (match g.fullAt with | some t => if g.full then 0 else s.now - t | none => 0) }))
  let s2 := if rises && g.irqMode != 0 then s1.irq f (8 + r) else s1
  if wm && g.irqMode != 0 then s2.irq f (8 + r) else s2

/-- A RING_TAIL write (R78, R79, R332). -/
def Dev.ringTail (s : Dev) (f r : Nat) (val : W32) : Dev :=
  if !((s.fn f).ring r).enabled then s
  else
    let was := ((s.fn f).ring r).full
    ((s.modFn f (fun x => x.modRing r (fun g => g.writeTail val.toNat))).ringNote f r was).takeAll f

/-- Frees the slots of a block's records (R321). -/
def Dev.freeSlots (s : Dev) (l : List Rec) : Dev :=
  l.foldl (fun s r => s.modStream r.stream (fun t =>
    if r.slots = 1 then { t with takenPairs := t.takenPairs - 1 } else { t with takenFour := t.takenFour - r.slots })) s

/-- The writes of the first closed block of a ring, and the device after them (R331, R334). -/
def Dev.writeBlock (s : Dev) (f r : Nat) : Dev × List (Nat × List Byte) :=
  let g := (s.fn f).ring r
  match g.closed with
  | [] => (s, [])
  | b :: rest =>
    let hdr := blockHeader b g.sealOn r f g.blockSeq (g.space + 4096 * g.head)
    let recs := blockRecs b
    let at_ := g.base + 4096 * g.head
    let head := (g.head + 1) % 2 ^ g.size
    let wb := if g.wbAddr = 0 then [] else [(g.wbAddr, w32 head ++ w32 g.blockSeq)]
    let s1 := s.modFn f (fun x => x.modRing r (fun g =>
      { g with closed := rest, head := head, blockSeq := g.blockSeq + 1 }))
    let s2 := s1.freeSlots b.recs
    let s3 := if g.irqMode = 1 then s2.irq f (8 + r) else s2
    ((s3.ringNote f r g.full).takeAll f,
      [(at_ + 64, recs), (at_, hdr ++ w32 (blockSeal hdr recs b g.sealOn))] ++ wb)

/-- The records of a ring's blocks that Caravan has not begun, lost as R335 gives, with one GAP for each stream. -/
def Dev.dropBlocks (s : Dev) (f r : Nat) : Dev :=
  let g := (s.fn f).ring r
  let l := (g.closed.flatMap (·.recs)) ++ g.openRecs
  let s1 := (s.modFn f (fun x => x.modRing r (fun g =>
    { g with closed := [], openRecs := [], openSince := none,
             lostSince := sat32n (g.lostSince + (g.closed.foldl (fun a b => a + b.lost) 0)) }))).freeSlots l
  let s2 := s1.modTg (fun t => { t with caravans :=
    (t.caravans.map (fun c => if c.fn = f then { c with rings := c.rings.filter (· != r) } else c)).filter (fun c => !c.rings.isEmpty) })
  l.foldl (fun s x => if s.streamFn x.stream = f then s.lose x.stream x 1 else s) s2

/-- Disables a ring (R335): what waits in Waystations stays. -/
def Dev.disableRing (s : Dev) (f r : Nat) : Dev :=
  (s.dropBlocks f r).modFn f (fun x => x.modRing r (fun g =>
    { ringInit 0 with lostSince := g.lostSince, fullPs := g.fullPs + (match g.fullAt with | some t => s.now - t | none => 0) }))

/-! ### Instants of records -/

/-- A record of a stream at an instant (R308), with the time fields and UNLOCKED of that instant; slots 4. -/
def Dev.recAt (s : Dev) (stream chan type_ t v i idx flags : Nat) : Rec :=
  let unlocked := if s.tb.tstate == .locked then 0 else 256
  { timeNs := s.nsAt t, frac := s.timeAt t % 256, chan := chan, epoch := s.epochAt t, type_ := type_, seq := 0, v := v, i := i,
    idx := idx, flags := flags ||| unlocked, stream := stream, ring := 0, slots := 4,
    diffs := [], at_ := t, inst := (flags &&& 0x00FF0800) ||| unlocked }

/-- The records of a channel's stream changed wherever they wait: the Waystation, the history, and the blocks of its ring. -/
def Dev.markRecs (s : Dev) (c : Nat) (g : Rec → Rec) : Dev :=
  let one := fun (r : Rec) => if r.stream = c then g r else r
  let s1 := s.modRes c (fun r => { r with st := { r.st with recs := r.st.recs.map one }, hist := r.hist.map one })
  s1.modFn (s.chanHolder c) (fun f => f.modRing (s.res c).st.ring (fun x =>
    { x with openRecs := x.openRecs.map one, closed := x.closed.map (fun b => { b with recs := b.recs.map one }) }))

/-- FI, VRANGE and IRANGE of a channel as FLAGS (R306). -/
def Dev.rangeFlags (s : Dev) (c : Nat) : Nat :=
  bitAt (s.chan c).fi 11 + 65536 * (s.chan c).vr + 1048576 * (s.chan c).ir

end Sys2Proof.Machine
end

