-- ==== Sys2Proof/Machine/HostRows.lean ====
section
/-! DEFINITION. The meanings of the host's register accesses, the bulk ring, interrupts and link errors (R17, R18, R46 to
R105). -/

namespace Sys2Proof.Machine

/-- A memory write that reaches BAR0 of a function: it wakes the device from DEEP (R573) and then acts. -/
def Dev.bar (s : Dev) (f : Nat) (g : Dev → Dev) : Dev := if s.reachable f then g (s.wakeBy 1) else s

/-- A write to EVT_FIRE (R71, R72). -/
def Dev.evtFire (s : Dev) (f : Nat) (val : W32) : Dev :=
  let r := val.toNat % 256
  if s.routeHolder r = f then s.fire r else s.modFn f (fun x => { x with fireDenied := true })

/-- A write to CMDR_TAIL (R67). -/
def Dev.cmdrTail (s : Dev) (f : Nat) (val : W32) : Dev :=
  s.modFn f (fun r => { r with cmdr := r.cmdr.writeTail val.toNat })

/-- A write to any BAR0 register (R18, R60, R61). -/
def Dev.regWrite (s : Dev) (fn : FnId) (off : Nat) (val tie : W32) : Dev :=
  let f := fn.val
  if off % 4 ≠ 0 then s
  else if off < 0x100 then s.writeReqWin f (off / 4) val
  else if off < 0x200 then s
  else if off = 0x200 then s.doorbell fn val
  else if off = 0x204 then s.writeMbxStatus f (w1c val tie)
  else if off = 0x308 then s.writeCmdrCfg f val
  else if off = 0x30C then s.cmdrTail f val
  else if off = 0x400 then s.evtFire f val
  else if off = 0x500 then s.writeCause f val tie
  else if off = 0x504 then s.writeMask f val
  else if 0x1000 ≤ off && off < 0x1080 && off % 16 = 4 then s.ringTail f ((off - 0x1000) / 16) val
  else s.writePlain f off val tie

/-- REGISTER_WRITE. -/
def execRegisterWrite (fn : FnId) (off : W16) (w : W1cWrite) (s : State) : Out :=
  .next (s.on (fun d => d.bar fn.val (fun d => d.regWrite fn off.toNat w.val w.tie)))

/-- REGISTER_ACCESS_BAD_SIZE: no effect but the wake of a write (R573); a read returns all ones (R17). -/
def execRegisterAccessBadSize (fn : FnId) (_off : W16) (_size : Nat) (write : Bool) (s : State) : Out :=
  .next (s.on (fun d =>
    if !(d.fn fn.val).enabled then d
    else if write then d.bar fn.val id
    else { d with readData := 0xFFFFFFFF#32 }))

/-- UNASSIGNED_OFFSET_ACCESS: a read returns 0 and a write has no effect (R61). -/
def execUnassignedOffsetAccess (fn : FnId) (off : W16) (write : Bool) (_val : W32) (s : State) : Out :=
  .next (s.on (fun d =>
    if !(d.fn fn.val).enabled then d
    else if write then d.bar fn.val id
    else { d with readData := BitVec.ofNat 32 (hostRead d fn.val off.toNat) }))

/-- REQUEST_WINDOW_WRITE (R64). -/
def execRequestWindowWrite (fn : FnId) (word : Fin 64) (val : W32) (s : State) : Out :=
  .next (s.on (fun d => d.bar fn.val (fun d => d.writeReqWin fn.val word.val val)))

/-- REPLY_WINDOW_WRITE: no effect on the window (R100). -/
def execReplyWindowWrite (fn : FnId) (_word : Fin 64) (_val : W32) (s : State) : Out :=
  .next (s.on (fun d => d.bar fn.val id))

/-- SUBMIT (R63, R64, R97). -/
def execSubmit (fn : FnId) (val : W32) (s : State) : Out :=
  .next (s.on (fun d => d.bar fn.val (fun d => d.doorbell fn val)))

/-- REPLY_CLEAR (R98). -/
def execReplyClear (fn : FnId) (w : W1cWrite) (s : State) : Out :=
  .next (s.on (fun d => d.bar fn.val (fun d => d.writeMbxStatus fn.val (w1c w.val w.tie))))

/-- REPLY_ENTERS_WINDOW (R65, R98, R99). -/
def execReplyEntersWindow (fn : FnId) (s : State) : Out := .next (s.on (fun d => d.showReply fn.val))

/-! ### Aging (R541) -/

/-- The instant at which a waiting item's class rises; none at class 7. -/
def ageDue (eff : Nat) (ages : List Nat) (agedAt : Nat) : Option Nat :=
  if eff < 7 then some (agedAt + ages.getD eff 50 * 1000000) else none

/-- The element at a position changed by `g`. -/
def modAt {α : Type} (l : List α) (k : Nat) (g : α → α) : List α :=
  match l, k with
  | [], _ => []
  | a :: r, 0 => g a :: r
  | a :: r, n + 1 => a :: modAt r n g

/-- TOLLGATE_AGE: a waiting request, or a caravan, passes its age threshold (R541). -/
def execTollgateAge (caravan : Bool) (pos : Nat) (s : State) : Out :=
  .next (s.on (fun d =>
    if caravan then
      match d.tg.caravans[pos]? with
      | none => d
      | some c =>
        match ageDue c.eff c.ages c.agedAt with
        | none => d
        | some t =>
          if c.admitted then d
          else (d.advance t).modTg (fun g => { g with
            caravans := modAt g.caravans pos (fun c => { c with eff := c.eff + 1, agedAt := t }) })
    else
      match d.tg.waiting[pos]? with
      | none => d
      | some j =>
        match ageDue j.eff j.ages j.agedAt with
        | none => d
        | some t => (d.advance t).modTg (fun g => { g with
          waiting := modAt g.waiting pos (fun j => { j with eff := j.eff + 1, agedAt := t }) })))

/-! ### The bulk ring -/

/-- CMDR_ENABLE: a write to CMDR_CFG (R66, R69). -/
def execCmdrEnable (fn : FnId) (val : W32) (s : State) : Out :=
  .next (s.on (fun d => d.bar fn.val (fun d => d.writeCmdrCfg fn.val val)))

/-- IDX_RESET: a write to CMDR_CFG (R70). -/
def execIdxReset (fn : FnId) (val : W32) (s : State) : Out :=
  .next (s.on (fun d => d.bar fn.val (fun d => d.writeCmdrCfg fn.val val)))

/-- CMDR_TAIL_WRITE (R67). -/
def execCmdrTailWrite (fn : FnId) (val : W32) (s : State) : Out :=
  .next (s.on (fun d => d.bar fn.val (fun d => d.cmdrTail fn.val val)))

/-- Whether the device fetches an entry of a function's ring now (R68, R69, R102, R114). -/
def Dev.mayFetch (s : Dev) (f : Nat) : Bool :=
  let c := (s.fn f).cmdr
  s.serves f && s.reachable f && c.enable && c.head != c.tail && decide (s.inService f < 64)

/-- RING_ENTRY_FETCH: the entry at HEAD comes into service (R101, R102). -/
def execRingEntryFetch (fn : FnId) (bytes : List Byte) (s : State) : Out :=
  .next (s.on (fun d =>
    if !d.mayFetch fn.val then d
    else
      let c := (d.fn fn.val).cmdr
      let p := reqOf fn (some c.head) (padTo 256 bytes)
      let j := d.jobOf p.1 p.2
      (d.nextJob.modFn fn.val (fun r => { r with cmdr := { r.cmdr with head := (r.cmdr.head + 1) % 2 ^ r.cmdr.log2 } })).modTg
        (fun t => { t with waiting := t.waiting ++ [j] })))

/-- FETCH_ERR (R68). -/
def execFetchErr (fn : FnId) (s : State) : Out :=
  .next (s.on (fun d =>
    if !d.mayFetch fn.val then d
    else d.modFn fn.val (fun r => { r with cmdr := { r.cmdr with enable := false, fetchErr := true } })))

/-- The memory writes of a ring reply (R101, R103): the payload, the header without its RFLAGS word, then that word. -/
def ringReplyWrites (base entry : Nat) (r : Reply) : List (Nat × List Byte) :=
  let b := replyBytes r
  let a := base + 512 * entry + 256
  [(a + 16, b.drop 16), (a, b.take 8), (a + 12, (b.drop 12).take 4), (a + 8, (b.drop 8).take 4)]

/-- RING_REPLY_WRITE: the reply of an entry in service is written, with COMPLETION for NOTIFY (R103 to R105), and ends the
entry's service time where it had not been pending (R113). It goes to the ring base in force now, though the host may have
moved a disabled ring while the entry was in service (DESIGN CHOICE, log entry 118). -/
def execRingReplyWrite (fn : FnId) (entry : Nat) (s : State) : Out :=
  .next (match (s.dev.fn fn.val).ringReplies.find? (fun x => x.entry == entry) with
    | none => s
    | some x =>
      let c := (s.dev.fn fn.val).cmdr
      let d1 := (s.dev.modFn fn.val (fun r => { r with ringReplies := r.ringReplies.erase x })).served fn.val x.reply.arrival
      let d2 := if x.notify then (d1.modFn fn.val (fun r => { r with completion := true })).irq fn.val irqMbx else d1
      s.onWith (d2, ringReplyWrites (c.baseHi.toNat * 2 ^ 32 + c.baseLo.toNat) entry x.reply))

/-! ### Events, time, rings -/

/-- EVT_FIRE (R71 to R73). -/
def execEvtFire (fn : FnId) (val : W32) (s : State) : Out :=
  .next (s.on (fun d => d.bar fn.val (fun d => d.evtFire fn.val val)))

/-- TIME_SNAP_LO_READ: latches the snapshot and returns its low word (R74); reset states before READY (R561) and during
function-level reset (R538). -/
def execTimeSnapLoRead (fn : FnId) (s : State) : Out :=
  .next (s.on (fun d =>
    if !(d.fn fn.val).enabled then d
    else if !(d.fn 0).ready || !d.reachable fn.val then { d with readData := 0 }
    else
      let d1 := d.latchSnap fn.val
      { d1 with readData := ((d1.fn fn.val).snap.ns).setWidth 32 }))

/-- RING_TAIL_WRITE (R78, R79, R332). -/
def execRingTailWrite (fn : FnId) (ring : RingId) (val : W32) (s : State) : Out :=
  .next (s.on (fun d => d.bar fn.val (fun d => d.ringTail fn.val ring.val val)))

/-! ### Interrupts -/

/-- IRQ_CAUSE_WRITE (R85). -/
def execIrqCauseWrite (fn : FnId) (w : W1cWrite) (s : State) : Out :=
  .next (s.on (fun d => d.bar fn.val (fun d => d.writeCause fn.val w.val w.tie)))

/-- IRQ_MASK_WRITE (R85). -/
def execIrqMaskWrite (fn : FnId) (val : W32) (s : State) : Out :=
  .next (s.on (fun d => d.bar fn.val (fun d => d.writeMask fn.val val)))

/-- HOLDOFF_EXPIRY: an armed vector signals, another's count and timer reset (R83, R84). -/
def execHoldoffExpiry (fn : FnId) (vec : Fin 64) (s : State) : Out :=
  .next (s.on (fun d =>
    match ((d.fn fn.val).vec vec.val).start with
    | none => d
    | some t =>
      let d1 := d.advance (t + ((d.fn fn.val).vec vec.val).holdoff.toNat * 1000000)
      if (d1.fn fn.val).armed fn.val vec.val then d1.signal fn.val vec.val
      else d1.modFn fn.val (fun r => r.modVec vec.val (fun x => { x with count := 0, start := none }))))

/-- MSIX_UNMASK: a vector's Mask bit, or the Function Mask, is cleared (R86). -/
def execMsixUnmask (fn : FnId) (vec : Option (Fin 64)) (s : State) : Out :=
  .next (s.on (fun d =>
    if !(d.fn fn.val).enabled then d
    else
      match vec with
      | some v =>
        if v.val < vecCount fn.val then
          (d.modFn fn.val (fun r => r.modVec v.val (fun x => { x with mask := false }))).flushPba fn.val v.val
        else d
      | none => (d.modFn fn.val (fun r => { r with funcMask := false })).flushAll fn.val))

/-! ### Link errors (R50, R51) -/

/-- An error reported through AER: its status bit, and the header of its TLP unless an earlier one is logged (R47, R50,
R51; PRESUMED of the log, log entry 14). -/
def Fn.aerReport (r : Fn) (poison : Bool) (hdr : W128) : Fn :=
  { r with aerLog := if r.aerEcrc || r.aerPoison then r.aerLog else hdr, aerEcrc := r.aerEcrc || !poison,
           aerPoison := r.aerPoison || poison }

/-- ECRC_DISCARD: reported through AER while checking is enabled; no register changes (R50). -/
def execEcrcDiscard (tlp : BadTlp) (s : State) : Out :=
  .next (s.on (fun d => d.modFn tlp.fn.val (fun r => if r.enabled && r.ecrcCheck then r.aerReport false tlp.hdr else r)))

/-- POISONED_WRITE: discarded and reported through AER (R51). -/
def execPoisonedWrite (tlp : BadTlp) (s : State) : Out :=
  .next (s.on (fun d => d.modFn tlp.fn.val (fun r => if r.enabled then r.aerReport true tlp.hdr else r)))

end Sys2Proof.Machine
end

