-- ==== Sys2Proof/Machine/Checks.lean ====
section
/-! DEFINITION. The pieces that command sheets' checks are made of (R94): reserved fields, named channels, holders and owner
holds. -/

namespace Sys2Proof.Machine

/-- Reserved bytes are 0 (R14). -/
def Job.rsv (j : Job) (o n : Nat) : Bool := allZero j.p o n

/-- A channel the variant enables (R3). -/
def Dev.chanOk (s : Dev) (c : Nat) : Bool := decide (c < s.nChan)
/-- Every channel of a map is one the variant enables (R3). -/
def Dev.chansOk (s : Dev) (m : Nat) : Bool := decide (m < 2 ^ s.nChan)
/-- The channels of a map. -/
def chansIn (m : Nat) : List Nat := bitsSet m 64
/-- A function holds a channel. -/
def Dev.holdsChan (s : Dev) (f c : Nat) : Bool := s.chanHolder c == f
/-- A function holds every channel of a map. -/
def Dev.holdsChans (s : Dev) (f m : Nat) : Bool := (chansIn m).all (s.holdsChan f)

/-- An owner hold excludes a command of a session that changes a channel (R534); a gang is held through its leader. -/
def Dev.chanFree (s : Dev) (f c : Nat) : Bool :=
  f == 0 || !(s.assign.holdChan.testBit c || (match s.gangOf c with | some g => s.assign.holdChan.testBit g.2.leader | none => false))
/-- As `chanFree`, for every channel of a map. -/
def Dev.chansFree (s : Dev) (f m : Nat) : Bool := (chansIn m).all (s.chanFree f)
/-- No owner hold on a route. -/
def Dev.routeFree (s : Dev) (f r : Nat) : Bool := f == 0 || !s.assign.holdRoute.testBit r
/-- No owner hold on a set. -/
def Dev.setFree (s : Dev) (f k : Nat) : Bool := f == 0 || !s.assign.holdSet.testBit k

/-- The resource of a channel: its gang, or itself (R107). -/
def Dev.chanRes (s : Dev) (c : Nat) : Res := match s.gangOf c with | some g => .gang g.1 | none => .chan c
/-- The resources of the channels of a map: each channel and its gang. -/
def Dev.chanNames (s : Dev) (m : Nat) : List Res :=
  (chansIn m).flatMap (fun c => (s.team c).map Res.chan)

/-- A bit map as `n` bytes. -/
def mapBytes (n v : Nat) : List Byte := toLe n v

/-- Whether a function is one: PF0, or a VF up to TotalVFs. -/
def Dev.funcOk (s : Dev) (f : Nat) : Bool := decide (f ≤ s.totalVfs)
/-- A VF number. -/
def Dev.vfOk (s : Dev) (f : Nat) : Bool := decide (1 ≤ f) && decide (f ≤ s.totalVfs)

/-- The state right now permits; else ST_STATE. -/
def stIf (ok : Bool) : Nat := if ok then 0 else stState

/-- The first status that is not ST_OK. -/
def firstSt (l : List Nat) : Nat := (l.find? (· != 0)).getD 0

/-- A session holds a resource that an error-log entry names (R119, R603). -/
def Dev.entryHeld (s : Dev) (f : Nat) (e : LogEntry) : Bool :=
  let i := e.rindex
  match e.rkind with
  | 1 => s.holdsChan f i
  | 2 => s.holdsChan f (i / 4)
  | 3 => (List.range 4).any (fun k => s.holdsChan f (4 * i + k))
  | 4 => s.mxSets.any (fun p => p.2.chain == i && !p.2.members.isEmpty && s.setHolder p.1 == f)
  | 5 => s.setHolder i == f
  | 6 => s.routeHolder i == f
  | 7 => i % 65536 == f
  | 8 => (List.range 32).any (fun k => s.pinHolder (32 * i + k) == f)
  | 9 => (s.fn f).view.testBit i
  | 10 => i == f
  | 12 => (List.range 4).any (fun k => s.holdsChan f (4 * i + k))
  | 13 => s.lineHolder i == f
  | _ => false

end Sys2Proof.Machine
end

