-- ==== Sys2Proof/Machine/Session.lean ====
section
/-! DEFINITION. The meanings of the session and diagnostic commands (spec/03_mailbox.md, R119, R529, R606, R609). -/

namespace Sys2Proof.Machine

/-- SESSION_INFO's sheet. -/
def cmdSessionInfo : Cmd :=
  { op := 0x0101, len := some 0,
    body := fun s j => (s, .done stOk (w16 0x0100 ++ w16 j.f ++ w32 (capFw s) ++ w32 (capDevice s) ++ w16 32 ++ w16 64
      ++ w8 (s.fn j.f).cls ++ w8 (s.fn j.f).ringCount ++ zeros 2)) }

/-- The reply table of SESSION_STATUS for a function; a request that came through its ring is itself in service (R102). -/
def statusReply (s : Dev) (f : Nat) (j : Job) : List Byte :=
  w16 (s.outstanding f) ++ w16 (s.inService f + bit (!j.doorbell && j.f == f))
    ++ w16 ((s.tg.running.filter (fun r => r.job.f == f && r.job.doorbell && !r.silent && !r.direct)).length) ++ zeros 2
    ++ w32 (s.fn f).dropped ++ w32 (s.fn f).completed ++ w32 (s.fn f).maxService

/-- The clears of CLEAR. -/
def clearStatus (s : Dev) (f clr : Nat) : Dev :=
  s.modFn f (fun r => { r with dropped := if clr.testBit 0 then 0 else r.dropped,
                               maxService := if clr.testBit 1 then 0 else r.maxService })

/-- SESSION_STATUS's sheet. -/
def cmdSessionStatus : Cmd :=
  { op := 0x0102, len := some 4, args := fun _ j => decide (u32 j.p 0 < 4),
    body := fun s j => (clearStatus s j.f (u32 j.p 0), .done stOk (statusReply s j.f j)) }

/-- The reply table of SESSION_RESOURCES for a function (R529). -/
def resourcesReply (s : Dev) (f : Nat) : List Byte :=
  toLe 8 (bitMap (fun c => decide (c < s.nChan) && s.holdsChan f c) 64)
    ++ toLe 32 (bitMap (fun r => s.routeHolder r == f) 256)
    ++ toLe 16 (if s.optV then bitMap (fun p => s.pinHolder p == f) 128 else 0)
    ++ toLe 2 (if s.optV then bitMap (fun i => s.segHolder i == f) 16 else 0)
    ++ toLe 2 (bitMap (fun l => s.lineHolder l == f) 13)
    ++ toLe 32 (if f = 0 then ones 256 else (s.fn f).view)
    ++ w64 (s.fn f).quota ++ w8 (s.fn f).ringCount ++ w8 (s.fn f).cls ++ w16 (s.fn f).weight
    ++ toLe 32 (if s.optM then bitMap (fun k => s.setHolder k == f) 256 else 0)
    ++ toLe 4 (if s.optG then bitMap (fun g => match s.gang g with | some x => s.holdsChan f x.leader | none => false) 32 else 0)

/-- SESSION_RESOURCES's sheet. -/
def cmdSessionResources : Cmd :=
  { op := 0x0103, len := some 0, body := fun s j => (s, .done stOk (resourcesReply s j.f)) }

/-- DIAG_ECHO's sheet. -/
def cmdDiagEcho : Cmd := { op := 0x0F01, len := none, body := fun s j => (s, .done stOk j.p) }

/-- Examines log positions (R119): at most `fuel`, until `room` entries are found. -/
def logScan (s : Dev) (f fuel pos room : Nat) (acc : List LogEntry) : Nat × List LogEntry :=
  match fuel with
  | 0 => (pos, acc)
  | k + 1 =>
    if pos ≥ s.log.pos || room = 0 then (pos, acc)
    else
      match logEntryAt s (pos % 512) with
      | none => logScan s f k (pos + 1) room acc
      | some e =>
        if f = 0 || s.entryHeld f e then logScan s f k (pos + 1) (room - 1) (acc ++ [e])
        else logScan s f k (pos + 1) room acc

/-- LOG_READ's sheet. -/
def cmdLogRead : Cmd :=
  { op := 0x0F02, len := some 8,
    args := fun _ j => decide (1 ≤ u8 j.p 4) && decide (u8 j.p 4 ≤ 7) && j.rsv 5 3,
    body := fun s j =>
      let start := u32 j.p 0
      let oldest := s.log.pos - 512
      let gap := decide (start < oldest)
      let r := if start > s.log.pos then (start, []) else logScan s j.f 512 (max start oldest) (u8 j.p 4) []
      (s, .done stOk (w32 r.1 ++ w8 r.2.length ++ w8 (bit gap) ++ zeros 2 ++ r.2.flatMap entryBytes)) }

/-- FUNC_STATUS's sheet. -/
def cmdFuncStatus : Cmd :=
  { op := 0x0F03, owner := true, len := some 8,
    args := fun s j => s.funcOk (u16 j.p 0) && j.rsv 2 2 && decide (u32 j.p 4 < 4),
    state := fun s j => stIf (s.fn (u16 j.p 0)).enabled,
    body := fun s j => (clearStatus s (u16 j.p 0) (u32 j.p 4), .done stOk (statusReply s (u16 j.p 0) j)) }

/-- LOG_CLEAR_LOST's sheet (R606). -/
def cmdLogClearLost : Cmd :=
  { op := 0x0F04, owner := true, len := some 0,
    body := fun s _ => (s.modLog (fun l => { l with lost := 0 }), .done stOk (w32 s.log.lost)) }

/-- Entries of the persistent log from an index: the slots hold the latest 32,736 (R608). -/
def archiveRead (s : Dev) (start n : Nat) : Nat × Bool × List LogEntry :=
  let oldest := s.log.archived - 32736
  let a := max start oldest
  let l := ((List.range n).map (· + a)).filter (fun i => decide (i < s.log.archived))
  let es := l.filterMap (fun i => tblGet (fun _ => none) s.log.archive (i % 32736))
  (a + l.length, decide (start < oldest), es)

/-- CRASH.VALID (BKUP[30]). -/
def crashValid (s : Dev) : Bool := (bkup s 30).testBit 0

/-- LOG_ARCHIVE_READ's sheet (R608, R609); the persistent log is read from MRAM and completes later. -/
def cmdLogArchiveRead : Cmd :=
  { op := 0x0F05, owner := true, len := some 8,
    args := fun _ j =>
      let src := u8 j.p 0
      let n := u8 j.p 1
      let start := u32 j.p 4
      decide (src ≤ 2) && j.rsv 2 2
        && (if src = 0 then decide (4 ≤ n) && decide (n ≤ 224) && n % 4 == 0 && decide (start < 4032) && start % 4 == 0
            else if src = 1 then decide (1 ≤ n) && decide (n ≤ 7)
            else n == 0 && start == 0),
    state := fun s j => stIf (u8 j.p 0 != 2 || crashValid s),
    names := fun _ j => if u8 j.p 0 = 1 then [.store] else [],
    body := fun s j =>
      let start := u32 j.p 4
      if u8 j.p 0 = 0 then
        let n := min (u8 j.p 1) (4032 - start)
        (s, .done stOk (w8 (bit (crashValid s)) ++ w8 n ++ zeros 2 ++ w32 (start + n) ++ slice s.log.crash start n))
      else if u8 j.p 0 = 1 then (s, .later [])
      else
        (s.modSys (fun y => { y with bkup := tblSet (fun _ => 0) y.bkup 30 0 }),
          .done stOk (w8 0 ++ w8 0 ++ zeros 2 ++ w32 0)) }

/-- SESSION_INFO. -/
def execSessionInfo (q : Req) (s : State) : Out := .next (s.on (fun d => d.command cmdSessionInfo q))
/-- SESSION_STATUS. -/
def execSessionStatus (q : Req) (s : State) : Out := .next (s.on (fun d => d.command cmdSessionStatus q))
/-- SESSION_RESOURCES. -/
def execSessionResources (q : Req) (s : State) : Out := .next (s.on (fun d => d.command cmdSessionResources q))
/-- DIAG_ECHO. -/
def execDiagEcho (q : Req) (s : State) : Out := .next (s.on (fun d => d.command cmdDiagEcho q))
/-- LOG_READ. -/
def execLogRead (q : Req) (s : State) : Out := .next (s.on (fun d => d.command cmdLogRead q))
/-- FUNC_STATUS. -/
def execFuncStatus (q : Req) (s : State) : Out := .next (s.on (fun d => d.command cmdFuncStatus q))
/-- LOG_CLEAR_LOST. -/
def execLogClearLost (q : Req) (s : State) : Out := .next (s.on (fun d => d.command cmdLogClearLost q))
/-- LOG_ARCHIVE_READ. -/
def execLogArchiveRead (q : Req) (s : State) : Out := .next (s.on (fun d => d.command cmdLogArchiveRead q))

end Sys2Proof.Machine
end

