-- ==== Sys2Proof/Machine/SweepEntry.lean ====
section
/-! DEFINITION. Sweep entries (R270 to R274), and when an entry is ready for its source instant (R277, R286). -/

namespace Sys2Proof.Machine

/-- A sweep entry's fields (R270 to R273). -/
structure Entry where
  setpoint : Int
  comp : Int
  frange : Nat
  mrange : Nat
  mode : Nat
  delay : Nat
  aperture : Nat
  trig : Nat
  emit : Nat
  repeat_ : Nat
  link : Nat
deriving DecidableEq, Repr

/-- The fields of 32 entry bytes (R270). -/
def parseEntry (b : List Byte) : Entry :=
  { setpoint := s32 b 0, comp := s32 b 4, frange := u8 b 8, mrange := u8 b 9, mode := u16 b 10, delay := u32 b 12,
    aperture := u32 b 16, trig := u8 b 20, emit := u8 b 21, repeat_ := u16 b 22, link := u16 b 24 }

/-- KIND: 0 POINT, 1 JUMP, 2 END. -/
def Entry.kind (e : Entry) : Nat := e.mode % 4
/-- SOFT. -/
def Entry.soft (e : Entry) : Bool := e.mode.testBit 2
/-- RANGE. -/
def Entry.range (e : Entry) : Bool := e.mode.testBit 3
/-- APMODE. -/
def Entry.apmode (e : Entry) : Nat := bitsOf e.mode 5 4
/-- KEEP_SETPOINT. -/
def Entry.keepS (e : Entry) : Bool := e.mode.testBit 6
/-- KEEP_COMP. -/
def Entry.keepC (e : Entry) : Bool := e.mode.testBit 7
/-- LINK_EN. -/
def Entry.linkEn (e : Entry) : Bool := e.mode.testBit 8
/-- END_ON_COMP. -/
def Entry.endComp (e : Entry) : Bool := e.mode.testBit 9
/-- The input of the source trigger, if the entry waits for one (R272). -/
def Entry.srcTrig (e : Entry) : Option Nat := if e.trig % 8 ≠ 0 && !e.trig.testBit 3 then some (e.trig % 8 - 1) else none
/-- The input of the measure trigger. -/
def Entry.measTrig (e : Entry) : Option Nat := if e.trig % 8 ≠ 0 && e.trig.testBit 3 then some (e.trig % 8 - 1) else none
/-- The event source pulsed at an instant: 0 t_src, 1 t_a, 2 t_e (R273). -/
def Entry.emits (e : Entry) (when_ : Nat) : Option Nat :=
  if e.emit.testBit 7 && bitsOf e.emit 3 2 == when_ then some (e.emit % 4) else none

/-- Entry `i` of a channel's list. -/
def Dev.seqEntry (s : Dev) (c i : Nat) : Entry := parseEntry (s.listEntry ((s.seq c).base + i))
/-- The current entry. -/
def Dev.curEntry (s : Dev) (c : Nat) : Entry := s.seqEntry c (s.seq c).cur

/-- The instant `t`, or the first sample instant after it where it lies in the future: the boundary at which something due
at `t` acts. -/
def Dev.instantAt (s : Dev) (t : Nat) : Nat := if t ≤ s.tb.lastSample then s.tb.lastSample else s.boundaryAt t

/-- t_r and t_src, once the entry is current, its range change is complete and its source trigger has come (R277): `t` is
the last of the three. -/
def Dev.seqReady (s : Dev) (c t : Nat) : Dev :=
  let q := s.seq c
  let trig := (s.curEntry c).srcTrig.isNone || q.trigAt.isSome
  if q.state = 2 && q.phase == .wait && !q.rcRun && trig then
    s.modSeq c (fun q => { q with phase := .source (s.instantAt t + s.periodPs), trigAt := none })
  else s

end Sys2Proof.Machine
end

