-- ==== Sys2Proof/Machine/ChanCore.lean ====
section
/-! DEFINITION. What every channel command and loop event is written over: a channel's identity and ranges (R122 to R128),
scales and thresholds (R233, R357, R418), stage words (R145 to R150), starting and stopping engines (R195), the end of a
sequencer (R290), and the way to the safe state (R135). -/

namespace Sys2Proof.Machine

/-! ### Identity and ranges -/

/-- The identity of a channel's stage: its module is VALID and declares the channel (R124, R526). -/
def Dev.ident (s : Dev) (c : Nat) : Option StageId :=
  let m := s.stage (c / 4)
  if m.mstate == .valid then
    (match m.ident with | some i => if i.chPresent.testBit (c % 4) then some i else none | none => none)
  else none

/-- NO_MODULE (R124, R526). -/
def Dev.noModule (s : Dev) (c : Nat) : Bool := (s.ident c).isNone
/-- The discovery of the channel's module still runs (R124). -/
def Dev.discovering (s : Dev) (c : Nat) : Bool := (s.stage (c / 4)).mstate == .discovering

/-- The ranges of one quantity of a channel, by code (R122). -/
def Dev.ranges (s : Dev) (c : Nat) (cur : Bool) : List RangeDef :=
  match s.ident c with | some i => if cur then i.amps else i.volts | none => []
/-- A declared range. -/
def Dev.range (s : Dev) (c : Nat) (cur : Bool) (code : Nat) : Option RangeDef := (s.ranges c cur)[code]?
/-- The channel declares a code (R123). -/
def Dev.declares (s : Dev) (c : Nat) (cur : Bool) (code : Nat) : Bool := (s.range c cur code).isSome
/-- The active code of a quantity. -/
def Chan.code (x : Chan) (cur : Bool) : Nat := if cur then x.ir else x.vr
/-- The active range of a quantity. -/
def Dev.active (s : Dev) (c : Nat) (cur : Bool) : Option RangeDef := s.range c cur ((s.chan c).code cur)
/-- Whether a range is bipolar; a range that is not declared counts as bipolar. -/
def Dev.bipolar (s : Dev) (c : Nat) (cur : Bool) (code : Nat) : Bool :=
  match s.range c cur code with | some r => r.bipolar | none => true
/-- dir is −1: never on a unipolar measure range (R199). -/
def Dev.clampNeg (s : Dev) (c : Nat) : Bool :=
  let x := s.chan c
  x.dirNeg && s.bipolar c (!x.fi) (x.code (!x.fi))
/-- FS_old / FS_new of two codes; 1 where one is not declared. -/
def Dev.fsRatio (s : Dev) (c : Nat) (cur : Bool) (old new : Nat) : Frac :=
  match s.range c cur old, s.range c cur new with
  | some a, some b => fracDiv (f32Val a.fs) (f32Val b.fs)
  | _, _ => ⟨1, 1⟩
/-- G_old / G_new of two voltage codes (R215). -/
def Dev.gainRatio (s : Dev) (c old new : Nat) : Frac :=
  match s.range c false old, s.range c false new with
  | some a, some b => fracDiv (f32Val a.aux) (f32Val b.aux)
  | _, _ => ⟨1, 1⟩
/-- A code through a range ratio (R128). -/
def rescaleVal (f : Frac) (v : Int) : Int := rhe (v * f.num) f.den

/-- FS of the signal format (R125). -/
def fsCode : Int := 0x40000000
/-- A setpoint is in range (R126). -/
def setpointOk (bip : Bool) (v : Int) : Bool := decide (v ≤ fsCode) && decide ((if bip then -fsCode else 0) ≤ v)
/-- A compliance magnitude is in range (R127). -/
def compOk (v : Int) : Bool := decide (0x00100000 ≤ v) && decide (v ≤ fsCode)

/-! ### Scales and thresholds -/

/-- The working-copy record of a channel. -/
def Dev.calChan (s : Dev) (c : Nat) : CalChan := tblGet calChanInit s.cal.wc.chans c
/-- The working-copy record of a channel changed by `g`. -/
def Dev.modCalChan (s : Dev) (c : Nat) (g : CalChan → CalChan) : Dev :=
  s.modCal (fun k => { k with wc := { k.wc with chans := tblSet calChanInit k.wc.chans c (g (s.calChan c)) } })
/-- The number of a range record (R412). -/
def rangeRecNo (cur : Bool) (code : Nat) : Nat := if cur then 6 + code else code
/-- The store's range records apply: their serial is the module's (R415). -/
def Dev.serialOk (s : Dev) (c : Nat) : Bool :=
  match s.ident c with | some i => i.serial == (s.calChan c).serial | none => false
/-- RG nominal: 1.024 V / V_FS (R233). -/
def nominalRg (r : RangeDef) : Nat :=
  (fracRhe (fracDiv ⟨1024 * 4194304, 1000⟩ (f32Val r.vFs))).toNat
/-- Where RG and RO of a range come from (R418): 0 nominal, 1 identity, 2 store. -/
def Dev.scaleSrc (s : Dev) (c : Nat) (cur : Bool) (code : Nat) : Nat :=
  match s.range c cur code with
  | none => 0
  | some r =>
    if s.serialOk c && (tblGet rangeRecInit (s.calChan c).ranges (rangeRecNo cur code)).valid then 2
    else if r.calValid then 1 else 0
/-- RG and RO of a range (R418). -/
def Dev.scale (s : Dev) (c : Nat) (cur : Bool) (code : Nat) : Nat × Int :=
  match s.range c cur code with
  | none => (0x400000, 0)
  | some r =>
    let rec_ := tblGet rangeRecInit (s.calChan c).ranges (rangeRecNo cur code)
    match s.scaleSrc c cur code with
    | 2 => (rec_.rg, rec_.ro)
    | 1 => (r.calRg, r.calRo)
    | _ => (nominalRg r, 0)
/-- The correction factors of a pair with a range's scale (R234, R235). -/
def pairCalOf (w : PairWc) (sc : Nat × Int) : PairCal :=
  { ofsA := w.ofsA, ofsB := w.ofsB, gainA := w.gainA, gainB := w.gainB, skew := w.skew, rg := sc.1, ro := sc.2 }
/-- The factors of a channel's pair for a code. -/
def Dev.pairFactors (s : Dev) (c : Nat) (cur : Bool) (code : Nat) : PairCal :=
  pairCalOf (if cur then (s.calChan c).i else (s.calChan c).v) (s.scale c cur code)
/-- A threshold code of R357. -/
def thrCode (r : RangeDef) (lim : Nat) : Int :=
  clampI (-2048) 2047 (fracRhe (fracMul (fracDiv (fracMul (f32Val lim) (f32Val r.vFs)) (f32Val r.fs)) ⟨1000, 1⟩))
/-- Upper and lower threshold of a range (R357). -/
def Dev.thrOf (s : Dev) (c : Nat) (cur : Bool) (code : Nat) : List Int :=
  match s.range c cur code with
  | some r => [thrCode r r.limHi, thrCode r r.limLo]
  | none => [0, 0]
/-- Both quantities' thresholds: V_HI, V_LO, I_HI, I_LO. -/
def Dev.thrAll (s : Dev) (c vr ir : Nat) : List Int := s.thrOf c false vr ++ s.thrOf c true ir

/-- A pair takes factors at a time: at a sample instant they hold for every pair sample after it; between two instants
they hold from the next one on, so that no window mixes two sets (R235, R236). -/
def Pair.takeFactors (p : Pair) (cal : PairCal) (atInstant : Bool) : Pair :=
  if atInstant then { p with cal := cal, nextCal := none } else { p with nextCal := some cal }

/-- The set of a range for a change of one quantity (R234, R236, R264, R357). -/
def Dev.rangeSet (s : Dev) (c : Nat) (cur : Bool) (old new : Nat) : RangeSet :=
  let sc := s.scale c cur new
  let t := s.thrOf c cur new
  let fs := match s.range c cur old, s.range c cur new with | some a, some b => (a.fs, b.fs) | _, _ => (0x3F800000, 0x3F800000)
  { cur := cur, rg := sc.1, ro := sc.2, hi := t.getD 0 0, lo := t.getD 1 0, fsOld := fs.1, fsNew := fs.2,
    ks := if cur then [] else splitFactor 8 (s.gainRatio c old new) }

/-- A threshold set with the thresholds of one quantity replaced. -/
def thrPut (l : List Int) (x : RangeSet) : List Int := if x.cur then l.take 2 ++ [x.hi, x.lo] else [x.hi, x.lo] ++ l.drop 2

/-- A pair switches to a range: the samples of this instant in the new full scale, RG and RO for every later one (R236). -/
def Pair.takeSet (p : Pair) (x : RangeSet) (atInstant : Bool) : Pair :=
  (p.express (fracDiv (f32Val x.fsOld) (f32Val x.fsNew))).takeFactors { p.nextCal.getD p.cal with rg := x.rg, ro := x.ro } atInstant

/-- The pair of a quantity changed by `g`. -/
def Helon.modPair (h : Helon) (cur : Bool) (g : Pair → Pair) : Helon := if cur then { h with i := g h.i } else { h with v := g h.v }

/-- What Helon does with a write that a side-channel packet carries for a channel (R235, R257, R345, R346, R357, R358,
R366, R371). A safe packet is `Dev.safeAt`. -/
def Dev.helonTake (s : Dev) (c : Nat) (msg : SideMsg) : Dev :=
  let here := decide (s.now = s.tb.lastSample)
  match msg with
  | .factors cur cal => s.modHelon c (fun h => h.modPair cur (fun p => p.takeFactors cal here))
  | .thresholds cur hi lo =>
    s.modHelon c (fun h => { h with thr := if cur then h.thr.take 2 ++ [hi, lo] else [hi, lo] ++ h.thr.drop 2 })
  | .stage x => s.modHelon c (fun h => { h with staged := some x, thrOther := thrPut h.thr x })
  | .range x => s.modHelon c (fun h => { h.modPair x.cur (fun p => p.takeSet x here) with thr := thrPut h.thr x })
  | .slew span step divr =>
    s.modHelon c (fun h => { h with span := span, step := step, divr := divr, dac := dacCode span h.cOut })
  | .gangMap members => s.modHelon c (fun h => { h with gang := members })
  | .safeSlew time step divr => s.modSeam (fun m => { m with holdTime := time, safeStep := step, safeDiv := divr })
  | .bank => s.modSeam (fun m => { m with stgConfigured := true })
  | _ => s

/-! ### The survey's configuration -/

/-- A configuration takes effect (R385); a change of MODE counts scans anew and discards the starts that wait (R382). -/
def Survey.apply (y : Survey) (c : SvyCfg) (t : Nat) : Survey :=
  let new := c.mode != y.cfg.mode
  { y with cfg := c, newCfg := none, scans := if new then 0 else y.scans, starts := if new then [] else y.starts,
           fallback := y.fallback && !new,
           modeAt := if new || c.timerUs != y.cfg.timerUs then t else y.modeAt,
           ticks := if new || c.timerUs != y.cfg.timerUs then 0 else y.ticks, wdFrom := if new then t else y.wdFrom }

/-! ### The side channel (R345, R346, R590) -/

/-- A packet enters the side channel (R345, R346). -/
def Dev.sidePacket (s : Dev) (up : Bool) (chan : Option Nat) (msg : SideMsg) (named : Option Nat := none) : Dev :=
  s.modSeam (fun m =>
    let q := ((if up then m.scSeqUp else m.scSeqDn) + 1) % 65536
    { m with scSeqUp := if up then q else m.scSeqUp, scSeqDn := if up then m.scSeqDn else q,
             packets := m.packets ++ [{ seq := q, up := up, attempts := 1, sentAt := s.now, chan := chan, msg := msg, named := named,
                                        flying := true, received := false }] })

/-- A write to Helon for a channel goes down in a packet; it may name the FSEQ at which it takes effect (R346). -/
def Dev.sendDown (s : Dev) (c : Nat) (msg : SideMsg) (named : Option Nat := none) : Dev := s.sidePacket false (some c) msg named

/-- The factors of a pair go to Helon. -/
def Dev.sendFactors (s : Dev) (c : Nat) (cur : Bool) (code : Nat) : Dev := s.sendDown c (.factors cur (s.pairFactors c cur code))

/-- A range of one quantity outside a range change goes to Helon: factors and thresholds. -/
def Dev.sendRange (s : Dev) (c : Nat) (cur : Bool) (code : Nat) : Dev :=
  let t := s.thrOf c cur code
  (s.sendFactors c cur code).sendDown c (.thresholds cur (t.getD 0 0) (t.getD 1 0))

/-- A compliance magnitude reaches a threshold of the measured quantity (R133): `cc` the measured quantity is the current. -/
def Dev.compPast (s : Dev) (c : Nat) (cc : Bool) (pos neg : Int) : Bool :=
  match s.active c cc with
  | none => false
  | some r =>
    let t := (s.helon c).thr
    let hi := t.getD (if cc then 2 else 0) 0
    let lo := t.getD (if cc then 3 else 1) 0
    let phys := fun (v : Int) => fracMul ⟨v, 1073741824⟩ (f32Val r.vFs)
    fracLe ⟨hi, 1000⟩ (phys pos) || fracLe (phys (-neg)) ⟨lo, 1000⟩

/-! ### Calibration that runs on a channel -/

/-- The channels under calibration in the present slot (R398). -/
def Dev.slotChans (s : Dev) : Nat :=
  s.cal.runs.foldl (fun a r => match r.part with | .slot _ => a ||| r.slotChans | _ => a) 0
/-- A traceable session begins or is open on the channel: its stage word carries CAL = 1 (R405). -/
def Dev.tracing (s : Dev) (c : Nat) : Bool := match s.cal.trace with | some t => t.ch == c | none => false
/-- A traceable session is open on the channel (R405). -/
def Dev.traced (s : Dev) (c : Nat) : Bool := match s.cal.trace with | some t => t.ch == c && t.before.isSome | none => false
/-- Calibration runs on a channel (R398, R405). -/
def Dev.calActive (s : Dev) (c : Nat) : Bool := s.slotChans.testBit c || s.traced c
/-- A channel awaits calibration (R398). -/
def Dev.calAwaiting (s : Dev) (c : Nat) : Bool :=
  s.cal.runs.any (fun r => r.todo.testBit c)
/-- A channel needs a calibration before it leaves OFF (R242). -/
def Dev.calRequired (s : Dev) (c : Nat) : Bool := s.cal.required.testBit c

/-! ### Stage words (R145 to R150) -/

/-- A half-word with its odd parity (R145). -/
def halfWord (rly : Nat) (out sense en cal : Bool) : Nat :=
  let v := rly % 1024 + bitAt out 10 + bitAt sense 11 + bitAt en 12 + bitAt cal 13
  v + bitAt (popCount 15 v % 2 == 0) 15
/-- Half-word `k` of a stage word. -/
def halfAt (w : W64) (k : Nat) : Nat := bitsOf w.toNat (16 * k + 15) (16 * k)
/-- The stage word with half-word `k` replaced. -/
def withHalf (w : W64) (k h : Nat) : W64 :=
  BitVec.ofNat 64 (w.toNat - halfAt w k * 2 ^ (16 * k) + h % 65536 * 2 ^ (16 * k))
/-- The relay pattern of a range. -/
def Dev.rly (s : Dev) (c : Nat) (cur : Bool) (code : Nat) : Nat :=
  match s.range c cur code with | some r => r.rly | none => 0
/-- The half-word of a channel with its present ranges; `also` are further relays (R145, R405). -/
def Dev.halfFor (s : Dev) (c : Nat) (en out : Bool) (also : Nat := 0) : Nat :=
  let x := s.chan c
  halfWord (s.rly c false x.vr ||| s.rly c true x.ir ||| also) out x.senseLocal en (s.tracing c)
/-- The half-word of a state: EN and OUT of R134. -/
def Dev.halfOfState (s : Dev) (c : Nat) : Nat :=
  s.halfFor c (decide ((s.chan c).state ≥ 1)) (decide ((s.chan c).state ≥ 2))

/-- Shift time of a stage word (R146). -/
def shiftPs : Nat := 3200000
/-- Ticks between two latches of a module (R148), in ps. -/
def latchGapPs : Nat := 170 * tickPs

/-- When a transfer may begin: after the last latch, and where none began within 40 ticks of it, after its confirm transfer
(R149). -/
def Stage.transferAt (g : Stage) (now : Nat) : Nat :=
  match g.lastLatch with
  | none => now
  | some t =>
    let n := max now t
    if g.shift.isNone && decide (n > t + 1000000) then max n (t + 1000000 + shiftPs) else n

/-- Half-word `k` is to become `h`, its transfer to begin at `now` (R148 to R150): a transfer that has begun goes first, unless
it carries what the channel no longer wants; a repeated word goes alone. `pre`: the word has been shifted already; `force`:
it is latched even where it equals the latched word. -/
def Stage.want (g : Stage) (now k h : Nat) (pre force : Bool) : Stage :=
  let w := withHalf g.wanted k h
  let e := if pre then now else g.transferAt now + shiftPs
  if g.failedOnce then { g with wanted := w }
  else
    match g.shift with
    | none => { g with wanted := w, shift := if w == g.latched && !force then none else some (w, e) }
    | some (x, d) =>
      let stale := halfAt x k != halfAt g.latched k && halfAt x k != h
      if pre || stale || decide (now + shiftPs ≤ d) then
        { g with wanted := w, shift := if w == g.latched && !force && x != g.latched then none
                                       else some (w, if stale then e else max d e) }
      else { g with wanted := w, shift := some (x, d) }

/-- A channel's half-word is to change. -/
def Dev.setHalf (s : Dev) (c h : Nat) (pre : Bool := false) (force : Bool := false) : Dev :=
  s.modStage (c / 4) (fun g => g.want s.now (c % 4) h pre force)

/-- The wanted half-word of a channel is latched in the module, and is not to be latched again (R150). -/
def Dev.halfLatched (s : Dev) (c : Nat) : Bool :=
  let g := s.stage (c / 4)
  halfAt g.latched (c % 4) == halfAt g.wanted (c % 4) && !(g.failedOnce && g.shift.isSome)

/-- The word that is shifted carries the wanted half-word of a channel. -/
def Dev.carried (s : Dev) (c : Nat) : Bool :=
  let g := s.stage (c / 4)
  match g.shift with | some (x, _) => halfAt x (c % 4) == halfAt g.wanted (c % 4) | none => false

/-- The half-words of a team are latched (R227). -/
def Dev.teamLatched (s : Dev) (c : Nat) : Bool := (s.team c).all s.halfLatched

/-! ### Engines (R195) -/

/-- Engine number of a channel and role. -/
def engNo (c role : Nat) : Nat := 4 * c + role
/-- An engine starts: states, e_t and output become 0. -/
def Engine.start (e : Engine) : Engine := { e with st := statesZero, et := 0, out := 0, next := none, resFail := none,
                                                   lateFail := none, heldRow := 0 }
/-- An engine stops: it keeps its states and output (R159, R195). -/
def Engine.stop (e : Engine) : Engine := { e with next := none, resFail := none, lateFail := none, heldRow := 0 }
/-- INNER runs in HIGH_Z, ZERO and ON (R193). -/
def Dev.innerStart (s : Dev) (c : Nat) : Dev :=
  (s.modEng (engNo c 0) Engine.start).modChan c (fun x => { x with uSel := 0, satRun := 0, shareRun := 0 })
/-- OUTER, CLAMP and TRIM start at the boundary at which the state becomes ZERO (R195 to R197). -/
def Dev.outerStart (s : Dev) (c : Nat) : Dev :=
  (s.forAll [1, 2, 3] (fun s r => s.modEng (engNo c r) Engine.start)).modChan c (fun x =>
    { x with dirNeg := false, k0Outer := 0, k0Trim := 0, trimSum := 0, trimCnt := 0, r := 0, r1 := 0, r2 := 0, d1 := 0,
             d2 := 0, ramp := none, compliance := false })
/-- OUTER, CLAMP and TRIM stop; r and u_sel become 0 (R195). -/
def Dev.outerStop (s : Dev) (c : Nat) : Dev :=
  (s.forAll [1, 2, 3] (fun s r => s.modEng (engNo c r) Engine.stop)).modChan c (fun x =>
    { x with r := 0, r1 := 0, r2 := 0, d1 := 0, d2 := 0, uSel := 0, ramp := none, compliance := false })

/-- The safe code of a span is code 0 (R254, R255). -/
def safeCode : Int := 0

/-- Denrix's replica takes the safe code (R263). -/
def Chan.repSafe (x : Chan) : Chan :=
  { x with repOut := safeCode, repOutPrev := safeCode, repAct := false, repActPrev := false, lastCode := 0 }

/-! ### Range changes that end (R222) -/

/-- Every range change of a channel ends before it completes: the range is that of R222, Helon's path is STABLE, and the
next stage word carries that range alone. -/
def Dev.rcDrop (s : Dev) (c st : Nat) : Dev :=
  match (s.chan c).rc with
  | none => s
  | some rc =>
    let s1 := s.modChan c (fun x => { x with rc := none, rpathReq := 0 })
    let s2 := s1.forAll (s1.team c) (fun s m =>
      (s.modHelon m (fun h => { h with rpath := 0, staged := none })).setHalf m (s.halfOfState m))
    s2.finish? rc.cmd st []

/-! ### Swaps whose engines lose their channel: see Swaps. The end of a sequencer (R290) -/

/-- Applied values wait for the end action (R291): reasons END, COMP_END, STOPPED, ARG and WAIT_TIMEOUT. -/
def endActs (reason : Nat) : Bool := [1, 2, 3, 7, 9].contains reason

/-- A counter of SEQ_STATUS goes up; it saturates at 0xFFFF. -/
def sat16Inc (n : Nat) : Nat := min (n + 1) 0xFFFF

/-- A sequencer is ARMED at an instant: armed, and no start edge has passed (R289, R292). -/
def Seq.armedAt (q : Seq) (t : Nat) : Bool := q.state == 1 || (q.state == 2 && decide (t < q.startEdge))

/-- A sequencer after its end at `tx` (R290): an aperture runs on after TRIP (R296), and where its last period lies before
the end instant (R294). Triggers that are held stay held: a wait or the next arming clears them (R286). -/
def Seq.ended (q : Seq) (reason : Nat) (tx per : Nat) : Seq :=
  { q with state := if q.armedAt tx then 0 else 3, reason := reason, phase := .none_, trigAt := none, rcRun := false, stopHeld := none,
           earlyStops := if reason = 4 then sat16Inc q.earlyStops else q.earlyStops,
           stopEdge := if reason = 4 then some tx else q.stopEdge, startCmd := none,
           aper := q.aper.filter (fun a => reason == 5 || decide (a.ta + a.n * per < tx)),
           endAt := if endActs reason && q.endAction != 0 && q.state == 2 && !q.armedAt tx then some (tx + per) else q.endAt }

/-- A start that has not happened is withdrawn: ARMED again. -/
def Seq.unstart (q : Seq) : Seq := { q with state := 1, phase := .none_, startCmd := none, lastNs := q.armNs }

/-- A SEQ_START one of whose sequencers ends before the start edge: ST_STATE, and none starts (its sheet). -/
def Dev.startCancel (s : Dev) (id : Nat) : Dev :=
  (s.forAll (List.range 64) (fun s c =>
    if (s.seq c).startCmd = some id then s.modSeq c Seq.unstart else s)).finish id stState []

/-- The engines that wait for a sequencer's end note it (R303). -/
def Dev.hsNote (s : Dev) (c tx : Nat) : Dev :=
  s.forAll (List.range 4) (fun s h =>
    if (s.handler h).waits.testBit c then
      s.modHandler h (fun g => { g with waits := Nat.xor g.waits (2 ^ c), lastEnd := tx })
    else s)

/-- A sequencer that is armed or running ends at `tx` for a reason: a range change of its list ends too (R299); a MARK
record, SEQ_END, and IRQ_CAUSE.SEQ (R281, R290, R307). -/
def Dev.seqEnd (s : Dev) (c reason tx : Nat) : Dev :=
  let q := s.seq c
  if q.state = 1 || q.state = 2 then
    let s0 := if (match (s.chan c).rc with | some r => r.cmd.isNone | none => false) then s.rcDrop c stState else s
    let s1 := s0.modSeq c (fun q => { q.ended reason tx s.periodPs with lastNs := s.nsAt tx })
    let s2 := s1.record (s1.recAt c c 5 tx reason 0 q.points (s1.rangeFlags c))
    let s3 := match q.startCmd with | some id => if tx < q.startEdge then s2.startCancel id else s2 | none => s2
    ((s3.hsNote c tx).pulseAt (128 + 5 * c + 4) tx).irq (s.chanHolder c) irqSeq
  else s

/-- A start that a sequencer ignores (R292). -/
def Seq.ignoreStart (q : Seq) : Seq := { q with startIgnored := sat16Inc q.startIgnored }

/-- The execution under way ends before an instant: its t_e comes first (R294). -/
def Seq.endsBefore (q : Seq) (t per : Nat) : Bool :=
  q.phase == .aperture && (match q.aper with | some a => decide (a.ta + a.n * per < t) | none => decide (q.tc < t))

/-- A stop latched at an edge reaches a sequencer; `reason` is that of a RUNNING one: it wins over a start that is not latched before
it; a start event latched after it is ignored and counted; an execution that ends before it ends first (R293 to R295). -/
def Dev.seqHaltAt (s : Dev) (c e reason : Nat) : Dev :=
  let q := s.seq c
  if q.state = 1 then s.seqEnd c 4 e
  else if q.state = 2 then
    if e < q.startEdge then
      let s1 := s.seqEnd c 4 e
      if q.startCmd.isNone then s1.modSeq c Seq.ignoreStart else s1
    else if e = q.startEdge then (s.modSeq c (fun q => { q with state := 1 })).seqEnd c 4 e
    else if q.endsBefore e s.periodPs then s.modSeq c (fun q => { q with stopHeld := some (q.stopHeld.getD (e, reason)) })
    else s.seqEnd c reason e
  else s

/-- A stop that waited for the end of an execution acts after it (R294). -/
def Dev.seqHeld (s : Dev) (c : Nat) : Dev :=
  match (s.seq c).stopHeld with
  | some p => (s.modSeq c (fun q => { q with stopHeld := none })).seqHaltAt c p.1 p.2
  | none => s

/-- OFF or HIGH_Z stops a channel's sequencer at the edge at which the command starts: EARLY_STOP while ARMED, OUTPUT while
RUNNING (R295). -/
def Dev.seqOutput (s : Dev) (c : Nat) : Dev := s.seqHaltAt c (s.edgeAt s.now) 6

/-! ### Transitions that end -/

/-- A transition's command is answered and the transition is over (R138, the reply table of CHAN_SET_STATE). -/
def Dev.transEnd (s : Dev) (c st : Nat) : Dev :=
  match (s.chan c).trans with
  | none => s
  | some t =>
    (s.modChan c (fun x => { x with trans := none })).finish? t.cmd st
      (if st = 0 then w8 (s.chan c).state ++ zeros 3 else [])

/-! ### OFF (R135, R138, R139, R263) -/

/-- A channel's loops stop: its engines stop, the replica takes the safe code, and the word EN = 0, OUT = 0 follows. -/
def Dev.memberStop (s : Dev) (m : Nat) : Dev :=
  let s1 := ((s.outerStop m).modEng (engNo m 0) Engine.stop).modChan m (fun x =>
    { x.repSafe with state := 0, satRun := 0, shareRun := 0, compliance := false, slewStart := false })
  s1.setHalf m (s1.halfFor m false false)

/-- One channel is in OFF: its loops stop, and the request is withdrawn. -/
def Dev.memberOff (s : Dev) (m : Nat) : Dev := (s.memberStop m).modChan m (fun x => { x with req := false })

/-- A channel, or the gang of a member, is in OFF. -/
def Dev.teamOff (s : Dev) (c : Nat) : Dev := s.forAll (s.team c) Dev.memberOff

/-- The channel that leads a channel's team. -/
def Dev.leader (s : Dev) (c : Nat) : Nat := match s.gangOf c with | some p => p.2.leader | none => c

/-- A sequencer of the team ends by the safe state: reason TRIP whether ARMED or RUNNING (R296), or another reason. -/
def Dev.teamSeqEnd (s : Dev) (c reason : Nat) : Dev := s.forAll (s.team c) (fun s m => s.seqEnd m reason s.now)

/-- Entry to the safe state begun by Denrix (R150, R156, R224, R369, R567): OFF, the request withdrawn, transitions,
range changes and sequencers ended. -/
def Dev.toSafe (s : Dev) (c stTrans stRc seqReason : Nat) : Dev :=
  let l := s.leader c
  let s1 := ((s.rcDrop l stRc).teamOff l).transEnd l stTrans
  s1.teamSeqEnd l seqReason

/-! ### The channel response (R590, R593) -/

/-- Channels whose calibration slot runs fail it: they keep their factors (R402, R593). -/
def Dev.slotFails (s : Dev) (cs : List Nat) : Dev :=
  if s.slotChans = 0 then s
  else s.modCal (fun k => { k with runs := k.runs.map (fun r =>
    match r.part with
    | .slot _ => { r with failed := r.failed ||| bitMap (fun c => r.slotChans.testBit c && cs.contains c) 64 }
    | _ => r) })

/-- The channel response (R590) with its CHAN_FAULT entry (R604): safe packets, SAFE in every frame, IRQ_CAUSE.ERROR; a
range change ends with ST_INTEGRITY (R222); the revocation does the rest (R352). `clk` is the clock's subsystem. -/
def Dev.chanResponse (s : Dev) (c cause : Nat) (clk : Nat := 0) : Dev :=
  let l := s.leader c
  let s0 := (s.logIt (kChanFault c cause clk) cause).slotFails (s.team c)
  let s1 := s0.forAll (s.team c) (fun s m =>
    if (s.chan m).grantSeen || (s.chan m).req then
      ((s.modChan m (fun x => { x with safe := true, req := false })).sidePacket false (some m) .safe).sidePacket false (some m) .safe
    else s)
  let s2 := (s1.rcDrop l stIntegrity).irq (s1.chanHolder c) irqError
  -- a channel that holds no grant is in OFF already, or its transition has only requested
  if (s2.team c).all (fun m => !(s2.chan m).grantSeen) then ((s2.teamOff c).transEnd l stAuthority).teamSeqEnd l 5 else s2

/-! ### What a row shows outside -/

/-- A row's change with its effect on fabric levels and GSTAT. -/
def Dev.observed (s : Dev) (g : Dev → Dev) : Dev := ((g s).fabricNote s).gstatNote s

end Sys2Proof.Machine
end

