-- ==== Sys2Proof/Machine/RangeChange.lean ====
section
/-! DEFINITION. The exchange of an engine's banks (R184, R185, R208) and the steps of a range change (R212 to R224). -/

namespace Sys2Proof.Machine

/-! ### Banks -/

/-- An engine exchanges its banks and prepares its states, with the rescale factors of R185 (R183, R184). -/
def Engine.exchange (e : Engine) (ks : List Coef) : Engine :=
  let img := parseImg e.other.bytes
  let st0 := if img.zeroStates then statesZero else keptStates img.secs.length e.st
  let et0 := if img.zeroStates then 0 else e.et
  let st := st0.map (fun p => (rescaleAll rescale48 ks p.1, rescaleAll rescale48 ks p.2))
  let et := rescaleAll rescale32 ks et0
  let out := rescaleAll rescale32 ks e.out
  { e with active := 1 - e.active, image := e.other.bytes, other := { state := 2, parts := 3, bytes := e.image },
           st := st.map (fun p => (p.1.1, p.2.1)), et := et.1, out := out.1,
           satCarry := e.satCarry || et.2 || out.2 || st.any (fun p => p.1.2 || p.2.2) }

/-- Swaps that are armed on an engine (R207, R211). -/
def Dev.armedOn (s : Dev) (e : Nat) : Bool := s.swaps.any (fun w => w.engines.contains e)
/-- A swap is armed on any engine of a channel. -/
def Dev.armedOnChan (s : Dev) (c : Nat) : Bool := (List.range 4).any (fun r => s.armedOn (engNo c r))

/-- The engines that a range change of a channel primes and swaps (R213, R227): every member's INNER and the leader's
others. -/
def Dev.rcEngines (s : Dev) (c : Nat) : List Nat :=
  (s.team c).map (fun m => engNo m 0) ++ [engNo c 1, engNo c 2, engNo c 3]

/-- Number of a library slot (R212). -/
def libNo (cur : Bool) (code : Nat) : Nat := if cur then 6 + code else code

/-- The image that priming copies (R213): the VALID library slot, else the active image. -/
def Engine.primed (e : Engine) (cur : Bool) (code : Nat) : List Byte :=
  let l := tblGet slotInit e.lib (libNo cur code)
  if l.state = 2 then l.bytes else e.image

/-- Whether a channel is in a gang. -/
def Dev.ganged (s : Dev) (c : Nat) : Bool := (s.gangOf c).isSome

/-! ### Rescaling a channel's values (R128, R205, R215) -/

/-- Source values that wait, rescaled: those of the forced quantity, or of the measured one. -/
def SourceWait.rescale (w : SourceWait) (forced : Bool) (g : Int → Int) : SourceWait :=
  if forced then { w with setpoint := w.setpoint.map g } else { w with compPos := w.compPos.map g, compNeg := w.compNeg.map g }

/-- A channel's setpoint, compliance and ramp values, and the source values that wait, through a range ratio of one quantity.
Values of the ramp are not saturated (log entry 125). -/
def Chan.rescale (x : Chan) (cur : Bool) (f : Frac) : Chan :=
  let forced := x.fi == cur
  let g := rescaleVal f
  let waits := x.sourceWait.map (fun (w : SourceWait) => w.rescale forced g)
  let x1 := if forced then
      { x with setpoint := g x.setpoint, r := g x.r, r1 := g x.r1, r2 := g x.r2,
               ramp := x.ramp.map (fun p => { p with r0 := g p.r0, tgt := g p.tgt }),
               sourceWait := waits }
    else { x with compPos := g x.compPos, compNeg := g x.compNeg, compUse := (sat32 (g x.compUse.1), sat32 (g x.compUse.2)),
                  sourceWait := waits }
  { x1 with uSel := if cur then sat32 (g x.uSel) else x1.uSel }

/-- The values a range change must keep legal (R128): the rescaled setpoint and compliance with the new range's
polarity. -/
def Dev.rescaleOk (s : Dev) (c : Nat) (fi : Bool) (cur : Bool) (old new : Nat) (sp pos neg : Int) : Bool :=
  let f := s.fsRatio c cur old new
  if fi == cur then setpointOk (s.bipolar c cur new) (rescaleVal f sp)
  else compOk (rescaleVal f pos) && compOk (rescaleVal f neg)

/-- The setpoint and compliance of a channel and those it will have with each waiting source value stay legal through a range
change of one quantity (R128). -/
def Dev.rescaleAllOk (s : Dev) (c : Nat) (cur : Bool) (new : Nat) : Bool :=
  let x := s.chan c
  let ok := fun (v : Int × Int × Int) => s.rescaleOk c x.fi cur (x.code cur) new v.1 v.2.1 v.2.2
  (x.code cur == new) || ((x.sourceWait.map (fun w => (w.setpoint.getD x.setpoint, w.compPos.getD x.compPos, w.compNeg.getD x.compNeg)))
    ++ [(x.setpoint, x.compPos, x.compNeg)]).all ok

/-- The values that a REST end action brings back keep their physical values (R291). -/
def Seq.rescaleRest (q : Seq) (fi cur : Bool) (f : Frac) : Seq :=
  let g := rescaleVal f
  if fi == cur then { q with rest := (g q.rest.1, q.rest.2.1, q.rest.2.2) }
  else { q with rest := (q.rest.1, g q.rest.2.1, g q.rest.2.2) }

/-- The samples an aperture holds of one quantity through a range ratio, with the overrange of a saturation (R185,
R251). -/
def Aper.rescale (a : Aper) (cur : Bool) (ks : List Coef) : Aper :=
  let one := fun (v : Int) => let q := rescaleAll rescale32 ks v; (satN 24 q.1, q.2 || satHit 24 q.1)
  let l := if cur then a.is else a.vs
  let m := l.map (fun p => ((one p.1).1, p.2))
  let ovr := l.any (fun p => (one p.1).2)
  let a1 := if cur then { a with is := m } else { a with vs := m }
  { a1 with flags := a1.flags ||| bitAt ovr 3 }

/-- The running apertures and the last samples of a channel through a range ratio (R251). -/
def Dev.rescaleApers (s : Dev) (c : Nat) (cur : Bool) (f : Frac) : Dev :=
  let ks := splitFactor 8 f
  let g := fun (a : Aper) => a.rescale cur ks
  let last := fun (v : Int) => satN 24 (rescaleAll rescale32 ks v).1
  (s.modSeq c (fun q => { q with aper := q.aper.map g })).modRes c (fun r =>
    { r with box := r.box.map g, boxOld := r.boxOld.map g, seqOld := r.seqOld.map g,
             meas := r.meas.map (fun m => { m with aper := g m.aper }),
             lastV := if cur then r.lastV else last r.lastV, lastI := if cur then last r.lastI else r.lastI })

/-- Every member takes the new code, and the leader's values are rescaled. -/
def Dev.takeRange (s : Dev) (c : Nat) (cur : Bool) (old new : Nat) : Dev :=
  let f := s.fsRatio c cur old new
  let fi := (s.chan c).fi
  -- on a unipolar measure range dir is +1 (R199)
  let up := cur != fi && !s.bipolar c cur new
  let s1 := s.forAll (s.team c) (fun s m =>
    s.modChan m (fun x =>
      let y := { x.rescale cur f with dirNeg := x.dirNeg && !up }
      if cur then { y with ir := new } else { y with vr := new }))
  let s2 := s1.modSeq c (fun q => q.rescaleRest fi cur f)
  s2.forAll (s2.team c) (fun s m => s.rescaleApers m cur f)

/-! ### Beginning -/

/-- The settle count m (R214). -/
def Dev.settleCount (s : Dev) (c : Nat) (cur : Bool) (code : Nat) : Nat :=
  let ns := match s.range c cur code with | some r => r.settleNs | none => 0
  max (ceilDiv (ns * 1000) s.periodPs) (ceilDiv 4250000 s.periodPs)

/-- Time to complete of one on-the-fly change (R224). -/
def Dev.rcBound (s : Dev) (c : Nat) (cur : Bool) (code : Nat) : Nat :=
  30000000 + (s.settleCount c cur code + if cur then 3 else 2) * s.periodPs

/-- An on-the-fly range change begins at the instant `t` (R216 step 1, R218, R219): the current first, `also` a voltage code
after it. -/
def Dev.rcBegin (s : Dev) (c : Nat) (cur : Bool) (new : Nat) (also : Option Nat) (cmd : Option Nat) (limit t : Nat) : Dev :=
  s.modChan c (fun x =>
    let n : RangeChange := { cur := cur, old := x.code cur, new := new, phase := .priming, started := t,
                             m := s.settleCount c cur new, left := 0, latched := false, swapped := false, counting := false,
                             rset := x.status.testBit 6, repeats := 0, wordAt := none, pathOk := false,
                             tgtV := x.vr, tgtI := x.ir, due := none, also := also, cmd := cmd, limit := limit }
    { x with rc := some n })

/-- Starts the on-the-fly changes to a voltage and a current code at the instant `t`; none where nothing changes (R219,
R298). -/
def Dev.rcStart (s : Dev) (c v i : Nat) (cmd : Option Nat) (t : Nat) : Dev :=
  let x := s.chan c
  let dv := v != x.vr
  let di := i != x.ir
  let lim := t + (if di then s.rcBound c true i else 0) + (if dv then s.rcBound c false v else 0)
  if di then s.rcBegin c true i (if dv then some v else none) cmd lim t
  else if dv then s.rcBegin c false v none cmd lim t else s

/-- A range change is complete (R216 step 8, R218 step 5): the voltage change that follows, or the end. -/
def Dev.rcComplete (s : Dev) (c : Nat) : Dev :=
  match (s.chan c).rc with
  | none => s
  | some rc =>
    let s1 := s.modChan c (fun x => { x with rc := none, rpathReq := 0 })
    match rc.also with
    | some v => s1.rcBegin c false v none rc.cmd rc.limit s.now
    | none => ((s1.finish? rc.cmd stOk []).modSeq c (fun q => { q with rcRun := false })).seqReady c s.now

/-- A range change fails: its command ends with `st`, or its list with INTEGRITY, and the channel goes to its safe state
(R220, R221, R224, R299). -/
def Dev.rcFail (s : Dev) (c st : Nat) : Dev :=
  match (s.chan c).rc with
  | none => s
  | some rc =>
    let s1 := if rc.cmd.isNone then s.seqEnd c 8 s.now else s
    s1.toSafe c stIntegrity st 5

/-! ### Priming (R213) -/

/-- The stage-word half of a channel with given ranges. -/
def Dev.halfCodes (s : Dev) (c vr ir also : Nat) : Nat :=
  let x := s.chan c
  halfWord (s.rly c false vr ||| s.rly c true ir ||| also) (decide (x.state ≥ 2)) x.senseLocal (decide (x.state ≥ 1)) (s.tracing c)

/-- The word of step 3 is wanted: its transfer begins, while priming may still run, so that it is ready 8 µs after the start
(R216, R218). -/
def Dev.wantStep3 (s : Dev) (rc : RangeChange) (m : Nat) : Dev :=
  let x := s.chan m
  let h := if rc.cur then s.halfCodes m x.vr x.ir (s.rly m true rc.new) else s.halfCodes m rc.new x.ir 0
  s.modStage (m / 4) (fun g => g.want (rc.started + 8000000 - shiftPs) (m % 4) h false true)

/-- Priming completes, or refuses the change with ST_ARG (R213, R299). -/
def Dev.rcPrimed (s : Dev) (c : Nat) : Dev :=
  match (s.chan c).rc with
  | none => s
  | some rc =>
    if rc.phase != .priming then s
    else
      let s0 := (s.advance (rc.started + min 8000000 (Config.freeDelay s.freeCtr))).freeNext
      let es := s0.rcEngines c
      let fits := es.all (fun e => imgFits ((s0.eng e).primed rc.cur rc.new) (e % 4) (s0.ganged (e / 4)) s0.tb.d)
      if !fits then
        let s1 := s0.forAll es (fun s e => s.modEng e (fun g => { g with other := slotEmpty }))
        let s2 := s1.modChan c (fun x => { x with rc := none })
        if rc.cmd.isSome then s2.finish? rc.cmd stArg [] else s2.seqEnd c 7 (s2.instantAt s2.now)
      else
        let s1 := s0.forAll es (fun s e => s.modEng e (fun g =>
          { g with other := { state := 2, parts := 3, bytes := g.primed rc.cur rc.new } }))
        let s2 := s1.modChan c (fun x => { x with rc := some { rc with phase := if rc.cur then .made else .switched } })
        s2.forAll (s2.team c) (fun s m => (s.sendDown m (.stage (s.rangeSet m rc.cur rc.old rc.new))).wantStep3 rc m)

/-! ### The swap boundary (R215) -/

/-- Rescale factors of an engine at the swap of a range change (R215); none for an engine that swaps without one. -/
def Dev.rcFactors (s : Dev) (c : Nat) (rc : RangeChange) (role : Nat) : List Coef :=
  let fs := splitFactor 8 (s.fsRatio c rc.cur rc.old rc.new)
  let fi := (s.chan c).fi
  if rc.cur then (if role = 1 || role = 2 || (role = 3 && fi) then fs else [])
  else if role = 0 then splitFactor 8 (s.gainRatio c rc.old rc.new)
  else if role = 3 && !fi then fs else []

/-- c_out through INNER's factors, one after the other (R185, R264). -/
def rescaleCout (span : Nat) (ks : List Coef) (v : Int) : Int :=
  ks.foldl (fun a k => clampI (cMin span) (cMax span) (rhe (k.c * a) (2 ^ (k.s + 24)))) v

/-- INNER's rescale factors of the range change of a member's leader. -/
def Dev.rcInner (s : Dev) (c : Nat) : List Coef :=
  let l := match s.gangOf c with | some p => p.2.leader | none => c
  match (s.chan l).rc with | some rc => s.rcFactors l rc 0 | none => []

/-- The swap boundary of a quantity is noted (R251). -/
def Chan.swapNote (x : Chan) (cur : Bool) (t : Nat) : Chan := if cur then { x with swapI := some t } else { x with swapV := some t }
/-- A quantity swapped at an instant. -/
def Chan.swapped (x : Chan) (cur : Bool) (t : Nat) : Bool := (if cur then x.swapI else x.swapV) == some t

/-- Every engine swaps and the values are rescaled (R215). -/
def Dev.rcSwap (s : Dev) (c : Nat) (rc : RangeChange) : Dev :=
  let s1 := s.forAll (s.rcEngines c) (fun s e => s.modEng e (fun g => g.exchange (s.rcFactors c rc (e % 4))))
  let s2 := s1.takeRange c rc.cur rc.old rc.new
  s2.forAll (s2.team c) (fun s m => s.modChan m (fun x => { x.swapNote rc.cur s2.now with trimSum := 0, trimCnt := 0 }))

/-- A module latches a word with new half-words at the boundary `t`: merged into the shifted word that is due there, else into
the latched one. Further changes are shifted next (R148). -/
def Stage.latchHalves (g : Stage) (t : Nat) (own : List (Nat × Nat)) : Stage :=
  let put := fun (w : W64) => own.foldl (fun w p => withHalf w p.1 p.2) w
  let base := match g.shift with | some (x, d) => if d ≤ t then x else g.latched | none => g.latched
  let w := put g.wanted
  { g with latched := put base, wanted := w, lastLatch := some t, unconfirmed := true,
           shift := if w == put base then none else some (w, t + shiftPs) }

/-- The stage modules of a team. -/
def Dev.teamModules (s : Dev) (c : Nat) : List Nat := sortedFns ((s.team c).map (· / 4))

/-- R148 and R150 allow a latch of a break word at a boundary on every module of the team: 170 ticks after the last, or merged
with one of the same boundary, and no repeated word outstanding. -/
def Dev.breakAllowed (s : Dev) (c t : Nat) : Bool :=
  (s.teamModules c).all (fun m =>
    let g := s.stage m
    !g.failedOnce && (match g.lastLatch with | some x => x == t || decide (x + latchGapPs ≤ t) | none => true))

/-- The break word has passed its readback and Helon has reported the new set, so that the change is complete (R216 step 8,
R220). A module that has latched a later word has passed the check of this one. -/
def Dev.rcConfirmed (s : Dev) (c : Nat) : Dev :=
  match (s.chan c).rc with
  | none => s
  | some rc =>
    let checked := (s.teamModules c).all (fun m => !((s.stage m).unconfirmed && (s.stage m).lastLatch == rc.wordAt))
    if rc.phase == .breaking && rc.pathOk && checked then s.rcComplete c else s

/-- The break (R216 step 6), in one boundary: the word with the new pattern alone, and the swap. -/
def Dev.rcBreak (s : Dev) (c : Nat) (rc : RangeChange) : Dev :=
  let s1 := s.rcSwap c rc
  let s2 := s1.modChan c (fun x =>
    { x with rc := some { rc with phase := .breaking, swapped := true, repeats := 0, wordAt := some s1.now, pathOk := false } })
  s2.forAll (s2.teamModules c) (fun s n =>
    s.modStage n (fun g => g.latchHalves s.now (((s.team c).filter (fun m => m / 4 == n)).map (fun m => (m % 4, s.halfOfState m)))))

/-- A switch-over's settle count expires (R218 step 5): OUTER and TRIM compute again; the change is complete once Helon has
reported the new set (R220). -/
def Dev.rcSwitchEnd (s : Dev) (c : Nat) (rc : RangeChange) : Dev :=
  let s1 := s.modChan c (fun x =>
    { x with k0Outer := 0, k0Trim := 0, trimSum := 0, trimCnt := 0, rc := some { rc with phase := .breaking } })
  s1.rcConfirmed c

/-- A boundary passes: the settle counts that run go down (R214). -/
def Dev.rcTick (s : Dev) (c : Nat) : Dev :=
  match (s.chan c).rc with
  | some rc => if rc.counting && rc.left > 0 then s.modChan c (fun x => { x with rc := some { rc with left := rc.left - 1 } }) else s
  | none => s

/-! ### Changes in OFF and HIGH_Z (CHAN_CONFIG) -/

/-- The sets of a change's new ranges go to each member of a team; they may name the FSEQ of the latch. -/
def Dev.plainSend (s : Dev) (c v i : Nat) (named : Option Nat) : Dev :=
  let x := s.chan c
  let one := fun (s : Dev) (m : Nat) (cur : Bool) (old new : Nat) =>
    if old = new then s else s.sendDown m (.range (s.rangeSet m cur old new)) named
  s.forAll (s.team c) (fun s m => one (one s m false x.vr v) m true x.ir i)

/-- A set that names an instant Helon did not receive it for is sent on without the instant (log entry 134). -/
def Seam.unname (m : Seam) (t : List Nat) : Seam :=
  { m with packets := m.packets.map (fun p =>
      if p.named.isSome && !p.received && (match p.chan with | some c => t.contains c | none => false)
      then { p with named := none } else p) }

/-- One quantity of a team changes its range at this latch. -/
def Dev.plainQty (s : Dev) (c : Nat) (cur : Bool) (old new : Nat) : Dev :=
  if old = new then s
  else
    let s1 := s.takeRange c cur old new
    s1.forAll (s1.team c) (fun s m => s.modChan m (fun x => x.swapNote cur s.now))

/-- A configuration takes effect at the latch of its word: ranges with their rescale (R128, R357). The sets of Helon went before it. -/
def Dev.plainApply (s : Dev) (c v i : Nat) : Dev :=
  let x := s.chan c
  let s1 := s.plainQty c false x.vr v
  (s1.plainQty c true x.ir i).modSeam (fun m => m.unname (s.team c))

/-- Setpoint and compliance at their reset states (R137). -/
def Chan.resetValues (x : Chan) : Chan :=
  { x with setpoint := 0, compPos := compReset, compNeg := compReset, compUse := (compReset, compReset) }

/-- The longest settle time of the paths that change, in ps. -/
def Dev.plainSettle (s : Dev) (c v i : Nat) : Nat :=
  let x := s.chan c
  let ns := fun (cur : Bool) (code : Nat) => match s.range c cur code with | some r => r.settleNs | none => 0
  1000 * max (if v ≠ x.vr then ns false v else 0) (if i ≠ x.ir then ns true i else 0)

/-- A range change in OFF or HIGH_Z begins: the word with the new patterns is shifted. With a new mode the values stay at
their reset states (CHAN_CONFIG); `rset` of a plain change says so. -/
def Dev.plainBegin (s : Dev) (c v i : Nat) (newMode : Bool) (cmd : Option Nat) : Dev :=
  let settle := s.plainSettle c v i
  let s1 := s.modChan c (fun x =>
    let n : RangeChange := { cur := false, old := x.vr, new := v, phase := .plain, started := s.now, m := 0, left := 0, latched := false,
                             swapped := false, counting := false, rset := newMode, repeats := 0, wordAt := none,
                             pathOk := false, tgtV := v, tgtI := i,
                             due := none, also := none, cmd := cmd, limit := s.now + 7500000 + s.periodPs + settle }
    { x with rc := some n })
  s1.forAll (s1.team c) (fun s m => s.setHalf m (s.halfCodes m v i 0) false true)

/-- The ranges of a session's channel: those of the channel, with the session's code. -/
def Dev.traceCodes (s : Dev) (t : Trace) : Nat × Nat :=
  let x := s.chan t.ch
  (if t.cur then x.vr else t.code, if t.cur then t.code else x.ir)

/-- A traceable session that does not open, or whose opening fails: the channel is as before it (R95). -/
def Dev.traceUndo (s : Dev) : Dev :=
  match s.cal.trace with
  | none => s
  | some t =>
    let s1 := s.modCal (fun k => { k with trace := none })
    let s2 := match t.before with
      | some b => ((s1.plainSend t.ch b.vr b.ir none).plainApply t.ch b.vr b.ir).modChan t.ch (fun x =>
          { x with setpoint := b.setpoint, compPos := b.compPos, compNeg := b.compNeg, compUse := b.compUse })
      | none => s1
    s2.setHalf t.ch (s2.halfFor t.ch false false)

/-! ### What a latch does for a range change -/

/-- After a latch at the present instant (R216 step 3, R218 step 3, R221). -/
def Dev.rcLatched (s : Dev) (c : Nat) : Dev :=
  match (s.chan c).rc with
  | none => s
  | some rc =>
    if !s.teamLatched c || rc.latched then s
    else
      match rc.phase with
      | .plain =>
        let due := s.now + s.plainSettle c rc.tgtV rc.tgtI
        let s0 := s.plainApply c rc.tgtV rc.tgtI
        let s1 := if rc.rset then s0.forAll (s0.team c) (fun s m => s.modChan m Chan.resetValues) else s0
        if due = s.now then s1.rcComplete c
        else s1.modChan c (fun x => { x with rc := some { rc with latched := true, due := some due } })
      | .made => s.modChan c (fun x => { x with rc := some { rc with latched := true, left := rc.m, wordAt := some s.now } })
      | .switched =>
        (s.rcSwap c rc).modChan c (fun x =>
          { x with rc := some { rc with latched := true, swapped := true, counting := true, left := rc.m, wordAt := some s.now } })
      | _ => s

/-- The first mismatch of the word latched at `t`: where it is the make word, the relatch becomes the new step 3 (R221). -/
def Dev.rcRelatch (s : Dev) (c t : Nat) : Dev :=
  match (s.chan c).rc with
  | none => s
  | some rc =>
    if rc.phase == .made && rc.latched && rc.wordAt == some t then
      s.modChan c (fun x => { x with rc := some { rc with latched := false, counting := false } })
    else s

/-! ### Rows -/

/-- RANGE_PRIMING_DONE (R213). -/
def execRangePrimingDone (ch : ChanId) (s : State) : Out := .next (s.on (fun d => d.observed (fun d => d.rcPrimed ch.val)))

/-- RANGE_CHANGE_TIMEOUT (R224): ST_TIMEOUT and the safe state. -/
def execRangeChangeTimeout (ch : ChanId) (s : State) : Out :=
  .next (s.on (fun d => d.observed (fun d =>
    match (d.chan ch.val).rc with
    | none => d
    | some rc => (d.advance rc.limit).rcFail ch.val stTimeout)))

end Sys2Proof.Machine
end

