-- ==== Sys2Proof/Machine/Transitions.lean ====
section
/-! DEFINITION. Output-state transitions (R138 to R143, R155, R361), revocations (R352), and the stage-control bus
(R148 to R150). -/

namespace Sys2Proof.Machine

/-! ### The setpoint generator (R204, R205) -/

/-- A ramp starts at a boundary from `r0` (R204). -/
def Dev.rampStart (s : Dev) (c : Nat) (r0 tgt : Int) : Dev :=
  s.modChan c (fun x =>
    let p : Ramp := { r0 := r0, tgt := tgt, nr := max 1 (ceilDiv (x.rampNs * 1000) s.periodPs), j := 0, smooth := x.rampSmooth,
                       k0 := s.tb.lastSample }
    { x with ramp := some p, r := r0, r1 := r0, r2 := r0, d1 := 0, d2 := 0 })

/-- r steps to a value; d1 and d2 are 0 (R202, R205). -/
def Chan.stepTo (x : Chan) (v : Int) : Chan := { x with ramp := none, r := v, r1 := v, r2 := v, d1 := 0, d2 := 0 }

/-- The generator at a boundary (R202, R204). -/
def Chan.genStep (x : Chan) (t0 : Nat) : Chan :=
  match x.ramp with
  | none => { x with r1 := x.r, r2 := x.r, d1 := 0, d2 := 0 }
  | some p =>
    if t0 ≤ p.k0 then x
    else
    let r := rampValue p (p.j + 1)
    { x with r := r, r1 := x.r, r2 := x.r1, d1 := ffInput (r - x.r) x.ff1, d2 := ffInput (r - 2 * x.r + x.r1) x.ff2,
             ramp := if p.j + 1 ≥ p.nr then none else some { p with j := p.j + 1 } }

/-- The loop sample of the forced quantity, widened: on a gang leader in FI the gang mean (R204, R226). -/
def Dev.forcedLoop (s : Dev) (c : Nat) : Int :=
  let x := s.chan c
  if x.fi then
    let t := s.team c
    widenLoop (rhe (t.foldl (fun a m => a + (s.chan m).loopI) 0) t.length)
  else widenLoop x.loopV

/-! ### Steps (R138) -/

/-- Every member's stage word takes EN and OUT. -/
def Dev.teamHalf (s : Dev) (c : Nat) (en out pre : Bool) : Dev :=
  s.forAll (s.team c) (fun s m => s.setHalf m (s.halfFor m en out) pre)

/-- The transition's step and due instant. -/
def Dev.transTo (s : Dev) (c : Nat) (step : TStep) (due : Option Nat) : Dev :=
  s.modChan c (fun x => { x with trans := x.trans.map (fun t => { t with step := step, due := due, frames := 0 }) })

/-- A team's authority request is withdrawn. -/
def Dev.teamWithdraw (s : Dev) (c : Nat) : Dev := s.forAll (s.team c) (fun s m => s.modChan m (fun x => { x with req := false }))

/-- OFF from HIGH_Z, and FAST OFF, act at the next boundary (R138, R139): FAST OFF withdraws the request at once, OFF from
HIGH_Z once the word EN = 0 has latched. -/
def Dev.transOff (s : Dev) (c : Nat) : Dev :=
  let fast := match (s.chan c).trans with | some t => t.fast | none => true
  (if fast then s.teamWithdraw c else s).transTo c .off (some s.now)

/-- The next step of a leader's transition from its present state, or its end (R138). `pre`: the word has been shifted
during the preceding settle time. -/
def Dev.transNext (s : Dev) (c : Nat) (pre : Bool) : Dev :=
  match (s.chan c).trans with
  | none => s
  | some t =>
    let st := (s.chan c).state
    if t.fast && t.target == 0 then s.transOff c
    else if st = t.target then s.transEnd c stOk
    else if st < t.target then
      if st = 0 then
        (s.forAll (s.team c) (fun s m => s.modChan m (fun x => { x with req := true }))).transTo c .request none
      else if st = 1 then (s.teamHalf c true true pre).transTo c .close none
      else s.transTo c .goOn (some s.now)
    else if st = 3 then s.transTo c .rampDown (some s.now)
    else if st = 2 then (s.teamHalf c true false false).transTo c .release none
    else s.transOff c

/-- Helon reports a trip on a member of the team. -/
def Dev.teamTripped (s : Dev) (c : Nat) : Bool := (s.team c).any (fun m => (s.chan m).tripped)

/-- The open-wire current of an entry is held off: a sense tap of a channel in ON, or in a transition into or out of it
(R390). -/
def Dev.svySuppressed (s : Dev) (b : List Byte) : Bool :=
  let n := u8 b 0
  let c := (n - 64) / 2
  u8 b 1 % 4 != 0 && decide (64 ≤ n) && decide (n < 192)
    && ((s.chan c).state == 3 || (match (s.chan (s.leader c)).trans with | some t => t.target == 3 || t.origin == 3 | none => false))

/-- A running survey conversion whose current is held off from now on carries OW_SUPPRESSED (R390). -/
def Dev.svyTap (s : Dev) : Dev :=
  match s.svy.run with
  | some r => if r.supp || !s.svySuppressed r.conv.bytes then s else s.modSvy (fun y => { y with run := some { r with supp := true } })
  | none => s

/-- A transition is set up; one that runs without a command gives way to it. A FAST OFF on a tripped team sends the
acknowledge in the next downstream frame (R361). -/
def Dev.transNew (s : Dev) (c target : Nat) (fast : Bool) (cmd : Option Nat) : Dev :=
  let ack := fast && cmd.isSome && s.teamTripped c
  let s1 := if ack then s.forAll (s.team c) (fun s m => s.modChan m (fun x => { x with ackReq := true })) else s
  (s1.modChan c (fun x =>
    let t : Trans := { target := target, origin := x.state, step := .request, due := none, frames := 0, cmd := cmd, fast := fast,
                       ack := if ack then .toSend else .none_ }
    { x with trans := some t })).svyTap

/-- A transition begins. -/
def Dev.transBegin (s : Dev) (c target : Nat) (fast : Bool) (cmd : Option Nat) : Dev :=
  (s.transNew c target fast cmd).transNext c false

/-- A command takes over a transition that runs without one: the step under way is completed first, and the states follow one at a time
from there (R138; log entry 151). -/
def Dev.transTake (s : Dev) (c target : Nat) (fast : Bool) (cmd : Option Nat) : Dev :=
  (s.modChan c (fun x => { x with trans := x.trans.map (fun t => { t with target := target, fast := fast, cmd := cmd }) })).svyTap

/-- Every member of a team enters a state. -/
def Dev.teamState (s : Dev) (c st : Nat) : Dev := s.forAll (s.team c) (fun s m => s.modChan m (fun x => { x with state := st }))

/-- The off step once the boundary has passed and the words EN = 0 have latched: the request goes; the step is complete
when the grants are seen withdrawn and an acknowledge has been answered (R138, R139, R361). -/
def Dev.offCheck (s : Dev) (c : Nat) : Dev :=
  match (s.chan c).trans with
  | some t =>
    if t.step == .off && t.due.isNone && s.teamLatched c then
      let s1 := s.teamWithdraw c
      if (s1.team c).all (fun m => !(s1.chan m).grantSeen) && (t.ack == .none_ || t.ack == .reported) then
        if t.target ≠ 0 then s1.transNext c false
        else s1.transEnd c (if t.ack == .reported && s1.teamTripped c then stAuthority else stOk)
      else s1
    else s
  | none => s

/-- The parts of a transition that act at a boundary, with the loop samples that arrived before it (R138, R139, R204). -/
def Dev.transBoundary (s : Dev) (c t0 : Nat) : Dev :=
  match (s.chan c).trans with
  | none => s
  | some t =>
    let acts := match t.due with | some d => decide (t0 > d) | none => false
    match t.step with
    | .goOn =>
      if !acts then s
      else
        let x := s.chan c
        let s1 := if x.soft then s.rampStart c (s.forcedLoop c) x.setpoint else s.modChan c (fun x => x.stepTo x.setpoint)
        -- the stored compliance is used from here (R144)
        ((s1.modChan c (fun x => { x with compUse := (x.compPos, x.compNeg) })).teamState c 3).transNext c false
    | .rampDown =>
      if acts then
        if (s.chan c).soft || t.fast then (s.rampStart c (s.forcedLoop c) 0).transTo c .rampDown none
        else ((s.modChan c (fun x => x.stepTo 0)).teamState c 2).transNext c false
      else if t.due.isNone && (s.chan c).ramp.isNone then (s.teamState c 2).transNext c false
      else s
    | .off => if acts then ((s.forAll (s.team c) Dev.memberStop).transTo c .off none).offCheck c else s
    | _ => s

/-- TRANSITION_SETTLE_END (R138, R195): the state advances at the first boundary at or after the end of the settle time. -/
def Dev.settleEnd (s : Dev) (c : Nat) : Dev :=
  match (s.chan c).trans with
  | none => s
  | some t =>
    match t.due with
    | none => s
    | some d =>
      match t.step with
      | .enable =>
        let s1 := s.advance (s.instantAt d)
        let s2 := s1.forAll (s1.team c) Dev.innerStart
        (s2.teamState c 1).transNext c true
      | .close =>
        let s1 := s.advance (s.instantAt d)
        ((s1.outerStart c).teamState c 2).transNext c false
      | .release =>
        let s1 := s.advance (s.instantAt d)
        ((s1.outerStop c).teamState c 1).transNext c false
      | _ => s

/-- INNER of a channel starts at this instant (R340 SLEW_START): the settle time of its enable step ends there. -/
def Dev.slewStartAt (s : Dev) (c t : Nat) : Bool :=
  match (s.chan (s.leader c)).trans with
  | some x => x.step == .enable && (match x.due with | some d => decide (d ≤ t) && decide (t < d + s.periodPs) | none => false)
  | none => false

/-- After a latch at the present instant: a settle time begins (R138).
A repeated latch (R150) keeps the first due instant. DESIGN CHOICE, log entry 155. -/
def Dev.transLatched (s : Dev) (c : Nat) : Dev :=
  match (s.chan c).trans, s.ident c with
  | some t, some i =>
    if t.due.isSome || !s.teamLatched c then s
    else
      let at_ := fun (ns : Nat) => s.modChan c (fun x => { x with trans := some { t with due := some (s.now + ns * 1000) } })
      match t.step with
      | .enable => at_ i.enSettleNs
      | .close => at_ i.outSettleNs
      | .release => at_ i.outSettleNs
      | _ => s
  | _, _ => s

/-- A good upstream frame answers an authority request (R140, R155), or an acknowledge (R361). The request has arrived at Helon with
the first frame after it that reports its downstream frame good; that frame and the next one are the two of R140. -/
def Dev.transFrame (s : Dev) (c : Nat) (dnBad : Bool) : Dev :=
  match (s.chan c).trans with
  | none => s
  | some t =>
    match t.step with
    | .request =>
      if t.frames = 0 || (t.frames = 1 && dnBad) then s
      else if (s.team c).all (fun m => (s.chan m).grantSeen) then (s.teamHalf c true false false).transTo c .enable none
      else if t.frames ≥ 2 then
        (s.teamWithdraw c).transEnd c stAuthority
      else s.modChan c (fun x => { x with trans := some { t with frames := t.frames + 1 } })
    | .off =>
      (if t.ack == .sent then s.modChan c (fun x => { x with trans := some { t with ack := .reported } }) else s).offCheck c
    | _ => s

/-- A downstream frame is launched: the request or acknowledge of a transition is on its way. -/
def Dev.transLaunched (s : Dev) (c : Nat) : Dev :=
  s.modChan c (fun x => { x with trans := x.trans.map (fun t =>
    let t1 := if t.step == .request && t.frames == 0 then { t with frames := 1 } else t
    if t1.ack == .toSend then { t1 with ack := .sent } else t1) })

/-! ### Revocation (R352) -/

/-- Helon has revoked a granted channel: the team goes to OFF, its transition ends with ST_AUTHORITY, its range change with
`stRc`, its sequencers with TRIP. -/
def Dev.revoked (s : Dev) (c stRc : Nat) : Dev :=
  (((s.teamOff c).rcDrop c stRc).transEnd c stAuthority).teamSeqEnd c 5

/-! ### The stage-control bus (R148 to R150) -/

/-- The leaders of a module's channels, each once. -/
def Dev.moduleLeaders (s : Dev) (m : Nat) : List Nat := sortedFns ((List.range 4).map (fun k => s.leader (4 * m + k)))

/-- The boundary at which a module may latch its shifted word. -/
def Dev.latchAt (s : Dev) (m : Nat) : Option Nat :=
  let g := s.stage m
  g.shift.map (fun p => s.instantAt (match g.lastLatch with | some t => max p.2 (t + latchGapPs) | none => p.2))

/-- A channel's wanted half-word has not been latched. -/
def Dev.halfWaits (s : Dev) (c : Nat) : Bool :=
  let g := s.stage (c / 4)
  halfAt g.latched (c % 4) != halfAt g.wanted (c % 4)

/-- The channels of a module whose gang's change the shifted word carries. -/
def Dev.gangCarried (s : Dev) (m : Nat) : List Nat :=
  ((List.range 4).map (4 * m + ·)).filter (fun c => s.ganged c && s.halfWaits c && s.carried c)

/-- The modules that latch with a module: those of a gang that a change in its shifted word belongs to (R227). -/
def Dev.latchGroup (s : Dev) (m : Nat) : List Nat :=
  let step := fun (l : List Nat) =>
    sortedFns (l ++ (l.flatMap s.gangCarried).flatMap (fun c => ((s.team c).filter s.halfWaits).map (· / 4)))
  step (step (step (step [m])))

/-- The boundary at which a module's group latches: none while a member's change waits behind another word of its module. -/
def Dev.groupLatchAt (s : Dev) (m : Nat) : Option Nat :=
  let l := s.latchGroup m
  let ready := (l.flatMap s.gangCarried).all (fun c => (s.team c).all (fun x => !s.halfWaits x || s.carried x))
  if !ready then none
  else l.foldl (fun a n => match a, s.latchAt n with | some x, some y => some (max x y) | none, b => b | a, none => a) none

/-- One module latches its shifted word; a change that waited is shifted next. -/
def Stage.latch (g : Stage) (t : Nat) : Stage :=
  match g.shift with
  | none => g
  | some p =>
    let g1 := { g with latched := p.1, lastLatch := some t, unconfirmed := true, shift := none }
    if g1.wanted == p.1 || g1.failedOnce then g1 else { g1 with shift := some (g1.wanted, t + shiftPs) }

/-- What the latches of a module do for its channels. -/
def Dev.afterLatch (s : Dev) (m : Nat) : Dev :=
  s.forAll (s.moduleLeaders m) (fun s c => ((s.transLatched c).rcLatched c).offCheck c)

/-- STAGE_WORD_LATCH (R148, R227). -/
def Dev.stageLatch (s : Dev) (m : Nat) : Dev :=
  if (s.stage m).shift.isNone then s
  else
    match s.groupLatchAt m with
    | none => s
    | some t =>
      let g := s.latchGroup m
      let s1 := (s.advance t).forAll g (fun s n => s.modStage n (fun x => x.latch t))
      s1.forAll g Dev.afterLatch

/-- A settle time of a plain change, or a settle count, ends. A break waits for a boundary that R148 allows. -/
def Dev.rcExpire (s : Dev) (c : Nat) : Dev :=
  match (s.chan c).rc with
  | none => s
  | some rc =>
    match rc.due with
    | some t => (s.advance t).rcComplete c
    | none =>
      let t := s.tb.lastSample
      if rc.phase == .made && rc.latched && rc.counting && rc.left == 0 && s.breakAllowed c t then
        let s1 := (s.advance t).rcBreak c rc
        s1.forAll (s1.teamModules c) Dev.afterLatch
      else if rc.phase == .switched && rc.latched && rc.left == 0 then (s.advance t).rcSwitchEnd c rc
      else s

/-- When the readback of the latched word has been checked: the end of the transfer that began within 40 ticks of the latch,
else of the confirm transfer (R149). -/
def Stage.checkAt (g : Stage) (t : Nat) : Nat :=
  match g.shift with
  | some (_, e) => if t + shiftPs ≤ e && e ≤ t + 1000000 + shiftPs then e else t + 1000000 + shiftPs
  | none => t + 1000000 + shiftPs

/-- The first half-word that differs. -/
def badHalf (a b : W64) : Nat := ((List.range 4).find? (fun k => halfAt a k != halfAt b k)).getD 0

/-- A confirm transfer's readback, or that of the transfer that began within 40 ticks of the latch (R149, R150). -/
def Dev.stageConfirm (s : Dev) (m : Nat) (rb : W64) : Dev :=
  let g := s.stage m
  match g.lastLatch with
  | none => s
  | some t =>
    if !g.unconfirmed then s
    else
      let s1 := (s.advance (g.checkAt t)).modStage m (fun g => { g with readback := rb })
      if rb == g.latched then
        let s2 := s1.modStage m (fun g =>
          let g1 := { g with unconfirmed := false, failedOnce := false }
          if g1.shift.isNone && g1.wanted != g1.latched then { g1 with shift := some (g1.wanted, s1.now + shiftPs) } else g1)
        s2.forAll (s2.moduleLeaders m) Dev.rcConfirmed
      else
        let k := badHalf rb g.latched
        let s2 := s1.logIt (kStageReadback m g.failedOnce) (halfAt g.latched k + 65536 * bit g.failedOnce)
        if !g.failedOnce then
          let s3 := s2.modStage m (fun g =>
            { g with failedOnce := true, unconfirmed := false, shift := some (g.latched, s2.now + shiftPs) })
          s3.forAll (s3.moduleLeaders m) (fun s c => s.rcRelatch c t)
        else
          let s3 := s2.modStage m (fun g => { g with failedOnce := false, unconfirmed := false })
          let s4 := s3.forAll ((List.range 4).map (4 * m + ·)) (fun s c => s.modChan c (fun x => { x with stageFault := true }))
          let s5 := match s4.cal.trace with
            | some x => if x.ch / 4 = m then
                let ids := (s4.tg.running.filter (fun (r : Running) => r.live && r.job.op == 0x0703)).map (fun (r : Running) => r.job.id)
                let s5 := s4.forAll ids (fun s i => s.finish i stIntegrity [])
                if ids.isEmpty then s5 else s5.traceUndo
              else s4
            | none => s4
          s5.forAll (s5.moduleLeaders m) (fun s c =>
            if (s.chan c).rc.isSome then s.rcFail c stIntegrity else s.toSafe c stIntegrity stIntegrity 5)

/-- RANGE_SETTLE_EXPIRY (R216, R218, CHAN_CONFIG). -/
def execRangeSettleExpiry (ch : ChanId) (s : State) : Out := .next (s.on (fun d => d.observed (fun d => d.rcExpire ch.val)))
/-- TRANSITION_SETTLE_END (R138). -/
def execTransitionSettleEnd (ch : ChanId) (s : State) : Out := .next (s.on (fun d => d.observed (fun d => d.settleEnd ch.val)))
/-- STAGE_CONFIRM_TRANSFER (R149). -/
def execStageConfirmTransfer (m : ModId) (readback : W64) (s : State) : Out :=
  .next (s.on (fun d => d.observed (fun d => d.stageConfirm m.val readback)))

end Sys2Proof.Machine
end

