-- ==== Sys2Proof/Machine/Channels.lean ====
section
/-! DEFINITION. The meanings of the channel commands (spec/04_channels.md). -/

namespace Sys2Proof.Machine

/-- The channel field of a request. -/
def Job.ch (j : Job) : Nat := u8 j.p 0

/-- The sequencer of a channel is armed or running (R143). -/
def Dev.seqBusy (s : Dev) (c : Nat) : Bool := (s.seq c).state == 1 || (s.seq c).state == 2

/-- The channels that a command on a channel names (R107): none while calibration runs on one, so that check 9 answers
(R398). -/
def Dev.chanCmdNames (s : Dev) (c : Nat) : List Res :=
  if (s.team c).any s.calActive then [] else (s.team c).map Res.chan

/-- The bytes of a range entry of CHAN_INFO. -/
def rangeEntry (r : RangeDef) : List Byte := w32 r.fs ++ w32 r.settleNs ++ w16 (bit r.bipolar) ++ zeros 2

/-- CHAN_INFO's sheet (R124). -/
def cmdChanInfo : Cmd :=
  { op := 0x0201, len := some 4,
    args := fun s j => s.chanOk j.ch && j.rsv 1 3, held := fun s j => s.holdsChan j.f j.ch,
    ready := fun s j => !s.discovering j.ch,
    body := fun s j =>
      let c := j.ch
      let v := s.ranges c false
      let i := s.ranges c true
      (s, .done stOk (w8 v.length ++ w8 i.length ++ w8 (c / 4) ++ w8 (bit (s.noModule c)) ++ (v ++ i).flatMap rangeEntry)) }

/-! ### CHAN_CONFIG -/

/-- A range code that a request may name (R123). -/
def Dev.codeArgOk (s : Dev) (c : Nat) (cur : Bool) (code : Nat) : Bool :=
  code == 15 || (decide (code < 12) && (s.noModule c || s.declares c cur code))

/-- The mode, codes and sense that a CHAN_CONFIG asks for. -/
structure CfgReq where
  fi : Bool
  v : Nat
  i : Nat
  loc : Bool
deriving DecidableEq, Repr

/-- A CHAN_CONFIG's request with the kept fields filled in. -/
def Dev.cfgReq (s : Dev) (j : Job) : CfgReq :=
  let x := s.chan j.ch
  { fi := if u8 j.p 1 = 0xFF then x.fi else u8 j.p 1 == 1, v := if u8 j.p 2 = 15 then x.vr else u8 j.p 2,
    i := if u8 j.p 3 = 15 then x.ir else u8 j.p 3, loc := if u8 j.p 4 = 0xFF then x.senseLocal else u8 j.p 4 == 1 }

/-- The values stay legal through a change of both ranges (R128); a new mode resets them instead. -/
def Dev.cfgValuesOk (s : Dev) (c : Nat) (q : CfgReq) : Bool :=
  let x := s.chan c
  if q.fi ≠ x.fi then true
  else s.rescaleAllOk c false q.v && s.rescaleAllOk c true q.i

/-- Check 9 of CHAN_CONFIG. -/
def Dev.cfgState (s : Dev) (c : Nat) (q : CfgReq) : Nat :=
  let x := s.chan c
  let rng := q.v != x.vr || q.i != x.ir
  stIf (!(s.follower c || s.noModule c || (s.team c).any s.calActive || s.seqBusy c
    || (rng && (s.ratePending || (s.team c).any s.calAwaiting || (s.team c).any s.armedOnChan))
    || (decide (x.state ≥ 2) && (q.fi != x.fi || q.loc != x.senseLocal))))

/-- CHAN_CONFIG's execution. A CHAN_SET_SOURCE that waits stays through a change of MODE. DESIGN CHOICE, log entry 156. -/
def Dev.cfgBody (s : Dev) (j : Job) : Dev × Result :=
  let c := j.ch
  let q := s.cfgReq j
  let x := s.chan c
  let newMode := q.fi != x.fi
  let rng := q.v != x.vr || q.i != x.ir
  if x.state ≥ 2 then
    if rng then (s.rcStart c q.v q.i (some j.id) s.now, .later []) else (s, .done stOk [])
  else
    let s1 := s.forAll (s.team c) (fun s m => s.modChan m (fun x =>
      let y := { x with fi := q.fi, senseLocal := q.loc }
      if newMode then { y.resetValues with ramp := none } else y))
    if rng || q.loc != x.senseLocal then
      (s1.plainBegin c q.v q.i newMode (some j.id), .later [])
    else (s1, .done stOk [])

/-- CHAN_CONFIG's sheet (R123, R128). -/
def cmdChanConfig : Cmd :=
  { op := 0x0202, len := some 8,
    args := fun s j =>
      s.chanOk j.ch && j.rsv 5 3 && (decide (u8 j.p 1 < 2) || u8 j.p 1 == 0xFF) && (decide (u8 j.p 4 < 2) || u8 j.p 4 == 0xFF)
        && s.codeArgOk j.ch false (u8 j.p 2) && s.codeArgOk j.ch true (u8 j.p 3)
        && (s.noModule j.ch || atStart s j (s.chanCmdNames j.ch) (s.cfgValuesOk j.ch (s.cfgReq j))),
    held := fun s j => s.holdsChan j.f j.ch, ready := fun s j => !s.discovering j.ch,
    unlocked := fun s j => s.chanFree j.f j.ch, state := fun s j => s.cfgState j.ch (s.cfgReq j),
    names := fun s j => s.chanCmdNames j.ch, body := Dev.cfgBody }

/-! ### CHAN_SET_SOURCE -/

/-- The fields of a CHAN_SET_SOURCE that are not kept are legal (R126, R127, R133). -/
def Dev.sourceOk (s : Dev) (c flags : Nat) (sp pos neg : Int) : Bool :=
  let x := s.chan c
  (flags.testBit 1 || setpointOk (s.bipolar c x.fi (x.code x.fi)) sp)
    && (flags.testBit 2 || (compOk pos && compOk neg && !s.compPast c (!x.fi) pos neg))

/-- CHAN_SET_SOURCE's sheet (R132, R144). -/
def cmdChanSetSource : Cmd :=
  { op := 0x0203, len := some 16,
    args := fun s j =>
      s.chanOk j.ch && decide (u8 j.p 1 < 8) && j.rsv 2 2
        && (s.noModule j.ch
          || atStart s j (s.chanCmdNames j.ch) (s.sourceOk j.ch (u8 j.p 1) (s32 j.p 4) (s32 j.p 8) (s32 j.p 12))),
    held := fun s j => s.holdsChan j.f j.ch, ready := fun s j => !s.discovering j.ch,
    unlocked := fun s j => s.chanFree j.f j.ch,
    state := fun s j =>
      stIf (!(s.follower j.ch || s.noModule j.ch || (s.team j.ch).any s.calActive || s.seqBusy j.ch)),
    names := fun s j => s.chanCmdNames j.ch,
    body := fun s j =>
      let f := u8 j.p 1
      let w : SourceWait :=
        { at_ := s.boundaryIn 1, setpoint := if f.testBit 1 then none else some (s32 j.p 4),
          compPos := if f.testBit 2 then none else some (s32 j.p 8),
          compNeg := if f.testBit 2 then none else some (s32 j.p 12), soft := f.testBit 0 }
      (s.modChan j.ch (fun x => { x with sourceWait := x.sourceWait ++ [w] }), .done stOk []) }

/-- Source values that are due at a boundary take effect together; in OFF, HIGH_Z and ZERO they are stored for the next entry of
ON (R132, R144, R205). -/
def Dev.applySource (s : Dev) (c : Nat) (w : SourceWait) : Dev :=
  let s1 := s.modChan c (fun x =>
    { x with setpoint := w.setpoint.getD x.setpoint, compPos := w.compPos.getD x.compPos,
             compNeg := w.compNeg.getD x.compNeg, soft := w.soft,
             compUse := if x.state = 3 then (w.compPos.getD x.compUse.1, w.compNeg.getD x.compUse.2) else x.compUse })
  -- a change to ZERO under way goes on towards 0 (R138)
  let falls := match (s.chan c).trans with | some t => t.step == .rampDown | none => false
  match w.setpoint with
  | none => s1
  | some v =>
    if (s1.chan c).state ≠ 3 || falls then s1
    else if w.soft then s1.rampStart c (s.forcedLoop c) v
    else s1.modChan c (fun x => x.stepTo v)

/-- All source values due at or before a boundary. -/
def Dev.applySources (s : Dev) (c t0 : Nat) : Dev :=
  let due := (s.chan c).sourceWait.filter (fun w => decide (w.at_ ≤ t0))
  if due.isEmpty then s
  else
    let s1 := s.modChan c (fun x => { x with sourceWait := x.sourceWait.filter (fun w => decide (w.at_ > t0)) })
    due.foldl (fun s w => s.applySource c w) s1

/-! ### CHAN_SET_STATE -/

/-- Check 9 of CHAN_SET_STATE (R124, R143, R150, R153, R242, R398, R569). The OFF-only block of R150 ends for each channel
with its own FAST OFF (log entry 122). -/
def Dev.setStateState (s : Dev) (c target : Nat) : Nat :=
  stIf (!(s.follower c
    || (target != 0 && (s.noModule c || (s.team c).any (fun m => (s.chan m).stageFault || s.calActive m || s.calRequired m)
      || decide (s.sys.power ≥ 2)))
    || (decide (target ≥ 2) && (s.seqBusy c || s.ratePending))))

/-- A CHAN_SET_STATE to OFF that waits ends the earlier CHAN_SET_STATE, or the range change, of the channel (R142, R222). -/
def Dev.preemptOff (s : Dev) (c : Nat) : Dev :=
  let s1 := if (match (s.chan c).trans with | some t => t.cmd.isSome | none => false) then s.transEnd c stState else s
  if (match (s1.chan c).rc with | some r => r.cmd.isSome | none => false) then s1.rcDrop c stState else s1

/-- Nothing of a channel is left to withdraw or to latch before OFF holds. -/
def Dev.isOff (s : Dev) (c : Nat) : Bool :=
  (s.team c).all (fun m => (s.chan m).state == 0 && !(s.chan m).req && !(s.chan m).grantSeen) && (s.chan c).trans.isNone

/-- CHAN_SET_STATE's execution. -/
def Dev.setStateBody (s : Dev) (j : Job) : Dev × Result :=
  let c := j.ch
  let target := u8 j.p 1
  let fast := u8 j.p 2 == 1
  let s1 := if target ≤ 1 && s.seqBusy c then s.seqOutput c else s
  let s2 := if target = 0 then s1.rcDrop c stState else s1
  let s3 := s2.forAll (s2.team c) (fun s m => s.modChan m (fun x =>
    { x with stageFault := x.stageFault && !fast, shareFault := x.shareFault && target != 0 }))
  if (target = 0 && !fast && s3.isOff c) || (target ≠ 0 && (s3.chan c).state = target && (s3.chan c).trans.isNone) then
    (s3, .done stOk (w8 target ++ zeros 3))
  else
    let s4 := if target = 0 && (s3.chan c).state = 0 then (s3.transNew c 0 fast (some j.id)).transOff c
      else if (s3.chan c).trans.isSome && !(target == 0 && fast) then s3.transTake c target fast (some j.id)
      else s3.transBegin c target fast (some j.id)
    (s4, .later [])

/-- CHAN_SET_STATE's sheet (R138 to R143). -/
def cmdChanSetState : Cmd :=
  { op := 0x0204, len := some 4,
    args := fun s j =>
      s.chanOk j.ch && decide (u8 j.p 1 ≤ 3) && decide (u8 j.p 2 < 2) && j.rsv 3 1 && (u8 j.p 2 == 0 || u8 j.p 1 == 0),
    held := fun s j => s.holdsChan j.f j.ch, ready := fun s j => u8 j.p 1 == 0 || !s.discovering j.ch,
    unlocked := fun s j => s.chanFree j.f j.ch, state := fun s j => s.setStateState j.ch (u8 j.p 1),
    names := fun s j => s.chanCmdNames j.ch,
    preempt := fun s j => if u8 j.p 1 = 0 then s.preemptOff j.ch else s,
    body := Dev.setStateBody }

/-! ### CHAN_STATUS -/

/-- A CHAN_SET_STATE of a channel has started and its final reply has not gone (R138). -/
def Dev.settingState (s : Dev) (c : Nat) : Bool :=
  s.tg.running.any (fun r => r.started && r.job.op == 0x0204 && s.leader r.job.ch == s.leader c)

/-- FLAGS of CHAN_STATUS. -/
def Dev.chanFlags (s : Dev) (c : Nat) : Nat :=
  let x := s.chan c
  let l := s.chan (s.leader c)
  bitAt x.compliance 0 + bitAt x.compSeen 1 + bitAt x.tripped 2 + bitAt x.degraded 3 + bitAt (s.calActive c) 4
    + bitAt (l.trans.isSome || l.rc.isSome || s.settingState c) 5 + bitAt x.stageFault 6 + bitAt x.shareFault 7 + bitAt (s.ganged c) 8
    + bitAt (s.ganged c && s.leader c == c) 9 + bitAt (s.noModule c) 10 + bitAt x.grantSeen 11 + bitAt (s.seqBusy c) 12
    + bitAt (s.calActive c) 13 + bitAt x.senseLocal 14

/-- I_MEAS: on a leader the gang sum in the gang full scale (R154, R226). -/
def Dev.measCurrent (s : Dev) (c : Nat) : Int :=
  if s.ganged c && s.leader c == c then
    let t := s.team c
    rhe (t.foldl (fun a m => a + (s.chan m).measI) 0) t.length
  else (s.chan c).measI

/-- The reply table of CHAN_STATUS. -/
def chanStatusReply (s : Dev) (c : Nat) : List Byte :=
  let x := s.chan c
  w8 x.state ++ w8 (bit x.fi) ++ w8 x.vr ++ w8 x.ir ++ w32 (s.chanFlags c) ++ wi32 x.setpoint ++ wi32 x.compPos
    ++ wi32 x.compNeg ++ wi32 (widenMeas x.measV) ++ wi32 (widenMeas (s.measCurrent c))
    ++ w8 (match s.gangOf c with | some g => g.1 | none => 0xFF) ++ zeros 3

/-- CHAN_STATUS's sheet (R131, R124). -/
def cmdChanStatus : Cmd :=
  { op := 0x0205, len := some 8,
    args := fun s j => s.chanOk j.ch && j.rsv 1 3 && decide (u32 j.p 4 < 2), held := fun s j => s.holdsChan j.f j.ch,
    body := fun s j =>
      (s.modChan j.ch (fun x => { x with compSeen := x.compSeen && !(u32 j.p 4).testBit 0 }),
        .done (if s.calActive j.ch then stStale else stOk) (chanStatusReply s j.ch)) }

/-! ### Gangs (R152, R153) -/

/-- Two channels declare identical range tables (R152). -/
def sameRanges (a b : StageId) : Bool :=
  let k := fun (r : RangeDef) => (r.fs, r.bipolar, r.settleNs)
  a.volts.map k == b.volts.map k && a.amps.map k == b.amps.map k

/-- INNER's active and VALID images of a channel fit the loop rate with the cycles that ganging adds (R31, R174, R175). -/
def Dev.gangFits (s : Dev) (c : Nat) : Bool :=
  let g := s.eng (engNo c 0)
  let fit := fun (b : List Byte) => imgFits b 0 true s.tb.d && (match s.tb.rateD with | some d => imgFits b 0 true d | none => true)
  fit g.image && (g.other.state != 2 || fit g.other.bytes)

/-- The members of a GANG_DEFINE meet R31 and R152. -/
def Dev.gangArgOk (s : Dev) (leader members : Nat) : Bool :=
  let l := chansIn members
  s.chansOk members && members.testBit leader && decide (2 ≤ l.length) && decide (l.length ≤ 16)
    && l.all (fun c => c / 16 == leader / 16) && l.all (fun c => (s.gangOf c).isNone) && l.all s.gangFits
    && (l.any s.discovering || l.all (fun c =>
      match s.ident leader, s.ident c with | some a, some b => sameRanges a b | _, _ => false))

/-- The gangs of a quadrant. -/
def Dev.quadGangs (s : Dev) (q : Nat) : Nat :=
  (s.gangs.filter (fun p => match p.2 with | some g => g.leader / 16 == q | none => false)).length

/-- The idle engines of a gang's followers leave every swap group (R206, R226). -/
def idleEngines (leader members : Nat) : Nat :=
  bitMap (fun e => members.testBit (e / 4) && e / 4 != leader && e % 4 != 0) 256

/-- A gang is defined: the members take the leader's mode, ranges and sense. -/
def Dev.gangDefine (s : Dev) (g leader members : Nat) : Dev :=
  let l := s.chan leader
  let idle := idleEngines leader members
  let s1 := s.setGang g (some { leader := leader, members := members })
  let s2 := s1.forAll (chansIn members) (fun s m =>
    let s1 := s.modChan m (fun x => { x.resetValues with fi := l.fi, vr := l.vr, ir := l.ir, senseLocal := l.senseLocal })
    (((s1.sendRange m false l.vr).sendRange m true l.ir).sendDown m (.gangMap members)).setHalf m (s1.halfFor m false false))
  let s3 := s2.forAll (bitsSet idle 256) (fun s e => s.modEng e Engine.start)
  { s3 with swapGroups := s3.swapGroups.filterMap (fun p =>
      let v := p.2 &&& (ones 256 - idle)
      if v = 0 then none else some (p.1, v)) }

/-- GANG_DEFINE's sheet. -/
def cmdGangDefine : Cmd :=
  { op := 0x0206, owner := true, opt := .g, len := some 12,
    args := fun s j => decide (u8 j.p 0 < 32) && j.rsv 2 2 && s.gangArgOk (u8 j.p 1) (u64 j.p 4),
    held := fun s j => s.holdsChans 0 (u64 j.p 4), ready := fun s j => !(chansIn (u64 j.p 4)).any s.discovering,
    state := fun s j =>
      if (s.gang (u8 j.p 0)).isSome || !(chansIn (u64 j.p 4)).all (fun c => s.isOff c) then stState
      else if s.quadGangs (u8 j.p 1 / 16) ≥ 8 then stResource else 0,
    names := fun s j => s.chanNames (u64 j.p 4),
    body := fun s j => (s.gangDefine (u8 j.p 0) (u8 j.p 1) (u64 j.p 4), .done stOk []) }

/-- The members of a gang by its identifier. -/
def Dev.gangMembers (s : Dev) (g : Nat) : List Nat := match s.gang g with | some x => bitsSet x.members 64 | none => []

/-- GANG_DISSOLVE's sheet. -/
def cmdGangDissolve : Cmd :=
  { op := 0x0207, owner := true, opt := .g, len := some 4,
    args := fun _ j => decide (u8 j.p 0 < 32) && j.rsv 1 3,
    held := fun s j => (s.gangMembers (u8 j.p 0)).all (s.holdsChan 0),
    state := fun s j => stIf ((s.gang (u8 j.p 0)).isSome && (s.gangMembers (u8 j.p 0)).all (fun c => s.isOff c)),
    names := fun s j => Res.gang (u8 j.p 0) :: (s.gangMembers (u8 j.p 0)).map Res.chan,
    body := fun s j =>
      ((s.setGang (u8 j.p 0) none).forAll (s.gangMembers (u8 j.p 0)) (fun s m => s.sendDown m (.gangMap 0)), .done stOk []) }

/-- CHAN_INFO. -/
def execChanInfo (q : Req) (s : State) : Out := .next (s.on (fun d => d.command cmdChanInfo q))
/-- CHAN_CONFIG. -/
def execChanConfig (q : Req) (s : State) : Out := .next (s.on (fun d => d.observed (fun d => d.command cmdChanConfig q)))
/-- CHAN_SET_SOURCE. -/
def execChanSetSource (q : Req) (s : State) : Out := .next (s.on (fun d => d.command cmdChanSetSource q))
/-- CHAN_SET_STATE. -/
def execChanSetState (q : Req) (s : State) : Out := .next (s.on (fun d => d.observed (fun d => d.command cmdChanSetState q)))
/-- CHAN_STATUS. -/
def execChanStatus (q : Req) (s : State) : Out := .next (s.on (fun d => d.command cmdChanStatus q))
/-- GANG_DEFINE. -/
def execGangDefine (q : Req) (s : State) : Out := .next (s.on (fun d => d.command cmdGangDefine q))
/-- GANG_DISSOLVE. -/
def execGangDissolve (q : Req) (s : State) : Out := .next (s.on (fun d => d.command cmdGangDissolve q))

end Sys2Proof.Machine
end

