-- ==== Sys2Proof/Machine/Loops.lean ====
section
/-! DEFINITION. The meanings of the loop-engine commands: images, banks, structure, swap groups and the range library
(spec/05_loop_engines.md, spec/06_loop_structure.md). -/

namespace Sys2Proof.Machine

/-- The engine field of a request. -/
def Job.eng (j : Job) : Nat := u16 j.p 0
/-- An engine of a channel the variant enables (R3). -/
def Dev.engOk (s : Dev) (e : Nat) : Bool := decide (e < 256) && s.chanOk (e / 4)
/-- OUTER, CLAMP and TRIM of a gang follower are idle (R226). -/
def Dev.idleEng (s : Dev) (e : Nat) : Bool := s.follower (e / 4) && e % 4 != 0

/-- An image slot with a part written (R182, R183, R212). -/
def Slot.write (g : Slot) (part : Nat) (d : List Byte) : Slot :=
  let b := if g.state = 1 then g.bytes else zeros 384
  { state := 1, parts := (if g.state = 1 then g.parts else 0) ||| 2 ^ part, bytes := splice b (192 * part) d }

/-- A slot whose parts are both present is checked: VALID, or EMPTY with the status of the first failure (R189), the fit of
R31 and R175 among them (log entry 121). -/
def Slot.check (g : Slot) (fits : List Byte → Bool) : Slot × Nat :=
  if g.parts ≠ 3 then (g, 0)
  else
    match imgCheck g.bytes with
    | some st => (slotEmpty, st)
    | none => if fits g.bytes then ({ g with state := 2 }, 0) else (slotEmpty, stArg)

/-- Computation time of an engine's image (R174). -/
def Dev.cyclesOf (s : Dev) (e : Nat) (b : List Byte) : Nat := imgCycles b (e % 4) (s.ganged (e / 4))

/-- The fit of R175 for an engine: while a rate change is pending, at both rates (R478). -/
def Dev.fitsEng (s : Dev) (e : Nat) (b : List Byte) : Bool :=
  imgFits b (e % 4) (s.ganged (e / 4)) s.tb.d && (match s.tb.rateD with | some d => imgFits b (e % 4) (s.ganged (e / 4)) d | none => true)

/-- The reply of 0x0301 for an engine. -/
def loadReply (s : Dev) (e : Nat) : List Byte :=
  let g := s.eng e
  w8 (1 - g.active) ++ w8 g.other.state ++ w16 (if g.other.state = 2 then s.cyclesOf e g.other.bytes else 0)

/-- A range change inside a sweep list runs on a channel (R223). -/
def Dev.listRc (s : Dev) (c : Nat) : Bool :=
  match (s.chan (s.leader c)).rc with | some r => r.cmd.isNone | none => false

/-- Check 9 of the loads (R211, R223, R226). -/
def Dev.loadState (s : Dev) (e : Nat) : Nat := stIf (!(s.armedOn e || s.idleEng e || s.listRc (e / 4)))

/-- The inactive bank takes a new slot; a failed check is the reply's status. -/
def Dev.loaded (s : Dev) (e : Nat) (r : Slot × Nat) : Dev × Result :=
  let s1 := s.modEng e (fun g => { g with other := r.1 })
  (s1, if r.2 = 0 then .done stOk (loadReply s1 e) else .done r.2 [])

/-- LOOP_LOAD_IMAGE's sheet (R183, R189). -/
def cmdLoopLoadImage : Cmd :=
  { op := 0x0301, len := some 200,
    args := fun s j => s.engOk j.eng && decide (u8 j.p 2 < 2) && j.rsv 3 5, held := fun s j => s.holdsChan j.f (j.eng / 4),
    unlocked := fun s j => s.chanFree j.f (j.eng / 4), state := fun s j => s.loadState j.eng,
    names := fun _ j => [Res.chan (j.eng / 4)],
    body := fun s j => s.loaded j.eng (((s.eng j.eng).other.write (u8 j.p 2) (slice j.p 8 192)).check (s.fitsEng j.eng)) }

/-- LOOP_READ_IMAGE's sheet. -/
def cmdLoopReadImage : Cmd :=
  { op := 0x0302, len := some 4,
    args := fun s j => s.engOk j.eng && decide (u8 j.p 2 < 2) && decide (u8 j.p 3 < 2),
    held := fun s j => s.holdsChan j.f (j.eng / 4),
    state := fun s j => stIf (u8 j.p 2 == (s.eng j.eng).active || (s.eng j.eng).other.state == 2),
    names := fun _ j => [Res.chan (j.eng / 4)],
    body := fun s j =>
      let g := s.eng j.eng
      let act := u8 j.p 2 == g.active
      (s, .done stOk (w8 (if act then 3 else 2) ++ zeros 3 ++ slice (if act then g.image else g.other.bytes) (192 * u8 j.p 3) 192)) }

/-- The role schedule runs an engine in the channel's state (R193). -/
def Dev.engRuns (s : Dev) (e : Nat) : Bool :=
  let st := (s.chan (e / 4)).state
  !s.idleEng e && !s.slotChans.testBit (e / 4) && (if e % 4 = 0 then decide (st ≥ 1) else decide (st ≥ 2))

/-- LOOP_ENGINE_STATUS's sheet (R173). -/
def cmdLoopEngineStatus : Cmd :=
  { op := 0x0303, len := some 8,
    args := fun s j => s.engOk j.eng && j.rsv 2 2 && decide (u32 j.p 4 < 4), held := fun s j => s.holdsChan j.f (j.eng / 4),
    body := fun s j =>
      let g := s.eng j.eng
      let clr := u32 j.p 4
      let fl := bitAt g.sat 0 + bitAt g.limit 1 + bitAt g.satSeen 2 + bitAt g.limitSeen 3 + bitAt g.heldSeen 4
        + bitAt (s.engRuns j.eng) 5
      (s.modEng j.eng (fun g =>
        { g with satSeen := g.satSeen && !clr.testBit 0, limitSeen := g.limitSeen && !clr.testBit 0,
                 heldSeen := g.heldSeen && !clr.testBit 0, heldRes := if clr.testBit 1 then 0 else g.heldRes,
                 heldLate := if clr.testBit 1 then 0 else g.heldLate, periods := if clr.testBit 1 then 0 else g.periods }),
        .done stOk (w8 g.active ++ w8 g.other.state ++ w16 (s.cyclesOf j.eng g.image) ++ w16 (min (engineBudget s.tb.d) 0xFFFF)
          ++ w16 fl ++ w32 g.heldRes ++ w32 g.heldLate ++ w32 g.periods ++ wi32 g.out)) }

/-- LOOP_READ_STATE's sheet (R192).
After a swap and before the first commit: the new states, the old AT_NS and OUT. DESIGN CHOICE, log entry 159. -/
def cmdLoopReadState : Cmd :=
  { op := 0x0304, len := some 4,
    args := fun s j => s.engOk j.eng && j.rsv 2 2, held := fun s j => s.holdsChan j.f (j.eng / 4),
    names := fun _ j => [Res.chan (j.eng / 4)],
    body := fun s j =>
      let g := s.eng j.eng
      let n := imgNsec g.image
      (s, .done stOk (w64 g.atNs
        ++ (List.range 8).flatMap (fun k => let p := if k < n then g.st.getD k (0, 0) else (0, 0); wi64 p.1 ++ wi64 p.2)
        ++ wi32 g.et ++ wi32 g.out)) }

/-- LOOP_LOAD_DEFAULT's sheet (R191). -/
def cmdLoopLoadDefault : Cmd :=
  { op := 0x0305, len := some 4,
    args := fun s j => s.engOk j.eng && j.rsv 2 2, held := fun s j => s.holdsChan j.f (j.eng / 4),
    unlocked := fun s j => s.chanFree j.f (j.eng / 4), state := fun s j => s.loadState j.eng,
    names := fun _ j => [Res.chan (j.eng / 4)],
    body := fun s j =>
      s.loaded j.eng (Slot.check { state := 1, parts := 3, bytes := defaultImage (j.eng % 4) } (s.fitsEng j.eng)) }

/-! ### Structure -/

/-- A survey entry lies in a function's view (R388): every entry in the owner's. -/
def Dev.inView (s : Dev) (f e : Nat) : Bool := f == 0 || (s.fn f).view.testBit e

/-- The fields that SETMASK selects are legal. -/
def structOk (p : List Byte) : Bool :=
  let m := u8 p 1
  (!m.testBit 0 || (decide (1 ≤ u8 p 2) && decide (u8 p 2 ≤ 64)))
    && (!m.testBit 1 || (decide (u8 p 3 < 2) && decide (u32 p 4 ≤ 1000000000)))
    && (!m.testBit 2 || (decide (u8 p 8 ≤ 24) && decide (u8 p 9 ≤ 24)))
    && (!m.testBit 3 || decide (1 ≤ u16 p 10))
    && (!m.testBit 4 || u16 p 12 == 0xFFFF
        || (decide (u16 p 12 < 256) && f32Finite (u32 p 16) && decide (u32 p 16 % 2 ^ 31 ≠ 0)))

/-- LOOP_SET_STRUCTURE's execution (R198, R203). -/
def setStructure (s : Dev) (c : Nat) (p : List Byte) : Dev :=
  let m := u8 p 1
  let b := s.boundaryIn 1
  s.modChan c (fun x =>
    { x with pendN := x.pendN ++ (if m.testBit 0 then [(b, u8 p 2)] else []),
             rampSmooth := if m.testBit 1 then u8 p 3 == 1 else x.rampSmooth,
             rampNs := if m.testBit 1 then u32 p 4 else x.rampNs,
             pendFf := x.pendFf ++ (if m.testBit 2 then [(b, u8 p 8, u8 p 9)] else []),
             pendTrim := x.pendTrim ++ (if m.testBit 3 then [(b, u16 p 10)] else []),
             pendRail := x.pendRail ++ (if m.testBit 4 then [(b, u16 p 12, u32 p 16)] else []) })

/-- LOOP_SET_STRUCTURE's sheet. -/
def cmdLoopSetStructure : Cmd :=
  { op := 0x0306, len := some 20,
    args := fun s j => s.chanOk j.ch && decide (u8 j.p 1 < 32) && j.rsv 14 2 && structOk j.p,
    held := fun s j => s.holdsChan j.f j.ch
      && (!(u8 j.p 1).testBit 4 || u16 j.p 12 == 0xFFFF || s.inView j.f (u16 j.p 12)),
    unlocked := fun s j => s.chanFree j.f j.ch,
    state := fun s j => stIf (!(s.follower j.ch || (s.chan j.ch).rc.isSome || (s.team j.ch).any s.calActive)),
    names := fun s j => if (s.chan j.ch).rc.isSome then [] else s.chanCmdNames j.ch,
    body := fun s j => (setStructure s j.ch j.p, .done stOk []) }

/-- V_rail as a rail input (R203). -/
def railInput (v nom : Nat) : Int :=
  let n := f32Val nom
  sat32 (fracRhe (fracMul (fracDiv (fracSub (f32Val v) n) n) ⟨1073741824, 1⟩))

/-- The last of the changes that are due at a boundary. -/
def dueLast {α : Type} (l : List (Nat × α)) (t0 : Nat) : Option α := ((l.filter (fun p => decide (p.1 ≤ t0))).getLast?).map (·.2)
/-- The changes that wait for a later boundary. -/
def notDue {α : Type} (l : List (Nat × α)) (t0 : Nat) : List (Nat × α) := l.filter (fun p => decide (p.1 > t0))

/-- Structure changes that are due at a boundary take effect (R198, R203); a new RAIL_ENTRY starts from its latest result of
the last 1 ms (log entry 113). -/
def Chan.structStep (x : Chan) (rails : Tbl (Option (Nat × Nat))) (t0 : Nat) : Chan :=
  let x1 := match dueLast x.pendN t0 with
    | some n => { x with n := n, k0Outer := 0, pendN := notDue x.pendN t0 }
    | none => x
  let x2 := match dueLast x1.pendTrim t0 with
    | some n => { x1 with trimDiv := n, k0Trim := 0, trimSum := 0, trimCnt := 0, pendTrim := notDue x1.pendTrim t0 }
    | none => x1
  let x3 := match dueLast x2.pendFf t0 with
    | some f => { x2 with ff1 := f.1, ff2 := f.2, pendFf := notDue x2.pendFf t0 }
    | none => x2
  match dueLast x3.pendRail t0 with
  | some r =>
    let x4 := { x3 with railEntry := r.1, railNom := r.2, pendRail := notDue x3.pendRail t0, rail := 0, railStale := true,
                        railAt := none, railNext := none }
    match tblGet (fun _ => none) rails r.1 with
    | some p =>
      if p.2 + 1000000000 ≤ t0 then x4
      else { x4 with railNext := some (railInput p.1 r.2, p.2), railTaken := none, railAt := some p.2, railStale := false }
    | none => x4
  | none => x3

/-- A rail value that waits is taken at a boundary, at most one per 10 µs (R392). -/
def Chan.railStep (x : Chan) (t0 : Nat) : Chan :=
  match x.railNext with
  | none => x
  | some p =>
    let free := match x.railTaken with | some t => decide (t + 10000000 ≤ t0) | none => true
    if p.2 ≤ t0 && free then { x with rail := p.1, railNext := none, railTaken := some t0 } else x

/-- RC_PHASE of LOOP_STRUCT_STATUS. -/
def RangeChange.code (r : RangeChange) : Nat :=
  match r.phase with
  | .plain => 0
  | .priming => 1
  | .made => if r.latched then 2 else 1
  | .switched => if r.latched then 3 else 1
  | .breaking => 4

/-- LIB of an engine: the VALID slots. -/
def Engine.libMap (g : Engine) : Nat := bitMap (fun k => (tblGet slotInit g.lib k).state == 2) 18

/-- The reply of LOOP_STRUCT_STATUS (R199). -/
def structReply (s : Dev) (c : Nat) : List Byte :=
  let x := s.chan c
  let armed := s.swaps.filter (fun w => w.engines.any (fun e => e / 4 == c))
  let rc := (s.chan (s.leader c)).rc
  let left := match x.ramp with | some p => p.nr - p.j | none => 0
  w8 x.n ++ w8 (bitAt (s.clampNeg c) 0 + bitAt x.compliance 1 + bitAt x.ramp.isSome 2 + bitAt x.railStale 3 + bitAt (!armed.isEmpty) 4
      + bitAt (armed.any (·.committed)) 5)
    ++ w8 (match rc with | some r => r.code | none => 0) ++ zeros 1 ++ w32 left ++ wi32 x.r ++ wi32 x.uSel ++ w16 x.trimDiv
    ++ w16 (match rc with | some r => if r.code = 2 || r.code = 3 then min r.left 0xFFFF else 0 | none => 0)
    ++ (List.range 4).flatMap (fun r => w32 (s.eng (engNo c r)).libMap) ++ zeros 4

/-- LOOP_STRUCT_STATUS's sheet. -/
def cmdLoopStructStatus : Cmd :=
  { op := 0x0307, len := some 4,
    args := fun s j => s.chanOk j.ch && j.rsv 1 3, held := fun s j => s.holdsChan j.f j.ch,
    body := fun s j => (s, .done (if s.calActive j.ch then stStale else stOk) (structReply s j.ch)) }

/-- RAIL_STALE: no result of the rail entry for 1 ms (R203). -/
def Dev.railStaleNow (s : Dev) (c : Nat) : Dev :=
  match (s.chan c).railAt with
  | none => s
  | some t => (s.advance (t + 1000000000)).modChan c (fun x => { x with rail := 0, railStale := true, railAt := none, railNext := none })

/-! ### Swap groups (R206 to R211) -/

/-- A function's group, as a bit map of engines. -/
def Dev.group (s : Dev) (f g : Nat) : Nat := tblGet groupInit s.swapGroups (64 * f + g)
/-- The channels of a map of engines. -/
def chansOfEngs (m : Nat) : List Nat := sortedFns ((bitsSet m 256).map (· / 4))

/-- LOOP_SWAP_GROUP's sheet (R206). -/
def cmdLoopSwapGroup : Cmd :=
  { op := 0x0308, len := some 36,
    args := fun s j => decide (u8 j.p 0 < 64) && j.rsv 1 3 && (chansOfEngs (leN j.p 4 32)).all s.chanOk,
    held := fun s j => (chansOfEngs (leN j.p 4 32)).all (s.holdsChan j.f),
    unlocked := fun s j => (chansOfEngs (leN j.p 4 32 ||| s.group j.f (u8 j.p 0))).all (s.chanFree j.f),
    state := fun s j =>
      let g := u8 j.p 0
      let m := leN j.p 4 32
      stIf (!(s.swaps.any (fun w => w.fn == j.f && w.group == g)
        || (List.range 64).any (fun k => k != g && (s.group j.f k &&& m) != 0)
        || (bitsSet m 256).any s.idleEng)),
    names := fun _ j => (chansOfEngs (leN j.p 4 32)).map Res.chan,
    body := fun s j =>
      ({ s with swapGroups := tblSet groupInit s.swapGroups (64 * j.f + u8 j.p 0) (leN j.p 4 32) }, .done stOk []) }

/-- The engines that LOOP_SWAP and LOOP_SWAP_CANCEL name. -/
def Dev.swapMembers (s : Dev) (f group eng : Nat) : List Nat :=
  if group = 255 then [eng] else bitsSet (s.group f group) 256

/-- GROUP and ENGINE fields of LOOP_SWAP and LOOP_SWAP_CANCEL. -/
def Dev.swapArgOk (s : Dev) (f group eng : Nat) : Bool :=
  if group = 255 then s.engOk eng else decide (group < 64) && eng == 0 && decide (s.group f group ≠ 0)

/-- A scheduled start's MONO_NS target (R488). -/
def Dev.monoTarget (s : Dev) (atNs : Nat) : Nat := ((atNs : Int) - ((s.timeNs : Int) - (s.monoNs : Int))).toNat
/-- The instant, in ps, from which MONO_NS is at or after a target. -/
def Dev.monoInstant (s : Dev) (ns : Nat) : Nat := s.tb.monoZero + ns * 1000

/-- Every member may be armed (R207, R398). -/
def Dev.swapState (s : Dev) (es : List Nat) : Nat :=
  stIf (!s.ratePending && es.all (fun e =>
    let c := e / 4
    (s.eng e).other.state == 2 && s.fitsEng e (s.eng e).other.bytes && !s.armedOn e && (s.chan (s.leader c)).rc.isNone
      && !s.seqBusy (s.leader c) && !s.calAwaiting c && !s.idleEng e))

/-- LOOP_SWAP's execution (R207, R209). -/
def swapArm (s : Dev) (j : Job) : Dev × Result :=
  let group := u8 j.p 0
  let kind := u8 j.p 1
  let es := s.swapMembers j.f group (u16 j.p 2)
  let target := s.monoTarget (u64 j.p 8)
  let b := if kind = 0 then s.boundaryIn 2 else s.boundaryAt (s.monoInstant target)
  let w : Swap := { id := j.id, fn := j.f, group := group, engines := es, kind := kind, route := u8 j.p 4, target := target,
                    boundary := if kind = 0 then some b else none, committed := false }
  let s1 := { s with swaps := s.swaps ++ [w] }
  let s2 := if kind = 2 then s1.forAll es (fun s e => s.attach (704 + e) (u8 j.p 4)) else s1
  (s2, .done stOk (w64 (if kind = 2 then 0 else s.nsAt b)))

/-- LOOP_SWAP's sheet. -/
def cmdLoopSwap : Cmd :=
  { op := 0x0309, len := some 16,
    args := fun s j =>
      let kind := u8 j.p 1
      decide (kind ≤ 2) && s.swapArgOk j.f (u8 j.p 0) (u16 j.p 2) && j.rsv 5 3 && (kind == 2 || u8 j.p 4 == 0)
        && (if kind = 1 then decide (u64 j.p 8 ≥ s.timeNs + 2000) else u64 j.p 8 == 0),
    held := fun s j => (s.swapMembers j.f (u8 j.p 0) (u16 j.p 2)).all (fun e => s.holdsChan j.f (e / 4))
      && (u8 j.p 1 != 2 || s.routeHolder (u8 j.p 4) == j.f),
    unlocked := fun s j => (s.swapMembers j.f (u8 j.p 0) (u16 j.p 2)).all (fun e => s.chanFree j.f (e / 4)),
    state := fun s j => s.swapState (s.swapMembers j.f (u8 j.p 0) (u16 j.p 2)),
    names := fun s j => (s.swapMembers j.f (u8 j.p 0) (u16 j.p 2)).map (fun e => Res.chan (e / 4)), body := swapArm }

/-- A swap is named by the group or engine that armed it. -/
def Swap.isNamed (w : Swap) (f group eng : Nat) : Bool :=
  w.fn == f && w.group == group && (group != 255 || w.engines == [eng])

/-- An armed swap by its command's id. -/
def Dev.swapOf (s : Dev) (id : Nat) : Option Swap := s.swaps.find? (fun w => w.id == id)
/-- A swap is no longer armed; its consumers leave the route (R460). -/
def Dev.swapGone (s : Dev) (w : Swap) : Dev :=
  ({ s with swaps := s.swaps.filter (fun x => x.id != w.id) }).forAll w.engines (fun s e => s.detach (704 + e))

/-- LOOP_SWAP_CANCEL's sheet (R210). -/
def cmdLoopSwapCancel : Cmd :=
  { op := 0x030A, len := some 4,
    args := fun s j => j.rsv 1 1 && (if u8 j.p 0 = 255 then s.engOk (u16 j.p 2) else decide (u8 j.p 0 < 64) && u16 j.p 2 == 0),
    held := fun s j => (s.swapMembers j.f (u8 j.p 0) (u16 j.p 2)).all (fun e => s.holdsChan j.f (e / 4)),
    unlocked := fun s j => (s.swapMembers j.f (u8 j.p 0) (u16 j.p 2)).all (fun e => s.chanFree j.f (e / 4)),
    state := fun s j => stIf (s.swaps.any (fun w => w.isNamed j.f (u8 j.p 0) (u16 j.p 2) && !w.committed)),
    names := fun s j => (s.swapMembers j.f (u8 j.p 0) (u16 j.p 2)).map (fun e => Res.chan (e / 4)),
    body := fun s j =>
      match s.swaps.find? (fun w => w.isNamed j.f (u8 j.p 0) (u16 j.p 2)) with
      | some w => (s.swapGone w, .done stOk [])
      | none => (s, .done stOk []) }

/-- A swap's fields changed. -/
def Dev.modSwap (s : Dev) (id : Nat) (g : Swap → Swap) : Dev := { s with swaps := updFirst (fun w => w.id == id) g s.swaps }

/-- The boundary of a swap of kind 0 or 1 (R207, R488). -/
def Dev.swapBoundary (s : Dev) (w : Swap) : Option Nat :=
  if w.kind = 1 then some (s.instantAt (s.monoInstant w.target)) else w.boundary.map s.instantAt

/-- SWAP_COMMIT: 1 µs before the boundary (R210). -/
def Dev.swapCommit (s : Dev) (id : Nat) : Dev :=
  match s.swapOf id with
  | none => s
  | some w =>
    match s.swapBoundary w with
    | some b => (s.advance (b - 1000000)).modSwap id (fun w => { w with committed := true })
    | none => s

/-- SWAP_EVENT_LATCH: the event is latched, and the swap takes effect at t_s + P (R209, R463). -/
def Dev.swapLatch (s : Dev) (id : Nat) : Dev :=
  match s.swapOf id with
  | none => s
  | some w =>
    if w.kind ≠ 2 || !w.engines.any (fun e => s.hasEdge (704 + e)) then s
    else
      let at_ := s.latchOf (704 + (w.engines.filter (fun e => s.hasEdge (704 + e))).headD 0)
      let s1 := s.forAll w.engines (fun s e => s.takeEdge (704 + e))
      if w.committed then s1.forAll w.engines (fun s e => s.setOverrun (704 + e))
      else s1.modSwap id (fun w => { w with committed := true, boundary := some (s1.instantAt at_ + s1.periodPs) })

/-- The exchange of an armed swap for every member (R184, R208). -/
def Dev.swapTake (s : Dev) (id : Nat) : Dev :=
  match s.swapOf id with
  | none => s
  | some w =>
    match s.swapBoundary w with
    | none => s
    | some b => ((s.advance b).swapGone w).forAll w.engines (fun s e => s.modEng e (fun g => g.exchange []))

/-! ### Range library (R212) -/

/-- LOOP_RANGE_STORE's execution. -/
def rangeStore (s : Dev) (j : Job) : Dev × Result :=
  let e := j.eng
  let k := libNo (u8 j.p 2 == 1) (u8 j.p 3)
  let part := u8 j.p 4
  let set := fun (g : Slot) => s.modEng e (fun x => { x with lib := tblSet slotInit x.lib k g })
  if part = 0xFF then (set slotEmpty, .done stOk (zeros 4))
  else
    let r := ((tblGet slotInit (s.eng e).lib k).write part (slice j.p 8 192)).check (fun _ => true)
    (set r.1, if r.2 ≠ 0 then .done r.2 [] else
      .done stOk (w8 r.1.state ++ zeros 1 ++ w16 (if r.1.state = 2 then s.cyclesOf e r.1.bytes else 0)))

/-- The range change of a channel is priming its engines (R214). -/
def Dev.primingOn (s : Dev) (c : Nat) : Bool :=
  match (s.chan (s.leader c)).rc with | some r => r.phase == .priming | none => false

/-- LOOP_RANGE_STORE's sheet. -/
def cmdLoopRangeStore : Cmd :=
  { op := 0x030B, len := some 200,
    args := fun s j =>
      let cur := u8 j.p 2 == 1
      s.engOk j.eng && decide (u8 j.p 2 < 2) && decide (u8 j.p 3 < (if cur then 12 else 6)) && j.rsv 5 3
        && (decide (u8 j.p 4 < 2) || (u8 j.p 4 == 0xFF && allZero j.p 8 192))
        && (s.noModule (j.eng / 4) || s.declares (j.eng / 4) cur (u8 j.p 3)),
    held := fun s j => s.holdsChan j.f (j.eng / 4), ready := fun s j => !s.discovering (j.eng / 4),
    unlocked := fun s j => s.chanFree j.f (j.eng / 4),
    state := fun s j => stIf (!(s.idleEng j.eng || s.primingOn (j.eng / 4))),
    names := fun s j => if s.primingOn (j.eng / 4) then [] else [Res.chan (j.eng / 4)],
    body := rangeStore }

/-! ### Rows -/

/-- LOOP_LOAD_IMAGE. -/
def execLoopLoadImage (q : Req) (s : State) : Out := .next (s.on (fun d => d.command cmdLoopLoadImage q))
/-- LOOP_READ_IMAGE. -/
def execLoopReadImage (q : Req) (s : State) : Out := .next (s.on (fun d => d.command cmdLoopReadImage q))
/-- LOOP_ENGINE_STATUS. -/
def execLoopEngineStatus (q : Req) (s : State) : Out := .next (s.on (fun d => d.command cmdLoopEngineStatus q))
/-- LOOP_READ_STATE. -/
def execLoopReadState (q : Req) (s : State) : Out := .next (s.on (fun d => d.command cmdLoopReadState q))
/-- LOOP_LOAD_DEFAULT. -/
def execLoopLoadDefault (q : Req) (s : State) : Out := .next (s.on (fun d => d.command cmdLoopLoadDefault q))
/-- LOOP_SET_STRUCTURE. -/
def execLoopSetStructure (q : Req) (s : State) : Out := .next (s.on (fun d => d.command cmdLoopSetStructure q))
/-- LOOP_STRUCT_STATUS. -/
def execLoopStructStatus (q : Req) (s : State) : Out := .next (s.on (fun d => d.command cmdLoopStructStatus q))
/-- LOOP_SWAP_GROUP. -/
def execLoopSwapGroup (q : Req) (s : State) : Out := .next (s.on (fun d => d.command cmdLoopSwapGroup q))
/-- LOOP_SWAP. -/
def execLoopSwap (q : Req) (s : State) : Out := .next (s.on (fun d => d.command cmdLoopSwap q))
/-- LOOP_SWAP_CANCEL. -/
def execLoopSwapCancel (q : Req) (s : State) : Out := .next (s.on (fun d => d.command cmdLoopSwapCancel q))
/-- LOOP_RANGE_STORE. -/
def execLoopRangeStore (q : Req) (s : State) : Out := .next (s.on (fun d => d.command cmdLoopRangeStore q))
/-- SWAP_COMMIT (R210). -/
def execSwapCommit (id : Nat) (s : State) : Out := .next (s.on (fun d => d.swapCommit id))
/-- SWAP_EVENT_LATCH (R209). -/
def execSwapEventLatch (id : Nat) (s : State) : Out := .next (s.on (fun d => d.swapLatch id))
/-- SWAP_BOUNDARY (R208). -/
def execSwapBoundary (id : Nat) (s : State) : Out := .next (s.on (fun d => d.swapTake id))
/-- RAIL_STALE (R203). -/
def execRailStale (ch : ChanId) (s : State) : Out := .next (s.on (fun d => d.railStaleNow ch.val))

end Sys2Proof.Machine
end

