-- ==== Sys2Proof/Machine/ResCore.lean ====
section
/-! DEFINITION. What the result former does with the samples of one period: apertures (R247 to R252), streams (R317, R318)
and captures (R322 to R325). -/

namespace Sys2Proof.Machine

/-- What one period gives the result former of a channel: the period samples (none where missing), their check-code
differences, and the flags of R306 that hold at the sample instant. -/
structure PSamp where
  t0 : Nat
  v : Option Int
  i : Option Int
  dv : List Nat
  di : List Nat
  flags : Nat
deriving DecidableEq, Repr

/-! ### Apertures -/

/-- A BOX aperture of `a` ticks (R247). -/
def boxPeriods (d a : Nat) : Nat := max 1 (ceilDiv a d)

/-- Periods and last weight of a LINE aperture of `nplc` cycles at `mhz` (R249). -/
def linePeriods (d nplc mhz : Nat) : Nat × Nat :=
  let num := nplc * 40000000000
  let den := mhz * d
  let n := num / den
  let w := (rhe (((num - n * den) * 65536 : Nat)) den).toNat
  if w = 0 then (n, 65536) else (n + 1, w)

/-- An aperture that starts at `ta`: mode 1 LOOP_RATE, 2 BOX, 3 LINE. -/
def Dev.newAper (s : Dev) (mode len ta idx : Nat) : Aper :=
  let p := if mode = 3 then linePeriods s.tb.d len s.sys.opt.lineFreq else (boxPeriods s.tb.d len, 65536)
  { mode := mode, ta := ta, n := p.1, k := 0, w16 := p.2, vs := [], is := [], dv := [], di := [], flags := 0, idx := idx,
    te := ta, stale := false }

/-- A period of an aperture: `exV`, `exI` exclude a quantity's sample of a swap boundary (R251). -/
def Aper.take (a : Aper) (p : PSamp) (exV exI : Bool) : Aper :=
  if p.t0 ≤ a.ta || a.k ≥ a.n then a
  else
    let w := if a.k + 1 = a.n then a.w16 else 65536
    { a with
      k := a.k + 1
      te := p.t0
      vs := (match p.v with | some x => if exV then a.vs else (x, w) :: a.vs | none => a.vs)
      is := (match p.i with | some x => if exI then a.is else (x, w) :: a.is | none => a.is)
      dv := if exV || p.v.isNone then a.dv else p.dv.reverse ++ a.dv
      di := if exI || p.i.isNone then a.di else p.di.reverse ++ a.di
      flags := a.flags ||| p.flags
      stale := a.stale || p.v.isNone || p.i.isNone }

/-- Every period of an aperture has gone by. -/
def Aper.over_ (a : Aper) : Bool := decide (a.k ≥ a.n)

/-- The weighted mean of an aperture's samples (R248, R249). -/
def aperMean (l : List (Int × Nat)) : Option Int :=
  let den := l.foldl (fun a p => a + p.2) 0
  let num := l.foldl (fun (a : Int) p => a + p.1 * (p.2 : Int)) 0
  if den = 0 then none else some (sat32 (rhe (num * 256) den))

/-- Differences count, and a record with one carries CODE_ERR (R311). -/
def Dev.codeErrs (s : Dev) (c : Nat) (diffs : List Nat) : Dev :=
  let bad := diffs.filter (· != 0)
  if bad.isEmpty then s
  else (s.modStream c (fun t => { t with codeErr := sat32n (t.codeErr + bad.length) })).logIt (kCodeErr c) (bad.headD 0)

/-- FLAGS of a measuring record of a channel: range, mode, GANG_SUM, and the flags collected (R306). -/
def Dev.measFlags (s : Dev) (c flags : Nat) (stale : Bool) (diffs : List Nat) : Nat :=
  s.rangeFlags c ||| flags ||| bitAt stale 0 ||| bitAt (diffs.any (· != 0)) 7
    ||| bitAt (s.ganged c && s.leader c == c) 10

/-- The MEAS record of an aperture that ends at `te` (R248, R249, R252).
Samples of an aperture without a ring are checked too. DESIGN CHOICE, log entry 165. -/
def Dev.formMeas (s : Dev) (c : Nat) (a : Aper) (te : Nat) : Dev :=
  let r := s.res c
  let v := aperMean a.vs
  let i := aperMean a.is
  let diffs := a.dv.reverse ++ a.di.reverse
  let stale := a.stale || v.isNone || i.isNone
  let s1 := s.codeErrs c diffs
  let f := s1.measFlags c a.flags stale diffs
  let rec_ := s1.recAt c c 1 te (ofSigned 32 (v.getD (r.lastV * 256))) (ofSigned 32 (i.getD (r.lastI * 256))) a.idx f
  s1.record { rec_ with diffs := diffs }

/-- A record of one period: LOOP or CAPTURE pairs occupy one slot (R319), their codes are checked when Caravan reads them
(R311). -/
def Dev.pairRec (s : Dev) (c type_ idx : Nat) (p : PSamp) : Rec :=
  let r := s.res c
  let stale := p.v.isNone || p.i.isNone
  let f := s.rangeFlags c ||| p.flags ||| bitAt stale 0 ||| bitAt (s.ganged c && s.leader c == c) 10
  let q := s.recAt c c type_ p.t0 (ofSigned 32 ((p.v.getD r.lastV) * 256)) (ofSigned 32 ((p.i.getD r.lastI) * 256)) idx f
  { q with slots := 1, diffs := (if p.v.isSome then p.dv else []) ++ (if p.i.isSome then p.di else []) }

/-! ### Streams -/

/-- A configured STREAM takes effect at its boundary (R317). No stream yields a capture's records but CAPTURE: a capture ends
with it (DEDUCED, log 132). While a calibration runs no aperture starts (R318). -/
def Dev.streamTo (s : Dev) (c b st : Nat) : Dev :=
  s.modRes c (fun r =>
    { r with active := st, periods := 0, boxOld := r.boxOld ++ r.box.toList,
             box := if st = 2 && !s.calActive c then some (s.newAper 2 r.aperture b 0xFFFFFFFF) else none,
             cap := if st = 3 then r.cap else .idle, hist := if st = 3 then r.hist else [], disarm := st == 3 && r.disarm })

/-- The configured STREAMs that are due take effect in order (R317). -/
def Dev.streamChange (s : Dev) (c t0 : Nat) : Dev :=
  let due := (s.res c).changes.filter (fun p => decide (p.1 ≤ t0))
  if due.isEmpty then s
  else due.foldl (fun s p => s.streamTo c p.1 p.2)
    (s.modRes c (fun r => { r with changes := r.changes.filter (fun p => decide (p.1 > t0)) }))

/-- The pair of a period under a capture (R322 to R325). -/
def Dev.capPair (s : Dev) (c : Nat) (p : PSamp) : Dev :=
  let r := s.res c
  match r.cap with
  | .armed =>
    if p.t0 < r.histFrom then s
    else s.modRes c (fun r => { r with hist := (s.pairRec c 4 0 p :: r.hist).take r.pre })
  | .triggered =>
    if p.t0 < r.trigAt && r.capNext ≥ 0 then s
    else
      let s1 := ((s.modRes c (fun r => { r with capNext := r.capNext + 1 })).formPair (s.pairRec c 4 (ofSigned 32 r.capNext) p)).take c
      s1.modRes c (fun r =>
        if r.capNext < r.post then r
        else if r.disarm then { r with cap := .idle, disarm := false }
        else { r with cap := .rearm, rearmAt := p.t0 + 800000 })
  | _ => s

/-- The instant of a capture's trigger sample has come: FI, VRANGE, IRANGE and UNLOCKED of its CAP_START record (R307). -/
def Dev.capStartMark (s : Dev) (c t0 : Nat) : Dev :=
  if (s.res c).cap == .triggered && (s.res c).trigAt == t0 then
    let fl := s.rangeFlags c ||| bitAt (s.tb.tstate != .locked) 8
    s.markRecs c (fun r => if r.type_ = 3 && r.at_ = t0 then { r with flags := r.flags &&& 32 ||| fl, inst := fl } else r)
  else s

/-- What a traceable session measures in a period: its channel is in OFF, whose payload is zero, so that Helon's samples of the
instant come as calibration traffic on the side channel, beside the frame (R42, R345, R406; log entry 45). -/
def Dev.traceSamp (s : Dev) (c : Nat) (p : PSamp) : PSamp :=
  if p.v.isNone && p.i.isNone then p
  else
    let h := s.helon c
    { p with v := if h.v.noSamp then none else some h.v.meas, i := if h.i.noSamp then none else some h.i.meas }

/-- The result former takes one period of a channel. -/
def Dev.resTake (s : Dev) (c : Nat) (p0 : PSamp) : Dev :=
  let ex := fun (cur : Bool) => (s.chan c).swapped cur p0.t0
  let chg := ex false || ex true
  let cal := s.calActive c
  let raw := { p0 with flags := p0.flags ||| bitAt chg 9 ||| bitAt (s.tb.tstate != .locked) 8 }
  -- under calibration a record repeats the last samples of before it (R318)
  let p := if cal then { raw with v := none, i := none } else raw
  let s1 := (s.capStartMark c p.t0).streamChange c p.t0
  let s2 := s1.modRes c (fun r => { r with lastV := p.v.getD r.lastV, lastI := p.i.getD r.lastI })
  let s3 :=
    if (s2.res c).active = 1 then
      (s2.record (s2.pairRec c 2 (s2.res c).periods p)).modRes c (fun r => { r with periods := (r.periods + 1) % 2 ^ 32 })
    else s2
  let s3 := s3.capPair c p
  let one := fun (a : Aper) => a.take raw (ex false && a.mode != 1) (ex true && a.mode != 1)
  let s5 := if cal then s3
    else
      let s4 := s3.modRes c (fun r =>
        { r with box := r.box.map one, boxOld := r.boxOld.map one, seqOld := r.seqOld.map one, meas := r.meas.map (fun m =>
          if m.start.isSome then { m with aper := one m.aper } else m) })
      s4.modSeq c (fun q => { q with aper := q.aper.map one })
  match s5.cal.trace with
  | some t =>
    let take := fun (a : Aper) => a.take (s.traceSamp c raw) (ex false && a.mode != 1) (ex true && a.mode != 1)
    if t.ch = c then s5.modCal (fun k => { k with trace := some { t with run := t.run.map (fun r => { r with aper := take r.aper }) } })
    else s5
  | none => s5

/-- The record of one period of a LOOP_RATE aperture (R247, R278). -/
def Dev.ratePeriod (s : Dev) (c : Nat) (a : Aper) (p : PSamp) : Dev :=
  let swap := (s.chan c).swapped false p.t0 || (s.chan c).swapped true p.t0
  s.formMeas c { a with vs := a.vs.take (bit p.v.isSome), is := a.is.take (bit p.i.isSome),
                        dv := if p.v.isSome then p.dv.reverse else [], di := if p.i.isSome then p.di.reverse else [],
                        flags := p.flags ||| bitAt swap 9, stale := p.v.isNone || p.i.isNone } p.t0

/-- Periods an optional aperture has taken. -/
def aperK (a : Option Aper) : Nat := match a with | some x => x.k | none => 0

/-- A sequencer's LOOP_RATE aperture that took this period forms its record. -/
def Dev.seqRate (s : Dev) (c k0 : Nat) (p : PSamp) : Dev :=
  match (s.seq c).aper with
  | some a => if a.mode = 1 && a.k ≠ k0 then s.ratePeriod c a p else s
  | none => s

/-- The apertures that run on after a trip and a new arming: the record of this period, and the one at the end (R296). -/
def Dev.seqOldEnd (s : Dev) (c : Nat) (ks : List Nat) (p : PSamp) : Dev :=
  let old := (s.res c).seqOld
  let s1 := (old.zip ks).foldl (fun s ak =>
    let a := ak.1
    if a.mode = 1 then (if a.k ≠ ak.2 then s.ratePeriod c a p else s)
    else if a.over_ then s.formMeas c a a.te else s) s
  s1.modRes c (fun r => { r with seqOld := r.seqOld.filter (fun a => !a.over_) })

/-- A RES_MEASURE is over or cancelled: its consumer leaves its route (R460). -/
def Dev.measGone (s : Dev) (c : Nat) : Dev := (s.detach (128 + 8 * c + 7)).modRes c (fun r => { r with meas := none })

/-- The measurement of an event takes effect with the first period of its aperture: the consumer leaves its route (R460). -/
def Dev.measBegun (s : Dev) (c t0 : Nat) : Dev :=
  match (s.res c).meas with
  | some m => (match m.start with | some t => if t ≤ t0 then s.detach (128 + 8 * c + 7) else s | none => s)
  | none => s

/-- A RES_MEASURE that took this period: its LOOP_RATE record, or its record at the end (R278). -/
def Dev.measEnd (s : Dev) (c k0 : Nat) (p : PSamp) : Dev :=
  match (s.res c).meas with
  | none => s
  | some m =>
    let s1 := if m.aper.mode = 1 && m.aper.k ≠ k0 then s.ratePeriod c m.aper p
      else if m.aper.mode ≠ 1 && m.start.isSome && m.aper.over_ then s.formMeas c m.aper m.aper.te else s
    if m.start.isSome && m.aper.over_ then s1.measGone c else s1

/-- A measurement of the channel's traceable-calibration session ends with its aperture (R406). -/
def Dev.traceEnd (s : Dev) (c : Nat) : Dev :=
  match s.cal.trace with
  | none => s
  | some t =>
    match t.run with
    | none => s
    | some r =>
      if t.ch ≠ c || !r.aper.over_ then s
      else
        let set := fun (p : Tbl (Option TracePt)) => s.modCal (fun k => { k with trace := some { t with run := none, pts := p } })
        match aperMean (if t.cur then r.aper.is else r.aper.vs) with
        | none => (set t.pts).finish r.cmd stIntegrity []
        | some v =>
          let m := f64Of ⟨v, 1073741824⟩
          let ovr := r.aper.flags.testBit 3
          (set (tblSet (fun _ => none) t.pts r.k (some { ref := r.ref, meas := m, ovr := ovr }))).finish r.cmd stOk
            (w64 m ++ w16 (bitAt ovr 0 + bitAt (r.aper.flags.testBit 4) 1) ++ zeros 6)

/-- The result former's part of an upstream frame, or of a missing one (R246, R317, R343). -/
def Dev.resFrame (s : Dev) (c : Nat) (p : PSamp) : Dev :=
  let k := aperK (s.seq c).aper
  let m := aperK ((s.res c).meas.map (·.aper))
  let o := (s.res c).seqOld.map (·.k)
  (((((s.resTake c p).measBegun c p.t0).seqRate c k p).seqOldEnd c o p).measEnd c m p).traceEnd c

/-- HELD on every record and aperture of a channel that contains the sample instant (R34). -/
def Dev.markHeld (s : Dev) (c t0 : Nat) : Dev :=
  let mark := fun (r : Rec) =>
    if r.at_ = t0 && (r.type_ = 1 || r.type_ = 2 || r.type_ = 4) then { r with flags := r.flags ||| 64 } else r
  let ap := fun (a : Aper) => if t0 > a.ta && t0 ≤ a.te then { a with flags := a.flags ||| 64 } else a
  let s1 := (s.markRecs c mark).modRes c (fun r =>
    { r with box := r.box.map ap,
             boxOld := r.boxOld.map ap, seqOld := r.seqOld.map ap,
             meas := r.meas.map (fun m => if m.start.isSome then { m with aper := ap m.aper } else m) })
  s1.modSeq c (fun q => { q with aper := q.aper.map ap })

/-- STALE on the last pair an ended capture of a channel holds, wherever the pair waits (R318). -/
def Dev.staleLast (s : Dev) (c : Nat) : Dev :=
  let r := s.res c
  let from_ := if r.capNext ≥ 1 then r.trigAt else r.trigAt - s.periodPs
  s.markRecs c (fun x =>
    if x.type_ = 4 && x.at_ ≥ from_ && x.idx = ofSigned 32 (r.capNext - 1) then { x with flags := x.flags ||| 1 } else x)

/-- Apertures of a channel end early: a calibration starts, or the converters stop (R252, R318).
A TRIGGERED capture becomes IDLE in both modes. DESIGN CHOICE, log entry 163. -/
def Dev.apersEnd (s : Dev) (c : Nat) : Dev :=
  let te := s.now
  -- an aperture in progress: it has started, and has a period left; of a LOOP_RATE one, the period in progress
  let cut := fun (s : Dev) (a : Aper) =>
    if a.ta > te || a.k ≥ a.n then s
    else if a.mode = 1 then s.formMeas c { a with vs := [], is := [], dv := [], di := [], flags := 0, stale := true } te
    else s.formMeas c { a with stale := true } te
  let r := s.res c
  let q := s.seq c
  let meas := match r.meas with | some m => if m.start.isSome then [m.aper] else [] | none => []
  let s3 := (r.box.toList ++ r.boxOld ++ meas ++ q.aper.toList ++ r.seqOld).foldl cut s
  let s4 := (if r.cap == .triggered then s3.staleLast c else s3).modRes c (fun r =>
    { r with box := none, boxOld := [], seqOld := [], meas := r.meas.filter (fun m => m.start.isNone),
             cap := if r.cap == .triggered then .idle else r.cap })
  let s5 := if meas.isEmpty then s4 else s4.detach (128 + 8 * c + 7)
  s5.modSeq c (fun q => { q with aper := q.aper.map (fun a => { a with mode := 1, k := a.n, te := te, stale := true }) })

end Sys2Proof.Machine
end

