-- ==== Sys2Proof/Machine/CalCore.lean ====
section
/-! DEFINITION. Runs of self-calibration: their reply, their end, and the end of a slot (R395 to R402). -/

namespace Sys2Proof.Machine

/-- The run that has reached its first part. -/
def Dev.activeRun (s : Dev) : Option CalRun := s.cal.runs.find? (fun r => r.part != .waiting)
/-- The active run changed by `g`. -/
def Dev.modRun (s : Dev) (g : CalRun → CalRun) : Dev :=
  s.modCal (fun k => { k with runs := updFirst (fun r => r.part != .waiting) g k.runs })

/-- The reply table of CAL_SELF. -/
def calReply (s : Dev) (r : CalRun) : List Byte :=
  w64 r.passed ++ w64 r.failed ++ w64 r.skipped ++ w8 r.survey ++ w8 (bit r.refFail) ++ zeros 2
    ++ w32 ((s.now - r.startAt) / 1000000)

/-- The status of a run that ends. -/
def CalRun.status (r : CalRun) : Nat :=
  if r.integrity then stIntegrity else if r.refFail || r.failed != 0 || r.survey == 2 then stCalPlaus else stOk

/-- The resources that a command holds while it runs. -/
def Dev.setNames (s : Dev) (id : Option Nat) (names : List Res) : Dev :=
  match id with
  | some i => s.modTg (fun t => { t with running := updFirst (fun r => r.job.id == i) (fun r => { r with names := names }) t.running })
  | none => s

/-- The active run is over, with its final status. -/
def Dev.runOver (s : Dev) : Dev :=
  match s.activeRun with
  | none => s
  | some r => (s.modCal (fun k => { k with runs := k.runs.erase r })).finish? r.cmd r.status (calReply s r)

/-- A channel leaves its slot: a BOX stream resumes at the first boundary after it (R318). -/
def Dev.slotLeave (s : Dev) (c : Nat) : Dev :=
  s.modRes c (fun r => if r.active = 2 then { r with box := some (s.newAper 2 r.aperture (s.boundaryAt (s.now + 1)) 0xFFFFFFFF) } else r)

/-- Every channel under calibration fails and keeps its factors, and the run ends with ST_INTEGRITY (R399). -/
def Dev.slotAbort (s : Dev) : Dev :=
  if s.slotChans = 0 then s
  else
    let cs := bitsSet s.slotChans 64
    let s1 := s.modRun (fun r => { r with failed := r.failed ||| r.slotChans, slotChans := 0, integrity := true, part := .between })
    (s1.forAll cs Dev.slotLeave).runOver

end Sys2Proof.Machine
end

