-- ==== Sys2Proof/Machine/HelonRows.lean ====
section
/-! DEFINITION. Helon: converters, grants, force DACs and hold-then-safe at a sample instant, the downstream frame, Hem and
the side channel (R27, R28, R229 to R264, R337 to R371). -/

namespace Sys2Proof.Machine

/-! ### Hold-then-safe (R364 to R370) -/

/-- Hold-then-safe is to start at an instant; a cause that arises while it runs has no effect (R364). -/
def Dev.holdStart (s : Dev) (t : Nat) : Dev :=
  if s.seam.hold == .none_ then
    (s.modSeam (fun m => { m with hold := .hold, holdAt := t, rampCnt := 0 })).slotAbort
  else s

/-- Hold-then-safe applies to the sample instant `t`. -/
def Seam.holding (m : Seam) (t : Nat) : Bool := m.hold != .none_ && decide (t ≥ m.holdAt)

/-- Seam loss, heartbeat loss and conversion-clock loss are logged with their cause in the order of R364. -/
def Dev.seamLossLog (s : Dev) (cause : Nat) : Dev := s.logIt kSeamLoss cause

/-- A revoked channel of Helon: the grant goes, STG_OFF_N asserts, and no new grant before the request has gone. -/
def Helon.revoke (h : Helon) : Helon := { h with grant := false, off := true, safeBit := true, hold := false }

/-- The safe code latches (R263). -/
def Helon.safe (h : Helon) : Helon := { h with cOut := safeCode, limAct := false, dac := dacCode h.span safeCode }

/-! ### Trips (R355 to R363) -/

/-- The number of a trip cause (R356). -/
def TripCause.num (t : TripCause) : Nat :=
  match t with | .vHi => 0 | .vLo => 1 | .iHi => 2 | .iLo => 3 | .gang => 4 | .selftest => 5 | .hemClk => 6

/-- The trip cause of a comparator. -/
def compCause (c : Comparator) : TripCause := match c with | .vHi => .vHi | .vLo => .vLo | .iHi => .iHi | .iLo => .iLo

/-- A channel trips, and its cause goes up on the side channel (R355, R356); a trip that is held stays as it is. -/
def Dev.trip1 (s : Dev) (c : Nat) (cause : TripCause) : Dev :=
  let s1 := s.modHelon c (fun h => { h.revoke with trip := some (h.trip.getD cause) })
  if (s.helon c).trip.isSome then s1 else s1.sidePacket true (some c) (.tripCause cause.num)

/-- A trip, with cause GANG for the other members of the gang in the map that Helon holds (R25, R358). -/
def Dev.trip (s : Dev) (c : Nat) (cause : TripCause) : Dev :=
  (s.forAll ((bitsSet (s.helon c).gang 64).filter (· != c)) (fun s m => s.trip1 m .gang)).trip1 c cause

/-- Helon clears a trip only under R362: 10 µs without a violation of any length, two passed self-tests of each comparator, Hem's clock
in its limits, no hold-then-safe. -/
def Dev.mayClear (s : Dev) (c : Nat) : Bool :=
  let h := s.helon c
  (match h.violation with | some t => decide (s.now ≥ t + 10000000) | none => true)
    && h.passes.all (fun n => decide (n ≥ 2)) && s.seam.hemClkOk && !s.seam.holding s.now

/-- The ACK bits of a frame (R340, R361, R363). -/
def Dev.ackBits (s : Dev) (c ack : Nat) (req : Bool) : Dev :=
  if ack = 0 then s
  else if ack ≠ 5 then s.logIt (kAckIgnored c) ack
  else if req then s.logIt (kAckIgnored c) (ack + 8)
  else if (s.helon c).trip.isSome && s.mayClear c then s.modHelon c (fun h => { h with trip := none })
  else s

/-! ### A sample instant -/

/-- The converter part of an instant: the faults found go up on the side channel (R241 to R244, R345). -/
def Dev.pairStep (s : Dev) (c : Nat) (cur : Bool) (ticks : List RawPair) : Dev :=
  let h := s.helon c
  let p := if cur then h.i else h.v
  let r := pairInstant p ticks
  let newA := r.2.1
  let newB := r.2.2.1
  let cons := r.2.2.2
  let s1 := s.modHelon c (fun h => if cur then { h with i := r.1 } else { h with v := r.1 })
  let up := fun (s : Dev) (on : Bool) (m : SideMsg) => if on then s.sidePacket true (some c) m else s
  let s2 := up (up s1 newA (.coreFault cur false)) newB (.coreFault cur true)
  let s3 := up s2 (newA || newB) (.degraded cur)
  let both := (newA || newB) && r.1.faultyA && r.1.faultyB
  if both then up s3 true (.pairFault cur 3) else up s3 cons (.pairFault cur 2)

/-- Helon switches a quantity to the staged range: RG, RO, the other threshold set, the samples of this instant in the new full
scale, and c_out with a voltage range (R236, R264, R340, R357). A request that finds no staged set is ignored. -/
def Helon.takeStaged (h : Helon) (cur : Bool) : Helon :=
  match h.staged with
  | none => h
  | some x =>
    if x.cur != cur then h
    else
      { h.modPair cur (fun p => p.takeSet x true) with
        staged := none, rset := !h.rset, rpath := if cur then 0 else h.rpath, thr := h.thrOther, thrOther := h.thr,
        cOut := if cur then h.cOut else rescaleCout h.span x.ks h.cOut }

/-- The range-path request of a good frame (R340). -/
def Helon.takePath (h : Helon) : Helon :=
  let h1 := if h.rpathReq = 3 then h.takeStaged false else if h.rpathReq = 2 then h.takeStaged true else h
  { h1 with rpath := if h.rpathReq = 1 then 1 else h1.rpath, rpathReq := 0, dac := dacCode h1.span h1.cOut }

/-- Whether Helon grants a channel at an instant (R349, R369). -/
def Dev.mayGrant (s : Dev) (c : Nat) : Bool :=
  let h := s.helon c
  h.reqBit && s.chanOk c && h.trip.isNone && !h.safeBit && !s.seam.intlk && s.seam.hold == .none_ && s.seam.upHelon
    && s.seam.stgConfigured && !s.seam.hbLost && s.seam.hbRunning

/-- The limiter at an instant, for a granted channel whose frame was good (R258, R259). -/
def Dev.slewInstant (s : Dev) (c : Nat) : Dev :=
  let h := s.helon c
  let r := slewStep h.span h.step h.divr h.cReq h.cOut (if h.slewStart then 0 else h.cnt)
  -- a channel whose loops have stopped takes the safe code at once (R263)
  let r1 := if (s.chan c).state = 0 then (safeCode, false, r.2.2) else r
  s.modHelon c (fun h => { h with cOut := r1.1, limAct := r1.2.1, cnt := r1.2.2, slewStart := false, dac := dacCode h.span r1.1 })

/-- The two copies of a limiter differ at an instant: the safe code latches and the grant goes (R598). -/
def Dev.limiterFault (s : Dev) (c : Nat) : Dev :=
  (s.modHelon c (fun h => h.revoke.safe)).sidePacket true (some c) .limiter

/-- The control bits, the grant and the DAC of a channel at an instant on which hold-then-safe does not hold it. A violation at the
instant at which a grant or a withdrawal takes effect trips the channel (R370). -/
def Dev.chanAct (s : Dev) (frame : Option DownFrame) (viol : Option TripCause) (c : Nat) : Dev :=
  let was := (s.helon c).grant
  let s1 := match frame with
    | none => s
    | some f =>
      let e := f.chans.getD c (0, 0, false)
      (s.modHelon c (fun h =>
        { h with cReq := e.1, reqBit := e.2.2, safeBit := h.safeBit && e.2.2, slewStart := e.2.1.testBit 2,
                 rpathReq := e.2.1 / 8 % 4 })).ackBits c (e.2.1 / 32 % 8) e.2.2
  let turns := s1.mayGrant c != was
  let s2 := match viol with | some v => if turns then s1.trip c v else s1 | none => s1
  let g := s2.mayGrant c
  let s3 := s2.modHelon c (fun h => { h with grant := g, off := !g })
  let s4 := if !g then s3.modHelon c Helon.safe
    else if frame.isNone then s3.modHelon c (fun h => { h with cnt := (h.cnt + 1) % h.divr })
    else s3.slewInstant c
  if frame.isSome then s4.modHelon c Helon.takePath else s4

/-- One channel at a sample instant: converters, control bits of the good frame, grant, DAC, and the comparison of the limiter's
copies (R258 to R263, R339, R349 to R351, R365, R368, R598). -/
def Dev.chanInstant (s : Dev) (frame : Option DownFrame) (samples : List ChanSamples) (marks : ChanMarks) (c : Nat) : Dev :=
  let t := s.now
  let smp := samples.find? (fun x => x.ch.val == c)
  let s1 := if s.slotChans.testBit c then s
    else (s.pairStep c false (match smp with | some x => x.v | none => [])).pairStep c true (match smp with | some x => x.i | none => [])
  let held := s1.seam.holding t && (s1.helon c).hold
  let viol := (marks.violating.find? (fun v => v.ch.val == c && v.ago.toNat == 0)).map (fun v => compCause v.cmp)
  let s2 := if held then s1 else s1.chanAct (if s1.seam.holding t then none else frame) viol c
  if marks.limiter.any (fun x => x.val == c) then s2.limiterFault c else s2

/-- The ramp of hold-then-safe at a sample instant, in the slew limiter (R263, R365): channels that reach the safe code are
revoked. -/
def Dev.rampStep (s : Dev) : Dev :=
  let m := s.seam
  let move := m.rampCnt % m.safeDiv = 0
  let s1 := s.forAll (List.range s.nChan) (fun s c =>
    let h := s.helon c
    if !h.hold then s
    else
      let d := safeCode - h.cOut
      let v := if !move then h.cOut
        else if m.safeStep ≠ 0 && d > m.safeStep then h.cOut + m.safeStep
        else if m.safeStep ≠ 0 && d < -(m.safeStep : Int) then h.cOut - m.safeStep else safeCode
      let h1 := { h with cOut := v, dac := dacCode h.span v, limAct := v != safeCode }
      s.modHelon c (fun _ => if h1.cOut = safeCode then h1.revoke else h1))
  s1.modSeam (fun m => { m with rampCnt := m.rampCnt + 1 })

/-- Hold-then-safe is over once no channel is held or ramping (R368, R369). -/
def Dev.holdCheck (s : Dev) : Dev :=
  if s.seam.holding s.now && (List.range s.nChan).all (fun c => !(s.helon c).hold) then
    s.modSeam (fun m => { m with hold := .none_, substitute := false, clkGated := false })
  else s

/-- At the first instant of hold-then-safe, the one after its cause was declared (`last`: the instant before it), every granted
channel is held (R364, R365). A realignment may have moved it. -/
def Dev.holdFreeze (s : Dev) (last : Nat) : Dev :=
  if s.seam.hold == .hold && decide (s.seam.holdAt > last) then
    (s.modSeam (fun m => { m with holdAt := s.now })).forAll (List.range s.nChan)
      (fun s c => s.modHelon c (fun h => { h with hold := h.grant }))
  else s

/-- The FSEQ of the next sample instant: the count since training, which restarts once lane lock has been lost (R338). No
row ends the training: until the Seam is up again the count stays 0 while no good frame has passed (log entry 136). -/
def Seam.nextSeq (m : Seam) : Nat := if !m.locked && m.goodUp == 0 then 0 else (m.fseq + 1) % 65536

/-- Frames pass before the Seam is up again after a loss of lane lock: every one counts as missing (R341). -/
def Seam.lockLost (m : Seam) : Bool := !m.locked && m.lossAt.isSome

/-- A failure of Hem's self-test stands on the channel (R338, R359). -/
def Helon.testFails (h : Helon) : Bool := h.stFail != 0 || h.trip == some .selftest

/-- The upstream frame of this instant, with all 64 channel payloads (R42, R338, R339). -/
def Dev.makeUpFrame (s : Dev) (good : Bool) : Dev :=
  s.modSeam (fun m =>
    let n := m.nextSeq
    let u : UpFrame :=
      { fseq := n, t0 := s.now, dnBad := !good, holdAny := m.holding s.now, intlk := m.intlk,
        selftestFail := (List.range s.nChan).any (fun c => (s.helon c).testFails), hbEcho := m.hbHelon, scAck := m.scAckDn,
        chans := (List.range 64).map (fun c => upChan (s.helon c)) }
    { m with fseq := n, upFrame := some u })

/-- Whether the Seam is out of reset (R545, R560). -/
def Dev.seamOn (s : Dev) : Bool :=
  match s.sys.phase with | .held => false | .loading => false | .releasing n => decide (n ≥ 3) | _ => true

/-- Whether Helon's supplies are up and its safety domain is out of reset, which the DENRIX and SEAM scopes do not reset
(R545, R560). -/
def Dev.helonOn (s : Dev) : Bool :=
  s.seam.powered && (s.sys.scope == 2 || s.sys.scope == 4
    || (match s.sys.phase with | .held => false | .loading => false | .releasing n => decide (n ≥ 2) | _ => true))

/-- In DEEP, before a wake, Helon's converters and the frames rest (R571). -/
def Dev.asleep (s : Dev) : Bool := s.sys.power == 3 && s.sys.waking.isNone

/-- The comparators that were in violation since the last instant, however shortly: the last time of each channel, which R362 counts
from. -/
def Dev.violations (s : Dev) (l : List Violation) : Dev :=
  l.foldl (fun s v => s.modHelon v.ch.val (fun h =>
    let t := s.now - v.ago.toNat
    { h with violation := some (match h.violation with | some x => max x t | none => t) })) s

/-- The writes that name the FSEQ of this instant are committed (R346). -/
def Dev.commitTimed (s : Dev) : Dev :=
  let due := s.seam.timed.filter (fun x => x.1 == s.seam.nextSeq)
  (due.foldl (fun s x => s.helonTake x.2.1 x.2.2) s).modSeam (fun m => { m with timed := m.timed.filter (fun x => x.1 != m.nextSeq) })

/-- SAMPLE_INSTANT (R27). In DEEP only the grid goes on (R571). -/
def Dev.sampleInstant (s : Dev) (samples : List ChanSamples) (marks : ChanMarks) : Dev :=
  let t := s.nextSample
  let move := fun (a : Nat) => gridAfter a (t + s.periodPs) s.periodPs
  let s1 := (s.advance t).modTb (fun b =>
    { b with lastSample := t, stretched := b.alignNext.map move, alignNext := none,
             edgeWas := if b.alignNext.isSome then b.edgeBase else b.edgeWas, edgeBase := (b.alignNext.map move).getD b.edgeBase })
  if s1.asleep || !s1.helonOn then s1
  else
    let frame := s1.seam.atHelon
    let s2 := ((s1.violations marks.violating).modSeam (fun m => { m with atHelon := none })).holdFreeze s.tb.lastSample
    let s3 := (s2.forAll (List.range s2.nChan) (fun s c => s.chanInstant frame samples marks c)).commitTimed
    let s4 := if s3.seam.hold == .ramp && t > s3.seam.rampAt then s3.rampStep else s3
    let s5 := s4.holdCheck
    (s5.makeUpFrame frame.isSome).forAll (List.range s5.nChan) (fun s c => s.rcTick c)

/-- SAMPLE_INSTANT. -/
def execSampleInstant (samples : List ChanSamples) (marks : ChanMarks) (s : State) : Out :=
  .next (s.on (fun d => d.observed (fun d => d.sampleInstant samples marks)))

/-! ### The downstream frame at Helon -/

/-- A SAFE bit or safe packet: the grant goes at once (R340, R590). -/
def Dev.safeAt (s : Dev) (c : Nat) : Dev :=
  if (s.helon c).grant then (s.modHelon c Helon.revoke).logIt (kRevoke c) 2 else s.modHelon c (fun h => { h with safeBit := h.reqBit })

/-- The Seam ceases to be up (R337); R552 counts from the first declaration. -/
def Dev.seamDown (s : Dev) : Dev :=
  s.modSeam (fun m => { m with up := false, upHelon := false, goodUp := 0, goodDn := 0, lossAt := some (m.lossAt.getD s.now) })

/-- A downstream frame that is bad or missing at its instant: no code, no control bit; the second in a row is Seam loss
(R342, R344). `counts`: the frame passed its checks while lane lock was lost, and counts towards the sixteen of R337. -/
def Dev.downBad (s : Dev) (counts : Bool) : Dev :=
  let s1 := (s.advance (s.nextSample - 10000)).modSeam (fun m =>
    { m with dnFrame := none, goodDn := if counts then min (m.goodDn + 1) 16 else 0, badDn := m.badDn + 1 })
  let s2 := s1.logIt kSeamFrame (s1.seam.nextSeq + 65536)
  if s2.seam.badDn = 2 then ((s2.seamDown).seamLossLog 0).holdStart s2.nextSample else s2

/-- Helon acts on a packet received intact: a safe packet at once; a write at once, or staged for the instant it names; one
that names an instant already passed is refused (R345, R346, R590). -/
def Dev.downAct (s : Dev) (c : Nat) (p : SidePacket) : Dev :=
  match p.msg, p.named with
  | .safe, _ => s.safeAt c
  | m, none => s.helonTake c m
  | m, some f =>
    if (s.seam.nextSeq + 65535 - f) % 65536 < 32768 then s
    else s.modSeam (fun x => { x with timed := x.timed ++ [(f, c, m)] })

/-- Denrix acts on a report received intact (R241 to R244, R345, R355, R359, R598). -/
def Dev.upAct (s : Dev) (c : Nat) (m : SideMsg) : Dev :=
  match m with
  | .tripCause cause => s.logIt (kHemTrip c) cause
  | .coreFault cur b => s.logIt (kCoreFault c) (bit cur + 2 * bit b)
  | .degraded _ => s.setDegraded c
  | .pairFault _ cause => (s.modCal (fun k => { k with required := k.required ||| 2 ^ c })).chanResponse c cause
  | .limiter => s.logIt (kRevoke c) 1
  | .selftest k spare => s.logIt (kSelftest c spare) (k + 4 * bit spare)
  | _ => s

/-- The receiver acts on a packet. -/
def Dev.sideAct (s : Dev) (p : SidePacket) : Dev :=
  match p.chan with
  | some c => if p.up then s.upAct c p.msg else s.downAct c p
  | none => s

/-- A packet is received: it is acknowledged and, the first time, acted on (R346). -/
def Dev.sideReceive (s : Dev) (p : SidePacket) : Dev :=
  let s1 := s.modSeam (fun m =>
    { m with scAckUp := if p.up then p.seq else m.scAckUp, scAckDn := if p.up then m.scAckDn else p.seq,
             packets := updFirst (fun x => x.up == p.up && x.seq == p.seq)
               (fun x => { x with flying := false, received := true }) m.packets })
  if p.received then s1 else s1.sideAct p

/-- The sender drops the packets of a direction that SC_ACK acknowledges: that packet, and the earlier ones received with it
(R346; log entry 134). -/
def Seam.acked (m : Seam) (up : Bool) (ack : Nat) : Seam :=
  { m with packets := m.packets.filter (fun p =>
      !(p.up == up && p.received && !p.flying && decide ((ack + 65536 - p.seq) % 65536 < 32768))) }

/-- The packets of a direction that ride after a frame which passes, but safe packets, which have a row of their own, are
received with it (R345; log entry 134). -/
def Dev.sideWith (s : Dev) (up : Bool) : Dev :=
  (s.seam.packets.filter (fun p => p.up == up && p.flying && p.msg != .safe)).foldl (fun s p => s.sideReceive p) s

/-- DOWNSTREAM_FRAME_AT_HELON (R28, R39, R345, R347, R364). A frame with another FSEQ than the instant's is bad, and one that
passes before the Seam is up after a loss of lane lock counts as missing (R341). -/
def Dev.frameAtHelon (s : Dev) : Dev :=
  match s.seam.dnFrame with
  | none => s
  | some f =>
    if !s.helonOn then s
    else if f.fseq ≠ s.seam.nextSeq then s.downBad false
    else if s.seam.lockLost then s.downBad true
    else
    let s1 := (s.advance (s.nextSample - 50000)).sideWith false
    let s2 := s1.modSeam (fun m =>
      { m.acked true f.scAck with
               dnFrame := none, atHelon := some f, goodDn := min (m.goodDn + 1) 16, badDn := 0,
               hbHelon := f.hb, hbChangedAt := if f.hb ≠ m.hbHelon then s1.now else m.hbChangedAt,
               hbLost := m.hbLost && f.hb == m.hbHelon })
    let s3 := if s2.seam.holding s2.now then s2
      else s2.forAll ((List.range s2.nChan).filter (fun c => (f.chans.getD c (0, 0, false)).2.1.testBit 1)) Dev.safeAt
    if f.enterHold && s3.seam.hold == .none_ then (s3.holdStart s3.nextSample).seamLossLog 3 else s3

/-- DOWNSTREAM_FRAME_AT_HELON. -/
def execDownstreamFrameAtHelon (s : State) : Out := .next (s.on (fun d => d.observed Dev.frameAtHelon))

/-- In DEEP, and from the wake until the Seam is up again, no loss of the Seam, the heartbeat or the conversion clock is detected
(R572). -/
def Dev.seamRests (s : Dev) : Bool := s.sys.power == 3 && !s.seam.upHelon && s.seam.lossAt.isNone

/-- DOWNSTREAM_FRAME_MISSING (R342, R344, R572). -/
def Dev.downMissing (s : Dev) : Dev :=
  if s.seam.atHelon.isSome || s.seamRests || !s.helonOn then s else s.downBad false

/-- DOWNSTREAM_FRAME_MISSING. -/
def execDownstreamFrameMissing (s : State) : Out := .next (s.on (fun d => d.observed Dev.downMissing))

/-- SEAM_UP (R337): sixteen good frames have passed each way. -/
def execSeamUp (s : State) : Out :=
  .next (s.on (fun d => d.observed (fun d =>
    if d.seamOn && d.seam.goodUp ≥ 16 && d.seam.goodDn ≥ 16 then
      d.modSeam (fun m => { m with up := true, upHelon := true, locked := true, enterHold := false, lossAt := none, badUp := 0,
                                   badDn := 0 })
    else d)))

/-- SEAM_LANE_LOCK_LOSS (R337, R341): the Seam trains again, and FSEQ counts from there (R338). -/
def execSeamLaneLockLoss (s : State) : Out :=
  .next (s.on (fun d => d.observed (fun d =>
    (d.seamDown).modSeam (fun m => { m with locked := false, fseq := 0, upFrame := none, dnFrame := none, atHelon := none }))))

/-! ### The side channel (R345, R346) -/

/-- SIDE_CHANNEL_PACKET: a packet received intact is acknowledged and acted on or staged. -/
def execSideChannelPacket (up : Bool) (seq : W16) (s : State) : Out :=
  .next (s.on (fun d => d.observed (fun d =>
    match d.seam.packets.find? (fun p => p.up == up && p.seq == seq.toNat) with
    | none => d
    | some p => if p.flying then d.sideReceive p else d)))

/-- SIDE_CHANNEL_RETRANSMIT: after 4 µs without an acknowledge; after 8 failed attempts the operation fails (R346, R399). -/
def execSideChannelRetransmit (up : Bool) (seq : W16) (s : State) : Out :=
  .next (s.on (fun d => d.observed (fun d =>
    match d.seam.packets.find? (fun p => p.up == up && p.seq == seq.toNat) with
    | none => d
    | some p =>
      let d1 := d.advance (p.sentAt + 4000000)
      if p.attempts < 8 then
        let again := fun (x : SidePacket) => { x with attempts := x.attempts + 1, sentAt := d1.now, flying := true }
        d1.modSeam (fun m => { m with packets := updFirst (fun x => x.up == up && x.seq == p.seq) again m.packets })
      else
        let d2 := ((d1.modSeam (fun m => { m with packets := m.packets.filter (fun x => !(x.up == up && x.seq == p.seq)) })).logIt
          kSideChannel p.seq).slotAbort
        match p.chan with
        | some c => if (d2.chan (d2.leader c)).rc.isSome then d2.rcFail (d2.leader c) stIntegrity else d2
        | none => d2)))

/-! ### The heartbeat (R347, R348) -/

/-- HEARTBEAT_INCREMENT. -/
def execHeartbeatIncrement (s : State) : Out :=
  .next (s.on (fun d => if d.seam.hbRunning then d.modSeam (fun m => { m with hb := (m.hb + 1) % 65536 }) else d))

/-- HEARTBEAT_LOSS. -/
def execHeartbeatLoss (s : State) : Out :=
  .next (s.on (fun d => d.observed (fun d =>
    if d.seamRests || !d.helonOn then d
    else
      let d1 := (d.advance (d.seam.hbChangedAt + 500000000)).modSeam (fun m => { m with hbLost := true })
      (d1.seamLossLog 1).holdStart d1.nextSample)))

/-! ### Hem -/

/-- The place of a comparator in a channel's lists. -/
def compIdx (c : Comparator) : Nat := match c with | .vHi => 0 | .vLo => 1 | .iHi => 2 | .iLo => 3

/-- HEM_TRIP (R355, R358). -/
def execHemTrip (ch : ChanId) (cmp : Comparator) (s : State) : Out :=
  .next (s.on (fun d => d.observed (fun d =>
    if !d.chanOk ch.val || !d.helonOn then d
    else (d.modHelon ch.val (fun h => { h with violation := some d.now })).trip ch.val (compCause cmp))))

/-- A completed self-test of a comparator: its passes in a row, and whether its last test failed. -/
def Helon.tested (h : Helon) (k : Nat) (pass : Bool) : Helon :=
  { h with passes := modAt h.passes k (fun n => if pass then min (n + 1) 2 else 0),
           stFail := h.stFail - bitAt (h.stFail.testBit k) k + bitAt (!pass) k }

/-- HEM_SELFTEST (R359): a failed comparator trips its channel; a failed spare suspends testing in its quadrant, so that no
test of the quadrant is completed after it. -/
def execHemSelftest (ch : ChanId) (cmp : Comparator) (spare : Bool) (pass : Bool) (s : State) : Out :=
  .next (s.on (fun d => d.observed (fun d =>
    let c := ch.val
    let k := compIdx cmp
    if d.seam.spareFail.testBit (c / 16) || !d.helonOn then d
    else if spare then
      if pass then d
      else (d.modSeam (fun m => { m with spareFail := m.spareFail ||| 2 ^ (c / 16) })).sidePacket true (some c) (.selftest k true)
    else
      let d1 := d.modHelon c (fun h => h.tested k pass)
      if pass then d1
      else (d1.trip c .selftest).sidePacket true (some c) (.selftest k false))))

/-- SELFTEST_OVERDUE (R359). -/
def execSelftestOverdue (quadrant : Fin 4) (s : State) : Out :=
  .next (s.on (fun d => d.observed (fun d =>
    if !d.helonOn then d else
    d.forAll (((List.range 16).map (16 * quadrant.val + ·)).filter d.chanOk) (fun d c => d.trip1 c .selftest))))

/-- HEM_CLK_FAULT (R360): the clock outside its limits trips every channel; a clock within them again lets trips clear
(R362). -/
def execHemClkFault (outside : Bool) (s : State) : Out :=
  .next (s.on (fun d => d.observed (fun d =>
    if !d.helonOn then d else
    let d1 := d.modSeam (fun m => { m with hemClkOk := !outside })
    if outside then d1.forAll (List.range d.nChan) (fun d c => d.trip1 c .hemClk) else d1)))

/-- CONV_CLK_LOSS (R360, R364, R367): Seam loss, with the substitute clock. -/
def execConvClkLoss (s : State) : Out :=
  .next (s.on (fun d => d.observed (fun d =>
    if d.seamRests || !d.helonOn then d
    else ((d.seamDown.modSeam (fun m => { m with substitute := true })).seamLossLog 2).holdStart d.nextSample)))

/-- INTLK_ASSERT (R354, R370). -/
def execIntlkAssert (s : State) : Out :=
  .next (s.on (fun d => d.observed (fun d =>
    (d.modSeam (fun m => { m with intlk := true })).forAll (List.range d.nChan) (fun d c =>
      if (d.helon c).grant then d.modHelon c Helon.revoke else d))))

/-- INTLK_NEGATE (R354). -/
def execIntlkNegate (s : State) : Out :=
  .next (s.on (fun d => d.observed (fun d => (d.modSeam (fun m => { m with intlk := false })).modFab
    (fun f => { f with held := f.held % 2 ^ 14 }))))

/-- HOLD_TIME_EXPIRY (R365 step 2): the ramp starts at the first sample instant at or after t_L + HOLD_TIME. -/
def execHoldTimeExpiry (s : State) : Out :=
  .next (s.on (fun d => d.observed (fun d =>
    if d.seam.hold != .hold then d
    else
      let t := d.instantAt (d.seam.holdAt + d.seam.holdTime * 10000000)
      let d1 := (d.advance t).modSeam (fun m => { m with hold := .ramp, rampAt := t, rampCnt := 0 })
      (d1.rampStep).holdCheck)))

/-- HOLD_RAMP_TIMEOUT (R365): the safe code latches at the next sample instant. -/
def execHoldRampTimeout (s : State) : Out :=
  .next (s.on (fun d => d.observed (fun d =>
    if d.seam.hold != .ramp then d
    else
      let d1 := d.advance (d.instantAt (d.seam.rampAt + 20000000000))
      (d1.forAll (List.range d1.nChan) (fun d c =>
        d.modHelon c (fun h => if h.hold then h.revoke.safe else h))).holdCheck)))

end Sys2Proof.Machine
end

