-- ==== Sys2Proof/Machine/Frames.lean ====
section
/-! DEFINITION. Denrix's part of a loop period: the upstream frame, the engines' computation, and the downstream launch
(R32 to R36, R158 to R181, R193 to R205, R226, R260 to R262, R343, R352). -/

namespace Sys2Proof.Machine

/-! ### The boundary -/

/-- What happens to a leader at a boundary before the frame's samples are used: structure changes, the generator, source
values and transitions that are due (R132, R198, R202, R204). -/
def Dev.boundaryPart (s : Dev) (t0 c : Nat) : Dev :=
  let s0 := s.modChan c (fun x => (x.structStep s.svy.rails t0).genStep t0)
  let s1 := s0.forAll (s0.team c) (fun s m => s.modChan m (fun x => x.railStep t0))
  (s1.applySources c t0).transBoundary c t0

/-! ### Path reports of a range change (R220) -/

/-- A path is not as requested: the request is repeated once, then the change ends with ST_INTEGRITY. -/
def Dev.pathRepeat (s : Dev) (c req : Nat) : Dev :=
  match (s.chan c).rc with
  | none => s
  | some rc =>
    if rc.repeats = 0 then s.modChan c (fun x => { x with rc := some { rc with repeats := 1 }, rpathReq := req })
    else s.rcFail c stIntegrity

/-- The reported path and set of a leader's range change (R216 step 4, R220). -/
def Dev.pathReport (s : Dev) (c : Nat) : Dev :=
  match (s.chan c).rc with
  | none => s
  | some rc =>
    let all := fun (p : Nat → Bool) => (s.team c).all (fun m => p (s.chan m).status)
    if rc.phase == .made && rc.latched && !rc.counting then
      if all (fun st => st / 16 % 4 == 1) then
        s.modChan c (fun x => { x with rc := some { rc with counting := true, left := rc.m, repeats := 0 }, rpathReq := 0 })
      else s.pathRepeat c 1
    else if rc.swapped && !rc.pathOk then
      if all (fun st => st.testBit 6 != rc.rset) then
        (s.modChan c (fun x => { x with rc := some { rc with repeats := 0, pathOk := true }, rpathReq := 0 })).rcConfirmed c
      else s.pathRepeat c (if rc.cur then 2 else 3)
    else s

/-- A channel's payload where Helon still reports the old path after the swap (R220 step 3). -/
def Dev.oldPath (s : Dev) (c : Nat) (u : UpChan) : UpChan :=
  let l := s.leader c
  match (s.chan l).rc with
  | none => u
  | some rc =>
    if !rc.swapped || u.status.testBit 6 != rc.rset then u else u.scale rc.cur (s.fsRatio l rc.cur rc.old rc.new)

/-! ### Grants and trips (R352, R355) -/

/-- A trip newly reported: TRIPPED, IRQ_CAUSE.CHAN, the TRIP source (R355 step 4); a transition in its OFF step ends with
ST_AUTHORITY (R141). The cause is logged when its packet arrives. -/
def Dev.tripSeen (s : Dev) (c : Nat) : Dev :=
  let s1 := ((s.modChan c (fun x => { x with tripped := true })).irq (s.chanHolder c) irqChan).pulse (448 + 4 * c + 1)
  let l := s1.leader c
  match (s1.chan l).trans with
  | some t => if t.step == .off then s1.revoked l stAuthority else s1
  | none => s1

/-- The frame's grant and status of a channel are stored; a trip that was not reported before is seen. -/
def Dev.storeStatus (s : Dev) (c : Nat) (u : UpChan) : Dev :=
  let was := (s.chan c).tripped
  let s1 := s.modChan c (fun x => { x with status := u.status, tripped := u.status.testBit 3, ovrV := u.status.testBit 0,
                                           ovrI := u.status.testBit 1 })
  if u.status.testBit 3 && !was then s1.tripSeen c else s1

/-- A leader whose team has lost a grant it held goes to OFF (R352, R155); SAFE ends once the revocation is seen (R590). -/
def Dev.grantStep (s : Dev) (g : Nat → Bool) (c : Nat) : Dev :=
  let t := s.team c
  let lost := t.any (fun m => (s.chan m).grantSeen && !g m)
  let own := t.any (fun m => (s.chan m).safe)
  let s1 := s.forAll t (fun s m => s.modChan m (fun x => { x with grantSeen := g m, safe := x.safe && g m }))
  -- in the OFF step the grant goes because Denrix withdrew the request
  let withdrew := (match (s1.chan c).trans with | some x => x.step == .off | none => false) && !own
    && t.all (fun m => !(s1.chan m).req)
  if lost && !withdrew && ((s1.chan c).state ≠ 0 || (match (s1.chan c).trans with | some x => x.step != .request | none => false)) then
    let s2 := s1.forAll t (fun s m =>
      if (s.chan m).grantSeen then s.modChan m (fun x => { x with safe := true }) else s)
    s2.revoked c (if own then stIntegrity else stAuthority)
  else s1

/-! ### Check codes (R238, R311, R597) -/

/-- The difference of a faulty code: a free value that is not 0 (log entry 107). -/
def Dev.freeDiff (s : Dev) : Nat := 1 + s.freeVal % 63

/-- The codes that fail on the way are changed by their differences. -/
def Dev.codeFaults (s : Dev) (us : List UpChan) (l : List CodeFault) : Dev × List UpChan :=
  l.foldl (fun p f =>
    let k := bit f.cur + 2 * bit f.meas
    (p.1.freeNext, modAt p.2 f.ch.val (fun u => { u with codes := modAt u.codes k (fun v => Nat.xor v p.1.freeDiff) }))) (s, us)

/-- The differences of a channel's measurement samples are kept for the result former: V in bits [5:0], I in [11:6] (R311). -/
def Dev.keepDiffs (s : Dev) (c : Nat) (u : UpChan) : Dev :=
  let d := u.diff 2 + 64 * u.diff 3
  if (s.chan c).codeErr = d then s else s.modChan c (fun x => { x with codeErr := d })

/-- The sample that an engine of a role takes as its input, by its place in the payload: INNER, OUTER and CLAMP a loop sample,
TRIM a measurement sample (R193, R597). -/
def inputOf (fi : Bool) (role : Nat) : Nat :=
  match role with
  | 0 => 1
  | 1 => bit fi
  | 2 => bit !fi
  | _ => 2 + bit fi

/-- A sample that an engine takes fails its check code (R597): a leader's OUTER, CLAMP and TRIM take the current samples of
every member (R226). -/
def Dev.codeHits (s : Dev) (us : List UpChan) (e : Nat) : Bool :=
  let c := e / 4
  let k := inputOf (s.chan c).fi (e % 4)
  (if k % 2 = 1 && e % 4 ≠ 0 then s.team c else [c]).any (fun m => (us.getD m upChanZero).diff k != 0)

/-! ### The engines' period -/

/-- Mean of a team's values, rounded half to even (R226). -/
def Dev.teamMean (s : Dev) (c : Nat) (f : Chan → Int) : Int :=
  let t := s.team c
  rhe (t.foldl (fun a m => a + f (s.chan m)) 0) t.length

/-- The loop sample of a quantity as a leader's OUTER and CLAMP see it, widened. -/
def Dev.loopOf (s : Dev) (c : Nat) (cur : Bool) : Int :=
  widenLoop (if cur then s.teamMean c (·.loopI) else (s.chan c).loopV)

/-- A switch-over's wait: OUTER, CLAMP and TRIM do not compute (R218). -/
def Chan.switching (x : Chan) : Bool :=
  match x.rc with | some r => r.phase == .switched && r.latched && decide (r.left > 0) | none => false

/-- An engine computes its period: B and A by its role, the result kept until the launch; residue and window causes are
noted (R178, R240). -/
def Dev.compute (s : Dev) (e : Nat) (a b : Int) (res late : Option Nat) : Dev :=
  let x := s.chan (e / 4)
  s.modEng e (fun g =>
    { g with next := some (enginePeriod (parseImg g.image) g.st g.et a b x.d1 x.d2 x.rail), resFail := res, lateFail := late,
             periods := (g.periods + 1) % 2 ^ 32 })

/-- The residue cause of an engine: one the period met, or a failing input code (step 7 of R604). With INTEG.RESIDUE 0 the
residue checks do not act (R178, R594). Both checks are switched off. DESIGN CHOICE, log entry 157. -/
def Dev.resCause (s : Dev) (residue : List EngFault) (us : List UpChan) (e : Nat) : Option Nat :=
  if !s.sys.opt.integ.testBit 1 then none
  else
    match residue.find? (fun f => f.eng.val == e) with
    | some f => some f.detail.toNat
    | none => if s.codeHits us e then some 7 else none

/-- A counter of periods since K0: whether this period computes. -/
def k0Hit (k n : Nat) : Bool := k % n == 0

/-- The compliance limit that CLAMP regulates (R144, R199). -/
def Dev.clampA (s : Dev) (c : Nat) : Int :=
  let x := s.chan c
  if s.clampNeg c then -x.compUse.2 else x.compUse.1

/-- OUTER, CLAMP and TRIM of a leader in ZERO or ON (R193, R196, R197, R199). The check code of every sample that TRIM averages is
checked as it is taken: one that fails is a residue failure of the period that uses it (R597). -/
def Dev.outerPeriod (s : Dev) (c t0 : Nat) (ok : Bool) (res : Nat → Option Nat) : Dev :=
  let x := s.chan c
  if x.state < 2 || x.switching then s
  else
    let outer := k0Hit x.k0Outer x.n
    let trim := k0Hit x.k0Trim x.trimDiv
    let mOk := if x.fi then (s.team c).all (fun m => (s.chan m).measIok) else x.measVok
    let use := ok && mOk && !(x.swapped false t0 || x.swapped true t0)
    let m := widenMeas (if x.fi then s.teamMean c (·.measI) else x.measV)
    let sum := if use then x.trimSum + m else x.trimSum
    let cnt := if use then x.trimCnt + 1 else x.trimCnt
    let t := (s.eng (engNo c 3)).out
    let s1 := if ok && outer then s.compute (engNo c 1) (sat32 (x.r + t)) (s.loopOf c x.fi) (res (engNo c 1)) none else s
    let s2 := if ok then s1.compute (engNo c 2) (s.clampA c) (s.loopOf c (!x.fi)) (res (engNo c 2)) none else s1
    let e3 := engNo c 3
    let bad := match (s2.eng e3).resFail with | some d => some d | none => if use then res e3 else none
    let s3 := if ok && trim && cnt > 0 then s2.compute e3 x.r (rhe sum cnt) bad none
      else s2.modEng e3 (fun g => { g with resFail := bad })
    s3.modChan c (fun x => { x with k0Outer := x.k0Outer + 1, k0Trim := x.k0Trim + 1, trimSum := if trim then 0 else sum,
                                    trimCnt := if trim then 0 else cnt })

/-- INNER of a channel (R193, R226, R240). -/
def Dev.innerPeriod (s : Dev) (c : Nat) (noLoop : Bool) (res : Nat → Option Nat) : Dev :=
  if (s.chan c).state < 1 then s
  else s.compute (engNo c 0) (s.chan (s.leader c)).uSel (widenLoop (s.chan c).loopI) (res (engNo c 0)) (if noLoop then some 3 else none)

/-- The current of a member against its share in every loop period (R156, R228). -/
def Dev.shareStep (s : Dev) (c : Nat) : Dev :=
  if !s.ganged c then s
  else
    let d := widenLoop (s.chan c).loopI - (s.chan (s.leader c)).uSel
    let out := decide (d.natAbs * 50 > 1073741824)
    s.modChan c (fun x => { x with shareRun := if out then x.shareRun + 1 else 0 })

/-- The members that stayed outside their shares for 64 periods are logged, each with SHARE_FAULT on its leader, and their
gangs go to the safe state (R156). The entry's cause is a free value, as R604 gives none (log entry 60); a transition that
this ends has ST_AUTHORITY and a range change ST_INTEGRITY (log entry 123). -/
def Dev.shareCheck (s : Dev) (cs : List Nat) : Dev :=
  let bad := cs.filter (fun c => decide ((s.chan c).shareRun ≥ 64))
  let s1 := s.forAll bad (fun s c =>
    ((s.logIt (key 0x0203 5 2 1 c) (s.freeVal % 256)).freeNext).modChan (s.leader c) (fun x => { x with shareFault := true }))
  s1.forAll (sortedFns (bad.map s.leader)) (fun s l => s.toSafe l stAuthority stIntegrity 5)

/-! ### The result former -/

/-- What a frame gives the result former of a channel (R306, R311, R368). -/
def Dev.psamp (s : Dev) (c t0 : Nat) (missing : Bool) : PSamp :=
  let x := s.chan c
  let lead := s.ganged c && s.leader c == c
  let t := if lead then s.team c else [c]
  let iOk := t.all (fun m => (s.chan m).measIok)
  let any := fun (p : Chan → Bool) => t.any (fun m => p (s.chan m))
  { t0 := t0, v := if missing || !x.measVok then none else some x.measV,
    i := if missing || !iOk then none else some (s.measCurrent c),
    dv := [x.codeErr % 64], di := t.map (fun m => (s.chan m).codeErr / 64),
    flags := bitAt (any (fun y => y.status.testBit 7)) 0 + bitAt x.compliance 1 + bitAt (any (·.tripped)) 2
      + bitAt (!missing && any (fun y => y.ovrV || y.ovrI)) 3 + bitAt (any (·.degraded)) 4 }

/-! ### UPSTREAM_FRAME_ARRIVAL -/

/-- Denrix's replica after a lost downstream frame, and its comparison with Helon's lim_act (R260, R261). -/
def Dev.replicaStep (s : Dev) (c : Nat) (u : UpFrame) (e : UpChan) : Dev :=
  let x := s.chan c
  if u.dnBad then
    let s1 := s.modChan c (fun x => { x with repOut := x.repOutPrev, repAct := x.repActPrev })
    -- INNER reads u_applied again, where its last period was committed
    s1.modEng (engNo c 0) (fun g =>
      if (parseImg g.image).track && g.heldRow == 0 && x.state ≥ 1 then { g with et := sat32 (x.repOutPrev * 256 - g.out) } else g)
  else if e.grant && x.grantSeen && x.state ≥ 1 && !u.holdAny && e.status.testBit 2 != x.repAct && !x.safe then s.chanResponse c 4
  else s

/-- One channel's samples are stored: a NOSAMP quantity keeps its last one (R245). -/
def Dev.storeSamples (s : Dev) (c : Nat) (u : UpChan) : Dev :=
  s.modChan c (fun x =>
    { x with loopV := u.loopV, loopI := u.loopI, measVok := !u.flags.testBit 0, measIok := !u.flags.testBit 1,
             measV := if u.flags.testBit 0 then x.measV else u.measV, measI := if u.flags.testBit 1 then x.measI else u.measI })

/-- An upstream frame that is bad or missing (R343): no engine computes; after a second one ENTER_HOLD is set and the Seam is
not up. `counts`: the frame passed its checks while lane lock was lost, and counts towards the sixteen of R337. -/
def Dev.upBad (s : Dev) (counts : Bool) : Dev :=
  let t0 := s.tb.lastSample
  let s1 := (s.advance (t0 + 210000)).modSeam (fun m =>
    { m with upFrame := none, goodUp := if counts then min (m.goodUp + 1) 16 else 0, badUp := m.badUp + 1, seamHold := true,
             enterHold := m.enterHold || decide (m.badUp ≥ 1) })
  let s2 := s1.logIt kSeamFrame s1.seam.fseq
  let s3 := if s2.seam.badUp ≥ 2 && s2.seam.up then s2.seamDown else s2
  let cs := List.range s3.nChan
  let leaders := cs.filter (fun c => !s3.follower c)
  let s4 := s3.forAll leaders (fun s c => s.boundaryPart t0 c)
  let s5 := s4.forAll cs (fun s c => s.resFrame c (s.psamp c t0 true))
  s5.forAll leaders (fun s c => s.outerPeriod c t0 false (fun _ => none))

/-- UPSTREAM_FRAME_ARRIVAL (R158). A frame with another FSEQ than the instant's is bad, and one that passes before the Seam
is up after a loss of lane lock counts as missing (R341). -/
def Dev.upArrival (s : Dev) (residue : List EngFault) (codes : List CodeFault) : Dev :=
  match s.seam.upFrame with
  | none => s
  | some u =>
    if !s.seamOn then s
    else if u.fseq ≠ s.seam.fseq then s.upBad false
    else if s.seam.lockLost then s.upBad true
    else
    let s1 := ((s.advance (u.t0 + 190000)).sideWith true).modSeam (fun m =>
      { m.acked false u.scAck with upFrame := none, goodUp := min (m.goodUp + 1) 16, badUp := 0, dnBad := u.dnBad, seamHold := false })
    if !s1.seam.locked then s1
    else
      let cs := List.range s1.nChan
      let leaders := cs.filter (fun c => !s1.follower c)
      let live := fun (s : Dev) (c : Nat) => !s.slotChans.testBit c
      let s2 := s1.forAll leaders (fun s c => s.boundaryPart u.t0 c)
      let q := s2.codeFaults u.chans codes
      let us := cs.map (fun c => s2.oldPath c (q.2.getD c upChanZero))
      let at_ := fun (c : Nat) => us.getD c upChanZero
      let s3 := q.1.forAll cs (fun s c => (s.storeStatus c (at_ c)).replicaStep c u (at_ c))
      let s4 := s3.forAll leaders (fun s c => s.grantStep (fun m => (at_ m).grant) c)
      let s5 := if u.holdAny then s4.forAll cs (fun s c => s.modChan c (fun x => { x with req := false })) else s4
      let s6 := s5.forAll cs (fun s c => s.keepDiffs c (at_ c))
      let s7 := s6.forAll cs (fun s c => if live s c then s.storeSamples c (at_ c) else s)
      let s8 := s7.forAll cs (fun s c => s.resFrame c (s.psamp c u.t0 (s.slotChans.testBit c)))
      let s9 := s8.forAll leaders (fun s c => (s.pathReport c).transFrame c u.dnBad)
      let res := fun (s : Dev) (e : Nat) => s.resCause residue us e
      let s10 := s9.forAll leaders (fun s c => s.outerPeriod c u.t0 (live s c) (res s))
      let s11 := s10.forAll cs (fun s c => if live s c then s.innerPeriod c (at_ c).noLoopI (res s) else s)
      let s12 := s11.forAll cs Dev.shareStep
      s12.shareCheck cs

/-- UPSTREAM_FRAME_ARRIVAL. -/
def execUpstreamFrameArrival (residue : List EngFault) (codeFaults : List CodeFault) (s : State) : Out :=
  .next (s.on (fun d => d.observed (fun d => d.upArrival residue codeFaults)))

/-- UPSTREAM_FRAME_MISSING (R343). None is due while the Seam is in reset or rests (R572). -/
def Dev.upMissing (s : Dev) : Dev := if s.seamRests || !s.seamOn then s else s.upBad false

/-- UPSTREAM_FRAME_MISSING. -/
def execUpstreamFrameMissing (s : State) : Out := .next (s.on (fun d => d.observed Dev.upMissing))

/-! ### DOWNSTREAM_LAUNCH -/

/-- A held sample of an engine: nothing is committed, it counts and logs, and the second in a row is a channel fault
(R34 to R36, R178 to R180). -/
def Dev.heldSample (s : Dev) (e : Nat) (res late : Option Nat) (t0 : Nat) : Dev :=
  let s1 := match res with
    | some d => s.logIt (kHeldResidue e) (d % 65536 + 65536 * (late.getD 0 % 256)) (bit late.isSome)
    | none => s.logIt (kHeldLate e) (late.getD 0)
  let s2 := s1.modEng e (fun g =>
    { g with next := none, resFail := none, lateFail := none, heldRow := g.heldRow + 1, heldSeen := true,
             heldRes := if res.isSome then sat32n (g.heldRes + 1) else g.heldRes,
             heldLate := if res.isSome then g.heldLate else sat32n (g.heldLate + 1) })
  let s3 := s2.markHeld (e / 4) t0
  if (s2.eng e).heldRow = 2 then s3.chanResponse (e / 4) 1 else s3

/-- An engine's computed period is committed (R173, R192). -/
def Engine.commit (g : Engine) (k : Computed) (ns : Nat) : Engine :=
  let sat := k.sat || g.satCarry
  { g with st := k.st ++ g.st.drop k.st.length, out := k.out, sat := sat, limit := k.limit, satSeen := g.satSeen || sat,
           limitSeen := g.limitSeen || k.limit, next := none, heldRow := 0, satCarry := false, atNs := ns }

/-- What became of an engine's period at the launch: it was not run, it was held, or it was committed. -/
inductive Ran where
  /-- No computation. -/
  | idle
  /-- A held sample. -/
  | held
  /-- Committed. -/
  | done
deriving DecidableEq, Repr

/-- An engine's period ends at the launch.
A period without a computation leaves the count of held samples (R35). DESIGN CHOICE, log entry 147. -/
def Dev.endPeriod (s : Dev) (late : List EngFault) (e : Nat) : Dev × Ran :=
  let g := s.eng e
  match g.next with
  | none => (s, .idle)
  | some k =>
    let l := match late.find? (fun f => f.eng.val == e) with | some f => some f.detail.toNat | none => g.lateFail
    if g.resFail.isSome || l.isSome then (s.heldSample e g.resFail l s.tb.lastSample, .held)
    else (s.modEng e (fun g => g.commit k (s.nsAt s.tb.lastSample)), .done)

/-- e_t of an engine that tracks (R172, R201). -/
def Dev.track (s : Dev) (e : Nat) (ran : Ran) (applied : Int) : Dev :=
  if ran != .done then s
  else s.modEng e (fun g => { g with et := if (parseImg g.image).track then sat32 (applied - g.out) else 0 })

/-- The selection at the end of a leader's period in ZERO and ON (R129, R131, R199). In a period in which CLAMP did not
compute, u_sel and dir stay (log entry 124). -/
def Dev.selectStep (s : Dev) (c : Nat) (clampRan : Ran) : Dev :=
  let x := s.chan c
  if x.state < 2 || x.switching || clampRan == .idle then s
  else
    let o := (s.eng (engNo c 1)).out
    let k := (s.eng (engNo c 2)).out
    let bip := s.bipolar c (!x.fi) (x.code (!x.fi))
    let neg := s.clampNeg c
    let comp := clampSelected o k neg
    let s1 := s.modChan c (fun x => { x with uSel := selectDemand o k neg, dirNeg := bip && nextDir neg o,
                                             compliance := comp, compSeen := x.compSeen || (comp && !x.compliance) })
    if comp && !x.compliance then s1.irq (s.chanHolder c) irqChan else s1

/-- Engines 1 to 3 of a leader end their period. -/
def Dev.outerEnd (s : Dev) (late : List EngFault) (c : Nat) : Dev :=
  let a := s.endPeriod late (engNo c 1)
  let b := a.1.endPeriod late (engNo c 2)
  let d := b.1.endPeriod late (engNo c 3)
  let s1 := d.1.selectStep c b.2
  let u := (s1.chan c).uSel
  (s1.track (engNo c 1) a.2 u).track (engNo c 2) b.2 u

/-- RPATH_REQ of the frame for the boundary `t` (R216, R218, R220, R340). -/
def Dev.rpathFor (s : Dev) (c t : Nat) : Nat :=
  let l := s.leader c
  match (s.chan l).rc with
  | none => 0
  | some rc =>
    let plan := s.groupLatchAt (l / 4) == some t && s.carried l
    if rc.phase == .made && !rc.latched && plan then 1
    else if rc.phase == .made && rc.counting && rc.left ≤ 1 && s.breakAllowed l t then 2
    else if rc.phase == .switched && !rc.latched && plan then 3
    else (s.chan l).rpathReq

/-- INNER's period ends and the channel's part of the frame is formed: code, control byte, request (R32, R254, R260, R262,
R263, R340, R343). -/
def Dev.launchChan (s : Dev) (late : List EngFault) (t c : Nat) : Dev × (Int × Nat × Bool) :=
  let e := engNo c 0
  let r := s.endPeriod late e
  let s1 := r.1
  let x := s1.chan c
  let runs := decide (x.state ≥ 1)
  let start := s1.slewStartAt c t
  -- a late result, and a period abandoned for an uncorrectable error, which counts as one (R32, R180)
  let isLate := r.2 == .held && (late.any (fun f => f.eng.val == e) || (s.eng e).lateFail == some 2)
  let code := if !(runs || start) || !x.req || x.safe then 0
    else if s1.seam.seamHold || isLate || s1.slotChans.testBit c then x.lastCode
    else if start then 0 else forceCode (s1.eng e).out
  let rp := s1.rpathFor c t
  let h := s1.helon c
  let off := !(runs || start) || !x.req || x.safe
  let q := slewStep h.span h.step h.divr code x.repOut (if start then 0 else x.repCnt)
  -- with the request of a switch-over the replica's code is rescaled after the limiter, as Helon's is (R264)
  let rep := if rp = 3 then rescaleCout h.span (s1.rcInner c) q.1 else q.1
  let s2 := s1.modChan c (fun x =>
    let y := { x with repOutPrev := x.repOut, repActPrev := x.repAct, ackReq := false, lastCode := code }
    if off then { y.repSafe with repOutPrev := x.repOut, repActPrev := x.repAct }
    else { y with repOut := rep, repAct := q.2.1, repCnt := q.2.2 })
  let s3 := s2.track e r.2 (if off then safeCode * 256 else q.1 * 256)
  let sat := r.2 == .done && (s3.eng e).sat
  -- a period computed in another state than ZERO and ON breaks the row (R599)
  let s4 := if r.2 != .done then s3
    else s3.modChan c (fun x => { x with satRun := if sat && decide (x.state ≥ 2) then x.satRun + 1 else 0 })
  let s5 := if (s4.chan c).satRun = 64 && sat then s4.chanResponse c 5 else s4
  (s5, (code, bit isLate + 2 * bit (s5.chan c).safe + 4 * bit start + 8 * rp + 32 * (if x.ackReq then 5 else 0),
    x.req && !(s5.chan c).safe))

/-- The channel parts of a frame, in channel order. -/
def Dev.launchAll (s : Dev) (late : List EngFault) (t : Nat) (cs : List Nat) : Dev × List (Int × Nat × Bool) :=
  match cs with
  | [] => (s, [])
  | c :: r =>
    let a := s.launchChan late t c
    let b := a.1.launchAll late t r
    (b.1, a.2 :: b.2)

/-- A range change in OFF or HIGH_Z, or a traceable session that opens, whose word latches at the boundary `t`: the sets of the new
ranges go with this frame and name the FSEQ of `t` (R346, R357). -/
def Dev.namedSets (s : Dev) (t c : Nat) : Dev :=
  let latches := s.groupLatchAt (c / 4) == some t && s.carried c
  let n := some s.seam.nextSeq
  match (s.chan c).rc, s.cal.trace with
  | some rc, _ => if latches && rc.phase == .plain && !rc.latched then s.plainSend c rc.tgtV rc.tgtI n else s
  | none, some x =>
    if latches && x.ch == c && x.before.isNone then
      let k := s.traceCodes x
      s.plainSend c k.1 k.2 n
    else s
  | none, none => s

/-- DOWNSTREAM_LAUNCH (R32, R42, R338). -/
def Dev.launch (s : Dev) (late : List EngFault) : Dev :=
  if s.asleep || !s.seamOn then s
  else
    let t := s.nextSample
    let s1 := s.advance (t - 90000)
    let cs := List.range s1.nChan
    let leaders := cs.filter (fun c => !s1.follower c)
    let s2 := s1.forAll leaders (fun s c => s.outerEnd late c)
    let r := s2.launchAll late t cs
    let s3 := ((r.1.forAll leaders Dev.transLaunched).forAll leaders (fun s c => s.modChan c (fun x => { x with rpathReq := 0 }))).forAll
      leaders (fun s c => s.namedSets t c)
    s3.modSeam (fun m =>
      let idle : Int × Nat × Bool := (0, 0, false)
      let f : DownFrame := { fseq := m.nextSeq, enterHold := m.enterHold, seamHold := m.seamHold, hb := m.hb,
                             scAck := m.scAckUp, chans := r.2 ++ List.replicate (64 - r.2.length) idle }
      { m with dnFrame := some f, seamHold := false })

/-- DOWNSTREAM_LAUNCH. -/
def execDownstreamLaunch (late : List EngFault) (s : State) : Out :=
  .next (s.on (fun d => d.observed (fun d => d.launch late)))

end Sys2Proof.Machine
end

