-- ==== Sys2Proof/Machine/Sequencer.lean ====
section
/-! DEFINITION. The sweep sequencers: the sequence commands and the instants of an execution (spec/08_sweeps.md). -/

namespace Sys2Proof.Machine

/-! ### List memory (R267 to R269) -/

/-- The windows of `n` entries from `base` on. -/
def windowsOf (base n : Nat) : List Nat :=
  if n = 0 then [] else (List.range 64).filter (fun w => decide (base / 4096 ≤ w) && decide (w ≤ (base + n - 1) / 4096))
/-- Entries `base` to `base + n - 1` overlap the list of a sequencer that is ARMED or RUNNING. -/
def Dev.listInUse (s : Dev) (base n : Nat) : Bool :=
  s.seqs.any (fun p => (p.2.state == 1 || p.2.state == 2) && decide (p.2.base < base + n) && decide (base < p.2.base + p.2.len))

/-- Names, holders and holds of a run of entries. -/
def Dev.windowsHeld (s : Dev) (f base n : Nat) : Bool := (windowsOf base n).all (s.holdsChan f)

/-- ENTRY and COUNT of SEQ_WRITE and SEQ_READ. -/
def Dev.entriesOk (s : Dev) (j : Job) : Bool :=
  let b := u32 j.p 0
  let n := u8 j.p 4
  decide (1 ≤ n) && decide (n ≤ 7) && decide (b + n ≤ 262144) && j.rsv 5 3 && (windowsOf b n).all s.chanOk

/-- SEQ_WRITE's sheet (R270). -/
def cmdSeqWrite : Cmd :=
  { op := 0x0401, len := none,
    args := fun s j => s.entriesOk j && j.q.len == 8 + 32 * u8 j.p 4, held := fun s j => s.windowsHeld j.f (u32 j.p 0) (u8 j.p 4),
    unlocked := fun s j => (windowsOf (u32 j.p 0) (u8 j.p 4)).all (s.chanFree j.f),
    state := fun s j => stIf (!s.listInUse (u32 j.p 0) (u8 j.p 4)),
    names := fun _ j => (windowsOf (u32 j.p 0) (u8 j.p 4)).map Res.chan,
    body := fun s j =>
      let m := (List.range (u8 j.p 4)).foldl (fun m k => tblSet entryInit m (u32 j.p 0 + k) (slice j.p (8 + 32 * k) 32)) s.seqMem
      ({ s with seqMem := m }, .done stOk []) }

/-- SEQ_READ's sheet (R267). -/
def cmdSeqRead : Cmd :=
  { op := 0x0402, len := some 8,
    args := fun s j => s.entriesOk j, held := fun s j => s.windowsHeld j.f (u32 j.p 0) (u8 j.p 4),
    names := fun _ j => (windowsOf (u32 j.p 0) (u8 j.p 4)).map Res.chan,
    body := fun s j => (s, .done stOk ((List.range (u8 j.p 4)).flatMap (fun k => s.listEntry (u32 j.p 0 + k)))) }

/-- SEQ_CONFIG's sheet (R268). -/
def cmdSeqConfig : Cmd :=
  { op := 0x0403, len := some 20,
    args := fun s j =>
      let n := u32 j.p 8
      s.chanOk j.ch && decide (u8 j.p 1 ≤ 2) && decide (u8 j.p 2 < 16) && j.rsv 3 1 && decide (1 ≤ n) && decide (n ≤ 65536)
        && decide (u32 j.p 4 + n ≤ 262144) && decide (u16 j.p 12 < n) && j.rsv 14 2 && decide (u32 j.p 16 ≤ 100000000)
        && (windowsOf (u32 j.p 4) n).all s.chanOk,
    held := fun s j => s.holdsChan j.f j.ch && s.windowsHeld j.f (u32 j.p 4) (u32 j.p 8),
    unlocked := fun s j => s.chanFree j.f j.ch, state := fun s j => stIf (!(s.seqBusy j.ch || s.follower j.ch)),
    names := fun s j => s.chanCmdNames j.ch,
    body := fun s j =>
      (s.modSeq j.ch (fun q =>
        { q with endAction := u8 j.p 1, trigMode := u8 j.p 2, base := u32 j.p 4, len := u32 j.p 8, first := u16 j.p 12,
                 waitTimeout := u32 j.p 16, entry := u32 j.p 4 }), .done stOk []) }

/-! ### SEQ_ARM -/

/-- Reserved and unused fields are 0 (R271 to R274): check 1. DESIGN CHOICE (log 128): WHEN 3 of EMIT, which R273 reserves
with no check of its own, fails check 1. DESIGN CHOICE (log 129): so does KEEP_SETPOINT or KEEP_COMP with a SETPOINT or
COMPLIANCE that is not 0, for which R271 names no check. -/
def entryFieldsOk (b : List Byte) (e : Entry) : Bool :=
  let clean := decide (e.mode < 1024) && decide (e.trig < 16) && bitsOf e.emit 6 4 == 0 && bitsOf e.emit 3 2 != 3 && allZero b 26 6
  let bare := allZero b 0 10 && decide (e.mode < 4) && allZero b 12 10
  clean && (match e.kind with
    | 0 => (!e.keepS || e.setpoint == 0) && (!e.keepC || e.comp == 0)
    | 1 => bare
    | 2 => bare && e.repeat_ == 0 && e.link == 0
    | _ => false)

/-- A range code of a POINT with RANGE set (R123). -/
def Dev.entryCodeOk (s : Dev) (c : Nat) (cur : Bool) (code : Nat) : Bool := code == 15 || s.declares c cur code

/-- APERTURE within the limits of R278. -/
def Dev.apertureOk (s : Dev) (mode a : Nat) : Bool :=
  match mode with
  | 0 => a == 0
  | 3 => decide (1 ≤ a) && decide (a ≤ 600) && decide (a * 40000000000 ≤ 400000000 * s.sys.opt.lineFreq)
  | _ => decide (1 ≤ a) && decide (a ≤ 400000000)

/-- A JUMP's LINK meets R276. -/
def Dev.jumpOk (s : Dev) (c i link : Nat) : Bool :=
  decide (link < i) && (List.range (i - link)).any (fun k => (s.seqEntry c (link + k)).kind == 0)

/-- The lowest-numbered check of SEQ_ARM that list entry `i` fails; 0 for none. `jumps` is the number of JUMP entries
before it. -/
def Dev.entryError (s : Dev) (c i jumps : Nat) : Nat :=
  let q := s.seq c
  let b := s.listEntry (q.base + i)
  let e := parseEntry b
  let fi := (s.chan c).fi
  if !entryFieldsOk b e then 1
  else if e.kind = 1 then (if !s.jumpOk c i e.link then 7 else if jumps ≥ 16 then 8 else 0)
  else if e.kind ≠ 0 then 0
  else if e.repeat_ = 0 then 2
  else if !(if e.range then s.entryCodeOk c fi e.frange && s.entryCodeOk c (!fi) e.mrange else e.frange == 15 && e.mrange == 15) then 3
  else if !((e.keepS || setpointOk true e.setpoint) && (e.keepC || compOk e.comp)) then 4
  else if !s.apertureOk e.apmode e.aperture then 5
  else if e.trig % 8 > 4 then 6
  else if e.linkEn && e.link ≥ q.len then 7
  else 0

/-- The first failing entry of a list from `i` on, with its check. -/
def Dev.listError (s : Dev) (c n i jumps : Nat) : Option (Nat × Nat) :=
  match n with
  | 0 => none
  | k + 1 =>
    let e := s.entryError c i jumps
    if e ≠ 0 then some ((s.seq c).base + i, e)
    else s.listError c k (i + 1) (jumps + bit ((s.seqEntry c i).kind == 1))

/-- A sequencer becomes ARMED: pending triggers, points and reason clear, and the JUMP counters load (R275). An aperture
that still runs after a trip runs on (R296). -/
def Dev.arm1 (s : Dev) (c : Nat) : Dev :=
  let q := s.seq c
  let x := s.chan c
  let cnt := (List.range q.len).foldl (fun t i =>
    let e := s.seqEntry c i
    if e.kind = 1 then tblSet (fun _ => 0) t i e.repeat_ else t) []
  (s.modRes c (fun r => { r with seqOld := r.seqOld ++ q.aper.toList })).modSeq c (fun q =>
    { q with state := 1, reason := 0, points := 0, repLeft := 0, pend := 0, trigAt := none, phase := .none_, rcRun := false,
             aper := none, cnt := cnt, cur := q.first, entry := q.base + q.first, lastNs := s.timeNs, armNs := s.timeNs,
             startCmd := none, stopEdge := none, stopHeld := none, rest := (x.setpoint, x.compPos, x.compNeg) })

/-- SEQ_ARM's execution: the entry checks, then all or none. -/
def Dev.armAll (s : Dev) (cs : List Nat) : Dev × Nat × List Byte :=
  let r := cs.map (fun c => (c, s.listError c (s.seq c).len 0 0))
  let s1 := r.foldl (fun s p => s.modSeq p.1 (fun q =>
    match p.2 with
    | some e => { q with armErrEntry := e.1, armErrCode := e.2 }
    | none => { q with armErrEntry := 0xFFFFFFFF, armErrCode := 0 })) s
  match r.findSome? (·.2) with
  | some e => (s1, if e.2 = 8 then stResource else stArg, [])
  | none => (s1.forAll cs Dev.arm1, stOk, [])

/-- The requirements of SEQ_ARM other than the entry checks (R153, R211, R398). -/
def Dev.armState (s : Dev) (c : Nat) : Bool :=
  let q := s.seq c
  (s.chan c).state == 3 && !s.ratePending && !s.seqBusy c && q.len != 0 && !(s.team c).any s.armedOnChan && (s.chan (s.leader c)).rc.isNone
    && !(s.team c).any s.calActive && !(s.team c).any s.calAwaiting && !s.follower c

/-- Entries that a SEQ_ARM examines. -/
def Dev.armEntries (s : Dev) (cs : List Nat) : Nat := cs.foldl (fun a c => a + (s.seq c).len) 0

/-- The service bound of a command's class in µs: the thresholds of its class and above, and 40 µs (R113). -/
def Job.boundUs (j : Job) : Nat := (j.ages.drop j.eff).foldl (· + ·) 0 + 40

/-- The channel map of a request. -/
def Job.map (j : Job) : Nat := u64 j.p 0
/-- The channels of a channel map's request. -/
def Job.chans (j : Job) : List Nat := chansIn j.map

/-- SEQ_ARM's sheet. It answers at once where its time to complete lies within the service bound (R111). -/
def cmdSeqArm : Cmd :=
  { op := 0x0404, len := some 8,
    args := fun s j => s.chansOk j.map,
    held := fun s j => s.holdsChans j.f j.map && j.chans.all (fun c => s.windowsHeld j.f (s.seq c).base (s.seq c).len),
    unlocked := fun s j => s.chansFree j.f j.map, state := fun s j => stIf (j.chans.all s.armState),
    names := fun s j => if j.chans.any (fun c => (s.team c).any s.calActive) then [] else s.chanNames j.map,
    body := fun s j =>
      if 100000 + 30 * s.armEntries j.chans ≤ 1000 * j.boundUs then
        let r := s.armAll j.chans
        (r.1, .done r.2.1 r.2.2)
      else (s, .later []) }

/-! ### Start and stop (R292 to R294) -/

/-- A start takes a sequencer at an edge: RUNNING from then on (R292). -/
def Dev.seqStarts (s : Dev) (c e : Nat) : Dev :=
  s.modSeq c (fun q => { q with state := 2, phase := .current (s.instantAt e), startEdge := e, startCmd := none, lastNs := s.nsAt e })

/-- A start latched at an edge reaches a sequencer (R292). A start latched before one that waits for its edge takes its
place, and the later one is ignored; a stop of the same edge has won, and the start is not counted (R294). -/
def Dev.seqStartAt (s : Dev) (c e : Nat) : Dev :=
  let q := s.seq c
  if q.state = 1 then s.seqStarts c e
  else if q.state = 2 && decide (e < q.startEdge) then (s.seqStarts c e).modSeq c Seq.ignoreStart
  else if q.stopEdge = some e && q.state = 0 then s
  else s.modSeq c Seq.ignoreStart

/-- A stop event or SEQ_STOP latched at an edge (R293, R294). -/
def Dev.seqStopAt (s : Dev) (c e : Nat) : Dev := s.seqHaltAt c e 3

/-- A stop that waits at the consumer and is latched at or before `t` acts before what the sequencer does at `t` (R294). -/
def Dev.stopFirst (s : Dev) (c t : Nat) : Dev :=
  let n := 129 + 8 * c
  if s.hasEdge n && decide (s.latchOf n ≤ t) then (s.takeEdge n).seqStopAt c (s.latchOf n) else s

/-- SEQ_START's execution: every named sequencer starts at one edge, at which the command completes. -/
def seqStartBody (s : Dev) (j : Job) : Dev × Result :=
  let e := s.edgeAt (s.now + 1000000)
  (s.forAll j.chans (fun s c =>
    (s.seqStartAt c e).modSeq c (fun q => { q with startCmd := if q.startEdge = e then some j.id else q.startCmd })),
    .soon [(e : Int)])

/-- SEQ_START completes at its start edge, unless a stop has ended one of its sequencers before (its sheet). -/
def Dev.seqStartEnd (s : Dev) (r : Running) : Dev × Nat × List Byte :=
  let e := (r.data.getD 0 0).toNat
  let s1 := s.forAll r.job.chans (fun s c => s.stopFirst c (e - 1))
  match s1.running? r.job.id with
  | some ⟨_, _, _, _, some p, _, _⟩ => (s1, p)
  | _ =>
    let s2 := s1.forAll r.job.chans (fun s c =>
      s.modSeq c (fun q => { q with startCmd := if q.startCmd = some r.job.id then none else q.startCmd }))
    (s2.advance e, stOk, w64 (s2.nsAt e))

/-- SEQ_START's sheet. -/
def cmdSeqStart : Cmd :=
  { op := 0x0405, len := some 8,
    args := fun s j => s.chansOk j.map, held := fun s j => s.holdsChans j.f j.map,
    unlocked := fun s j => s.chansFree j.f j.map,
    state := fun s j => stIf (j.chans.all (fun c => (s.seq c).armedAt s.now && !s.follower c)),
    names := fun s j => s.chanNames j.map, body := seqStartBody }

/-- SEQ_STOP's sheet. -/
def cmdSeqStop : Cmd :=
  { op := 0x0406, len := some 8,
    args := fun s j => s.chansOk j.map, held := fun s j => s.holdsChans j.f j.map,
    unlocked := fun s j => s.chansFree j.f j.map,
    state := fun s j => stIf (!j.chans.any s.follower), names := fun s j => s.chanNames j.map,
    body := fun s j =>
      let e := s.edgeAfter s.now
      (s.forAll j.chans (fun s c => s.seqStopAt c e), .done stOk (w64 (s.nsAt e))) }

/-! ### SEQ_STATUS -/

/-- The trigger input that a sequencer waits on at `t`, with the beginning of the wait (R286). -/
def Dev.seqWaits (s : Dev) (c t : Nat) : Option (Nat × Nat) :=
  let q := s.seq c
  if q.state ≠ 2 || q.trigAt.isSome then none
  else
    match q.phase with
    | .wait => (s.curEntry c).srcTrig.map (fun i => (i, q.tc))
    | .delay _ => if q.waitFrom ≤ t then (s.curEntry c).measTrig.map (fun i => (i, q.waitFrom)) else none
    | _ => none

/-- The reply table of SEQ_STATUS (R290). -/
def seqStatusReply (s : Dev) (c : Nat) : List Byte :=
  let q := s.seq c
  let armed := q.armedAt s.now
  w8 (if armed then 1 else q.state) ++ w8 q.reason
    ++ w16 (bitAt (s.seqWaits c s.now).isSome 0 + bitAt (q.phase == .aperture) 1 + bitAt q.rcRun 2 + 16 * q.pend)
    ++ w32 q.entry ++ w32 q.points ++ w16 q.repLeft ++ w16 q.earlyStops ++ w16 q.startIgnored ++ w16 q.trigOverrun
    ++ w32 q.armErrEntry ++ w16 q.armErrCode ++ zeros 2 ++ w64 (if armed then q.armNs else q.lastNs)

/-- SEQ_STATUS's sheet. -/
def cmdSeqStatus : Cmd :=
  { op := 0x0407, len := some 8,
    args := fun s j => s.chanOk j.ch && j.rsv 1 3 && decide (u32 j.p 4 < 2), held := fun s j => s.holdsChan j.f j.ch,
    state := fun s j => stIf (!s.follower j.ch),
    body := fun s j =>
      (if (u32 j.p 4).testBit 0 then s.modSeq j.ch (fun q => { q with earlyStops := 0, startIgnored := 0, trigOverrun := 0 }) else s,
        .done stOk (seqStatusReply s j.ch)) }

/-! ### Executing a list (R275 to R284) -/

/-- Where list index `i` leads (R275, R276): the last entry that became current, whether it is a POINT, and the JUMP counters.
`last` is the entry that led to `i`. -/
def Dev.resolve (s : Dev) (c fuel i last : Nat) (cnt : Tbl Nat) : Nat × Bool × Tbl Nat :=
  match fuel with
  | 0 => (last, false, cnt)
  | k + 1 =>
    if i ≥ (s.seq c).len then (last, false, cnt)
    else
      let e := s.seqEntry c i
      let n := tblGet (fun _ => 0) cnt i
      match e.kind with
      | 0 => (i, true, cnt)
      | 1 =>
        if e.repeat_ = 0 then s.resolve c k e.link i cnt
        else if n > 0 then s.resolve c k e.link i (tblSet (fun _ => 0) cnt i (n - 1))
        else s.resolve c k (i + 1) i (tblSet (fun _ => 0) cnt i e.repeat_)
      | _ => (i, false, cnt)

/-- List index `i` becomes current at `t`: a POINT, or the end END (R275, R276, R290). -/
def Dev.seqGoto (s : Dev) (c i t : Nat) : Dev :=
  let r := s.resolve c 64 i (s.seq c).cur (s.seq c).cnt
  let left := if r.2.1 then (s.seqEntry c r.1).repeat_ else 0
  let s1 := s.modSeq c (fun q =>
    { q with cnt := r.2.2, cur := r.1, entry := q.base + r.1, repLeft := left, phase := .current t })
  if r.2.1 then s1 else s1.seqEnd c 1 t

/-- The range codes in force at t_src: voltage and current (R121, R298). -/
def Dev.entryCodes (s : Dev) (c : Nat) (e : Entry) : Nat × Nat :=
  let x := s.chan c
  let pick := fun (cur : Bool) =>
    let code := if cur == x.fi then e.frange else e.mrange
    if e.range && code != 15 then code else x.code cur
  (pick false, pick true)

/-- Compliance magnitudes against the Hem thresholds of a range (R133). -/
def Dev.compPastIn (s : Dev) (c : Nat) (cc : Bool) (code : Nat) (v : Int) : Bool :=
  match s.range c cc code with
  | none => false
  | some r =>
    let t := s.thrOf c cc code
    let phys := fun (v : Int) => fracMul ⟨v, 1073741824⟩ (f32Val r.vFs)
    fracLe ⟨t.getD 0 0, 1000⟩ (phys v) || fracLe (phys (-v)) ⟨t.getD 1 0, 1000⟩

/-- The checks at t_c (R282). -/
def Dev.entryRunOk (s : Dev) (c : Nat) (e : Entry) : Bool :=
  let x := s.chan c
  let k := s.entryCodes c e
  let code := fun (cur : Bool) => if cur then k.2 else k.1
  s.rescaleAllOk c false k.1 && s.rescaleAllOk c true k.2
    && (e.keepS || setpointOk (s.bipolar c x.fi (code x.fi)) e.setpoint)
    && (e.keepC || (compOk e.comp && !s.compPastIn c (!x.fi) (code (!x.fi)) e.comp))

/-- The emission of an entry at the instant `t` that WHEN names (R280). -/
def Dev.emit (s : Dev) (c when_ t : Nat) : Dev :=
  match (s.curEntry c).emits when_ with | some k => s.pulseAt (128 + 5 * c + k) t | none => s

/-- A pending trigger of an input is taken. -/
def Dev.takePend (s : Dev) (c : Nat) (input : Option Nat) (t : Nat) : Dev :=
  match input with
  | some i => s.modSeq c (fun q => if q.pend.testBit i then { q with pend := Nat.xor q.pend (2 ^ i), trigAt := some t } else q)
  | none => s

/-- ENTRY_CURRENT (R277, R282, R286, R298). -/
def Dev.entryCurrent (s : Dev) (c : Nat) : Dev :=
  match (s.seq c).phase with
  | .current a =>
    let t := s.instantAt a
    let s1 := (s.advance t).stopFirst c t
    let s2 := if (s1.seq c).state ≠ 2 then s1 else if (s1.seq c).repLeft = 0 then s1.seqGoto c (s1.seq c).cur t else s1
    if (s2.seq c).state ≠ 2 then s2
    else
      let e := s2.curEntry c
      if !s2.entryRunOk c e then s2.seqEnd c 7 t
      else
        let k := s2.entryCodes c e
        let x := s2.chan c
        let rc := k.1 != x.vr || k.2 != x.ir
        let s3 := s2.modSeq c (fun q =>
          { q with points := (q.points + 1) % 2 ^ 32, tc := t, phase := .wait, rcRun := rc, trigAt := none, waitFrom := t })
        let s4 := if rc then s3.rcStart c k.1 k.2 none t else s3
        (s4.takePend c e.srcTrig t).seqReady c t
  | _ => s

/-- SOURCE_INSTANT (R277, R279, R284). -/
def Dev.sourceInstant (s : Dev) (c : Nat) : Dev :=
  match (s.seq c).phase with
  | .source a =>
    let t := s.instantAt a
    let e := s.curEntry c
    let s1 := (s.advance t).stopFirst c t
    if (s1.seq c).state ≠ 2 then s1 else
    let again := decide ((s1.chan c).setpoint = e.setpoint) && decide ((s1.seq c).repLeft < e.repeat_)
    let w : SourceWait :=
      { at_ := t, setpoint := if e.keepS || again then none else some e.setpoint,
        compPos := if e.keepC then none else some e.comp, compNeg := if e.keepC then none else some e.comp, soft := e.soft }
    let soft := (s1.chan c).soft
    let s2 := (s1.applySource c w).modChan c (fun x => { x with soft := soft })
    let b := t + e.delay * tickPs
    let s3 := s2.modSeq c (fun q =>
      { q with phase := if e.measTrig.isSome then .delay b else .ready b, waitFrom := s2.instantAt b })
    s3.emit c 0 t
  | _ => s

/-- A wait for a measure trigger that has begun by `t` ends where one is pending (R286). -/
def Dev.delayPend (s : Dev) (c t : Nat) : Dev :=
  match (s.seq c).phase, (s.curEntry c).measTrig with
  | .delay _, some i =>
    if (s.seq c).waitFrom ≤ t && (s.seq c).pend.testBit i then
      s.modSeq c (fun q => { q with pend := Nat.xor q.pend (2 ^ i), phase := .ready q.waitFrom })
    else s
  | _, _ => s

/-- APERTURE_START (R277, R278). -/
def Dev.apertureStart (s0 : Dev) (c : Nat) : Dev :=
  let s := match (s0.seq c).phase with | .delay _ => s0.delayPend c (max (s0.seq c).waitFrom s0.now) | _ => s0
  match (s.seq c).phase with
  | .ready a =>
    let t := s.instantAt a
    let e := s.curEntry c
    let s1 := (s.advance t).stopFirst c t
    if (s1.seq c).state ≠ 2 then s1 else
    let ap := if e.apmode = 0 then none else some (s1.newAper e.apmode e.aperture t (((s1.seq c).points + 2 ^ 32 - 1) % 2 ^ 32))
    (s1.modSeq c (fun q => { q with phase := .aperture, tc := t, aper := ap })).emit c 1 t
  | _ => s

/-- The end of an execution at `te`: its event, END_ON_COMP, and the next execution (R275, R279, R280, R283). -/
def Dev.execEnd (s : Dev) (c te : Nat) (comp : Bool) : Dev :=
  let e := s.curEntry c
  let s1 := s.emit c 2 te
  if e.endComp && comp then s1.seqEnd c 2 te
  else
    let q := s1.seq c
    if q.repLeft > 1 then s1.modSeq c (fun q => { q with repLeft := q.repLeft - 1, phase := .current te })
    else s1.seqGoto c (if e.linkEn then e.link else q.cur + 1) te

/-- APERTURE_END (R278, R283, R296): once every period of the aperture has been taken. -/
def Dev.apertureEnd (s0 : Dev) (c : Nat) : Dev :=
  match (s0.seq c).aper with
  | some a =>
    if !a.over_ then s0
    else
      let s := (s0.advance a.te).stopFirst c a.te
      let q := s.seq c
      if q.aper.isNone then s
      else
        let s1 := s.modSeq c (fun q => { q with aper := none })
        let s2 := if a.mode = 1 then s1 else s1.formMeas c a a.te
        if q.state = 2 && q.phase == .aperture then (s2.execEnd c a.te (a.flags.testBit 1)).seqHeld c else s2
  | none =>
    let t := (s0.seq c).tc
    if (s0.seq c).phase != .aperture then s0
    else
      let s := (s0.advance t).stopFirst c t
      if (s.seq c).state = 2 then (s.execEnd c t (s.chan c).compliance).seqHeld c else s

/-- WAIT_TIMEOUT (R287). -/
def Dev.waitTimeout (s : Dev) (c : Nat) : Dev :=
  let q := s.seq c
  let t := s.instantAt (q.waitFrom + q.waitTimeout * 1000000)
  if q.waitTimeout = 0 || (s.seqWaits c t).isNone then s else ((s.advance t).stopFirst c t).seqEnd c 9 t

/-- REST: the values of the arm come back (R291). -/
def Dev.restValues (s : Dev) (c : Nat) : Dev :=
  let x := s.chan c
  let r := (s.seq c).rest
  let okS := setpointOk (s.bipolar c x.fi (x.code x.fi)) r.1
  if okS && compOk r.2.1 && compOk r.2.2 then
    s.applySource c { at_ := s.now, setpoint := some r.1, compPos := some r.2.1, compNeg := some r.2.2, soft := x.soft }
  else s.logIt (kRestFail c) (if okS then 2 else 1)

/-- END_ACTION (R291). -/
def Dev.endAction (s : Dev) (c : Nat) : Dev :=
  match (s.seq c).endAt with
  | none => s
  | some a =>
    let s1 := (s.advance (s.instantAt a)).modSeq c (fun q => { q with endAt := none })
    if (s1.seq c).endAction = 1 then s1.restValues c
    else if (s1.seq c).endAction = 2 && (s1.chan c).state = 3 && (s1.chan c).trans.isNone then s1.transBegin c 2 false none
    else s1

/-- SEQ_TRIGGER: a trigger latched at an edge (R285, R286). -/
def Dev.seqTrigger (s0 : Dev) (c i : Nat) : Dev :=
  let n := 130 + 8 * c + i
  let e := s0.latchOf n
  let s := ((s0.takeEdge n).stopFirst c e).delayPend c e
  let q := s.seq c
  match s.seqWaits c e with
  | some w =>
    if w.1 = i then
      match q.phase with
      | .wait => (s.modSeq c (fun q => { q with trigAt := some e })).seqReady c e
      | _ => s.modSeq c (fun q => { q with phase := .ready (s.instantAt e) })
    else latchOr s q n
  | none => latchOr s q n
where
  /-- A trigger that ends no wait: pending, or discarded. -/
  latchOr (s : Dev) (q : Seq) (n : Nat) : Dev :=
    if q.trigMode.testBit i && !q.pend.testBit i then s.modSeq c (fun q => { q with pend := q.pend ||| 2 ^ i })
    else (s.modSeq c (fun q => { q with trigOverrun := sat16Inc q.trigOverrun })).setOverrun n

/-! ### A window that changes hands (R269) -/

/-- A channel leaves its function: the sequencers whose list has an entry of its window end with RELEASED, the window
becomes 0, and the channel's settings and counters return to their reset states. -/
def Dev.seqRelease (s : Dev) (c : Nat) : Dev :=
  let e := s.edgeAfter s.now
  let touched := (List.range 64).filter (fun d => d == c || (windowsOf (s.seq d).base (s.seq d).len).contains c)
  let s1 := s.forAll touched (fun s d => s.seqEnd d 10 e)
  let z := seqInit c
  let s2 := { s1 with seqMem := s1.seqMem.filter (fun p => decide (p.1 / 4096 ≠ c)) }
  s2.modSeq c (fun q =>
    { q with endAction := z.endAction, trigMode := z.trigMode, base := z.base, len := z.len, first := z.first,
             waitTimeout := z.waitTimeout, points := 0, repLeft := 0, earlyStops := 0, startIgnored := 0, trigOverrun := 0,
             armErrEntry := z.armErrEntry, armErrCode := 0, entry := z.entry, cur := 0, cnt := [], endAt := none, aper := none, pend := 0 })

/-! ### Rows -/

/-- SEQ_WRITE. -/
def execSeqWrite (q : Req) (s : State) : Out := .next (s.on (fun d => d.command cmdSeqWrite q))
/-- SEQ_READ. -/
def execSeqRead (q : Req) (s : State) : Out := .next (s.on (fun d => d.command cmdSeqRead q))
/-- SEQ_CONFIG. -/
def execSeqConfig (q : Req) (s : State) : Out := .next (s.on (fun d => d.command cmdSeqConfig q))
/-- SEQ_ARM. -/
def execSeqArm (q : Req) (s : State) : Out := .next (s.on (fun d => d.command cmdSeqArm q))
/-- SEQ_START. -/
def execSeqStart (q : Req) (s : State) : Out := .next (s.on (fun d => d.command cmdSeqStart q))
/-- SEQ_STOP. -/
def execSeqStop (q : Req) (s : State) : Out := .next (s.on (fun d => d.observed (fun d => d.command cmdSeqStop q)))
/-- SEQ_STATUS. -/
def execSeqStatus (q : Req) (s : State) : Out := .next (s.on (fun d => d.command cmdSeqStatus q))
/-- SEQ_START_EVENT (R285, R292). -/
def execSeqStartEvent (ch : ChanId) (s : State) : Out :=
  .next (s.on (fun d => (d.takeEdge (128 + 8 * ch.val)).seqStartAt ch.val (d.latchOf (128 + 8 * ch.val))))
/-- SEQ_STOP_EVENT (R293, R294). -/
def execSeqStopEvent (ch : ChanId) (s : State) : Out :=
  .next (s.on (fun d => d.observed (fun d => (d.takeEdge (129 + 8 * ch.val)).seqStopAt ch.val (d.latchOf (129 + 8 * ch.val)))))
/-- SEQ_TRIGGER (R286). -/
def execSeqTrigger (ch : ChanId) (input : Fin 4) (s : State) : Out :=
  .next (s.on (fun d => d.seqTrigger ch.val input.val))
/-- ENTRY_CURRENT (R277, R282). -/
def execEntryCurrent (ch : ChanId) (s : State) : Out := .next (s.on (fun d => d.observed (fun d => d.entryCurrent ch.val)))
/-- SOURCE_INSTANT (R277). -/
def execSourceInstant (ch : ChanId) (s : State) : Out := .next (s.on (fun d => d.observed (fun d => d.sourceInstant ch.val)))
/-- APERTURE_START (R278). -/
def execApertureStart (ch : ChanId) (s : State) : Out := .next (s.on (fun d => d.observed (fun d => d.apertureStart ch.val)))
/-- APERTURE_END (R278). -/
def execApertureEnd (ch : ChanId) (s : State) : Out := .next (s.on (fun d => d.observed (fun d => d.apertureEnd ch.val)))
/-- WAIT_TIMEOUT (R287). -/
def execWaitTimeout (ch : ChanId) (s : State) : Out := .next (s.on (fun d => d.observed (fun d => d.waitTimeout ch.val)))
/-- END_ACTION (R291). -/
def execEndAction (ch : ChanId) (s : State) : Out := .next (s.on (fun d => d.observed (fun d => d.endAction ch.val)))

end Sys2Proof.Machine
end

