-- ==== Sys2Proof/Machine/Handlers.lean ====
section
/-! DEFINITION. The handler-handshake engines (R300 to R304). -/

namespace Sys2Proof.Machine

/-- The engine field of a request. -/
def Job.hs (j : Job) : Nat := u8 j.p 0
/-- The function that holds an engine: that of its bound channels; none while none is bound (R304). -/
def Dev.hsHolder (s : Dev) (h : Nat) : Option Nat := (chansIn (s.handler h).channels).head?.map s.chanHolder
/-- An engine is free or held by a function. -/
def Dev.hsHeld (s : Dev) (f h : Nat) : Bool := match s.hsHolder h with | some g => g == f | none => true
/-- Whether a bound sequencer is ARMED or RUNNING. -/
def Dev.hsBusy (s : Dev) (m : Nat) : Bool := (chansIn m).any s.seqBusy

/-- Whether a source or consumer belongs to an engine (R300). -/
def hsOwns (h n : Nat) : Bool := n == 40 + h || n == 44 + h || n == 48 + h || (decide (52 ≤ n) && decide (n < 68) && (n - 52) / 4 == h)

/-- An engine that no channel is bound to is free: it leaves the routes of the function that held it (R304, R462). -/
def Dev.hsFree (s : Dev) (h f : Nat) : Dev :=
  if (s.handler h).channels ≠ 0 then s
  else (s.routesCut f (· != 48 + h) (fun n => !hsOwns h n)).clearOverrun (48 + h)

/-- HANDLER_CONFIG's sheet (R300). -/
def cmdHandlerConfig : Cmd :=
  { op := 0x0408, len := some 12,
    args := fun s j => decide (j.hs < 4) && decide (u8 j.p 1 < 2) && decide (1 ≤ u16 j.p 2) && s.chansOk (u64 j.p 4),
    held := fun s j => s.hsHeld j.f j.hs && s.holdsChans j.f (u64 j.p 4),
    unlocked := fun s j => s.chansFree j.f (u64 j.p 4) && s.chansFree j.f (s.handler j.hs).channels,
    state := fun s j => stIf ((s.handler j.hs).state == 0 && !s.hsBusy (s.handler j.hs).channels && !s.hsBusy (u64 j.p 4)
      && !(chansIn (u64 j.p 4)).any s.follower),
    names := fun s j => Res.handler j.hs :: s.chanNames (u64 j.p 4),
    body := fun s j =>
      ((s.modHandler j.hs (fun g => { g with eotMode := u8 j.p 1, eotWidth := u16 j.p 2, channels := u64 j.p 4, bin := 0 })).hsFree
        j.hs j.f, .done stOk []) }

/-- HANDLER_BIN's sheet (R303). -/
def cmdHandlerBin : Cmd :=
  { op := 0x0409, len := some 4,
    args := fun _ j => decide (j.hs < 4) && decide (u8 j.p 1 < 16) && j.rsv 2 2, held := fun s j => s.hsHeld j.f j.hs,
    unlocked := fun s j => s.chansFree j.f (s.handler j.hs).channels,
    state := fun s j =>
      let g := s.handler j.hs
      stIf (g.state != 3 && (g.eotMode == 0 || g.state == 2)),
    names := fun _ j => [Res.handler j.hs],
    body := fun s j =>
      let e := s.edgeAfter s.now
      ((s.advance e).modHandler j.hs (fun g =>
        { g with bin := u8 j.p 1, eotAt := if g.state = 2 then some (g.eotAt.getD (e + 8 * tickPs)) else g.eotAt }),
        .done stOk []) }

/-- HANDLER_STATUS's sheet (R301). -/
def cmdHandlerStatus : Cmd :=
  { op := 0x040A, len := some 8,
    args := fun _ j => decide (j.hs < 4) && j.rsv 1 3 && decide (u32 j.p 4 < 2), held := fun s j => s.hsHeld j.f j.hs,
    body := fun s j =>
      let g := s.handler j.hs
      (if (u32 j.p 4).testBit 0 then s.modHandler j.hs (fun g => { g with accepted := 0, rejected := 0 }) else s,
        .done stOk (w8 g.state ++ w8 g.bin ++ zeros 2 ++ w64 g.channels ++ w32 g.accepted ++ w32 g.rejected)) }

/-- HS_FAULT pulses for 1 µs from `t`: one pulse for each rejected SOT, an edge of its own while another is asserted (R300). -/
def Dev.hsFault (s : Dev) (h t : Nat) : Dev := if s.sys.power = 3 then s else s.pulseGo 6 (44 + h) t 1000000 true

/-- An SOT latched at an edge (R301). A sequencer that a stop of the same edge has ended counts as ARMED at that edge. -/
def Dev.hsSot (s0 : Dev) (h : Nat) : Dev :=
  let e := s0.latchOf (48 + h)
  let s := (s0.takeEdge (48 + h)).advance e
  let g := s.handler h
  let cs := chansIn g.channels
  if cs.isEmpty then s
  else if g.state = 0 && cs.all (fun c => (s.seq c).armedAt e || ((s.seq c).state == 0 && (s.seq c).stopEdge == some e)) then
    let s1 := s.forAll cs (fun s c => s.seqStartAt c e)
    s1.modHandler h (fun g =>
      { g with state := 1, readyOn := true, readyAt := e, accepted := (g.accepted + 1) % 2 ^ 32,
               waits := bitMap (fun c => g.channels.testBit c && s1.seqBusy c) 64, lastEnd := e })
  else (s.modHandler h (fun g => { g with rejected := sat32n (g.rejected + 1) })).hsFault h e

/-- HS_READY negates and the EOT pulse starts at `t` (R303). -/
def Dev.hsPulse (s : Dev) (h t : Nat) : Dev :=
  let w := (s.handler h).eotWidth * tickPs
  ((s.advance t).modHandler h (fun g =>
    { g with state := 3, readyOn := false, readyAt := t, eotAt := none, eotEnd := some (t + w) })).pulseFor (48 + h) t w

/-- HS_EOT: every bound sequencer has ended since the SOT, or the EOT of WAIT_BIN is due (R303). -/
def Dev.hsEot (s : Dev) (h : Nat) : Dev :=
  let g := s.handler h
  if g.state = 1 && g.waits = 0 then
    if g.eotMode = 0 then s.hsPulse h (s.edgeAt g.lastEnd) else s.modHandler h (fun g => { g with state := 2 })
  else if g.state = 2 then (match g.eotAt with | some t => s.hsPulse h t | none => s)
  else s

/-- A channel leaves its function: it leaves every engine that binds it (R304). -/
def Dev.hsRelease (s : Dev) (c : Nat) : Dev :=
  s.forAll (List.range 4) (fun s h =>
    let g := s.handler h
    if !g.channels.testBit c then s
    else
      let m := Nat.xor g.channels (2 ^ c)
      let s1 := s.modHandler h (fun g => { g with channels := m, waits := g.waits &&& m })
      if m = 0 && (g.state = 1 || g.state = 2) then
        (s1.modHandler h (fun g => { g with state := 0, readyOn := false, readyAt := s.now, eotAt := none })).hsFault h s.now
      else s1)

/-- HANDLER_CONFIG. -/
def execHandlerConfig (q : Req) (s : State) : Out := .next (s.on (fun d => d.observed (fun d => d.command cmdHandlerConfig q)))
/-- HANDLER_BIN. -/
def execHandlerBin (q : Req) (s : State) : Out := .next (s.on (fun d => d.observed (fun d => d.command cmdHandlerBin q)))
/-- HANDLER_STATUS. -/
def execHandlerStatus (q : Req) (s : State) : Out := .next (s.on (fun d => d.command cmdHandlerStatus q))
/-- HS_SOT (R301). -/
def execHsSot (h : HsId) (s : State) : Out := .next (s.on (fun d => d.observed (fun d => d.hsSot h.val)))
/-- HS_EOT (R303). -/
def execHsEot (h : HsId) (s : State) : Out := .next (s.on (fun d => d.observed (fun d => d.hsEot h.val)))
/-- EOT_PULSE_END: the engine returns to IDLE (R303). -/
def execEotPulseEnd (h : HsId) (s : State) : Out :=
  .next (s.on (fun d => d.observed (fun d =>
    match (d.handler h.val).eotEnd with
    | none => d
    | some t => (d.advance t).modHandler h.val (fun g => { g with state := 0, eotEnd := none }))))

end Sys2Proof.Machine
end

