-- ==== Sys2Proof/Machine/Results.lean ====
section
/-! DEFINITION. The results commands, captures, rings and Caravan (spec/09_results.md, R541 to R543). -/

namespace Sys2Proof.Machine

/-! ### Rings (R327 to R335) -/

/-- The ring field of a request. -/
def Job.ring (j : Job) : Nat := u8 j.p 0
/-- The size of a ring in bytes. -/
def Ring.bytes (g : Ring) : Nat := 2 ^ (g.size + 12)
/-- The enabled rings of a function. -/
def Fn.liveRings (f : Fn) : List Ring := (f.rings.map (·.2)).filter (·.enabled)
/-- Bytes of a function's enabled rings. -/
def Fn.ringBytes (f : Fn) : Nat := f.liveRings.foldl (fun a g => a + g.bytes) 0
/-- The extents of ring space in use: offset and size (R329). -/
def Dev.extents (s : Dev) : List (Nat × Nat) :=
  s.fns.flatMap (fun p => p.2.liveRings.map (fun g => (g.space, g.bytes)))

/-- The ring space holds 2^45 bytes. -/
def ringSpace : Nat := 2 ^ 45
/-- An extent is free. -/
def spaceFree (used : List (Nat × Nat)) (o n : Nat) : Bool :=
  decide (o + n ≤ ringSpace) && used.all (fun e => decide (o + n ≤ e.1) || decide (e.1 + e.2 ≤ o))
/-- An aligned free extent of `n` bytes (R329): the one that the free value `pick` names, where it is free; else one at the
end of another extent. -/
def spaceFor (used : List (Nat × Nat)) (n pick : Nat) : Option Nat :=
  let free := pick % (ringSpace / n) * n
  (free :: 0 :: used.map (fun e => ceilDiv (e.1 + e.2) n * n)).find? (fun o => spaceFree used o n)

/-- Argument checks of RES_RING_CONFIG (R327). -/
def ringArgOk (j : Job) : Bool :=
  let l := u8 j.p 2
  let b := u64 j.p 8
  decide (j.ring < 8) && decide (u8 j.p 1 < 2)
    && (if u8 j.p 1 = 0 then j.rsv 2 30
        else decide (16 ≤ l) && decide (l ≤ 35) && decide (u8 j.p 3 < 4) && decide (u8 j.p 6 ≤ 2) && j.rsv 7 1 && b % 4096 == 0
          && decide (b + 2 ^ l ≤ 2 ^ 64) && u64 j.p 16 % 8 == 0 && decide (u32 j.p 24 < 2 ^ (l - 12)) && j.rsv 28 4)

/-- A ring is enabled (R329, R335). -/
def Dev.enableRing (s : Dev) (f r space : Nat) (p : List Byte) : Dev :=
  (s.modFn f (fun x => x.modRing r (fun g =>
    { ringInit 0 with enabled := true, base := u64 p 8, size := u8 p 2 - 12, sealOn := (u8 p 3).testBit 0, roData := (u8 p 3).testBit 1,
                      flushUs := u16 p 4, irqMode := u8 p 6, wbAddr := u64 p 16, wmark := u32 p 24, lostSince := g.lostSince,
                      fullPs := g.fullPs, wmarkHit := g.wmarkHit, tailErr := g.tailErr, space := space }))).takeAll f

/-- RES_RING_CONFIG's sheet. -/
def cmdResRingConfig : Cmd :=
  { op := 0x0501, len := some 32, args := fun _ j => ringArgOk j, held := fun s j => decide (j.ring < (s.fn j.f).ringCount),
    state := fun s j =>
      let on := ((s.fn j.f).ring j.ring).enabled
      let n := 2 ^ u8 j.p 2
      if (u8 j.p 1 == 1) == on then stState
      else if u8 j.p 1 = 0 then 0
      else if (s.fn j.f).ringBytes + n > (s.fn j.f).quota || s.fns.foldl (fun a p => a + p.2.ringBytes) 0 + n > ringSpace
        || (spaceFor s.extents n s.freeVal).isNone then stResource else 0,
    names := fun _ j => [Res.ring j.f j.ring],
    body := fun s j =>
      if u8 j.p 1 = 0 then
        (if 200 ≤ j.boundUs then (s.disableRing j.f j.ring, .done stOk (w64 0)) else (s, .later []))
      else
        let o := (spaceFor s.extents (2 ^ u8 j.p 2) s.freeVal).getD 0
        (s.freeNext.enableRing j.f j.ring o j.p, .done stOk (w64 o)) }

/-- FULL_US of a ring. -/
def Dev.fullUs (s : Dev) (g : Ring) : Nat :=
  min ((g.fullPs + (match g.fullAt with | some t => s.now - t | none => 0)) / 1000000) 0xFFFFFFFF

/-- RES_RING_STATUS's sheet (R332). -/
def cmdResRingStatus : Cmd :=
  { op := 0x0502, len := some 8, args := fun _ j => decide (j.ring < 8) && j.rsv 1 3 && decide (u32 j.p 4 < 2),
    held := fun s j => decide (j.ring < (s.fn j.f).ringCount),
    body := fun s j =>
      let g := (s.fn j.f).ring j.ring
      (if (u32 j.p 4).testBit 0 then
          s.modFn j.f (fun x => x.modRing j.ring (fun g => { g with fullPs := 0, fullAt := g.fullAt.map (fun _ => s.now) }))
        else s,
        .done stOk (w32 g.head ++ w32 g.tail ++ w32 (if g.enabled then 2 ^ g.size else 0)
          ++ w8 (bitAt g.enabled 0 + bitAt g.full 1 + bitAt g.wmarkHit 2) ++ zeros 3 ++ w64 g.blockSeq ++ w64 g.space
          ++ w32 (s.fullUs g) ++ zeros 4)) }

/-- RES_FLUSH's sheet (R333). -/
def cmdResFlush : Cmd :=
  { op := 0x0506, len := some 4, args := fun _ j => j.rsv 1 3,
    held := fun s j => decide (j.ring < 2 ^ (s.fn j.f).ringCount),
    state := fun s j => stIf ((bitsSet j.ring 8).all (fun r => ((s.fn j.f).ring r).enabled)),
    names := fun _ j => (bitsSet j.ring 8).map (Res.ring j.f),
    body := fun s j => (s.forAll (bitsSet j.ring 8) (fun s r => s.closeBlock j.f r true), .done stOk []) }

/-! ### Channels -/

/-- RES_CHAN_CONFIG's sheet (R317). -/
def cmdResChanConfig : Cmd :=
  { op := 0x0503, len := some 16,
    args := fun s j =>
      let m := u8 j.p 1
      s.chanOk j.ch && decide (m < 16) && (!m.testBit 0 || decide (u8 j.p 2 < 8) || u8 j.p 2 == 0xFF)
        && (!m.testBit 1 || decide (u8 j.p 3 ≤ 3)) && (!m.testBit 2 || (decide (1 ≤ u32 j.p 4) && decide (u32 j.p 4 ≤ 400000000)))
        && (!m.testBit 3 || (decide (u16 j.p 8 ≤ 32255) && decide (1 ≤ u16 j.p 10) && decide (u16 j.p 8 + u16 j.p 10 ≤ 32256)
          && decide (u8 j.p 12 < 2)))
        && j.rsv 13 3,
    held := fun s j => s.holdsChan j.f j.ch
      && (!(u8 j.p 1).testBit 0 || u8 j.p 2 == 0xFF || decide (u8 j.p 2 < (s.fn j.f).ringCount)),
    unlocked := fun s j => s.chanFree j.f j.ch,
    state := fun s j =>
      let r := s.res j.ch
      let m := u8 j.p 1
      stIf (!s.follower j.ch && (m &&& 13 == 0 || (r.stream == 0 && r.capAt s.now == .idle))
        && !(m.testBit 1 && u8 j.p 3 == 2 && s.ratePending)),
    names := fun s j => s.chanCmdNames j.ch,
    body := fun s j =>
      let m := u8 j.p 1
      let b := s.boundaryIn 1
      (s.modRes j.ch (fun r =>
        { r with st := if m.testBit 0 then { r.st with ring := u8 j.p 2, seq := 0 } else r.st,
                 aperture := if m.testBit 2 then u32 j.p 4 else r.aperture,
                 pre := if m.testBit 3 then u16 j.p 8 else r.pre, post := if m.testBit 3 then u16 j.p 10 else r.post,
                 capMode := if m.testBit 3 then u8 j.p 12 else r.capMode,
                 stream := if m.testBit 1 then u8 j.p 3 else r.stream,
                 changes := if m.testBit 1 then r.changes ++ [(b, u8 j.p 3)] else r.changes,
                 capNum := if m.testBit 1 then 0 else r.capNum }), .done stOk []) }

/-- RES_MEASURE's execution. -/
def measBody (s : Dev) (j : Job) : Dev × Result :=
  let mode := u8 j.p 8
  let cs := j.chans
  if mode = 0 then (s.forAll cs Dev.measGone, .done stOk (w64 0))
  else
    let b := s.boundaryIn 1
    let ev := u8 j.p 9 == 1
    let m : Meas := { aper := s.newAper mode (u32 j.p 12) b 0xFFFFFFFF, start := if ev then none else some b, route := u8 j.p 10 }
    (s.forAll cs (fun s c =>
      let s1 := s.modRes c (fun r => { r with meas := some m })
      if ev then s1.attach (128 + 8 * c + 7) (u8 j.p 10) else s1), .done stOk (w64 (if ev then 0 else s.nsAt b)))

/-- RES_MEASURE's sheet (R278). -/
def cmdResMeasure : Cmd :=
  { op := 0x0504, len := some 16,
    args := fun s j =>
      s.chansOk j.map && decide (u8 j.p 8 ≤ 3) && decide (u8 j.p 9 < 2) && (u8 j.p 9 == 1 || u8 j.p 10 == 0) && j.rsv 11 1
        && s.apertureOk (u8 j.p 8) (u32 j.p 12),
    held := fun s j => s.holdsChans j.f j.map && (u8 j.p 8 == 0 || u8 j.p 9 == 0 || s.routeHolder (u8 j.p 10) == j.f),
    unlocked := fun s j => s.chansFree j.f j.map,
    state := fun s j =>
      stIf (!j.chans.any s.follower && (if u8 j.p 8 = 0 then j.chans.all (fun c => (s.res c).meas.isSome)
        else !s.ratePending && j.chans.all (fun c =>
          (s.res c).meas.isNone && !s.seqBusy c && (s.res c).st.ring != 0xFF && !(s.team c).any s.calActive))),
    names := fun s j => if j.chans.any s.calActive then [] else s.chanNames j.map, body := measBody }

/-- RES_CAPTURE's execution (R322, R326). -/
def captureBody (s : Dev) (j : Job) : Dev × Result :=
  if u8 j.p 8 = 1 then
    let b := s.boundaryIn 1
    (s.forAll j.chans (fun s c => s.modRes c (fun r =>
      if r.cap == .armed then r else { r with cap := .armed, armAt := b, histFrom := b, hist := [], disarm := false })),
      .done stOk (w64 (s.nsAt b)))
  else
    let e := s.edgeAfter s.now
    ((s.advance e).forAll j.chans (fun s c => s.modRes c (fun r =>
      if r.cap == .triggered then { r with disarm := true } else { r with cap := .idle, hist := [] })),
      .done stOk (w64 (s.nsAt e)))

/-- RES_CAPTURE's sheet. -/
def cmdResCapture : Cmd :=
  { op := 0x0505, len := some 16,
    args := fun s j => s.chansOk j.map && decide (u8 j.p 8 < 2) && j.rsv 9 7, held := fun s j => s.holdsChans j.f j.map,
    unlocked := fun s j => s.chansFree j.f j.map,
    state := fun s j =>
      if j.chans.any s.follower then stState
      else if u8 j.p 8 = 0 then stIf (j.chans.all (fun c => (s.res c).capAt s.now != .idle))
      else if !(!s.ratePending && j.chans.all (fun c =>
        let r := s.res c
        r.stream == 3 && r.capAt s.now == .idle && r.st.ring != 0xFF && !(s.team c).any s.calActive)) then stState
      else if j.chans.all (fun c => decide ((s.res c).pre + (s.res c).post ≤ s.captureFree c)) then 0 else stResource,
    names := fun s j => if j.chans.any s.calActive then [] else s.chanNames j.map, body := captureBody }

/-- CAP_STATE. -/
def CapState.code (c : CapState) : Nat :=
  match c with | .idle => 0 | .armed => 1 | .triggered => 2 | .rearm => 3 | .waitSpace => 4

/-- RES_CHAN_STATUS's sheet (R320). -/
def cmdResChanStatus : Cmd :=
  { op := 0x0507, len := some 8, args := fun s j => s.chanOk j.ch && j.rsv 1 3 && decide (u32 j.p 4 < 2),
    held := fun s j => s.holdsChan j.f j.ch, state := fun s j => stIf (!s.follower j.ch),
    body := fun s j =>
      let r := s.res j.ch
      (if (u32 j.p 4).testBit 0 then
          s.modRes j.ch (fun r => { r with missed := 0, st := { r.st with lost := 0, codeErr := 0 } }) else s,
        .done stOk (w8 r.stream ++ w8 (r.capAt s.now).code ++ w16 r.st.seq ++ w32 (s.wsUsed j.ch) ++ w32 r.st.lost ++ w32 r.missed
          ++ w32 r.captures ++ w32 r.st.codeErr)) }

/-! ### Measurements and streams -/

/-- MEAS_EVENT: the event that the armed RES_MEASURE waits for is latched (R278, R285). From then until the aperture starts the
consumer is busy (R463). -/
def Dev.measEvent (s0 : Dev) (c : Nat) : Dev :=
  let n := 128 + 8 * c + 7
  let s := s0.takeEdge n
  match (s.res c).meas with
  | none => s
  | some m =>
    match m.start with
    | some t => if s0.hasEdge n && decide (s0.edgeTime n < t) then s.setOverrun n else s
    | none =>
      if s.calActive c then s
      else
        let t := s.instantAt (s0.latchOf n)
        s.modRes c (fun r => { r with meas := some { m with start := some t, aper := { m.aper with ta := t, te := t } } })

/-- BOX_APERTURE_END: an aperture of an earlier STREAM, or the present one, whose successor starts where it ends (R317). -/
def Dev.boxEnd (s : Dev) (c : Nat) : Dev :=
  let r := s.res c
  let over_ := fun (a : Option Aper) => match a with | some x => x.over_ | none => false
  match r.boxOld.find? Aper.over_ with
  | some a => (s.modRes c (fun r => { r with boxOld := eraseFirst Aper.over_ r.boxOld })).formMeas c a a.te
  | none => if over_ r.box then boxNext s r.box else s
where
  /-- The present aperture ends and the next one starts. -/
  boxNext (s : Dev) (b : Option Aper) : Dev :=
    match b with
    | some a => (s.modRes c (fun r => { r with box := some (s.newAper 2 r.aperture a.te 0xFFFFFFFF) })).formMeas c a a.te
    | none => s

/-! ### Captures (R322 to R326) -/

/-- The pairs of a history as CAPTURE records, oldest first: `k` is the place of the newest before the trigger sample. -/
def histRecs (k : Nat) (l : List Rec) : List Rec :=
  match l with
  | [] => []
  | r :: rest => histRecs (k + 1) rest ++ [if r.type_ = 6 then r else { r with idx := ofSigned 32 (-(k : Int)) }]

/-- A trigger of an ARMED capture (R323, R324): CAP_START, and the pretrigger pairs, which keep their slots. A pair before the
trigger sample that is still on the Seam counts and follows when it arrives. -/
def Dev.capTrigger (s : Dev) (c e : Nat) : Dev :=
  let r := s.res c
  let t := s.instantAt e
  let newest := match r.hist with | x :: _ => some x.at_ | [] => none
  let p := bit (decide (r.pre > 0) && decide (r.histFrom ≤ s.tb.lastSample) && decide (s.tb.lastSample < t)
    && newest != some s.tb.lastSample)
  let held := r.hist.take (r.pre - p)
  let n := held.length + p
  let start := s.recAt c c 3 t n r.post r.capNum (s.rangeFlags c ||| bitAt (decide (n < r.pre)) 5)
  let s1 := (s.formRec start).modRes c (fun r =>
    { r with cap := .triggered, trigAt := t, capNext := -(p : Int), hist := [], captures := (r.captures + 1) % 2 ^ 32,
             capNum := (r.capNum + 1) % 2 ^ 32, disarm := false })
  (((histRecs (p + 1) held).foldl (fun s x => s.formPair x) s1).take c).pulseAt (448 + 4 * c + 2) e

/-- A trigger that no capture takes (R325). -/
def Dev.capMissed (s : Dev) (c : Nat) : Dev :=
  (s.modRes c (fun r => { r with missed := sat32n (r.missed + 1) })).setOverrun (128 + 8 * c + 6)

/-- WS_TRIG (R318, R323, R325). An edge at an IDLE capture counts during calibration. DESIGN CHOICE, log entry 162. -/
def Dev.wsTrig (s0 : Dev) (c : Nat) : Dev :=
  let e := s0.latchOf (128 + 8 * c + 6)
  let s := (s0.takeEdge (128 + 8 * c + 6)).advance e
  let r := s.res c
  match r.cap with
  | .idle => if s.calActive c then s.capMissed c else s
  | .armed => if e < r.armAt then s else if s.calActive c then s.capMissed c else s.capTrigger c e
  | _ => s.capMissed c

/-- A capture arms again: its history restarts with the next period (R325). -/
def Dev.capAgain (s : Dev) (c : Nat) : Dev :=
  let r := s.res c
  if r.pre + r.post ≤ s.captureFree c then
    s.modRes c (fun r => { r with cap := .armed, armAt := s.now, histFrom := s.boundaryAt (s.now + 1), hist := [] })
  else s.modRes c (fun r => { r with cap := .waitSpace })

/-- REARM_EXPIRY (R325). -/
def Dev.rearmExpiry (s : Dev) (c : Nat) : Dev :=
  let r := s.res c
  if r.cap != .rearm then s
  else
    let s1 := s.advance r.rearmAt
    if r.capMode = 0 then s1.modRes c (fun r => { r with cap := .idle }) else s1.capAgain c

/-! ### Caravan (R331 to R333, R541 to R543) -/

/-- The number of a stream. -/
def streamNo (x : StreamId) : Nat := match x with | .chan c => c.val | .group f g => groupStream f.val g.val

/-- FLUSH_TIMER (R333). -/
def Dev.flushTimer (s : Dev) (f r : Nat) : Dev :=
  let g := (s.fn f).ring r
  match g.openSince with
  | none => s
  | some t => if g.flushUs = 0 then s else (s.advance (t + g.flushUs * 1000000)).closeBlock f r true

/-- Whether a function may have one more caravan admitted, and the pool has a credit (R543). -/
def Dev.carCredit (s : Dev) (f : Nat) : Bool :=
  let a := s.tg.caravans.filter (·.admitted)
  decide (a.length < 32) && decide ((a.filter (fun c => c.fn == f)).length < 4)

/-- Deficit round robin over caravans (R542): from function `cur` on, each new turn adds the weight that the function's
caravan started waiting with (R544), and the first function whose deficit covers its caravan is served. -/
def Dev.drrCaravan (s : Dev) (fuel cur : Nat) (fs : List Nat) (need weight : Nat → Nat) : Dev × Option Nat :=
  match fuel with
  | 0 => (s, none)
  | k + 1 =>
    if fs.contains cur && decide (need cur ≤ (s.fn cur).deficitCar) then
      (s.modFn cur (fun r => { r with deficitCar := r.deficitCar - need cur }), some cur)
    else
      let nxt := (fs.filter (fun f => decide (f > cur))).headD (fs.headD 0)
      (s.modFn nxt (fun r => { r with deficitCar := r.deficitCar + weight nxt })).drrCaravan k nxt fs need weight

/-- CARAVAN_ADMIT (none while CARAVAN is being reset, R568): the function whose waiting caravan has the highest effective class
among those with a credit, and of that function the caravan that closed first (R541 to R543). -/
def Dev.caravanAdmit (s : Dev) : Dev :=
  let w := s.tg.caravans.filter (fun c => !c.admitted && s.carCredit c.fn && (s.fn c.fn).flr == .idle)
  if w.isEmpty || (s.sys.blockReset.any (fun p => p.1 == 16)) then s
  else
    let top := w.foldl (fun m c => max m c.eff) 0
    let l := w.filter (fun c => c.eff == top)
    let fs := sortedFns (l.map (·.fn))
    let first := fun (f : Nat) => w.find? (fun c => c.fn == f)
    let need := fun (f : Nat) => match first f with | some c => c.rings.length | none => 0
    let weight := fun (f : Nat) => match first f with | some c => c.weight | none => 0
    let r := s.drrCaravan (9 * fs.length + 1) s.tg.lastCar fs need weight
    match r.2 with
    | none => r.1
    | some f =>
      let take := updFirst (fun (c : Caravan) => c.fn == f && !c.admitted) (fun c => { c with admitted := true })
      r.1.modTg (fun t => { t with lastCar := f, caravans := take t.caravans })

/-- The first block of a ring in a caravan may be written: every block before it waits for a FULL ring (R321, R333). -/
def Dev.blockTurn (s : Dev) (f r : Nat) (l : List Nat) : Bool :=
  match l with
  | [] => false
  | x :: rest => if x = r then !((s.fn f).ring r).full else ((s.fn f).ring x).full && s.blockTurn f r rest

/-- The list without the first occurrence of a number. -/
def eraseOne (x : Nat) (l : List Nat) : List Nat :=
  match l with
  | [] => []
  | y :: r => if x = y then r else y :: eraseOne x r

/-- BLOCK_WRITE (R331, R543): the writes of one block, its place in the caravan, and the credit of a finished caravan. -/
def Dev.blockWrite (s : Dev) (f r : Nat) : Dev × List (Nat × List Byte) :=
  let mine := fun (c : Caravan) => c.fn == f && c.admitted && c.rings.contains r
  match s.tg.caravans.find? mine with
  | none => (s, [])
  | some c =>
    if !s.blockTurn f r c.rings then (s, [])
    else
      let upd := updFirst mine (fun c => { c with rings := eraseOne r c.rings }) s.tg.caravans
      (s.modTg (fun t => { t with caravans := upd.filter (fun c => !c.rings.isEmpty) })).writeBlock f r

/-! ### Leaving a function (R319) -/

/-- The records of a channel go out of a ring's blocks; a block that they leave empty goes, and its place in a caravan. -/
def Dev.dropRecs (s : Dev) (f r c : Nat) : Dev :=
  let keep := fun (l : List Rec) => l.filter (fun x => x.stream != c)
  let g := (s.fn f).ring r
  let closed := g.closed.map (fun b => { b with recs := keep b.recs })
  let gone := (closed.filter (fun b => b.recs.isEmpty)).length
  let recs := keep g.openRecs
  let s1 := s.modFn f (fun x => x.modRing r (fun g =>
    { g with openRecs := recs, openSince := if recs.isEmpty then none else g.openSince,
             closed := closed.filter (fun b => !b.recs.isEmpty) }))
  let out := fun (l : List Caravan) =>
    (updFirst (fun (c : Caravan) => c.fn == f && c.rings.contains r) (fun c => { c with rings := eraseOne r c.rings }) l.reverse).reverse
  s1.modTg (fun t => { t with caravans :=
    ((List.range gone).foldl (fun l _ => out l) t.caravans).filter (fun c => !c.rings.isEmpty) })

/-- A channel leaves its function: its Waystation, measurement and capture go, with its records that wait in blocks, and its
settings return to their reset states (R319). The counters of RES_CHAN_STATUS become 0. DESIGN CHOICE, log entry 164. -/
def Dev.resRelease (s : Dev) (c : Nat) : Dev :=
  let f := s.chanHolder c
  let keep := (s.res c)
  let s1 := (s.detach (128 + 8 * c + 7)).modRes c (fun _ => { resInit c with lastV := keep.lastV, lastI := keep.lastI })
  s1.forAll (List.range 8) (fun s r => s.dropRecs f r c)

/-! ### Rows -/

/-- RES_RING_CONFIG. -/
def execResRingConfig (q : Req) (s : State) : Out := .next (s.on (fun d => d.command cmdResRingConfig q))
/-- RES_RING_STATUS. -/
def execResRingStatus (q : Req) (s : State) : Out := .next (s.on (fun d => d.command cmdResRingStatus q))
/-- RES_CHAN_CONFIG. -/
def execResChanConfig (q : Req) (s : State) : Out := .next (s.on (fun d => d.command cmdResChanConfig q))
/-- RES_MEASURE. -/
def execResMeasure (q : Req) (s : State) : Out := .next (s.on (fun d => d.command cmdResMeasure q))
/-- RES_CAPTURE. -/
def execResCapture (q : Req) (s : State) : Out := .next (s.on (fun d => d.command cmdResCapture q))
/-- RES_FLUSH. -/
def execResFlush (q : Req) (s : State) : Out := .next (s.on (fun d => d.command cmdResFlush q))
/-- RES_CHAN_STATUS. -/
def execResChanStatus (q : Req) (s : State) : Out := .next (s.on (fun d => d.command cmdResChanStatus q))
/-- MEAS_EVENT (R278). -/
def execMeasEvent (ch : ChanId) (s : State) : Out := .next (s.on (fun d => d.measEvent ch.val))
/-- BOX_APERTURE_END (R317). -/
def execBoxApertureEnd (ch : ChanId) (s : State) : Out := .next (s.on (fun d => d.boxEnd ch.val))
/-- WS_TRIG (R323). -/
def execWsTrig (ch : ChanId) (s : State) : Out := .next (s.on (fun d => d.wsTrig ch.val))
/-- REARM_EXPIRY (R325). -/
def execRearmExpiry (ch : ChanId) (s : State) : Out := .next (s.on (fun d => d.rearmExpiry ch.val))
/-- WAIT_SPACE_ARM (R325). -/
def execWaitSpaceArm (ch : ChanId) (s : State) : Out :=
  .next (s.on (fun d => if (d.res ch.val).cap == .waitSpace then d.capAgain ch.val else d))
/-- GAP_INSERT (R320). -/
def execGapInsert (stream : StreamId) (s : State) : Out :=
  .next (s.on (fun d => (d.insertGap (streamNo stream)).take (streamNo stream)))
/-- FLUSH_TIMER (R333). -/
def execFlushTimer (fn : FnId) (ring : RingId) (s : State) : Out := .next (s.on (fun d => d.flushTimer fn.val ring.val))
/-- CARAVAN_ADMIT (R543). -/
def execCaravanAdmit (s : State) : Out := .next (s.on Dev.caravanAdmit)
/-- BLOCK_WRITE (R331). -/
def execBlockWrite (fn : FnId) (ring : RingId) (s : State) : Out := .next (s.onWith (s.dev.blockWrite fn.val ring.val))

end Sys2Proof.Machine
end

