-- ==== Sys2Proof/Machine/SurveyRows.lean ====
section
/-! DEFINITION. The survey converter: its table, scans, conversions, results, windows and urgent requests
(spec/11_survey.md). -/

namespace Sys2Proof.Machine

/-! ### Entries (R377, R378) -/

/-- WIN_EN. -/
def svyWinEn (b : List Byte) : Bool := (u8 b 1).testBit 3
/-- DIFF. -/
def svyDiff (b : List Byte) : Bool := (u8 b 1).testBit 4
/-- 256 × HYST. -/
def svyHyst (b : List Byte) : Int := 256 * (u16 b 6 : Int)

/-- A source that may be named (R373). -/
def Dev.svySourceOk (s : Dev) (n : Nat) : Bool := decide (n ≤ 216) && (decide (n < 64) || decide (n ≥ 192) || s.chanOk ((n - 64) / 2))

/-- An entry's own fields are valid (R378). -/
def Dev.svyFieldsOk (s : Dev) (b : List Byte) : Bool :=
  s.svySourceOk (u8 b 0) && decide (u8 b 1 < 32) && decide (1 ≤ u16 b 4) && decide (u16 b 4 ≤ 4096)
    && (if svyWinEn b then decide (s32 b 8 + svyHyst b ≤ s32 b 12 - svyHyst b) else allZero b 6 10)
    && f32Finite (u32 b 16) && f32Finite (u32 b 20) && allZero b 24 8

/-- An entry of a table. -/
def svyEntry (t : Tbl (List Byte)) (e : Nat) : List Byte := tblGet entryInit t e

/-- Entry `e` of a table is valid (R378). -/
def Dev.svyValid (s : Dev) (t : Tbl (List Byte)) (e : Nat) : Bool :=
  let b := svyEntry t e
  let p := svyEntry t (e - 1)
  s.svyFieldsOk b && (!svyDiff b || (e != 0 && u8 p 0 == u8 b 0 && !svyDiff p))

/-! ### Conversions (R380, R391, R393) -/

/-- A cause of a pause is present (R393). -/
def Dev.svyPauses (s : Dev) : Bool :=
  s.svy.pausedCal || s.svy.pausedPwr || s.sys.blockReset.any (fun p => p.1 == 32)
/-- The table is paused: a pause takes effect at the end of the running entry (R393). -/
def Dev.svyPaused (s : Dev) : Bool := s.svyPauses && s.svy.run.isNone
/-- The pair runs on one core (R376). -/
def Dev.svyDegraded (s : Dev) : Bool := s.svy.pair.faultyA || s.svy.pair.faultyB

/-- T of an entry in ticks (R380); of a bank's VIO conversion, a free value up to the bound of an entry (log entry 83). -/
def Dev.svyTicks (s : Dev) (k : SvyConv) : Nat :=
  if k.bank.isSome then 1 + Config.freeDelay s.freeCtr % 69631
  else u16 k.bytes 2 + (if s.svyDegraded then u16 k.bytes 4 else ceilDiv (u16 k.bytes 4) 2)

/-- A conversion starts at an edge. -/
def Dev.svyRun (s : Dev) (k : SvyConv) (t : Nat) : Dev :=
  (s.modSvy (fun y => { y with run := some { conv := k, endAt := t + s.svyTicks k * tickPs, supp := s.svySuppressed k.bytes } })).freeNext

/-- The instant from which the next scan may begin (R382 to R384); none while none is due. -/
def Dev.scanDue (s : Dev) : Option Nat :=
  let y := s.svy
  if y.scanning || s.svyPaused || y.faultState || y.cfg.mode = 0 then none
  else if y.cfg.mode = 1 then some s.now
  else if y.fallback then some s.now
  else y.starts.head?

/-- Queued urgent requests end with ST_STATE (R376, R393). -/
def Dev.svyRefuse (s : Dev) : Dev :=
  s.svy.urgent.foldl (fun s k => s.finish? k.cmd stState []) (s.modSvy (fun y => { y with urgent := [] }))

/-- What converts next at an edge: an urgent request, at most one between two table entries, or the table's next entry. -/
def Dev.svyNext (s : Dev) (t : Nat) : Dev :=
  let y := s.svy
  if s.svyPaused || y.faultState then s.svyRefuse
  else
    let hold := y.urgentRan && (y.scanning || (match s.scanDue with | some d => decide (d ≤ t) | none => false))
    match y.urgent with
    | k :: r =>
      if !hold then (s.modSvy (fun y => { y with urgent := r, urgentRan := true })).svyRun k t
      else if y.scanning then
        (s.modSvy (fun y => { y with urgentRan := false })).svyRun
          { entry := y.next, bytes := svyEntry y.active y.next, fn := 0, cmd := none, bank := none } t
      else s
    | [] =>
      if y.scanning then
        (s.modSvy (fun y => { y with urgentRan := false })).svyRun
          { entry := y.next, bytes := svyEntry y.active y.next, fn := 0, cmd := none, bank := none } t
      else s

/-- An urgent request joins the queue; it starts at the next edge when nothing converts (R391). -/
def Dev.svyQueue (s : Dev) (k : SvyConv) : Dev :=
  let s1 := s.modSvy (fun y => { y with urgent := y.urgent ++ [k] })
  if s.svy.run.isSome then s1 else s1.svyNext (s1.edgeAfter s1.now)

/-- A pause begins or ends (R393): it takes effect at the end of the running entry; the watchdog does not run meanwhile. -/
def Dev.svyPause (s : Dev) (cal pwr : Bool) : Dev :=
  let was := s.svyPauses
  let end_ := match s.svy.run with | some r => max r.endAt s.now | none => s.now
  let s1 := s.modSvy (fun y => { y with pausedCal := cal, pausedPwr := pwr })
  if s1.svyPauses && !was then
    let s2 := s1.modSvy (fun y => { y with pauseAt := end_ })
    if s.svy.run.isNone then s2.svyRefuse else s2
  else if was && !s1.svyPauses then
    -- a start or a change of MODE within the pause: the watchdog runs from its end
    let s2 := s1.modSvy (fun y =>
      { y with wdFrom := if y.wdFrom > y.pauseAt then max y.wdFrom s.now else y.wdFrom + (s.now - y.pauseAt) })
    if s2.svy.run.isNone then s2.svyNext (s2.edgeAfter s2.now) else s2
  else s1

/-! ### Configuration and starts (R382 to R385) -/

/-- A configuration takes effect (R385). -/
def Dev.svyApply (s : Dev) (c : SvyCfg) (t : Nat) : Dev := s.modSvy (fun y => y.apply c t)

/-- A scan ends, complete or interrupted: SVY_SCAN_END, and a configuration that waited takes effect. -/
def Dev.scanEnd (s : Dev) (t : Nat) : Dev :=
  let s1 := (s.modSvy (fun y => { y with scanning := false, last := none })).pulse 960
  match s1.svy.newCfg with
  | some c => s1.svyApply c t
  | none => s1

/-- A start at `t` (R383, R384): it ends fallback, and it waits, is pending, or is missed. -/
def Dev.svyStart (s : Dev) (t : Nat) : Dev × Bool :=
  let y := s.svy
  let missed := decide (y.starts.length ≥ (if y.scanning then 1 else 2))
  (s.modSvy (fun y => { y with fallback := false, wdFrom := t, missed := if missed then sat32n (y.missed + 1) else y.missed,
                               starts := if missed then y.starts else y.starts ++ [t + y.cfg.startDelay * tickPs] }), missed)

/-- SURVEY_TIMER_TICK (R382). -/
def Dev.svyTick (s : Dev) : Dev :=
  let y := s.svy
  if y.cfg.mode ≠ 2 then s
  else
    let t := y.modeAt + (y.ticks + 1) * y.cfg.timerUs * 1000000
    let s1 := (s.advance t).modSvy (fun y => { y with ticks := y.ticks + 1 })
    if y.faultState then s1 else (s1.svyStart t).1

/-- SURVEY_START: an event reached the consumer (R382, R383). -/
def Dev.svyEvent (s : Dev) : Dev :=
  if !s.hasEdge 14 then s
  else
    let at_ := s.latchOf 14
    let s1 := s.takeEdge 14
    if s1.svy.cfg.mode ≠ 3 || s1.svy.faultState then s1
    else
      let r := s1.svyStart at_
      if r.2 then r.1.setOverrun 14 else r.1

/-- SCAN_BEGIN: the shadow is copied, changed entries' windows become UNKNOWN, and entry 0 starts (R379, R383). -/
def Dev.scanBegin (s : Dev) : Dev :=
  match s.scanDue with
  | none => s
  | some d =>
    if s.svy.run.isSome then s
    else
      let t := s.edgeAt (max s.now d)
      let s1 := (s.advance t).modSvy (fun y =>
        { y with win := y.win.filter (fun p => svyEntry y.shadow p.1 == svyEntry y.active p.1), active := y.shadow,
                 scanning := true, scanFb := y.fallback, scans := (y.scans + 1) % 2 ^ 32, next := 0, last := none,
                 starts := if y.starts.head?.any (fun x => decide (x ≤ t)) then y.starts.tail else y.starts, urgentRan := true })
      s1.svyNext t

/-- SURVEY_WATCHDOG: fallback begins (R384). R604 gives its log entry no code: code and severity are free values
(log entry 60). -/
def Dev.svyWatchdog (s : Dev) : Dev :=
  let y := s.svy
  if y.cfg.mode < 2 || y.cfg.watchdogUs = 0 || y.fallback || s.svyPaused || y.faultState then s
  else
    let s1 := (s.advance (y.wdFrom + y.cfg.watchdogUs * 1000000)).modSvy (fun y => { y with fallback := true, fellBack := true })
    (s1.logIt (key (s1.freeVal % 65536) 10 (s1.freeVal / 65536 % 4) 0 0) 0).freeNext

/-! ### The samples of a conversion (R374, R376) -/

/-- A corrected sample of a conversion: its value times 2^43, whether the stage check passed it, whether its code was an end
code, its instant in half ticks from the first sample, and whether its core had been found faulty (R241, R374). -/
structure SvySamp where
  v : Int
  ok : Bool
  atEnd : Bool
  half : Nat
  out : Bool
deriving DecidableEq, Repr

/-- The corrected samples of a conversion in core order A, B, A, B …, tick by tick from half tick `n`. A core that is faulty in
`p0`, the pair at the conversion's start, gives none; one found faulty within the conversion is out from the tick after its
detection (R241, R376). The skew term of a core B sample uses the core A sample after it, a free value after the last tick
(log entry 109). -/
def svySamples (p0 : Pair) (last : Int) (p : Pair) (n : Nat) (ticks : List RawPair) : List SvySamp × Pair :=
  match ticks with
  | [] => ([], p)
  | q :: r =>
    let c := p0.cal
    let a27 := coreX27 q.a c.ofsA c.gainA
    let nextA := match r with | x :: _ => coreX27 x.a c.ofsA c.gainA | [] => coreX27 (BitVec.ofInt 16 last) c.ofsA c.gainA
    let b43 := coreX27 q.b c.ofsB c.gainB * 65536 - c.skew * (nextA - a27)
    let hA := stageCheck p.histA [!q.okA]
    let hB := stageCheck p.histB [!q.okB]
    let rest := svySamples p0 last
      { p with histA := hA.1, histB := hB.1, faultyA := p.faultyA || hA.2, faultyB := p.faultyB || hB.2 } (n + 2) r
    ((if p0.faultyA then [] else [{ v := a27 * 65536, ok := q.okA, atEnd := endCode q.a, half := n, out := p.faultyA }])
      ++ (if p0.faultyB then [] else [{ v := b43, ok := q.okB, atEnd := endCode q.b, half := n + 1, out := p.faultyB }])
      ++ rest.1, rest.2)

/-- Own code of a conversion, SATURATED, its last sample's instant in half ticks from its first tick, and the pair after it. -/
def Dev.svyMeasure (s : Dev) (k : SvyConv) (ticks : List RawPair) : Int × Bool × Nat × Pair :=
  let p := s.svy.pair
  let all := svySamples p (s.freeVal : Int) p 0 ticks
  let mine := (if k.bank.isSome then all.1 else all.1.take (u16 k.bytes 4)).filter (fun x => !x.out)
  let use := mine.filter (fun x => x.ok)
  let sum := use.foldl (fun a x => a + x.v) 0
  let code := if use.isEmpty then toSigned 24 (s.freeVal % 2 ^ 24) else satN 24 (rhe (sum * 256) (2 ^ 43 * use.length))
  (code, use.any (fun x => x.atEnd), (match mine.getLast? with | some x => x.half | none => 0), all.2)

/-- Newly faulty survey cores: degraded mode, and a second one stops the table (R241, R376). -/
def Dev.svyCores (s : Dev) (p : Pair) : Dev :=
  let was := s.svy.pair
  let new := (p.faultyA && !was.faultyA) || (p.faultyB && !was.faultyB)
  let s1 := s.modSvy (fun y => { y with pair := p, faultState := y.faultState || (p.faultyA && p.faultyB) })
  if new then s1.logIt kSurveyCore (bit p.faultyA + 2 * bit p.faultyB) else s1

/-- SURVEY_ENTRY_END: the running conversion ends, its result leaves for Denrix, and the next one starts (R380, R381, R385). -/
def Dev.svyEntryEnd (s : Dev) (ticks : List RawPair) : Dev :=
  match s.svy.run with
  | none => s
  | some r =>
    let k := r.conv
    let t := r.endAt
    let s1 := s.advance t
    let m := s1.svyMeasure k ticks
    let prev := match s1.svy.last with | some l => if l.1 + 1 = k.entry then some l.2 else none | none => none
    let diff := k.cmd.isNone && svyDiff k.bytes
    let code := if diff then satN 24 (m.1 - (match prev with | some q => q.1 | none => 0)) else m.1
    let sat := m.2.1 || (diff && (match prev with | some q => q.2 | none => false))
    let first := t - (s1.svyTicks k - u16 k.bytes 2) * tickPs
    let f : SvyFlight :=
      { conv := k, code := code, scan := s1.svy.scans, saturated := sat, suppressed := r.supp || s1.svySuppressed k.bytes,
        degraded := m.2.2.2.faultyA || m.2.2.2.faultyB, fallback := k.cmd.isNone && s1.svy.scanFb,
        timeNs := s1.nsAt (first + m.2.2.1 * (tickPs / 2)), epoch := s1.epochAt (first + m.2.2.1 * (tickPs / 2)) }
    let s2 := ((s1.freeNext).svyCores m.2.2.2).modSvy (fun y => { y with run := none, flights := y.flights ++ [f] })
    let isTable := k.cmd.isNone
    let s3 := if isTable then s2.modSvy (fun y => { y with last := some (k.entry, m.1, m.2.1), next := y.next + 1 }) else s2
    let stop := match s3.svy.newCfg with | some c => c.mode == 0 | none => false
    let ends := s3.svy.scanning && (stop || s3.svy.faultState || decide (s3.svy.next ≥ s3.svy.cfg.nent))
    (if ends then s3.scanEnd t else s3).svyNext t

/-! ### Results (R375, R386 to R389, R392) -/

/-- VALUE: each step in binary64, the code's voltage first, then rounded to binary32 (R375; log entry 137). A sum of two zeros
is −0 where both are, as IEEE 754 has it. -/
def svyValue (b : List Byte) (code : Int) : Nat :=
  let sc := u32 b 16
  let off := u32 b 20
  let v := r64 (fracMul ⟨code, 1⟩ (fracMul (r64 ⟨2048, 1000⟩) ⟨1, 8388608⟩))
  let p := r64 (fracMul (f32Val sc) v)
  if p.num = 0 && (f32Val off).num = 0 then (if off.testBit 31 && sc.testBit 31 != decide (code < 0) then 2 ^ 31 else 0)
  else f32Of (r64 (fracAdd p (f32Val off)))

/-- The next window state (R389). -/
def winMove (st : Nat) (lo hi h code : Int) : Nat :=
  if st < 2 then
    (if code > hi then 2 else if code < lo then 3 else 1)
  else if decide (lo + h ≤ code) && decide (code ≤ hi - h) then 1
  else if st = 2 && decide (code < lo) then 3
  else if st = 3 && decide (code > hi) then 2
  else st

/-- The functions that see an entry: the owner and every session with it in its view (R386). -/
def Dev.svyViewers (s : Dev) (e : Nat) : List Nat := s.functions.filter (fun f => f == 0 || (s.fn f).view.testBit e)

/-- A result is placed in a function's SURVEY_DATA (R386, R387). -/
def Dev.svyPlace (s : Dev) (f : Nat) (r : SvyResult) : Dev :=
  let was := (s.fn f).surveyUnread
  let s1 := s.modFn f (fun x =>
    { x with survey := r, surveyUnread := true, surveyOverrun := x.surveyOverrun || was,
             surveyOverruns := if was then sat32n (x.surveyOverruns + 1) else x.surveyOverruns })
  if was then s1.irq f irqSurvey else s1

/-- The rail inputs that follow an entry (R203, R392). -/
def Dev.svyRails (s : Dev) (e value : Nat) : Dev :=
  (s.modSvy (fun y => { y with rails := tblSet (fun _ => none) y.rails e (some (value, s.now)) })).forAll (List.range s.nChan) (fun s c =>
    if (s.chan c).railEntry = e then
      s.modChan c (fun x => { x with railNext := some (railInput value x.railNom, s.now), railAt := some s.now, railStale := false })
    else s)

/-- A flight as a result with its window state. -/
def SvyFlight.result (f : SvyFlight) (win : Nat) : SvyResult :=
  { entry := f.conv.entry, scan := f.scan, code := f.code, value := svyValue f.conv.bytes f.code, timeNs := f.timeNs,
    epoch := f.epoch,
    dflags := 1 + bitAt f.saturated 2 + 8 * win + bitAt f.suppressed 5 + bitAt f.degraded 6 + bitAt f.conv.cmd.isSome 7
      + bitAt f.fallback 8 }

/-- The reply of SVY_DATA for a result. -/
def svyReply (r : SvyResult) (overrun : Bool) : List Byte :=
  w16 r.entry ++ w16 (r.dflags + bitAt overrun 1) ++ w32 r.scan ++ wi32 r.code ++ w32 r.value ++ w64 r.timeNs ++ w16 r.epoch
    ++ zeros 2

/-- A table result arrives: its window, the result stores, the rails, and on a leave IRQ_CAUSE.SURVEY and SVY_LEAVE. -/
def Dev.svyStore (s : Dev) (f : SvyFlight) : Dev :=
  let e := f.conv.entry
  let b := f.conv.bytes
  let was := tblGet (fun _ => 0) s.svy.win e
  let win := if svyWinEn b then winMove was (s32 b 8) (s32 b 12) (svyHyst b) f.code else 0
  let r := f.result win
  let s1 := s.modSvy (fun y =>
    { y with win := tblSet (fun _ => 0) y.win e win, results := tblSet (fun _ => svyNone) y.results e r })
  let s2 := s1.forAll (s1.svyViewers e) (fun s v => s.svyPlace v r)
  let s3 := if f.saturated then s2 else s2.svyRails e r.value
  if win ≥ 2 && win != was then (s3.forAll (s3.svyViewers e) (fun s v => s.irq v irqSurvey)).pulse (704 + e) else s3

/-- The settings of a VEC_BANK_CONFIG (spec/13_vectors.md). -/
def bankOf (p : List Byte) : VBank :=
  let fl := u8 p 7
  { enabled := u8 p 1 == 1, vio := u8 p 2, drive := u8 p 3, delay := u16 p 4, strobe := u8 p 6, zUp := fl.testBit 0,
    dcheck := fl.testBit 1, dhalt := fl.testBit 2, offAt := 0 }

/-- A bank takes its settings; one that is disabled lets its pins go at the edge `off` (R428). -/
def Dev.setBank (s : Dev) (b : Nat) (p : List Byte) (off : Nat) : Dev :=
  s.modVec (fun v => { v with banks := tblSet vbankInit v.banks b { bankOf p with offAt := off } })

/-- The conversion of a bank's VIO (half of it at the source) agrees with the declared VIO within 10 % (R428). -/
def vioOk (code : Int) (vio : Nat) : Bool :=
  let v := fracMul ⟨code * 4096, 1000⟩ ⟨1, 8388608⟩
  fracLe (fracAbs (fracSub v ⟨vio, 10⟩)) ⟨vio, 100⟩

/-- An urgent result arrives: the reply of its command, or the decision of a bank's enable (R391, R428). -/
def Dev.svyAnswer (s : Dev) (f : SvyFlight) (id : Nat) : Dev :=
  match f.conv.bank with
  | none => s.finish id stOk (svyReply (f.result 0) false)
  | some b =>
    match s.running? id with
    | none => s
    | some r =>
      if !r.live then s
      else if !f.saturated && vioOk f.code (u8 r.job.p 2) then (s.setBank b r.job.p 0).finish id stOk []
      else s.finish id stState []

/-- SURVEY_RESULT: the oldest result on its way reaches Denrix, or its packet failed (R380). -/
def Dev.svyResult (s : Dev) (delivered : Bool) : Dev :=
  match s.svy.flights with
  | [] => s
  | f :: rest =>
    let s1 := s.modSvy (fun y => { y with flights := rest })
    if !delivered then s1.modSvy (fun y => { y with lost := sat32n (y.lost + 1) })
    else
      match f.conv.cmd with
      | some id => s1.svyAnswer f id
      | none => s1.svyStore f

/-! ### Commands -/

/-- The entries a table write leaves in the shadow. -/
def svyWritten (s : Dev) (j : Job) : Tbl (List Byte) :=
  (List.range (u8 j.p 1)).foldl (fun t k => tblSet entryInit t (u8 j.p 0 + k) (slice j.p (4 + 32 * k) 32)) s.svy.shadow

/-- FIRST and COUNT. -/
def svySpanOk (j : Job) : Bool := decide (1 ≤ u8 j.p 1) && decide (u8 j.p 1 ≤ 7) && decide (u8 j.p 0 + u8 j.p 1 ≤ 256)

/-- SVY_TABLE_WRITE's sheet (R378, R379). -/
def cmdSvyTableWrite : Cmd :=
  { op := 0x0601, owner := true, len := none,
    args := fun s j =>
      let t := svyWritten s j
      let nx := u8 j.p 0 + u8 j.p 1
      svySpanOk j && j.q.len == 4 + 32 * u8 j.p 1 && j.rsv 2 2
        && (List.range (u8 j.p 1)).all (fun k => s.svyValid t (u8 j.p 0 + k))
        && (decide (nx ≥ 256) || !svyDiff (svyEntry t nx) || s.svyValid t nx),
    names := fun _ _ => [Res.survey],
    body := fun s j => (s.modSvy (fun y => { y with shadow := svyWritten s j }), .done stOk []) }

/-- SVY_TABLE_READ's sheet. -/
def cmdSvyTableRead : Cmd :=
  { op := 0x0602, len := some 4,
    args := fun _ j => svySpanOk j && decide (u8 j.p 2 < 2) && j.rsv 3 1,
    held := fun s j => (u8 j.p 2 == 0 || j.f == 0) && (List.range (u8 j.p 1)).all (fun k => s.inView j.f (u8 j.p 0 + k)),
    names := fun _ _ => [Res.survey],
    body := fun s j =>
      let t := if u8 j.p 2 = 0 then s.svy.active else s.svy.shadow
      (s, .done stOk ((List.range (u8 j.p 1)).flatMap (fun k => svyEntry t (u8 j.p 0 + k)))) }

/-- SVY_CONFIG's sheet (R382, R385). -/
def cmdSvyConfig : Cmd :=
  { op := 0x0603, owner := true, len := some 16,
    args := fun _ j =>
      let m := u8 j.p 0
      decide (m ≤ 3) && j.rsv 1 1 && decide (u16 j.p 2 ≤ 256) && (m == 0 || decide (1 ≤ u16 j.p 2))
        && (if m = 2 then decide (1 ≤ u32 j.p 8) && decide (u32 j.p 8 ≤ 1000000) else u32 j.p 8 == 0)
        && decide (u32 j.p 12 ≤ 100000000),
    state := fun s j =>
      stIf (!s.svy.faultState && (u8 j.p 0 == 0 || (List.range (u16 j.p 2)).all (s.svyValid s.svy.shadow))),
    names := fun _ _ => [Res.survey],
    body := fun s j =>
      let c : SvyCfg := { mode := u8 j.p 0, nent := u16 j.p 2, startDelay := u32 j.p 4, timerUs := u32 j.p 8, watchdogUs := u32 j.p 12 }
      let s2 := s.modSvy (fun y => { y with newCfg := some c })
      (if !s.svy.scanning then s.svyApply c s.now
       else if c.mode = 0 && s.svy.run.isNone then s2.scanEnd s2.now else s2, .done stOk []) }

/-- SVY_DATA's sheet (R386, R387). -/
def cmdSvyData : Cmd :=
  { op := 0x0604, len := some 4,
    args := fun _ j => (decide (u16 j.p 0 < 256) || u16 j.p 0 == 0xFFFF) && j.rsv 2 2,
    held := fun s j => u16 j.p 0 == 0xFFFF || s.inView j.f (u16 j.p 0),
    body := fun s j =>
      if u16 j.p 0 = 0xFFFF then
        (s.modFn j.f (fun x => { x with surveyUnread := false, surveyOverrun := false }),
          .done stOk (svyReply (s.fn j.f).survey (s.fn j.f).surveyOverrun))
      else (s, .done stOk (svyReply (tblGet (fun _ => svyNone) s.svy.results (u16 j.p 0)) false)) }

/-- SVY_URGENT's sheet (R391, R393). -/
def cmdSvyUrgent : Cmd :=
  { op := 0x0605, len := some 40,
    args := fun s j =>
      let b := slice j.p 8 32
      j.rsv 2 6 && (if u16 j.p 0 = 0xFFFF then s.svyFieldsOk b && !svyDiff b && !svyWinEn b
                    else decide (u16 j.p 0 < 256) && allZero b 0 32),
    held := fun s j => if u16 j.p 0 = 0xFFFF then j.f == 0 else s.inView j.f (u16 j.p 0),
    state := fun s j =>
      if s.svyPaused || s.svy.faultState || (u16 j.p 0 != 0xFFFF && !s.svyFieldsOk (svyEntry s.svy.active (u16 j.p 0))) then stState
      else if s.svy.urgent.length ≥ 8 then stResource else 0,
    body := fun s j =>
      let b := if u16 j.p 0 = 0xFFFF then slice j.p 8 32 else svyEntry s.svy.active (u16 j.p 0)
      (s.svyQueue { entry := u16 j.p 0, bytes := b, fn := j.f, cmd := some j.id, bank := none }, .later []) }

/-- STATE of SVY_STATUS. -/
def svyState (s : Dev) : Nat :=
  let y := s.svy
  if y.faultState then 5 else if s.svyPaused then 4 else if y.fallback || (y.scanning && y.scanFb) then 3
  else if y.scanning then 2 else if y.cfg.mode = 0 then 0 else 1

/-- SVY_STATUS's sheet. -/
def cmdSvyStatus : Cmd :=
  { op := 0x0606, len := some 4,
    args := fun _ j => decide (u32 j.p 0 < 4), held := fun _ j => j.f == 0 || !(u32 j.p 0).testBit 1,
    body := fun s j =>
      let y := s.svy
      let mode := match y.newCfg with | some c => c.mode | none => y.cfg.mode
      let cur := match y.run with | some r => if r.conv.cmd.isNone then r.conv.entry else y.next | none => 0
      let fl := bitAt y.fellBack 0 + bitAt (decide (y.starts.length > (if y.scanning then 0 else 1))) 1
        + bitAt (y.shadow != y.active) 2 + bitAt s.svyDegraded 3
      let s1 := if (u32 j.p 0).testBit 0 then s.modFn j.f (fun x => { x with surveyOverruns := 0 }) else s
      let s2 := if (u32 j.p 0).testBit 1 then s1.modSvy (fun y => { y with fellBack := false, missed := 0, lost := 0 }) else s1
      (s2, .done stOk (w8 mode ++ w8 (svyState s) ++ w8 cur ++ w8 fl ++ w32 y.scans ++ w32 y.missed ++ w32 y.lost
        ++ w32 (s.fn j.f).surveyOverruns ++ zeros 4)) }

/-! ### Rows -/

/-- SVY_TABLE_WRITE. -/
def execSvyTableWrite (q : Req) (s : State) : Out := .next (s.on (fun d => d.command cmdSvyTableWrite q))
/-- SVY_TABLE_READ. -/
def execSvyTableRead (q : Req) (s : State) : Out := .next (s.on (fun d => d.command cmdSvyTableRead q))
/-- SVY_CONFIG. -/
def execSvyConfig (q : Req) (s : State) : Out := .next (s.on (fun d => d.command cmdSvyConfig q))
/-- SVY_DATA. -/
def execSvyData (q : Req) (s : State) : Out := .next (s.on (fun d => d.command cmdSvyData q))
/-- SVY_URGENT. -/
def execSvyUrgent (q : Req) (s : State) : Out := .next (s.on (fun d => d.command cmdSvyUrgent q))
/-- SVY_STATUS. -/
def execSvyStatus (q : Req) (s : State) : Out := .next (s.on (fun d => d.command cmdSvyStatus q))
/-- SURVEY_TIMER_TICK (R382). -/
def execSurveyTimerTick (s : State) : Out := .next (s.on (fun d => d.svyTick))
/-- SURVEY_START (R383). -/
def execSurveyStart (s : State) : Out := .next (s.on (fun d => d.svyEvent))
/-- SCAN_BEGIN (R379). -/
def execScanBegin (s : State) : Out := .next (s.on (fun d => d.scanBegin))
/-- SURVEY_ENTRY_END (R380). -/
def execSurveyEntryEnd (samples : List RawPair) (s : State) : Out := .next (s.on (fun d => d.svyEntryEnd samples))
/-- SURVEY_RESULT (R386). -/
def execSurveyResult (delivered : Bool) (s : State) : Out := .next (s.on (fun d => d.observed (fun d => d.svyResult delivered)))
/-- SURVEY_WATCHDOG (R384). -/
def execSurveyWatchdog (s : State) : Out := .next (s.on (fun d => d.svyWatchdog))

end Sys2Proof.Machine
end

