-- ==== Sys2Proof/Machine/Calibration.lean ====
section
/-! DEFINITION. Self-calibration, traceable calibration and the calibration store's commands (spec/12_calibration.md). -/

namespace Sys2Proof.Machine

/-! ### Plausibility (R401) -/

/-- Factors `o` on as a pair (the order of `CalResult`). -/
def pairOf (l : List Int) (o : Nat) : PairWc :=
  { ofsA := l.getD o 0, ofsB := l.getD (o + 1) 0, gainA := (l.getD (o + 2) 0).toNat, gainB := (l.getD (o + 3) 0).toNat,
    skew := l.getD (o + 4) 0, linA := (List.range 16).map (fun k => l.getD (o + 5 + k) 0),
    linB := (List.range 16).map (fun k => l.getD (o + 21 + k) 0) }

/-- |v| × `n` ≤ `d`. -/
def within (v : Int) (n d : Nat) : Bool := decide (v.natAbs * n ≤ d)

/-- Two lists of factors within an absolute limit and, where the factors in force count, within a change limit. -/
def listOk (new old : List Int) (here : Bool) (n lim chg : Nat) : Bool :=
  new.all (fun v => within v n lim) && (!here || (new.zip old).all (fun p => within (p.1 - p.2) n chg))

/-- OFS of a pair: 256 core codes, changed by 32 (LSB 1/16 code). -/
def ofsOk (a b : PairWc) (here : Bool) : Bool := listOk [a.ofsA, a.ofsB] [b.ofsA, b.ofsB] here 1 4096 512
/-- A gain against 1.0 and the gain in force, in parts of `n`. -/
def gainOk (new old : Nat) (here : Bool) (n lim c chg : Nat) : Bool :=
  within ((new : Int) - 8388608) n (lim * 8388608) && (!here || within ((new : Int) - old) c (chg * old))
/-- GAIN of a pair: 0.98 to 1.02, changed by 0.2 %. -/
def gainsOk (a b : PairWc) (here : Bool) : Bool :=
  gainOk a.gainA b.gainA here 100 2 1000 2 && gainOk a.gainB b.gainB here 100 2 1000 2
/-- SKEW: 131 LSB, changed by 10 ps (25 ns / 2^16 each). -/
def skewOk (a b : PairWc) (here : Bool) : Bool := within a.skew 1 131 && (!here || within (a.skew - b.skew) 25000 655360)
/-- LIN: 0.5 % of the nominal weight, changed by 0.05 %. -/
def linOk (a b : PairWc) (here : Bool) : Bool := listOk (a.linA ++ a.linB) (b.linA ++ b.linB) here 10000 3276800 327680

/-- The first of the checks that fails, by its number. -/
def firstBad (l : List Bool) : Option Nat := ((List.range l.length).zip l).findSome? (fun p => if p.2 then none else some p.1)

/-- The first failing factor of a channel's slot, in the order of R401; a faulty core fails with OFS (R402). -/
def slotBad (r : CalResult) (old : CalChan) (dac : Bool) : Option Nat :=
  let v := pairOf r.factors 0
  let i := pairOf r.factors 37
  let f := r.factors
  let h := old.here
  let d := old.dacHere
  firstBad [r.faulty.val == 0 && ofsOk v old.v h && ofsOk i old.i h, gainsOk v old.v h && gainsOk i old.i h,
    skewOk v old.v h && skewOk i old.i h, linOk v old.v h && linOk i old.i h,
    !dac || listOk [f.getD 74 0] [old.dofs] d 1 2000 200,
    !dac || gainOk (f.getD 75 0).toNat old.dgain d 1000 5 10000 5,
    !dac || listOk (f.drop 76) old.seg d 1 4096 512]

/-! ### CAL_SELF -/

/-- A busy channel (R400). -/
def Dev.calBusy (s : Dev) (c : Nat) : Bool :=
  s.seqBusy c || (s.chan (s.leader c)).rc.isSome || s.armedOnChan c || (s.ganged c && (s.chan c).state != 0) || s.tracing c

/-- The channels that a run calibrates, and those it skips (R400). -/
def Dev.calPlan (s : Dev) (scope mask : Nat) (skipLive : Bool) : Nat × Nat :=
  if scope = 1 then (mask, 0)
  else if scope = 2 then (0, 0)
  else
    let skip := bitMap (fun c => s.chanOk c && (s.calBusy c || (skipLive && decide ((s.chan c).state ≥ 2)))) 64
    (bitMap (fun c => s.chanOk c && !skip.testBit c) 64, skip)

/-- A run joins the queue. -/
def Dev.calQueue (s : Dev) (cmd : Option Nat) (scope mask : Nat) (skipLive : Bool) : Dev :=
  let p := s.calPlan scope mask skipLive
  s.modCal (fun k => { k with runs := k.runs ++
    [{ cmd := cmd, scope := scope, skipLive := skipLive, todo := p.1, passed := 0, failed := 0, skipped := p.2, survey := 0,
       refFail := false, integrity := false, part := .waiting, startAt := 0, partAt := 0, dacChans := 0, slotChans := 0 }] })

/-- CAL_SELF's sheet (R395, R400). -/
def cmdCalSelf : Cmd :=
  { op := 0x0701, len := some 16,
    args := fun s j =>
      let sc := u8 j.p 0
      decide (sc ≤ 2) && (u8 j.p 1 == 0 || (u8 j.p 1 == 1 && sc == 0)) && j.rsv 2 6
        && (if sc = 1 then u64 j.p 8 != 0 && s.chansOk (u64 j.p 8) else u64 j.p 8 == 0),
    held := fun s j => if u8 j.p 0 = 1 then s.holdsChans j.f (u64 j.p 8) else j.f == 0,
    unlocked := fun s j => s.chansFree j.f (u64 j.p 8),
    state := fun s j =>
      if s.ratePending || (u8 j.p 0 == 1 && (chansIn (u64 j.p 8)).any s.calBusy)
        || (u8 j.p 0 == 2 && s.cal.runs.any (fun r => r.scope != 1)) then stState
      else if s.cal.runs.length ≥ 5 then stResource else 0,
    body := fun s j => (s.calQueue (some j.id) (u8 j.p 0) (u64 j.p 8) ((u8 j.p 1).testBit 0), .later []) }

/-! ### The parts of a run (R396 to R398) -/

/-- The survey part starts, or the run is over (R393, R396). -/
def Dev.calAfterSlots (s : Dev) : Dev :=
  match s.activeRun with
  | none => s
  | some r =>
    if r.part != .between || r.todo ≠ 0 then s
    else if r.scope = 1 then s.runOver
    else (s.modRun (fun r => { r with part := .survey, partAt := s.now })).svyPause true s.svy.pausedPwr

/-- CAL_RUN_START: the next waiting run reaches its first part at a sample instant (R395). -/
def Dev.calRunStart (s : Dev) : Dev :=
  if s.activeRun.isSome then s
  else
    match s.cal.runs with
    | [] => s
    | r :: rest =>
      let s1 := s.advance (s.boundaryAt s.now)
      let r1 := { r with startAt := s1.now, partAt := s1.now, part := if r.scope = 0 then .reference else .between }
      (s1.modCal (fun k => { k with runs := r1 :: rest })).calAfterSlots

/-- The instant at which a part ends: the first sample instant at or after its nominal end. -/
def Dev.partEnd (s : Dev) (r : CalRun) (ms : Nat) : Nat := s.instantAt (r.partAt + ms * 1000000000)

/-- The precision reference and the calibration sources, as survey codes of one scale, differ by no more than 0.05 % of the
calibration sources (R397; log entry 138). -/
def refAgrees (ref cal : Int) : Bool := decide ((ref - cal).natAbs * 2000 ≤ cal.natAbs)

/-- REFERENCE_CHECK_END (R397): `ref` is what the survey pair read of source 214, `cal` of the calibration sources. -/
def Dev.refCheckEnd (s : Dev) (ref cal : Int) : Dev :=
  match s.activeRun with
  | none => s
  | some r =>
    if r.part != .reference then s
    else
      let s1 := s.advance (s.partEnd r 4)
      if refAgrees ref cal then (s1.modRun (fun r => { r with part := .between })).calAfterSlots
      else (s1.modRun (fun r => { r with refFail := true })).runOver

/-- The lowest group that has a channel to calibrate. -/
def nextGroup (todo : Nat) : Option Nat := (List.range 8).find? (fun g => (todo / 2 ^ (8 * g)) % 256 != 0)

/-- GROUP_SLOT_START: CAL_ACTIVE sets, engines stop, apertures end (R398 step 1). A command that runs on one of the channels
goes first (R107). -/
def Dev.slotStart (s : Dev) : Dev :=
  match s.activeRun with
  | none => s
  | some r =>
    match nextGroup r.todo with
    | none => s
    | some g =>
      let m := r.todo &&& (255 * 2 ^ (8 * g))
      let cs := chansIn m
      let holds := fun (x : Running) => x.live && x.started && x.names.any (fun n => cs.any (fun c => n == Res.chan c))
      if r.part != .between || s.tg.running.any holds then s
      else
        let s1 := s.advance (s.instantAt s.now)
        let s2 := s1.forAll cs Dev.apersEnd
        let s3 := (s2.modRun (fun r =>
          { r with part := .slot g, partAt := s1.now, slotChans := m, todo := r.todo - m,
                   dacChans := bitMap (fun c => m.testBit c && (s2.chan c).state == 0) 64 })).setNames r.cmd (cs.map Res.chan)
        s3.forAll cs (fun s c => s.irq (s.chanHolder c) irqChan)

/-- Cores that the slot's stage check found faulty (R402): degraded mode, or the channel fault of R244. -/
def Dev.slotCores (s : Dev) (c faulty : Nat) : Dev :=
  if faulty = 0 then s
  else
    let one := fun (p : Pair) (m : Nat) => { p with faultyA := p.faultyA || m.testBit 0, faultyB := p.faultyB || m.testBit 1 }
    let s1 := (s.modHelon c (fun h => { h with v := one h.v faulty, i := one h.i (faulty / 4) })).setDegraded c
    let s2 := s1.forAll (bitsSet faulty 4) (fun s k => s.logIt (kCoreFault c) (k / 2 + 2 * (k % 2)))
    let both := fun (p : Pair) => p.faultyA && p.faultyB
    if both (s2.helon c).v || both (s2.helon c).i then
      (s2.modCal (fun k => { k with required := k.required ||| 2 ^ c })).chanResponse c 3
    else s2

/-- A channel that passed takes its new factors, and its degraded mode and its restriction end (R398 step 6, R403). The packets
that carry them name this instant, and are taken as received in time (log entry 134). -/
def Dev.slotPass (s : Dev) (c : Nat) (r : CalResult) (dac : Bool) : Dev :=
  let s1 := s.modCalChan c (fun x =>
    let y := { x with v := pairOf r.factors 0, i := pairOf r.factors 37, here := true,
                      self := { timeNs := s.timeNs, epoch := s.tb.epoch, temp := r.temp, valid := true, dac := dac } }
    if dac then
      { y with dofs := r.factors.getD 74 0, dgain := (r.factors.getD 75 0).toNat, seg := (r.factors.drop 76).take 63, dacHere := true }
    else y)
  let clean := fun (p : Pair) => { p with faultyA := false, faultyB := false, histA := 0, histB := 0, consSum := 0, consCnt := 0 }
  let s2 := s1.modHelon c (fun h => { h with v := clean h.v, i := clean h.i })
  let x := s2.chan c
  let s3 := (s2.helonTake c (.factors false (s2.pairFactors c false x.vr))).helonTake c (.factors true (s2.pairFactors c true x.ir))
  (s3.modChan c (fun x => { x with degraded := false })).modCal (fun k =>
    { k with required := if k.required.testBit c then k.required - 2 ^ c else k.required })

/-- One channel's slot ends: it takes its new factors or keeps the old ones (R401, R402); the old ones where a channel response came
during its slot (R593). -/
def Dev.slotResult (s : Dev) (results : List CalResult) (dacChans c : Nat) : Dev :=
  let hit := match s.activeRun with | some r => r.failed.testBit c | none => false
  let dac := dacChans.testBit c
  let fail := fun (s : Dev) (d : Nat) => (s.logIt (kCalFail 1 c) d).modRun (fun r => { r with failed := r.failed ||| 2 ^ c })
  match results.find? (fun r => r.ch.val == c) with
  | none => fail s 0
  | some r =>
    match slotBad r (s.calChan c) dac with
    | some d => fail (s.slotCores c r.faulty.val) d
    | none => if hit then fail s 0 else (s.slotPass c r dac).modRun (fun r => { r with passed := r.passed ||| 2 ^ c })

/-- GROUP_SLOT_END (R398 step 6). -/
def Dev.slotEnd (s : Dev) (results : List CalResult) : Dev :=
  match s.activeRun with
  | none => s
  | some r =>
    match r.part with
    | .slot _ =>
      let cs := chansIn r.slotChans
      let s1 := s.advance (s.partEnd r 19)
      let s2 := s1.forAll cs (fun s c => s.slotResult results r.dacChans c)
      let s3 := (s2.modRun (fun r => { r with part := .between, slotChans := 0, dacChans := 0 })).setNames r.cmd []
      (s3.forAll cs Dev.slotLeave).calAfterSlots
    | _ => s

/-- The survey converter takes new factors: degraded mode and FAULT end (R376, R403). -/
def Dev.svyPass (s : Dev) (r : CalResult) : Dev :=
  let w := pairOf r.factors 0
  let rec_ : SelfRec := { timeNs := s.timeNs, epoch := s.tb.epoch, temp := r.temp, valid := true, dac := false }
  let s1 := s.modCal (fun k => { k with wc := { k.wc with svy := w, svyHere := true, svySelf := rec_ } })
  let clean := fun (p : Pair) => { p with cal := pairCalOf w (0x400000, 0), faultyA := false, faultyB := false, histA := 0, histB := 0 }
  s1.modSvy (fun y => { y with faultState := false, pair := clean y.pair })

/-- SURVEY_CAL_END (R401 to R403). -/
def Dev.surveyCalEnd (s : Dev) (r : CalResult) : Dev :=
  match s.activeRun with
  | none => s
  | some run =>
    if run.part != .survey then s
    else
      let s1 := s.advance (s.partEnd run 24)
      let old := s1.cal.wc.svy
      let h := s1.cal.wc.svyHere
      let w := pairOf r.factors 0
      let s2 := match firstBad [r.faulty.val % 4 == 0 && ofsOk w old h, gainsOk w old h, skewOk w old h, linOk w old h] with
        | none => (s1.svyPass r).modRun (fun x => { x with survey := 1 })
        | some d =>
          let p := s1.svy.pair
          let f := r.faulty.val
          ((s1.svyCores { p with faultyA := p.faultyA || f.testBit 0, faultyB := p.faultyB || f.testBit 1 }).logIt kSvyCalFail d).modRun
            (fun x => { x with survey := 2 })
      (s2.svyPause false s2.svy.pausedPwr).runOver

/-- The active run's time is over (R112): what has not finished keeps its old factors. -/
def Dev.calTimeout (s : Dev) (id : Nat) : Dev × List Byte :=
  match s.cal.runs.find? (fun r => r.cmd == some id) with
  | none => (s, [])
  | some r =>
    let cs := chansIn r.slotChans
    let s1 := s.modCal (fun k => { k with runs := k.runs.erase r })
    let s2 := if r.part == .survey then s1.svyPause false s1.svy.pausedPwr else s1
    (s2.forAll cs Dev.slotLeave, calReply s r)

/-! ### CAL_STATUS -/

/-- The channel's record is one of the store, loaded or written, and of another module (R415). -/
def Dev.serialMismatch (s : Dev) (c : Nat) : Bool := s.cal.wc.ok && (s.ident c).isSome && !s.serialOk c

/-- RSRC of a range record (R412, R418). -/
def Dev.rsrc (s : Dev) (c k : Nat) : Nat :=
  let cur := decide (k ≥ 6)
  let code := if cur then k - 6 else k
  let src := s.scaleSrc c cur code
  if src = 2 && (tblGet rangeRecInit (s.calChan c).ranges k).traceable then 3 else src

/-- CAL_STATUS's sheet (R415). -/
def cmdCalStatus : Cmd :=
  { op := 0x0702, len := some 4,
    args := fun s j => s.chanOk j.ch && j.rsv 1 3, held := fun s j => s.holdsChan j.f j.ch,
    body := fun s j =>
      let c := j.ch
      let x := (s.calChan c).self
      let fl := bitAt (s.calAwaiting c) 0 + bitAt (s.calActive c) 1 + bitAt (s.tracing c) 2 + bitAt x.valid 3 + bitAt x.dac 4
        + bitAt (s.serialMismatch c) 5 + bitAt (s.calRequired c) 6 + bitAt s.cal.defaults 7
      let rs := (List.range 18).foldl (fun a k => a + s.rsrc c k * 4 ^ k) 0
      (s, .done stOk (w16 fl ++ w16 (ofSigned 16 x.temp) ++ w64 x.timeNs ++ w64 rs ++ w32 s.cal.storeSeq ++ zeros 8)) }

/-! ### Traceable calibration (R405 to R409) -/

/-- The range of a session's channel. -/
def Dev.traceRange (s : Dev) (t : Trace) : Option RangeDef := s.range t.ch t.cur t.code

/-- The session's word has been latched: the session opens. The channel's range is the session's code, apertures end, and a
status change is reported (R80, R318, R405). -/
def Dev.traceOpen (s : Dev) : Dev :=
  match s.cal.trace with
  | none => s
  | some t =>
    if t.before.isSome then s
    else
      let x := s.chan t.ch
      let k := s.traceCodes t
      let s1 := (s.apersEnd t.ch).plainApply t.ch k.1 k.2
      (s1.modCal (fun k => { k with trace := some { t with before := some {
        vr := x.vr, ir := x.ir, setpoint := x.setpoint, compPos := x.compPos, compNeg := x.compNeg, compUse := x.compUse } } })).irq
        (s1.chanHolder t.ch) irqChan

/-- A latch of the session's module opens the session. -/
def Dev.traceLatched (s : Dev) : Dev :=
  match s.cal.trace with
  | some t => if s.halfLatched t.ch then s.traceOpen else s
  | none => s

/-- CAL_TRACE_BEGIN's sheet (R405); its completion waits for the word and the path's settle time. Nothing of the channel
changes before the word is latched (R95). -/
def cmdCalTraceBegin : Cmd :=
  { op := 0x0703, owner := true, len := some 8,
    args := fun s j =>
      s.chanOk j.ch && decide (u8 j.p 1 < 2) && decide (1 ≤ u8 j.p 3) && decide (u8 j.p 3 ≤ 100) && decide (u32 j.p 4 ≤ 1000000)
        && (s.noModule j.ch || (match s.range j.ch (u8 j.p 1 == 1) (u8 j.p 2) with | some r => r.calPath | none => false)),
    held := fun s j => s.holdsChan 0 j.ch, ready := fun s j => !s.discovering j.ch, unlocked := fun s j => s.chanFree 0 j.ch,
    state := fun s j =>
      stIf (s.cal.trace.isNone && s.isOff j.ch && !s.noModule j.ch && !s.calAwaiting j.ch && !s.calActive j.ch && !s.ganged j.ch
        && !s.ratePending && !(s.chan j.ch).stageFault),
    names := fun _ j => [Res.chan j.ch],
    body := fun s j =>
      let t : Trace := { ch := j.ch, cur := u8 j.p 1 == 1, code := u8 j.p 2, nplc := u8 j.p 3, settleUs := u32 j.p 4, pts := [],
                         run := none, before := none }
      let k := s.traceCodes t
      let s1 := s.modCal (fun k => { k with trace := some t })
      (s1.setHalf j.ch (s1.halfCodes j.ch k.1 k.2 0), .later []) }

/-- A session ends: CAL = 0 is latched, and a measurement that runs ends (R405). -/
def Dev.traceClose (s : Dev) : Dev :=
  match s.cal.trace with
  | none => s
  | some t =>
    let s1 := s.modCal (fun k => { k with trace := none })
    let s2 := match t.run with | some r => s1.finish r.cmd stState [] | none => s1
    (if t.before.isSome then s2.slotLeave t.ch else s2).setHalf t.ch (s2.halfFor t.ch false false)

/-- The channel of the open session, as a resource. -/
def Dev.traceNames (s : Dev) : List Res := match s.cal.trace with | some t => [Res.chan t.ch] | none => []

/-- CAL_TRACE_POINT's sheet (R406). -/
def cmdCalTracePoint : Cmd :=
  { op := 0x0704, owner := true, len := some 16,
    args := fun s j =>
      decide (u8 j.p 0 < 2) && decide (u8 j.p 1 < 2) && j.rsv 2 6 && f64Finite (u64 j.p 8)
        && (match s.cal.trace with
            | some t => (match s.traceRange t with
              | some r => fracLe (fracMul (fracAbs (f64Val (u64 j.p 8))) ⟨100, 1⟩) (fracMul (f32Val r.fs) ⟨95, 1⟩)
              | none => true)
            | none => true),
    state := fun s _ => stIf s.cal.trace.isSome,
    names := fun s _ => s.traceNames,
    body := fun s j =>
      (s.modCal (fun k => { k with trace := k.trace.map (fun t =>
        let r : TraceRun := { cmd := j.id, k := 2 * u8 j.p 0 + u8 j.p 1, ref := u64 j.p 8,
                              aper := s.newAper 3 t.nplc (s.boundaryIn t.settleUs) 0 }
        { t with run := some r }) }), .later []) }

/-- A measurement of a session, with its reference in FS of the range. -/
def Dev.tracePt (s : Dev) (t : Trace) (k : Nat) : Option (Frac × Frac × Bool) :=
  match tblGet (fun _ => none) t.pts k, s.traceRange t with
  | some p, some r => some (r64 (fracDiv (f64Val p.ref) (f32Val r.fs)), f64Val p.meas, p.ovr)
  | _, _ => none

/-- What a session's measurements give (R407, R408). -/
structure TraceFit where
  g : Frac
  ro : Frac
  dg : Frac
  do_ : Frac
  agree : Bool
  ovr : Bool
deriving DecidableEq, Repr

/-- Gain and offset of a pass; none where both measurements are equal. -/
def passFit (roOld : Frac) (a b : Frac × Frac × Bool) : Option (Frac × Frac) :=
  let dm := r64 (fracSub b.2.1 a.2.1)
  if dm.num = 0 then none
  else
    let g := r64 (fracDiv (r64 (fracSub b.1 a.1)) dm)
    some (g, r64 (fracSub (r64 (fracMul g (r64 (fracAdd a.2.1 roOld)))) a.1))

/-- The fit of both passes. -/
def Dev.traceFit (s : Dev) (t : Trace) (tol : Nat) : Option TraceFit :=
  let ro : Frac := ⟨(s.scale t.ch t.cur t.code).2, 67108864⟩
  match s.tracePt t 0, s.tracePt t 1, s.tracePt t 2, s.tracePt t 3 with
  | some a, some b, some c, some d =>
    match passFit ro a b, passFit ro c d with
    | some p, some q =>
      let dg := fracAbs (r64 (fracSub p.1 q.1))
      let dd := fracAbs (r64 (fracSub p.2 q.2))
      let tl : Frac := ⟨tol, 1000000⟩
      some { g := r64 (fracDiv (r64 (fracAdd p.1 q.1)) ⟨2, 1⟩), ro := r64 (fracDiv (r64 (fracAdd p.2 q.2)) ⟨2, 1⟩),
             dg := fracDiv dg p.1, do_ := dd, agree := fracLe dg (fracMul tl p.1) && fracLe dd tl,
             ovr := a.2.2 || b.2.2 || c.2.2 || d.2.2 }
    | _, _ => none
  | _, _, _, _ => none

/-- The references of each pass that has both points differ by at least 0.5 FS (R406). -/
def Dev.traceRefsOk (s : Dev) : Bool :=
  match s.cal.trace with
  | none => true
  | some t => [0, 2].all (fun k =>
      match s.tracePt t k, s.tracePt t (k + 1) with
      | some a, some b => fracLe ⟨1, 2⟩ (fracAbs (fracSub a.1 b.1))
      | _, _ => true)

/-- A range of a session takes its new RG and RO, marked traceable (R408, R415); the die temperature is a free value
(log entry 108). -/
def Dev.traceApply (s : Dev) (t : Trace) (rg : Nat) (ro : Int) (std : List Byte) : Dev :=
  let rec_ : RangeRec := { rg := rg, ro := ro, timeNs := s.timeNs, epoch := s.tb.epoch, temp := toSigned 16 (s.freeVal % 65536),
                           valid := true, traceable := true, stdId := std }
  let serial := match s.ident t.ch with | some i => i.serial | none => zeros 16
  let s1 := s.freeNext.modCalChan t.ch (fun x =>
    { x with serial := serial,
             ranges := tblSet rangeRecInit (if x.serial == serial then x.ranges else []) (rangeRecNo t.cur t.code) rec_ })
  s1.sendFactors t.ch t.cur t.code

/-- CAL_TRACE_END with ACTION 1 (R407 to R409). -/
def Dev.traceFinish (s : Dev) (t : Trace) (tol : Nat) (std : List Byte) : Dev × Result :=
  match s.traceFit t tol, s.traceRange t with
  | some f, some r =>
    let rg := (fracRhe (r64 (fracMul ⟨(s.scale t.ch t.cur t.code).1, 1⟩ f.g))).toNat
    let nom := nominalRg r
    if !f.agree then (s, .done stCalAgree [])
    else if f.ovr || !within ((rg : Int) - nom) 100 nom || !fracLe (fracAbs f.ro) ⟨5, 1000⟩ then (s, .done stCalPlaus [])
    else
      ((s.traceApply t rg (fracRhe (fracMul f.ro ⟨67108864, 1⟩)) std).traceClose,
        .done stOk (w64 (f64Of f.g) ++ w64 (f64Of f.ro) ++ w32 (f32Of (fracMul f.dg ⟨1000000, 1⟩))
          ++ w32 (f32Of (fracMul f.do_ ⟨1000000, 1⟩)) ++ w32 (rg % 2 ^ 24) ++ zeros 4))
  | _, _ => (s, .done stCalAgree [])

/-- CAL_TRACE_END's sheet. -/
def cmdCalTraceEnd : Cmd :=
  { op := 0x0705, owner := true, len := some 20,
    args := fun s j =>
      decide (u8 j.p 0 < 2) && j.rsv 1 1 && decide (u16 j.p 2 ≤ 1000) && (u8 j.p 0 == 1 || allZero j.p 2 18)
        && (u8 j.p 0 == 0 || s.traceRefsOk),
    state := fun s j =>
      stIf (match s.cal.trace with
        | some t => u8 j.p 0 == 0 || (List.range 4).all (fun k => (tblGet (fun _ => none) t.pts k).isSome)
        | none => false),
    names := fun s _ => s.traceNames,
    body := fun s j =>
      match s.cal.trace with
      | none => (s, .done stState [])
      | some t =>
        if u8 j.p 0 = 0 then (s.traceClose, .done stOk [])
        else s.traceFinish t (if u16 j.p 2 = 0 then 10 else u16 j.p 2) (slice j.p 4 16) }

/-- STAGE_WORD_LATCH (R148, R405). -/
def execStageWordLatch (m : ModId) (s : State) : Out :=
  .next (s.on (fun d => d.observed (fun d => (d.stageLatch m.val).traceLatched)))

/-! ### The store's write (R416, R417) -/

/-- The working copy as CAL_STORE writes it: a channel whose module's serial changed keeps no range of before (R416). -/
def Dev.storeImage (s : Dev) : CalCopy :=
  let w := s.cal.wc
  let fix := fun (c : Nat) (x : CalChan) => match s.ident c with
    | some i => if i.serial == x.serial then x else { x with serial := i.serial, ranges := [] }
    | none => x
  let c : CalCopy :=
    { w with ok := true, format := 1, seq := (match s.calNewest with | some c => c.seq + 1 | none => 1), writeNs := s.timeNs,
             writeEpoch := s.tb.epoch,
             chans := (List.range s.nChan).foldl (fun t c => tblSet calChanInit t c (fix c (s.calChan c))) [] }
  { c with crc := c.crcNow }

/-- The working copy once a copy of it stands in the store: a channel whose module's serial had changed goes on with the record
written (R415, R416). -/
def Dev.wcStored (s : Dev) (c : CalCopy) : CalCopy :=
  let fix := fun (t : Tbl CalChan) (n : Nat) =>
    let y := tblGet calChanInit c.chans n
    let x := tblGet calChanInit t n
    if x.serial == y.serial then t else tblSet calChanInit t n { x with serial := y.serial, ranges := y.ranges }
  { s.cal.wc with ok := true, chans := (List.range s.nChan).foldl fix s.cal.wc.chans }

/-- CAL_STORE's sheet; FINAL_REPLY completes it. -/
def cmdCalStore : Cmd :=
  { op := 0x0706, owner := true, len := some 0, names := fun _ _ => [Res.store],
    body := fun s j => (s.modCal (fun k => { k with storing := some (j.id, s.storeImage) }), .later []) }

/-- The write ends: the copy stands, or it is invalid (R416, R417). -/
def Dev.calStored (s : Dev) (id : Nat) (ok : Bool) : Dev × Nat × List Byte :=
  match s.cal.storing with
  | none => (s, stIntegrity, [])
  | some (i, c) =>
    if i ≠ id then (s, stIntegrity, [])
    else if ok then
      ((s.calWrite c).modCal (fun k => { k with wc := s.wcStored c, storing := none, defaults := false, storeSeq := c.seq }),
        stOk, w32 c.seq)
    else ((s.calWrite { c with ok := false }).modCal (fun k => { k with storing := none }), stIntegrity, [])

/-! ### Rows -/

/-- CAL_SELF. -/
def execCalSelf (q : Req) (s : State) : Out := .next (s.on (fun d => d.command cmdCalSelf q))
/-- CAL_STATUS. -/
def execCalStatus (q : Req) (s : State) : Out := .next (s.on (fun d => d.command cmdCalStatus q))
/-- CAL_TRACE_BEGIN. -/
def execCalTraceBegin (q : Req) (s : State) : Out := .next (s.on (fun d => d.command cmdCalTraceBegin q))
/-- CAL_TRACE_POINT. -/
def execCalTracePoint (q : Req) (s : State) : Out := .next (s.on (fun d => d.command cmdCalTracePoint q))
/-- CAL_TRACE_END. -/
def execCalTraceEnd (q : Req) (s : State) : Out := .next (s.on (fun d => d.command cmdCalTraceEnd q))
/-- CAL_STORE. -/
def execCalStore (q : Req) (s : State) : Out := .next (s.on (fun d => d.command cmdCalStore q))
/-- CAL_RUN_START (R395). -/
def execCalRunStart (s : State) : Out := .next (s.on (fun d => d.calRunStart))
/-- REFERENCE_CHECK_END (R397). -/
def execReferenceCheckEnd (codes : RefCodes) (s : State) : Out :=
  .next (s.on (fun d => d.refCheckEnd codes.ref.toInt codes.cal.toInt))
/-- GROUP_SLOT_START (R398). -/
def execGroupSlotStart (s : State) : Out := .next (s.on (fun d => d.slotStart))
/-- GROUP_SLOT_END (R398). -/
def execGroupSlotEnd (results : List CalResult) (s : State) : Out := .next (s.on (fun d => d.observed (fun d => d.slotEnd results)))
/-- SURVEY_CAL_END (R401). -/
def execSurveyCalEnd (result : CalResult) (s : State) : Out := .next (s.on (fun d => d.surveyCalEnd result))

end Sys2Proof.Machine
end

