-- ==== Sys2Proof/Machine/Vectors.lean ====
section
/-! DEFINITION. The vector engine: banks, clock, segments, the player and its fail records (spec/13_vectors.md). -/

namespace Sys2Proof.Machine

/-! ### Edges of the sample clock (R425 to R427, R436) -/

/-- The VCO's settings N + f / 2^24, times 2^24, that bring it nearest to `O` times a request, within 3.2 to 6.4 GHz (R479). -/
def vcoMul (hz o : Nat) : Nat := min (max (rhe ((hz * o * 2 ^ 24 : Nat) : Int) 40000000).toNat (80 * 2 ^ 24)) (160 * 2 ^ 24)

/-- How far settings lie from a request: |40 MHz M / 2^24 - hz O|, over O. -/
def vcoErr (hz : Nat) (p : Nat × Nat) : Nat := ((p.1 * 40000000 : Nat) - (hz * p.2 * 2 ^ 24 : Nat) : Int).natAbs

/-- The even output dividers, 16 to 6,400, that bring a request into the VCO's range (R479). -/
def vcoDivs (hz : Nat) : List Nat :=
  let lo := max 16 (2 * ceilDiv 3200000000 (2 * hz))
  (List.range ((min 6400 (6400000000 / hz) - lo) / 2 + 1)).map (fun k => lo + 2 * k)

/-- The N, f and O nearest to a request; of equally near ones the least O (R479; log entry 145). -/
def vcoPick (hz : Nat) : Nat × Nat :=
  (vcoDivs hz).foldl (fun b o => let p := (vcoMul hz o, o); if vcoErr hz p * b.2 < vcoErr hz b * o then p else b)
    (vcoMul hz ((vcoDivs hz).headD 16), (vcoDivs hz).headD 16)

/-- F_act = 40 MHz (N + f / 2^24) / O (R479). -/
def Dev.vFreq (s : Dev) : Frac := ⟨((40000000 * s.vec.mul : Nat) : Int), 2 ^ 24 * s.vec.odiv⟩
/-- `n` periods T_v in ps, over `d`. -/
def Dev.vPeriods (s : Dev) (n d : Nat) : Nat :=
  let f := s.vFreq
  n * 1000000000000 * f.den / (d * f.num.toNat)
/-- Start edge number `k` since edge 0. -/
def Dev.vEdge (s : Dev) (k : Nat) : Nat := s.vec.edge0 + s.vPeriods k 1
/-- The first start edge at or after an instant. -/
def Dev.vEdgeAt (s : Dev) (t : Nat) : Nat :=
  let f := s.vFreq
  let k := (t - s.vec.edge0) * f.num.toNat / (1000000000000 * f.den)
  if s.vEdge k ≥ t then s.vEdge k else s.vEdge (k + 1)
/-- The first start edge after an instant. -/
def Dev.vEdgeAfter (s : Dev) (t : Nat) : Nat := s.vEdgeAt (t + 1)
/-- Device time in 1/256 ns of the start edge that lies at an instant, to the nearest one (R490). -/
def Dev.vStamp (s : Dev) (t : Nat) : Nat :=
  let f := s.vFreq
  let k := ceilDiv ((t + 1 - s.vec.edge0) * f.num.toNat) (1000000000000 * f.den) - 1
  let mono := rhe ((((s.vec.edge0 - s.tb.monoZero) * f.num.toNat + k * 1000000000000 * f.den) * 256 : Nat) : Int) (1000 * f.num.toNat)
  (mono + (s.stepAt t).1).toNat

/-- The edge at which an event that arrives now is latched (R436). -/
def Dev.vLatch (s : Dev) (t : Nat) : Nat := s.vEdgeAt (t + 5000)
/-- 4 T_v + 20 ns. -/
def Dev.vLag (s : Dev) : Nat := s.vPeriods 4 1 + 20000

/-! ### Words and segments (R423, R431 to R433) -/

/-- A word of vector memory. -/
def Dev.vWord (s : Dev) (a : Nat) : List Byte := tblGet wordInit s.vec.words a
/-- Words of a segment. -/
def segWords : Nat := 24576
/-- Words of vector memory. -/
def vWords : Nat := 393216
/-- The player is ARMED, PLAYING or waiting. -/
def Dev.vBusy (s : Dev) : Bool := s.vec.player.state != .idle
/-- The state of a segment by its code (R431, R432). -/
def Dev.segState (s : Dev) (i : Nat) : Nat :=
  let q := s.vec.player
  let st := tblGet (fun _ => 0) s.vec.segs i
  if st = 2 && s.vBusy && (q.word.toList ++ q.pf).any (fun a => a / segWords == i) then 3 else st
/-- A segment's state is set. -/
def Dev.setSeg (s : Dev) (i st : Nat) : Dev := s.modVec (fun v => { v with segs := tblSet (fun _ => 0) v.segs i st })
/-- Words stored from an address; the segment becomes LOADING. -/
def Dev.storeWords (s : Dev) (a n : Nat) (d : List Byte) : Dev :=
  (s.modVec (fun v => { v with words := (List.range n).foldl (fun t k => tblSet wordInit t (a + k) (slice d (64 * k) 64)) v.words })).setSeg
    (a / segWords) 1
/-- Every word of a segment becomes 0. -/
def Dev.clearSeg (s : Dev) (i : Nat) : Dev :=
  (s.modVec (fun v => { v with words := v.words.filter (fun p => p.1 / segWords != i) })).setSeg i 0

/-- Pin code of a pin in a word. -/
def pinCode (pins p : Nat) : Nat := bitsOf pins (3 * p + 2) (3 * p)

/-- The first check of R433 that a word fails. -/
def wordCheck (b : List Byte) : Option Nat :=
  let pins := leN b 0 48
  let op := u8 b 48
  if (List.range 128).any (fun p => decide (pinCode pins p ≥ 6)) then some 1
  else if op > 4 || u8 b 49 ≥ 4 || u8 b 52 ≥ 8 || u8 b 53 / 8 % 16 != 0 || !allZero b 54 2 || !allZero b 60 4 then some 2
  else if u16 b 50 = 0 then some 3
  else if u8 b 52 ≥ 5 then some 4
  else if (u8 b 49 != 0 && op != 1 && op != 2) || (u32 b 56 != 0 && (op == 0 || op == 2 || op == 4))
      || (op == 3 && decide (u32 b 56 ≥ vWords)) then some 5
  else none

/-- The first failing word of `n` from address `a`, with its check; an unlisted word is 0 and fails check 3. -/
def segScan (a n : Nat) (l : Tbl (List Byte)) : Option (Nat × Nat) :=
  match n with
  | 0 => none
  | m + 1 =>
    match l with
    | [] => some (a, 3)
    | e :: r =>
      if e.1 = a then
        (match wordCheck e.2 with | some c => some (a, c) | none => segScan (a + 1) m r)
      else some (a, 3)

/-! ### The prefetcher (R424, R432) -/

/-- The next address after a word, with the resolver after it; none after HALT. -/
def VResolve.next (v : VResolve) (a : Nat) (b : List Byte) : Option Nat × VResolve :=
  let l := u8 b 49 % 4
  let n := v.counters.getD l 0
  let v0 := { v with byLoop := none }
  match u8 b 48 with
  | 1 => (some (a + 1), if v.byLoop == some l then v0 else { v0 with marks := v.marks.set l a, counters := v.counters.set l (u32 b 56) })
  | 2 => if n > 0 then (some (v.marks.getD l 0), { v with counters := v.counters.set l (n - 1), byLoop := some l }) else (some (a + 1), v0)
  | 3 => (some (u32 b 56), v0)
  | 4 => (none, v0)
  | _ => (some (a + 1), v0)

/-- Fetches up to `fuel` words while fewer than 64 are ahead; a word of a segment that is not READY or not held stops it. -/
def Dev.vFill (fuel : Nat) (s : Dev) : Dev :=
  match fuel with
  | 0 => s
  | k + 1 =>
    let q := s.vec.player
    match q.fetch with
    | none => s
    | some a =>
      if q.blocked || q.pf.length ≥ 64 then s
      else if a ≥ vWords || tblGet (fun _ => 0) s.vec.segs (a / segWords) ≠ 2 || some (s.segHolder (a / segWords)) != q.fn then
        s.modPlayer (fun q => { q with blocked := true })
      else
        let r := q.res.next a (s.vWord a)
        Dev.vFill k (s.modPlayer (fun q => { q with pf := q.pf ++ [a], fetch := r.1, res := r.2 }))

/-! ### The end of a pattern (R440) -/

/-- The pattern ends at an edge: REASON, idle pins, VEC_END, and the lock is released. Pending triggers stay: only arming clears
them (R438). -/
def Dev.vEnd (s : Dev) (reason t : Nat) : Dev :=
  match s.vec.player.fn with
  | none => s
  | some f =>
    let s1 := s.modVstat f (fun x => { x with reason := reason })
    let s2 := s1.modPlayer (fun q => { playerInit with lastEnd := t, pend := q.pend, pendAt := q.pendAt })
    ((s2.detach 52).clearOverrun 52).pulseAt 72 t

/-- The pulse of a word's EMIT at the edge `t` that `when_` names: one T_v, at least 20 ns (R439). -/
def Dev.vEmit (s : Dev) (a when_ t : Nat) : Dev :=
  let e := u8 (s.vWord a) 53
  if e.testBit 7 && e / 4 % 2 == when_ then s.pulseFor (68 + e % 4) t (max (s.vPeriods 1 1) 20000) else s

/-- A pattern of a function ends at the next edge for a reason of R440 (RELEASED, POWER). -/
def Dev.vAbort (s : Dev) (reason : Nat) : Dev := if s.vBusy then s.vEnd reason (s.vEdgeAfter s.now) else s

/-! ### A vector cycle (R420 to R422, R437, R442 to R446) -/

/-- A pin that the player acts on: its bank is enabled and the player's function holds it (R422). -/
def Dev.vPinOn (s : Dev) (f p : Nat) : Bool := (s.vbank (p / 32)).enabled && s.pinHolder p == f

/-- A pin's idle state as it shows: a new one from the next start edge on (R429). -/
def Dev.vIdle (s : Dev) (p : Nat) : Nat :=
  let w := tblGet (fun _ => (0, 0)) s.vec.idleWas p
  if s.now < w.2 then w.1 else tblGet (fun _ => 0) s.vec.idle p

/-- What a pin's driver does (R420, R428 to R430, R437): nothing while its bank is off; the pin state of the cycle that plays,
or that played before a wait, for a pin of the player; its idle state otherwise, and for a first word that waits. -/
def Dev.vPinDrive (s : Dev) (p : Nat) : PinDrive :=
  let b := s.vbank (p / 32)
  let q := s.vec.player
  let plays := match q.state with | .playing => true | .waiting => true | _ => false
  if !b.enabled && decide (b.offAt ≤ s.now) then .hiz
  else if plays && q.fn == some (s.pinHolder p) && (s.vstat (s.pinHolder p)).cycles != 0 then
    (match pinCode q.pins p with
     | 0 => .low
     | 1 => .high
     | 4 => if b.zUp then .pullUp else .pullDown
     | _ => .hiz)
  else match s.vIdle p with | 1 => .low | 2 => .high | _ => .hiz

/-- Drive instant and strobe of a bank for a cycle that starts at `t` (R426). -/
def Dev.vDrive (s : Dev) (b t : Nat) : Nat := t + (s.vbank b).delay * 10
/-- The strobe. -/
def Dev.vStrobe (s : Dev) (b t : Nat) : Nat := s.vDrive b t + s.vPeriods (s.vbank b).strobe 256

/-- When the weak pull of a pin in CZ was enabled, with this cycle's drive instant for a pull that starts (R421). -/
def Dev.vPull (s : Dev) (t p : Nat) : Nat :=
  (tblGet (fun _ => none) s.vec.player.pull p).getD (s.vDrive (p / 32) t)

/-- A pin fails its compare. -/
def Dev.vPinFails (s : Dev) (f pins recv t p : Nat) : Bool :=
  let b := p / 32
  s.vPinOn f p && (match pinCode pins p with
    | 2 => recv.testBit p
    | 3 => !recv.testBit p
    | 4 => decide (s.vStrobe b t ≥ s.vPull t p + 40000) && recv.testBit p != (s.vbank b).zUp
    | _ => false)

/-- The fail mask of a group. -/
def Dev.vMask (s : Dev) (f pins recv t g : Nat) : Nat := bitMap (fun k => s.vPinFails f pins recv t (32 * g + k)) 32

/-- The level that a pin of an enabled bank drives in a cycle of function `f`'s pattern: the pin state of a pin of that
function, the idle state of another; none where its driver is off. -/
def Dev.vLevel (s : Dev) (f pins p : Nat) : Option Bool :=
  let c := if s.pinHolder p = f then pinCode pins p else (match s.vIdle p with | 1 => 0 | 2 => 1 | _ => 5)
  if !(s.vbank (p / 32)).enabled || decide (c ≥ 2) then none else some (c == 1)

/-- A driven pin whose receiver differs, in a bank with DCHECK (R446). -/
def Dev.vDriveBad (s : Dev) (f pins recv p : Nat) : Bool :=
  (s.vbank (p / 32)).dcheck && (match s.vLevel f pins p with | some l => recv.testBit p != l | none => false)

/-- The end that a limit or a drive error brings: the first one stands. -/
def Player.endBy (q : Player) (t reason : Nat) : Player := { q with endFrom := some (q.endFrom.getD (t, reason)) }

/-- A failing cycle of a group (R442, R443). -/
def Dev.vFailGroup (s : Dev) (f a t mask g : Nat) : Dev :=
  if mask = 0 then s
  else
    let q := s.vec.player
    let cyc := (s.vstat f).cycles
    let s1 := s.modVstat f (fun x =>
      { x with failCycles := x.failCycles.set g (sat32n (x.failCycles.getD g 0 + 1)), failedPins := x.failedPins ||| mask * 2 ^ (32 * g),
               firstFail := some (x.firstFail.getD (a, cyc)) })
    let mode := (s.fn f).failMode
    let rec_ := mode == 0 || (mode == 1 && !q.failedWord.testBit g) || (mode == 2 && !q.failedPat.testBit g)
    let r := s1.recAt (groupStream f g) (0x80 + g) 7 t a mask (cyc % 2 ^ 32) 0
    let st := s1.vStamp t
    let s2 := if rec_ then s1.record { r with timeNs := st / 256 % 2 ^ 64, frac := st % 256 } else s1
    let lim := (s.fn f).failLimit
    s2.modPlayer (fun q =>
      let q1 := { q with failedWord := q.failedWord ||| 2 ^ g, failedPat := q.failedPat ||| 2 ^ g, fails := q.fails + 1 }
      if lim ≠ 0 && q1.fails = lim then q1.endBy (t + s.vLag) 5 else q1)

/-- The key of R446's log entry, to which R604 gives no code: code and severity are one free value, the same for every mismatch,
so that mismatches coalesce (log entry 60). -/
def kDriveCheck : LogKey := key ((Config.freeConst 0).toNat % 65536) 13 ((Config.freeConst 0).toNat / 65536 % 4) 0 0

/-- The compare-back of driven pins (R446): each mismatch is one occurrence. -/
def Dev.vDriveCheck (s : Dev) (f pins recv t : Nat) : Dev :=
  let bad := (List.range 128).filter (s.vDriveBad f pins recv)
  if bad.isEmpty then s
  else
    let s1 := s.modVstat f (fun x => { x with driveErr := sat32n (x.driveErr + bad.length) })
    let s2 := bad.foldl (fun s _ => s.logIt kDriveCheck 0) s1
    if bad.any (fun p => (s.vbank (p / 32)).dhalt) then s2.modPlayer (fun q => q.endBy (t + s.vLag) 8) else s2

/-- One cycle of the present word at an edge. -/
def Dev.vPlay (s : Dev) (f a t recv : Nat) : Dev :=
  let pins := leN (s.vWord a) 0 48
  let masks := (List.range 4).map (s.vMask f pins recv t)
  let s1 := (List.range 4).foldl (fun s g => s.vFailGroup f a t (masks.getD g 0) g) s
  let s2 := (if masks.any (· != 0) then s1.pulseAt 73 t else s1).vDriveCheck f pins recv t
  let pull := (List.range 128).foldl (fun m p =>
    if pinCode pins p = 4 then tblSet (fun _ => none) m p (some (s.vPull t p)) else tblErase p m) s.vec.player.pull
  (s2.modVstat f (fun x => { x with cycles := x.cycles + 1, addr := a })).modPlayer (fun q =>
    { q with left := q.left - 1, edge := s.vEdgeAfter t, pull := pull, pins := pins })

/-- A new word begins at an edge: it plays its first cycle, or waits for its trigger (R437). -/
def Dev.vBegin (s : Dev) (f a t recv : Nat) : Dev :=
  let b := s.vWord a
  let w := u8 b 52 % 8
  let s1 := s.modPlayer (fun q => { q with word := some a, left := u16 b 50, failedWord := 0, edge := t, state := .playing })
  if w = 0 then (s1.vEmit a 0 t).vPlay f a t recv
  else if s1.vec.player.pend.testBit (w - 1) then
    let e := tblGet (fun _ => 0) s1.vec.player.pendAt (w - 1)
    let s2 := s1.modPlayer (fun q => { q with pend := q.pend - 2 ^ (w - 1) })
    if e ≤ t then (s2.vEmit a 0 t).vPlay f a t recv else s2.modPlayer (fun q => { q with edge := s1.vEdgeAfter e })
  else s1.modPlayer (fun q => { q with state := .waiting, waitIn := w - 1 })

/-- The next word has an uncorrectable error (R445): one that its fetch found, or one reported with the cycle. -/
def Dev.vNextBad (s : Dev) (bad : Bool) : Bool :=
  match s.vec.player.pf with | a :: _ => bad || s.vec.player.ecc.contains a | [] => false

/-- The next word at an edge, or the end of the pattern (R424, R432, R445). -/
def Dev.vNextWord (s : Dev) (f t recv : Nat) (bad : Bool) : Dev :=
  let s1 := match s.vec.player.word with | some a => s.vEmit a 1 t | none => s
  match s1.vec.player.pf with
  | [] => s1.vEnd (if s1.vec.player.blocked then 3 else 1) t
  | a :: r =>
    if s1.vNextBad bad then (s1.logIt (kSramUncorrectable 0 0) (a % 2 ^ 32)).vEnd 4 t
    else ((s1.modPlayer (fun q => { q with pf := r })).vFill 64).vBegin f a t recv

/-- The end that the pattern comes to by itself at an edge `t`: a limit or drive error whose instant has come (R443, R446), or no
word after the last cycle of this one (R424, R432, R445). The word whose last cycle is over makes its WHEN 1 emit (R439). -/
def Dev.vOwnEnd (s : Dev) (f t : Nat) (bad : Bool) : Option Dev :=
  let q := s.vec.player
  let atEnd := q.state == .playing && q.left == 0 && q.edge == t
  match q.endFrom with
  | some e =>
    if e.2 ≠ 2 && decide (e.1 ≤ t) then
      some ((match q.word with | some a => if atEnd then s.vEmit a 1 t else s | none => s).vEnd e.2 (min t (s.vEdgeAt e.1)))
    else if atEnd && (q.pf.isEmpty || s.vNextBad bad) then some (s.vNextWord f t 0 bad) else none
  | none => if atEnd && (q.pf.isEmpty || s.vNextBad bad) then some (s.vNextWord f t 0 bad) else none

/-- A stop that waits for its edge: an end that comes no later stands (R441). -/
def Dev.vStopAt (s : Dev) (ep : Nat) : Dev :=
  s.modPlayer (fun q =>
    { q with endFrom := match q.endFrom with | some e => if s.vEdgeAt e.1 ≤ ep then some e else some (ep, 2) | none => some (ep, 2) })

/-- A stop latched at an edge (R441): cycles that start before that edge still play, and another end at that edge stands. -/
def Dev.vStop (s : Dev) (ep : Nat) : Dev :=
  let q := s.vec.player
  match q.fn, q.state with
  | none, _ => s
  | some _, .idle => s
  | some _, .armed =>
    (match q.startAt with
     | some t0 => if s.vEdgeAt t0 < ep then s.vStopAt ep else s.vEnd 10 ep
     | none => s.vEnd 10 ep)
  | some f, .playing => if q.edge < ep then s.vStopAt ep else (s.vOwnEnd f ep false).getD (s.vEnd 2 ep)
  | some f, .waiting => (s.vOwnEnd f ep false).getD (s.vEnd 2 ep)

/-- A cycle of the present word, or the next word, at an edge. -/
def Dev.vGoOn (s : Dev) (f t recv : Nat) (bad : Bool) : Dev :=
  let q := s.vec.player
  if q.left > 0 then (match q.word with
    | some a => (if q.left = u16 (s.vWord a) 50 then s.vEmit a 0 t else s).vPlay f a t recv
    | none => s)
  else s.vNextWord f t recv bad

/-- VECTOR_CYCLE: what the player does at its next start edge; nothing in QUIET and DEEP (R450). -/
def Dev.vCycle (s : Dev) (recv : Nat) (bad : Bool) : Dev :=
  let q := s.vec.player
  match q.fn with
  | none => s
  | some f =>
    if s.sys.power % 2 = 1 then s
    else match q.state with
    | .idle => s
    | .waiting => s
    | .armed =>
      (match q.startAt with
       | none => s
       | some t0 =>
         let t := s.vEdgeAt t0
         (((s.advance t).detach 52).clearOverrun 52).vNextWord f t recv bad)
    | .playing =>
      let t := q.edge
      let s1 := s.advance t
      match s1.vOwnEnd f t bad with
      | some d => d
      | none =>
        match q.endFrom with
        | some e => if e.1 ≤ t then s1.vEnd e.2 t else s1.vGoOn f t recv bad
        | none => s1.vGoOn f t recv bad

/-- FAIL_LIMIT_END: the first edge at or after the instant of R443, once every cycle that starts before it has played. -/
def Dev.vLimitEnd (s : Dev) : Dev :=
  match s.vec.player.endFrom, s.vec.player.fn with
  | some e, some f =>
    let t := s.vEdgeAt e.1
    let s1 := s.advance t
    if s.vec.player.state == .playing && decide (s.vec.player.edge < t) then s
    else (s1.vOwnEnd f t false).getD (s1.vEnd e.2 t)
  | _, _ => s

/-! ### Events at the vector consumers (R436 to R438, R441) -/

/-- A start or trigger that does not act counts in MISSED_TRIG: of the player's function, or, while no function holds the
player, of the one whose route brought it (log entry 146). -/
def Dev.vMissed (s : Dev) (n route : Nat) : Dev :=
  let f := s.vec.player.fn.getD (s.routeHolder route)
  (s.modVstat f (fun x => { x with missed := min (x.missed + 1) 0xFFFF })).setOverrun n

/-- VEC_START_EVENT. -/
def Dev.vStartEvent (s0 : Dev) : Dev :=
  if !s0.hasEdge 52 then s0
  else
    let at_ := s0.vLatch (s0.edgeTime 52)
    let route := (s0.edgeRoute 52).getD 0
    let s := s0.takeEdge 52
    let q := s.vec.player
    if q.state == .armed && q.kind == 2 && q.startAt.isNone then
      s.modPlayer (fun q => { q with startAt := some (s.vEdgeAfter at_) })
    else if q.state == .idle then s
    else s.vMissed 52 route

/-- VEC_TRIG. -/
def Dev.vTrig (s0 : Dev) (k : Nat) : Dev :=
  if !s0.hasEdge (54 + k) then s0
  else
    let at_ := s0.vLatch (s0.edgeTime (54 + k))
    let route := (s0.edgeRoute (54 + k)).getD 0
    let s := s0.takeEdge (54 + k)
    let q := s.vec.player
    if q.state == .waiting && q.waitIn == k then
      s.modPlayer (fun q => { q with state := .playing, edge := s.vEdgeAfter (max at_ q.edge) })
    else if q.pend.testBit k then s.vMissed (54 + k) route
    else s.modPlayer (fun q => { q with pend := q.pend ||| 2 ^ k, pendAt := tblSet (fun _ => 0) q.pendAt k at_ })

/-! ### Realignment, release (R427, R448) -/

/-- The sample clock is aligned at a realignment instant; a playing pattern whose edges move by more than 1 ns ends. -/
def Dev.vAlign (s : Dev) (t : Nat) : Dev :=
  let next := s.vEdgeAt t
  let prev := s.vEdge ((t - s.vec.edge0) * s.vFreq.num.toNat / (1000000000000 * s.vFreq.den))
  let moved := min (next - t) (t - prev)
  let s1 := s.modVec (fun v => { v with edge0 := t, aligned := true })
  let on := match s.vec.player.state with | .playing => true | .waiting => true | _ => false
  if on && decide (moved > 1000) then s1.vEnd 9 t
  else s1.modPlayer (fun q => if on then { q with edge := s1.vEdgeAt (q.edge - 1000) } else q)

/-- A pin leaves its holder: a pattern of that holder ends first, and the pin takes its safe state (R430, R448). -/
def Dev.vPinLeaves (s : Dev) (p : Nat) : Dev :=
  let s1 := if s.vec.player.fn == some (s.pinHolder p) then s.vAbort 7 else s
  s1.modVec (fun v => { v with idle := tblSet (fun _ => 0) v.idle p 0, idleWas := tblErase p v.idleWas })

/-- A segment leaves its holder: EMPTY with every word 0 (R448). -/
def Dev.vSegLeaves (s : Dev) (i : Nat) : Dev :=
  (if s.vec.player.fn == some (s.segHolder i) then s.vAbort 7 else s).clearSeg i

/-! ### Commands -/

/-- The issuer is ARMED or PLAYING. -/
def Dev.vMine (s : Dev) (f : Nat) : Bool := s.vBusy && s.vec.player.fn == some f

/-- VEC_BANK_CONFIG's sheet (R428): the enable waits for the conversion of VIO. -/
def cmdVecBankConfig : Cmd :=
  { op := 0x0801, owner := true, opt := .v, len := some 8,
    args := fun _ j =>
      let en := u8 j.p 1
      decide (u8 j.p 0 < 4) && decide (en < 2) && (if en = 1 then decide (12 ≤ u8 j.p 2) && decide (u8 j.p 2 ≤ 33) else u8 j.p 2 == 0)
        && decide (u8 j.p 3 < 3) && decide (u16 j.p 4 < 1024) && decide (u8 j.p 7 < 8),
    state := fun s j =>
      if s.vBusy || (u8 j.p 1 == 1 && (s.svyPaused || s.svy.faultState)) then stState
      else if u8 j.p 1 = 1 && s.svy.urgent.length ≥ 8 then stResource else 0,
    names := fun _ _ => [Res.player],
    body := fun s j =>
      if u8 j.p 1 = 0 then (s.setBank (u8 j.p 0) j.p (if (s.vbank (u8 j.p 0)).enabled then s.vEdgeAfter s.now else 0), .done stOk [])
      else (s.svyQueue { entry := 0xFFFF, bytes := w8 (210 + u8 j.p 0) ++ zeros 31, fn := j.f, cmd := some j.id,
                         bank := some (u8 j.p 0) }, .later []) }

/-- VEC_CLOCK's sheet; FINAL_REPLY completes it. -/
def cmdVecClock : Cmd :=
  { op := 0x0802, owner := true, opt := .v, len := some 4,
    args := fun _ j => decide (1000000 ≤ u32 j.p 0) && decide (u32 j.p 0 ≤ 200000000),
    state := fun s _ => stIf (!s.vBusy), names := fun _ _ => [Res.player], body := fun s _ => (s, .later []) }

/-- The new clock runs (R425, R427, R479), and the frequency achieved is reported in binary64. -/
def Dev.vClockSet (s : Dev) (hz : Nat) : Dev × Nat :=
  let p := vcoPick hz
  let s1 := if p.1 = s.vec.mul && p.2 = s.vec.odiv then s.modVec (fun v => { v with freq := hz })
    else s.modVec (fun v => { v with freq := hz, mul := p.1, odiv := p.2, aligned := false, edge0 := s.now })
  (s1, f64Of s1.vFreq)

/-- Byte `g` of GROUP_RING. -/
def groupRingOf (p : List Byte) (g : Nat) : Nat := u8 p (8 + g)
/-- The IDLE code of a pin. -/
def idleCode (p : List Byte) (k : Nat) : Nat := bitsOf (leN p 16 32) (2 * k + 1) (2 * k)

/-- VEC_CONFIG's sheet (R429, R443, R444). -/
def cmdVecConfig : Cmd :=
  { op := 0x0803, opt := .v, len := some 48,
    args := fun _ j =>
      let m := u8 j.p 0
      decide (m < 8) && j.rsv 2 2 && j.rsv 12 4 && (!m.testBit 1 || decide (u8 j.p 1 < 4))
        && (!m.testBit 2 || (List.range 4).all (fun g => decide (groupRingOf j.p g < 8) || groupRingOf j.p g == 0xFF))
        && (!m.testBit 0 || (List.range 128).all (fun k => idleCode j.p k != 3)),
    held := fun s j =>
      let m := u8 j.p 0
      (!m.testBit 0 || (List.range 128).all (fun k => idleCode j.p k == 0 || s.pinHolder k == j.f))
        && (!m.testBit 2 || (List.range 4).all (fun g => groupRingOf j.p g == 0xFF || decide (groupRingOf j.p g < (s.fn j.f).ringCount))),
    state := fun s j => stIf (!s.vMine j.f),
    names := fun s j => if s.vMine j.f then [] else [Res.func j.f],
    body := fun s j =>
      let m := u8 j.p 0
      let s1 := if m.testBit 0 then
          let mine := (List.range 128).filter (fun k => s.pinHolder k == j.f)
          s.modVec (fun v => { v with
            idle := mine.foldl (fun t k => tblSet (fun _ => 0) t k (idleCode j.p k)) v.idle,
            idleWas := mine.foldl (fun t k => tblSet (fun _ => (0, 0)) t k (s.vIdle k, s.vEdgeAfter s.now)) v.idleWas })
        else s
      let s2 := if m.testBit 1 then s1.modFn j.f (fun f => { f with failMode := u8 j.p 1, failLimit := u32 j.p 4 }) else s1
      let s3 := if m.testBit 2 then
          (s2.forAll (List.range 4) (fun s g => s.modStream (groupStream j.f g) (fun t =>
            if t.ring = groupRingOf j.p g then t else { t with ring := groupRingOf j.p g, seq := 0 }))).modFn j.f
              (fun f => { f with groupRing := u32 j.p 8 })
        else s2
      (s3, .done stOk []) }

/-- ADDR and COUNT of VEC_WRITE and VEC_READ: one segment. -/
def vSpanOk (j : Job) : Bool :=
  let a := u32 j.p 0
  let n := u8 j.p 4
  decide (1 ≤ n) && decide (n ≤ 3) && decide (a + n ≤ vWords) && a / segWords == (a + n - 1) / segWords && j.rsv 5 3

/-- VEC_WRITE's sheet (R431, R434). -/
def cmdVecWrite : Cmd :=
  { op := 0x0804, opt := .v, len := none,
    args := fun _ j => vSpanOk j && j.q.len == 8 + 64 * u8 j.p 4,
    held := fun s j => s.segHolder (u32 j.p 0 / segWords) == j.f,
    state := fun s j => stIf (s.segState (u32 j.p 0 / segWords) != 3),
    names := fun _ j => [Res.seg (u32 j.p 0 / segWords)],
    body := fun s j => (s.storeWords (u32 j.p 0) (u8 j.p 4) (j.p.drop 8), .done stOk []) }

/-- VEC_LOAD's sheet; FINAL_REPLY completes it with the bytes read. -/
def cmdVecLoad : Cmd :=
  { op := 0x0805, opt := .v, len := some 24,
    args := fun _ j =>
      decide (u8 j.p 0 < 16) && j.rsv 1 3 && decide (1 ≤ u32 j.p 4) && decide (u32 j.p 4 ≤ segWords) && u64 j.p 8 % 64 == 0
        && j.rsv 20 4,
    held := fun s j => s.segHolder (u8 j.p 0) == j.f, state := fun s j => stIf (s.segState (u8 j.p 0) != 3),
    names := fun _ j => [Res.seg (u8 j.p 0)], body := fun s j => (s.setSeg (u8 j.p 0) 1, .later []) }

/-- A load that failed leaves the words it names undefined: free values (log entry 89). -/
def Dev.vLoadUndefined (s : Dev) (j : Job) : Dev :=
  let n := u32 j.p 4
  (s.storeWords (segWords * u8 j.p 0) n ((List.range (64 * n)).map (Config.freeByte s.freeCtr))).freeNext

/-- The words of a VEC_LOAD have been read: they are stored when their CRC is right. -/
def Dev.vLoadEnd (s : Dev) (j : Job) (ok : Bool) (data : List Byte) : Dev × Nat × List Byte :=
  let n := u32 j.p 4
  if ok && data.length == 64 * n && (crc32c data).toNat == u32 j.p 16 then
    (s.storeWords (segWords * u8 j.p 0) n data, stOk, [])
  else (s.vLoadUndefined j, stIntegrity, [])

/-- VEC_SEG_COMMIT's sheet; FINAL_REPLY completes it. -/
def cmdVecSegCommit : Cmd :=
  { op := 0x0806, opt := .v, len := some 4,
    args := fun _ j => decide (u8 j.p 0 < 16) && j.rsv 1 3, held := fun s j => s.segHolder (u8 j.p 0) == j.f,
    state := fun s j => stIf (decide (s.segState (u8 j.p 0) < 2)), names := fun _ j => [Res.seg (u8 j.p 0)],
    body := fun s _ => (s, .later []) }

/-- The checks of R433 over a segment. -/
def Dev.vCommit (s : Dev) (i : Nat) : Dev × Nat × List Byte :=
  match segScan (segWords * i) segWords (s.vec.words.filter (fun p => p.1 / segWords == i)) with
  | none => (s.setSeg i 2, stOk, w32 0xFFFFFFFF ++ w8 0 ++ zeros 3)
  | some e => (s, stArg, w32 e.1 ++ w8 e.2 ++ zeros 3)

/-- VEC_READ's sheet. -/
def cmdVecRead : Cmd :=
  { op := 0x0807, opt := .v, len := some 8,
    args := fun _ j => vSpanOk j, held := fun s j => s.segHolder (u32 j.p 0 / segWords) == j.f,
    names := fun _ j => [Res.seg (u32 j.p 0 / segWords)],
    body := fun s j => (s, .done stOk ((List.range (u8 j.p 4)).flatMap (fun k => s.vWord (u32 j.p 0 + k)))) }

/-- VEC_START's execution (R435). -/
def Dev.vArm (s : Dev) (j : Job) : Dev × Result :=
  let kind := u8 j.p 4
  let at_ := if kind = 0 then some (s.now + 2000000)
    else if kind = 1 then some (max s.now (s.monoInstant (s.monoTarget (u64 j.p 8)))) else none
  let s1 := s.modPlayer (fun q =>
    { playerInit with state := .armed, fn := some j.f, kind := kind, route := u8 j.p 5, startAt := at_,
                      fetch := some (u32 j.p 0), lastEnd := q.lastEnd })
  let s2 := s1.modVstat j.f (fun x =>
    { x with reason := 0, cycles := 0, failCycles := [0, 0, 0, 0], failedPins := 0, firstFail := none })
  let s3 := (if kind = 2 then s2.attach 52 (u8 j.p 5) else s2).vFill 64
  (s3, .done stOk (w64 (match at_ with | some t => s.nsAt (s.vEdgeAt t) | none => 0)))

/-- VEC_START's sheet (R435, R449, R450). -/
def cmdVecStart : Cmd :=
  { op := 0x0808, opt := .v, len := some 16,
    args := fun s j =>
      let kind := u8 j.p 4
      decide (u32 j.p 0 < vWords) && decide (kind ≤ 2) && (kind == 2 || u8 j.p 5 == 0) && j.rsv 6 2
        && (if kind = 1 then decide (u64 j.p 8 ≥ s.timeNs + 2000) else u64 j.p 8 == 0),
    held := fun s j => s.segHolder (u32 j.p 0 / segWords) == j.f && (u8 j.p 4 != 2 || s.routeHolder (u8 j.p 5) == j.f),
    unlocked := fun s j => !s.vBusy || s.vMine j.f,
    state := fun s j =>
      stIf (!s.vBusy && s.segState (u32 j.p 0 / segWords) == 2 && (List.range 128).any (s.vPinOn j.f)
        && s.sys.power % 2 == 0 && !s.sys.deepEntering),
    names := fun _ _ => [Res.player], body := Dev.vArm }

/-- VEC_STOP's sheet (R441). -/
def cmdVecStop : Cmd :=
  { op := 0x0809, opt := .v, len := some 0,
    held := fun s j => !s.vBusy || s.vMine j.f, state := fun s _ => stIf s.vBusy,
    names := fun _ _ => [Res.player],
    body := fun s _ =>
      let ep := s.vEdgeAfter s.now
      (s.vStop ep, .done stOk (w64 (s.nsAt ep))) }

/-- PSTATE. -/
def PState.code (p : PState) : Nat := match p with | .idle => 0 | .armed => 1 | .playing => 2 | .waiting => 3

/-- The reply table of VEC_STATUS. -/
def vecStatusReply (s : Dev) (f : Nat) : List Byte :=
  let q := s.vec.player
  let mine := s.vMine f
  let x := s.vstat f
  let segs := (List.range 16).foldl (fun a i => a + (if s.segHolder i = f then s.segState i * 4 ^ i else 0)) 0
  let fl := bitAt s.vec.aligned 0 + bitAt (s.tb.tstate != .locked) 1 + (if mine then q.pend % 16 * 4 else 0)
  let ff := x.firstFail.getD (0xFFFFFFFF, 0)
  w8 (if mine then q.state.code else 0) ++ w8 x.reason ++ w16 (match q.fn with | some g => g | none => 0xFFFF) ++ w32 x.addr
    ++ w64 x.cycles ++ (List.range 4).flatMap (fun g => w32 (x.failCycles.getD g 0)) ++ toLe 16 x.failedPins ++ w32 ff.1
    ++ zeros 4 ++ w64 ff.2 ++ w32 segs ++ w32 x.driveErr ++ w16 x.missed ++ w16 fl ++ zeros 4

/-- VEC_STATUS's sheet (R442). -/
def cmdVecStatus : Cmd :=
  { op := 0x080A, opt := .v, len := some 4,
    args := fun _ j => decide (u32 j.p 0 < 2),
    body := fun s j =>
      let clr := fun (x : VStat) =>
        { x with failCycles := [0, 0, 0, 0], failedPins := 0, firstFail := none, driveErr := 0, missed := 0 }
      (if (u32 j.p 0).testBit 0 then s.modVstat j.f clr else s, .done stOk (vecStatusReply s j.f)) }

/-! ### Rows -/

/-- VEC_BANK_CONFIG. -/
def execVecBankConfig (q : Req) (s : State) : Out := .next (s.on (fun d => d.command cmdVecBankConfig q))
/-- VEC_CLOCK. -/
def execVecClock (q : Req) (s : State) : Out := .next (s.on (fun d => d.command cmdVecClock q))
/-- VEC_CONFIG. -/
def execVecConfig (q : Req) (s : State) : Out := .next (s.on (fun d => d.command cmdVecConfig q))
/-- VEC_WRITE. -/
def execVecWrite (q : Req) (s : State) : Out := .next (s.on (fun d => d.command cmdVecWrite q))
/-- VEC_LOAD. -/
def execVecLoad (q : Req) (s : State) : Out := .next (s.on (fun d => d.command cmdVecLoad q))
/-- VEC_SEG_COMMIT. -/
def execVecSegCommit (q : Req) (s : State) : Out := .next (s.on (fun d => d.command cmdVecSegCommit q))
/-- VEC_READ. -/
def execVecRead (q : Req) (s : State) : Out := .next (s.on (fun d => d.command cmdVecRead q))
/-- VEC_START. -/
def execVecStart (q : Req) (s : State) : Out := .next (s.on (fun d => d.command cmdVecStart q))
/-- VEC_STOP. -/
def execVecStop (q : Req) (s : State) : Out := .next (s.on (fun d => d.command cmdVecStop q))
/-- VEC_STATUS. -/
def execVecStatus (q : Req) (s : State) : Out := .next (s.on (fun d => d.command cmdVecStatus q))
/-- VECTOR_CYCLE (R424). -/
def execVectorCycle (receivers : BitVec 128) (uncorrectable : Bool) (s : State) : Out :=
  .next (s.on (fun d => d.vCycle receivers.toNat uncorrectable))
/-- FAIL_LIMIT_END (R443). -/
def execFailLimitEnd (s : State) : Out := .next (s.on (fun d => d.vLimitEnd))
/-- VEC_START_EVENT (R435). -/
def execVecStartEvent (s : State) : Out := .next (s.on (fun d => d.vStartEvent))
/-- VEC_STOP_EVENT (R441). -/
def execVecStopEvent (s : State) : Out :=
  .next (s.on (fun d => if d.hasEdge 53 then (d.takeEdge 53).vStop (d.vLatch (d.edgeTime 53)) else d))
/-- VEC_TRIG (R437). -/
def execVecTrig (input : Fin 4) (s : State) : Out := .next (s.on (fun d => d.vTrig input.val))

end Sys2Proof.Machine
end

