-- ==== Sys2Proof/Machine/Events.lean ====
section
/-! DEFINITION. The event fabric's commands, its own consumers, chassis lines and timers (spec/14_events.md). -/

namespace Sys2Proof.Machine

/-! ### Catalogues (R459 to R461) -/

/-- A function holds a vector pin. -/
def Dev.holdsPin (s : Dev) (f : Nat) : Bool := (List.range 128).any (fun p => s.pinHolder p == f)
/-- A function holds a crosspoint set that has a member on a chain. -/
def Dev.holdsOnChain (s : Dev) (f k : Nat) : Bool :=
  s.mxSets.any (fun p => p.2.chain == k && !p.2.members.isEmpty && s.setHolder p.1 == f)

/-- Whether a number is a source of the part (R459). -/
def Dev.evSourceOk (s : Dev) (n : Nat) : Bool :=
  decide (n ≤ 19) || (decide (24 ≤ n) && decide (n < 68)) || (decide (68 ≤ n) && decide (n ≤ 73) && s.optV)
    || (decide (74 ≤ n) && decide (n < 82) && s.optM) || (decide (128 ≤ n) && decide (n < 448) && s.chanOk ((n - 128) / 5))
    || (decide (448 ≤ n) && decide (n < 704) && s.chanOk ((n - 448) / 4)) || (decide (704 ≤ n) && decide (n ≤ 960))
    || (decide (1024 ≤ n) && decide (n < 1280))

/-- A function may select a source. -/
def Dev.sourceHeld (s : Dev) (f n : Nat) : Bool :=
  if n < 2 then true
  else if n < 15 then s.lineHolder (n - 2) == f
  else if n < 40 then true
  else if n < 52 then s.hsHolder (n % 4) == some f
  else if n < 68 then s.hsHolder ((n - 52) / 4) == some f
  else if n ≤ 73 then s.holdsPin f
  else if n < 82 then s.holdsOnChain f (n - 74)
  else if n < 448 then s.holdsChan f ((n - 128) / 5)
  else if n < 704 then s.holdsChan f ((n - 448) / 4)
  else if n < 960 then s.inView f (n - 704)
  else if n = 960 then f == 0 || (s.fn f).view != 0
  else s.routeHolder (n - 1024) == f

/-- Whether a number may stand in a consumer set (R460): attached consumers never do. -/
def Dev.consumerOk (s : Dev) (n : Nat) : Bool :=
  decide (n ≤ 14) || (decide (16 ≤ n) && decide (n < 52)) || (decide (53 ≤ n) && decide (n ≤ 57) && s.optV)
    || (decide (58 ≤ n) && decide (n < 66) && s.optM)
    || (decide (128 ≤ n) && decide (n < 640) && n % 8 != 7 && s.chanOk ((n - 128) / 8))
    || (decide (640 ≤ n) && decide (n < 704) && s.chanOk (n - 640))

/-- A function holds a consumer, attached ones included. -/
def Dev.consumerHeld (s : Dev) (f n : Nat) : Bool :=
  if n < 8 then s.lineHolder n == f
  else if n < 12 then s.lineHolder (n + 1) == f
  else if n = 13 then true
  else if n < 48 then f == 0
  else if n < 52 then s.hsHolder (n - 48) == some f
  else if n = 52 then s.vec.player.fn == some f
  else if n ≤ 57 then s.holdsPin f
  else if n < 66 then s.holdsOnChain f (n - 58)
  else if n < 128 then false
  else if n < 640 then s.holdsChan f ((n - 128) / 8)
  else if n < 704 then s.holdsChan f (n - 640)
  else if n < 960 then s.holdsChan f ((n - 704) / 4)
  else false

/-! ### EVT_ROUTE (R452, R457, R458) -/

/-- Length of the longest chain of ROUTE_OUT sources that ends at a route; past `fuel`, more than `fuel`. -/
def routeDepth (fuel : Nat) (t : Tbl Route) (r : Nat) : Nat :=
  match fuel with
  | 0 => 1
  | k + 1 =>
    let x := tblGet routeInit t r
    let up := fun (n : Nat) => if n ≥ 1024 then routeDepth k t (n - 1024) else 0
    1 + max (up x.source) (up x.gate)

/-- A source reaches a route, directly or through a chain. -/
def routeSees (fuel : Nat) (t : Tbl Route) (src r : Nat) : Bool :=
  match fuel with
  | 0 => false
  | k + 1 =>
    let x := tblGet routeInit t r
    let up := fun (n : Nat) => n == src || (decide (n ≥ 1024) && routeSees k t src (n - 1024))
    up x.source || up x.gate

/-- The routes with one more configured form no cycle, no chain of more than 4, and no latch (R457, R458). -/
def routesOk (t : Tbl Route) : Bool :=
  t.all (fun e => decide (routeDepth 5 t e.1 ≤ 4)
    && (List.range 8).all (fun n => !(e.2.consumers.testBit n && routeSees 5 t (2 + n) e.1)))

/-- The route that a request describes. -/
def routeOf (p : List Byte) : Route :=
  let fl := u8 p 1
  { enable := fl.testBit 0, invSrc := fl.testBit 1, invGate := fl.testBit 2, source := u16 p 2, gate := u16 p 4,
    consumers := leN p 8 128, fault := false, fires := 0 }

/-- EVT_ROUTE's sheet. An input that is asserted when the configuration takes effect makes no edge (R455). -/
def cmdEvtRoute : Cmd :=
  { op := 0x0901, len := some 136,
    args := fun s j =>
      decide (u8 j.p 1 < 8) && s.evSourceOk (u16 j.p 2) && s.evSourceOk (u16 j.p 4) && j.rsv 6 2
        && (bitsSet (leN j.p 8 128) 1024).all s.consumerOk
        && routesOk (tblInsert (u8 j.p 0) (routeOf j.p) (tblErase (u8 j.p 0) s.fab.routes)),
    held := fun s j =>
      s.routeHolder (u8 j.p 0) == j.f && s.sourceHeld j.f (u16 j.p 2) && s.sourceHeld j.f (u16 j.p 4)
        && (bitsSet (leN j.p 8 128) 1024).all (s.consumerHeld j.f),
    unlocked := fun s j => s.routeFree j.f (u8 j.p 0), names := fun _ j => [Res.route (u8 j.p 0)],
    body := fun s j => (s.modRoute (u8 j.p 0) (fun _ => routeOf j.p), .done stOk []) }

/-- EVT_ROUTE_STATUS's sheet (R471). -/
def cmdEvtRouteStatus : Cmd :=
  { op := 0x0902, len := some 4,
    args := fun _ j => j.rsv 1 3, held := fun s j => s.routeHolder (u8 j.p 0) == j.f,
    body := fun s j =>
      let r := u8 j.p 0
      let x := s.route r
      let fl := bitAt x.enable 0 + bitAt x.invSrc 1 + bitAt x.invGate 2
      let st := bitAt x.fault 0 + bitAt (s.outNow r) 1 + bitAt (s.fab.attached.any (fun a => a.2 == r)) 2
      (s, .done stOk (w8 r ++ w8 fl ++ w16 x.source ++ w16 x.gate ++ zeros 2 ++ toLe 128 x.consumers ++ w32 x.fires ++ w8 st
        ++ zeros 3)) }

/-! ### Overruns and the event queue (R463, R464) -/

/-- The OVERRUN flag that a function sees of a consumer. -/
def Dev.overrunOf (s : Dev) (f n : Nat) : Bool :=
  if n = 13 then (s.fn f).overrunHost != 0 else s.consumerHeld f n && tblGet (fun _ => false) s.fab.overrun n

/-- EVT_OVERRUN's sheet. -/
def cmdEvtOverrun : Cmd :=
  { op := 0x0903, len := some 4,
    args := fun _ j => decide (u32 j.p 0 < 2),
    body := fun s j =>
      let clr := (s.modFab (fun x => { x with overrun := x.overrun.filter (fun e => !s.consumerHeld j.f e.1) })).modFn j.f
        (fun f => { f with overrunHost := 0 })
      (if u32 j.p 0 = 1 then clr else s, .done stOk (toLe 128 (bitMap (s.overrunOf j.f) 1024))) }

/-- The bytes of an event-queue entry. -/
def evtBytes (e : EvtEntry) : List Byte :=
  w64 e.timeNs ++ w8 e.frac ++ w8 e.flags ++ w16 e.epoch ++ w8 e.route ++ zeros 3

/-- EVT_READ's sheet. -/
def cmdEvtRead : Cmd :=
  { op := 0x0904, len := some 4,
    args := fun _ j => decide (1 ≤ u8 j.p 0) && decide (u8 j.p 0 ≤ 14) && decide (u8 j.p 1 < 2) && j.rsv 2 2,
    body := fun s j =>
      let f := s.fn j.f
      let out := f.events.take (u8 j.p 0)
      let left := f.events.drop (u8 j.p 0)
      (s.modFn j.f (fun f => { f with events := left, evtLost := if u8 j.p 1 = 1 then 0 else f.evtLost }),
        .done stOk (w8 out.length ++ zeros 1 ++ w16 left.length ++ w32 f.evtLost ++ out.flatMap evtBytes)) }

/-- An edge of the instant `t` places an entry in a function's queue; in DEEP the entry is COARSE and its occurrence follows
the wake (R464, R470). -/
def Dev.hostEntry (s : Dev) (f r t : Nat) : Dev :=
  if (s.fn f).events.length ≥ 32 then s.modFn f (fun x => { x with evtLost := sat32n (x.evtLost + 1), overrunHost := 1 })
  else
    let deep := s.sys.power == 3
    let t := if deep then t / 40000 * 40000 else t
    let e : EvtEntry := { timeNs := s.nsAt t, frac := s.timeAt t % 256, epoch := s.epochAt t, route := r, flags := bit deep }
    let s1 := s.modFn f (fun x => { x with events := x.events ++ [e], evtDeep := x.evtDeep + bit deep })
    if deep then s1 else s1.irq f irqEvent

/-- HOST: the oldest edge of a route reaches its holder's queue, with the instant at which its source asserted (R71, R464). -/
def Dev.hostEvent (s : Dev) (f r : Nat) : Dev :=
  match s.fab.edges.find? (fun e => e.1 == 13 && e.2.1 == r) with
  | none => s
  | some e =>
    if s.routeHolder r ≠ f then s
    else (s.modFab (fun x => { x with edges := x.edges.erase e })).hostEntry f r e.2.2

/-- PF_VEC: an edge sends PF0 vector 32 + v; in DEEP the message follows the wake (R81, R465, R470). -/
def Dev.pfVec (s : Dev) (v : Nat) : Dev :=
  if s.sys.power = 3 || !s.hasEdge (16 + v) then s
  else ((s.takeEdge (16 + v)).modFn 0 (fun r => r.modVec (32 + v) (fun x => { x with edge := true }))).signal 0 (32 + v)

/-- CHAN_OFF acts on a channel: as FAST OFF at the next boundary, for a gang the whole gang (R466). -/
def Dev.chanOffAct (s : Dev) (c : Nat) : Dev :=
  let l := s.leader c
  if (s.chan l).state = 0 && (s.chan l).trans.isNone then s
  else
    let s1 := s.forAll (s.team c) Dev.seqOutput
    ((s1.rcDrop l stState).transEnd l stState).transBegin l 0 true none

/-- ROUTE_FAULT (R471). -/
def Dev.routeFault (s : Dev) (r : Nat) : Dev :=
  if (s.route r).fault then s
  else
    let off := (bitsSet (s.route r).consumers 704).filter (fun n => decide (n ≥ 640))
    let s1 := s.modRoute r (fun x => { x with fault := true })
    let s2 := s1.forAll off (fun s n => s.chanOffAct (n - 640))
    (s2.logIt (kRouteFault r) 0).irq (s2.routeHolder r) irqError

/-! ### Chassis lines (R467 to R469) -/

/-- The number of a line in the layout of LEVEL. -/
def LineId.num (l : LineId) : Nat := match l with | .bus n => n.val | .star => 8 | .fp n => 9 + n.val | .sync => 13

/-- Whether a level at a pin asserts a line (R467). -/
def Dev.asserts (s : Dev) (l : LineId) (high : Bool) : Bool :=
  match l with
  | .bus _ => !high
  | .star => high != s.fab.starPol
  | .fp n => high != s.fab.fpPol.testBit n.val
  | .sync => high


/-- A line is asserted or negated from outside. -/
def Fabric.setLine (x : Fabric) (n : Nat) (on : Bool) (now : Nat) : Fabric :=
  { x with ext := putBit x.ext n on,
           since := if on && !x.ext.testBit n then tblSet (fun _ => 0) x.since n now else x.since }

/-- LINE_STUCK: a line asserted for STUCK_TIME while this device does not drive it (R469). -/
def Dev.lineStuck (s : Dev) (l : LineId) : Dev :=
  let n := LineId.num l
  let input := !(decide (9 ≤ n) && decide (n < 13) && s.fab.fpDir.testBit (n - 9))
  let from_ := max (tblGet (fun _ => 0) s.fab.since n) (tblGet (fun _ => 0) s.fab.drove n)
  if !s.fab.ext.testBit n || s.fab.stuck.testBit n || (decide (n < 8) && s.levelOut n) || !input then s
  else
    let s1 := (s.advance (from_ + s.fab.stuckMs * 1000000000)).modFab (fun x => { x with stuck := x.stuck ||| 2 ^ n })
    let s2 := (s1.logIt (kLineStuck n) 0).irq 0 irqError
    if n < 13 && s2.lineHolder n ≠ 0 then s2.irq (s2.lineHolder n) irqError else s2

/-- EVT_LINE_CONFIG's sheet. A change of polarity asserts or negates its line, an edge as any other; a change of direction makes
no edge (R455; log entry 140). -/
def cmdEvtLineConfig : Cmd :=
  { op := 0x0905, owner := true, len := some 8,
    args := fun _ j =>
      let m := u8 j.p 0
      decide (m < 8) && decide (u8 j.p 1 < 16) && decide (u8 j.p 2 < 32) && j.rsv 3 1
        && (!m.testBit 2 || (decide (1 ≤ u32 j.p 4) && decide (u32 j.p 4 ≤ 100000))),
    names := fun _ j => if u8 j.p 0 % 4 = 0 then [] else (List.range 13).map Res.line,
    body := fun s j =>
      let m := u8 j.p 0
      let s1 := if m.testBit 0 then s.modFab (fun x => { x with fpDir := u8 j.p 1 }) else s
      let s2 := if m.testBit 1 then
          let flip := Nat.xor (s1.fab.fpPol + 16 * bit s1.fab.starPol) (u8 j.p 2)
          let lines := (bitsSet (flip % 16) 4).map (9 + ·) ++ (if flip.testBit 4 then [8] else [])
          (s1.forAll lines (fun s n => s.modFab (fun x => x.setLine n (!x.ext.testBit n) s.now))).modFab
            (fun x => { x with fpPol := u8 j.p 2 % 16, starPol := (u8 j.p 2).testBit 4 })
        else s1
      let s3 := if m.testBit 2 then s2.modFab (fun x => { x with stuckMs := u32 j.p 4 }) else s2
      (s3, .done stOk (w16 (bitMap s3.lineOn 15) ++ w16 s3.fab.stuck ++ w16 s3.fab.held ++ zeros 2)) }

/-! ### Timers (R472) -/

/-- A timer. -/
def Dev.timer (s : Dev) (t : Nat) : Timer := tblGet timerInit s.fab.timers t
/-- A timer set. -/
def Dev.setTimer (s : Dev) (t : Nat) (x : Timer) : Dev := s.modFab (fun f => { f with timers := tblSet timerInit f.timers t x })

/-- EVT_TIMER's sheet (R472, R488). -/
def cmdEvtTimer : Cmd :=
  { op := 0x0906, owner := true, len := some 16,
    args := fun s j =>
      decide (u8 j.p 0 < 16) && decide (u8 j.p 1 < 2) && j.rsv 2 2
        && (if u8 j.p 1 = 0 then allZero j.p 4 12
            else decide (2 ≤ u32 j.p 4) && (u64 j.p 8 == 0 || decide (u64 j.p 8 ≥ s.timeNs + 2000))),
    body := fun s j =>
      if u8 j.p 1 = 0 then (s.setTimer (u8 j.p 0) (timerInit 0), .done stOk (w64 0))
      else
        let t := s.edgeAt (if u64 j.p 8 = 0 then s.now + 2000000 else max s.now (s.monoInstant (s.monoTarget (u64 j.p 8))))
        (s.setTimer (u8 j.p 0) { enable := true, period := u32 j.p 4, next := t }, .done stOk (w64 (s.nsAt t))) }

/-- TIMER_PULSE: the next pulse of a running timer; timers pause in DEEP (R470, R472). -/
def Dev.timerPulse (s : Dev) (t : Nat) : Dev :=
  let x := s.timer t
  if !x.enable || s.sys.power = 3 then s
  else ((s.advance x.next).setTimer t { x with next := x.next + x.period * tickPs }).pulseFor (24 + t) x.next tickPs

/-! ### Resources that leave a function (R462, R463) -/

/-- What function `f` no longer holds leaves its routes: consumers go, sources become NONE, attachments end, and the
OVERRUN flags of consumers that change holder clear. `old` is the state before. -/
def Dev.fabMoved (s old : Dev) (f : Nat) : Dev :=
  (s.routesCut f (s.consumerHeld f) (s.sourceHeld f)).modFab (fun x =>
    { x with overrun := x.overrun.filter (fun e => !old.consumerHeld f e.1 || s.consumerHeld f e.1) })

/-- A route returns to its reset state (R462). -/
def Dev.routeLeave (s : Dev) (r : Nat) : Dev :=
  (s.modRoute r (fun _ => routeInit r)).modFab (fun x =>
    { x with attached := x.attached.filter (fun a => a.2 != r), edges := x.edges.filter (fun e => e.2.1 != r) })

/-! ### Rows -/

/-- EVT_ROUTE. -/
def execEvtRoute (q : Req) (s : State) : Out := .next (s.on (fun d => d.withFabric (fun d => d.command cmdEvtRoute q)))
/-- EVT_ROUTE_STATUS. -/
def execEvtRouteStatus (q : Req) (s : State) : Out := .next (s.on (fun d => d.command cmdEvtRouteStatus q))
/-- EVT_OVERRUN. -/
def execEvtOverrun (q : Req) (s : State) : Out := .next (s.on (fun d => d.command cmdEvtOverrun q))
/-- EVT_READ. -/
def execEvtRead (q : Req) (s : State) : Out := .next (s.on (fun d => d.command cmdEvtRead q))
/-- EVT_LINE_CONFIG. -/
def execEvtLineConfig (q : Req) (s : State) : Out := .next (s.on (fun d => d.withFabric (fun d => d.command cmdEvtLineConfig q)))
/-- EVT_TIMER. -/
def execEvtTimer (q : Req) (s : State) : Out := .next (s.on (fun d => d.command cmdEvtTimer q))
/-- The square root of a number over `d`², rounded to nearest, found bit by bit below 2^`b`. -/
def rootOver (b v d : Nat) : Nat :=
  let r := (List.range b).reverse.foldl (fun r i => if (r + 2 ^ i) ^ 2 * d ^ 2 ≤ v then r + 2 ^ i else r) 0
  if (2 * r + 1) ^ 2 * d ^ 2 ≤ 4 * v then r + 1 else r

/-- An asserting edge of TRIG_STAR, timed in units of 10 ps against the nearest sample instant, enters the skew measurements that
run; the edge that makes EDGES ends one with mean and RMS deviation (R483; log entry 148). The data are the count, the sum and
the sum of squares. -/
def Dev.skewEdge (s : Dev) : Dev :=
  let back := s.now - s.tb.lastSample
  let on := s.nextSample - s.now
  let o : Int := if back ≤ on then rhe (back : Int) 10 else rhe (-(on : Int)) 10
  (s.tg.running.filter (fun r => r.live && r.started && r.job.op == 0x0A06)).foldl (fun s r =>
    let n : Nat := (r.data.getD 0 0).toNat + 1
    let sum := r.data.getD 1 0 + o
    let sq := r.data.getD 2 0 + o * o
    let s1 := s.setData r.job.id [(n : Int), sum, sq]
    if n < u16 r.job.p 0 then s1
    else s1.finish r.job.id stOk
      (w32 (ofSigned 32 (rhe sum n)) ++ w32 (rootOver 40 ((n : Int) * sq - sum * sum).toNat n) ++ w16 n ++ zeros 2)) s

/-- CHASSIS_LINE_EDGE (R467). -/
def execChassisLineEdge (line : LineId) (high : Bool) (s : State) : Out :=
  .next (s.on (fun d => d.observed (fun d =>
    let n := LineId.num line
    let on := d.asserts line high
    let d1 := d.modFab (fun x => x.setLine n on d.now)
    if n == 8 && on && !d.fab.ext.testBit 8 then d1.skewEdge else d1)))
/-- TIMER_PULSE (R472). -/
def execTimerPulse (t : TimerId) (s : State) : Out := .next (s.on (fun d => d.timerPulse t.val))
/-- HOST (R464). -/
def execHost (fn : FnId) (route : RouteId) (s : State) : Out := .next (s.on (fun d => d.hostEvent fn.val route.val))
/-- PF_VEC (R465). -/
def execPfVec (v : Fin 32) (s : State) : Out := .next (s.on (fun d => d.pfVec v.val))
/-- CHAN_OFF (R466). -/
def execChanOff (ch : ChanId) (s : State) : Out :=
  .next (s.on (fun d => d.observed (fun d => if d.hasEdge (640 + ch.val) then (d.takeEdge (640 + ch.val)).chanOffAct ch.val else d)))
/-- ROUTE_FAULT (R471). -/
def execRouteFault (route : RouteId) (s : State) : Out := .next (s.on (fun d => d.observed (fun d => d.routeFault route.val)))
/-- LINE_STUCK (R469). -/
def execLineStuck (line : LineId) (s : State) : Out := .next (s.on (fun d => d.lineStuck line))

end Sys2Proof.Machine
end

