-- ==== Sys2Proof/Machine/Time.lean ====
section
/-! DEFINITION. The timebase: references, loop rate, SYNC_IN realignment, device time (spec/15_timebase.md). -/

namespace Sys2Proof.Machine

/-! ### References and lock (R473 to R475) -/

/-- The reference that a REF_SEL names is present. -/
def Timebase.hasRef (b : Timebase) (sel : Nat) : Bool := if sel = 2 then b.refPcie else b.refIn

/-- REF_SEL takes a value: what stands at REF_IN at one nominal frequency is absent at the other (R473). -/
def Timebase.refPick (b : Timebase) (sel : Nat) : Timebase :=
  { b with refSel := sel, refIn := b.refIn && decide (sel = 2 ∨ sel = b.refNom), refNom := if sel = 2 then b.refNom else sel }

/-- The state that follows a loss, a return or a change of the reference: a present one is acquired, an absent one leaves
HOLDOVER after lock and FREE before it (R474). -/
def Timebase.reacquire (b : Timebase) : Timebase :=
  { b with tstate := if b.hasRef b.refSel then .locking else if b.wasLocked then .holdover else .free }

/-- A change of the timebase's state: every change of the LOCKED condition is an occurrence of TIME for every function
(R474). -/
def Dev.setLock (s : Dev) (g : Timebase → Timebase) : Dev :=
  let s1 := s.modTb g
  if (s1.tb.tstate == .locked) = (s.tb.tstate == .locked) then s1 else s1.irqEvery irqTime

/-- A reference becomes present or is lost; `pcie` names PCIE_REFCLK. Only the selected reference changes the state. -/
def Dev.refChange (s : Dev) (pcie present : Bool) : Dev :=
  let g := fun (b : Timebase) => if pcie then { b with refPcie := present } else { b with refIn := present }
  let old := s.tb.hasRef s.tb.refSel
  if (g s.tb).hasRef s.tb.refSel = old then s.modTb g else s.setLock (fun b => (g b).reacquire)

/-- LOCK_ACQUIRED. -/
def Dev.lockAcquired (s : Dev) : Dev :=
  if s.tb.tstate == .locking then s.setLock (fun b => { b with tstate := .locked, wasLocked := true }) else s

/-- REF_SEL changes (R473). -/
def Dev.refSelect (s : Dev) (sel : Nat) : Dev := if sel = s.tb.refSel then s else s.setLock (fun b => (b.refPick sel).reacquire)

/-! ### Loop rate (R477, R478) -/

/-- Every active or VALID image of every engine fits a rate (R175). -/
def Dev.fitsAll (s : Dev) (d : Nat) : Bool :=
  (List.range (4 * s.nChan)).all (fun e =>
    let g := s.eng e
    let fit := fun (b : List Byte) => imgFits b (e % 4) (s.ganged (e / 4)) d
    fit g.image && (g.other.state != 2 || fit g.other.bytes))

/-- A channel that keeps the rate from changing (R478). -/
def Dev.rateHeld (s : Dev) (c : Nat) : Bool :=
  let x := s.chan c
  let r := s.res c
  decide (x.state ≥ 2) || s.seqBusy c || x.rc.isSome || r.meas.isSome || r.stream == 2 || r.box.isSome || !r.boxOld.isEmpty
    || !r.seqOld.isEmpty
    || r.cap != .idle

/-- The state checks of R478. -/
def Dev.rateState (s : Dev) : Nat :=
  stIf (!((List.range 64).any s.rateHeld) && s.swaps.isEmpty && s.cal.runs.isEmpty && !s.ratePending)

/-- The pending change takes effect at the rate instant `t` (R478): the period that ends there keeps its length. -/
def Dev.rateTake (s : Dev) (t : Nat) : Dev :=
  match s.tb.rateD with
  | none => s
  | some d =>
    (s.modTb (fun b => { b with d := d, rateD := none, aligned := false,
                                stretched := if b.lastSample < t then some t else b.stretched })).finish s.tb.rateId stOk
      (w64 (s.nsAt t))

/-- RATE_INSTANT. -/
def Dev.rateInstant (s : Dev) : Dev :=
  if s.ratePending then
    let t := s.instantAt s.tb.rateAt
    (s.advance t).rateTake t
  else s

/-! ### SYNC_IN and realignment (R480 to R482) -/

/-- A SYNC_IN edge, sampled at the first phase-clock edge from `tR` on: it defines t_A, with the SKEW that its realignment
brings, unless it comes within 1 µs of the previous t_A. The pin is active while its supply is up (R628). -/
def Dev.syncEdge (s : Dev) (tR : Nat) : Dev :=
  if !s.sys.denrixGood then s else
  let t := phaseEdge (max s.now tR)
  let s1 := (s.advance t).modTb (fun b => { b with syncCount := (b.syncCount + 1) % 2 ^ 32 })
  let early := match s.tb.lastTA with | some a => decide (t < a + 1000000) | none => false
  if early then s1.modTb (fun b => { b with syncIgnored := min (b.syncIgnored + 1) 0xFFFF })
  else
    let aligns := s.tb.syncMode != 0
    let skew := if aligns then s.tb.skewPending.getD s.tb.skew else s.tb.skew
    let tA := t + 200000 + 10 * skew
    let arm := fun (x : TimeSetArm) => if x.bySync && x.dueAt.isNone then { x with dueAt := some tA } else x
    s1.modTb (fun b =>
      { b with lastTA := some tA, nextTA := if aligns then some tA else none, syncMode := if b.syncMode = 1 then 0 else b.syncMode,
               timeSet := b.timeSet.map arm })

/-- The timers' series move with the conversion clock: the stretched cycle ends at t_A (R472, R481). -/
def Dev.timersMove (s : Dev) (tA : Nat) : Dev :=
  let shift := (((tA : Int) - (s.nextSample : Int)) % (tickPs : Int)).toNat
  s.forAll (List.range 16) (fun s t =>
    let x := s.timer t
    if x.enable && decide (tA ≤ x.next + shift) then s.setTimer t { x with next := x.next + shift } else s)

/-- The beginning of a measure-trigger wait that lies after a realignment follows the new sample grid (R297). -/
def Dev.seqRealign (s : Dev) : Dev :=
  s.forAll (s.seqs.map (·.1)) (fun s c =>
    match (s.seq c).phase with
    | .delay b => if b > s.tb.lastSample then s.modSeq c (fun q => { q with waitFrom := s.instantAt b }) else s
    | _ => s)

/-- REALIGNMENT: t_A becomes a sample instant and the period in progress is lengthened. A rate instant in the same period
takes effect first, and the period after it is lengthened, at the new D (R482). -/
def Dev.realign (s : Dev) : Dev :=
  match s.tb.nextTA with
  | none => s
  | some tA =>
    let s1 := ((s.advance tA).vAlign tA).timersMove tA
    let rate := s1.instantAt s1.tb.rateAt
    let both := s1.ratePending && rate == s1.nextSample && decide (tA ≤ rate)
    let s2 := if both then s1.rateTake rate else s1
    let lo := (if both then rate else s2.tb.lastSample) + s2.periodPs
    let next := gridAfter tA lo s2.periodPs
    (s2.modTb (fun b =>
      { b with stretched := if both then b.stretched else some next, alignNext := if both then some tA else b.alignNext,
               edgeWas := if both then b.edgeWas else b.edgeBase, edgeBase := if both then b.edgeBase else tA,
               nextTA := none, skew := b.skewPending.getD b.skew, skewPending := none, lastAlignNs := s2.nsAt tA,
               lastShift := next - lo, aligned := true })).seqRealign

/-! ### Device time (R485 to R489) -/

/-- An entry of a step's values: it stands beside the other one of the step, so it does not coalesce (R487). -/
def Dev.logStep (s : Dev) (detail : Nat) : Dev :=
  if s.log.fifo.length ≥ 64 then s.modLog (fun l => { l with lost := min (l.lost + 1) 0xFFFFFFFF })
  else
    s.modLog (fun l => { l with fifo := l.fifo ++ [
      { timeNs := s.timeNs, epoch := s.tb.epoch, subsys := kTimeValue.subsys, severity := kTimeValue.severity,
        code := kTimeValue.code, count := 1, rkind := 0, eflags := 0, lastDt := 0, rindex := 0, detail := detail,
        firstPs := s.now, final_ := false }] })

/-- Device time is loaded at the present instant with `new`, in 1/256 ns; a backward step counts in EPOCH (R487). T_prev is what the
64-bit counter shows. -/
def Dev.loadTime (s : Dev) (new : Nat) : Dev :=
  let prev := s.timeAt s.now % 2 ^ 72
  let s1 := s.modTb (fun b =>
    { b with stepOff := b.stepOff + ((new : Int) - (s.timeAt s.now : Int)), steps := (s.now, b.stepOff, b.epoch) :: b.steps })
  if prev ≤ new then s1
  else
    let s2 := (s1.modTb (fun b => { b with epoch := (b.epoch + 1) % 65536 })).pulse 17
    (((s2.logIt kTimeStep s2.tb.epoch).logStep (prev / 256 % 2 ^ 64)).logStep (new / 256)).irqEvery irqTime

/-- t_S of the armed TIME_SET, once it is known. -/
def Dev.setInstant (s : Dev) (x : TimeSetArm) : Option Nat :=
  if x.bySync then x.dueAt else x.dueAt.map s.instantAt

/-- TIME_LOAD: at t_S, after a realignment of the same instant (R482). -/
def Dev.timeLoad (s : Dev) : Dev :=
  match s.tb.timeSet with
  | none => s
  | some x =>
    match s.setInstant x with
    | none => s
    | some t =>
      let s0 := if s.tb.nextTA == some t then s.realign else s
      let s1 := s0.advance t
      let prev := s1.timeAt s1.now
      let s2 := (s1.modTb (fun b => { b with timeSet := none })).loadTime x.value
      s2.finish x.id stOk (w64 (prev / 256 % 2 ^ 64) ++ w8 (prev % 256) ++ zeros 1 ++ w16 s2.tb.epoch ++ w64 s2.monoNs)

/-- SCHEDULED_START (R488): a swap is taken at its boundary, a pattern's first cycle follows at its start edge, a timer
pulses. -/
def Dev.scheduled (s : Dev) (k : SchedKind) : Dev :=
  match k with
  | .swap id => (match s.swapOf id with | some w => if w.kind = 1 then s.swapTake id else s | none => s)
  | .vector =>
    let q := s.vec.player
    (match q.startAt with | some t => if q.state == .armed && q.kind == 1 then s.advance (s.vEdgeAt t) else s | none => s)
  | .timer t => s.timerPulse t.val

/-! ### Commands -/

/-- TSTATE. -/
def TState.code (t : TState) : Nat := match t with | .free => 0 | .locking => 1 | .locked => 2 | .holdover => 3

/-- TIME_STATUS's reply. -/
def timeReply (s : Dev) : List Byte :=
  let b := s.tb
  let fl := bitAt b.aligned 0 + bitAt b.timeSet.isSome 1 + bitAt b.refIn 2 + bitAt b.refPcie 3 + bitAt b.skewPending.isSome 4
  w8 b.refSel ++ w8 b.tstate.code ++ w16 fl ++ w32 b.d ++ w64 s.timeNs ++ w8 s.timeFrac ++ w8 b.syncMode ++ w16 b.epoch
    ++ w16 b.skew ++ w16 b.syncIgnored ++ w64 s.monoNs ++ w64 b.lastAlignNs ++ w32 b.lastShift ++ w32 b.syncCount

/-- TIME_STATUS's sheet. -/
def cmdTimeStatus : Cmd := { op := 0x0A01, len := some 0, body := fun s _ => (s, .done stOk (timeReply s)) }

/-- TIME_REF_CONFIG's sheet. -/
def cmdTimeRefConfig : Cmd :=
  { op := 0x0A02, owner := true, len := some 4, args := fun _ j => decide (u8 j.p 0 ≤ 2) && j.rsv 1 3,
    names := fun _ _ => [Res.time], body := fun s j => (s.withGstat (fun s => s.refSelect (u8 j.p 0)), .done stOk []) }

/-- TIME_SET_RATE's sheet; RATE_INSTANT completes it. -/
def cmdTimeSetRate : Cmd :=
  { op := 0x0A03, owner := true, len := some 4,
    args := fun s j => decide (16 ≤ u32 j.p 0) && decide (u32 j.p 0 ≤ 65536) && s.fitsAll (u32 j.p 0),
    state := fun s _ => s.rateState, names := fun _ _ => [Res.time],
    body := fun s j =>
      (s.modTb (fun b => { b with rateD := some (u32 j.p 0), rateAt := s.now + 10000000, rateId := j.id }), .later []) }

/-- TIME_SYNC_CONFIG's sheet. -/
def cmdTimeSyncConfig : Cmd :=
  { op := 0x0A04, owner := true, len := some 4,
    args := fun _ j =>
      let m := u8 j.p 0
      decide (m < 4) && (!m.testBit 0 || decide (u8 j.p 1 ≤ 2)) && (!m.testBit 1 || decide (u16 j.p 2 ≤ 2499)),
    names := fun _ _ => [Res.time],
    body := fun s j =>
      let m := u8 j.p 0
      let k := u16 j.p 2
      let set := fun (b : Timebase) =>
        if k = b.skewPending.getD b.skew then b
        else { b with skewPending := if k = b.skew then none else some k, aligned := false }
      (s.modTb (fun b =>
        let b1 := if m.testBit 0 then { b with syncMode := u8 j.p 1 } else b
        if m.testBit 1 then set b1 else b1), .done stOk []) }

/-- TIME_SET's sheet; TIME_LOAD completes it. -/
def cmdTimeSet : Cmd :=
  { op := 0x0A05, owner := true, len := some 16,
    args := fun _ j =>
      decide (u8 j.p 0 < 2) && j.rsv 2 2
        && (if u8 j.p 0 = 0 then decide (1 ≤ u32 j.p 4) && decide (u32 j.p 4 ≤ 60000) else u32 j.p 4 == 0),
    state := fun s _ => stIf s.tb.timeSet.isNone,
    body := fun s j =>
      let sync := u8 j.p 0 == 0
      let arm : TimeSetArm :=
        { id := j.id, bySync := sync, value := 256 * u64 j.p 8 + u8 j.p 1, dueAt := if sync then none else some (s.now + 10000000) }
      (s.modTb (fun b => { b with timeSet := some arm }), .later []) }

/-- TIME_SKEW_MEASURE's sheet: the edge of TRIG_STAR that makes EDGES completes it (R483). -/
def cmdTimeSkewMeasure : Cmd :=
  { op := 0x0A06, owner := true, len := some 8,
    args := fun _ j =>
      decide (1 ≤ u16 j.p 0) && decide (u16 j.p 0 ≤ 4096) && j.rsv 2 2 && decide (1 ≤ u32 j.p 4) && decide (u32 j.p 4 ≤ 60000),
    held := fun s j => s.lineHolder 8 == j.f, state := fun s _ => stIf (s.tb.tstate == .locked),
    names := fun _ _ => [Res.line 8], body := fun s _ => (s, .later [0, 0, 0]) }

/-- TIME_PAIR's sheet: through the doorbell only. -/
def cmdTimePair : Cmd :=
  { op := 0x0A07, len := some 8, args := fun _ j => j.doorbell,
    body := fun s j =>
      (s, .done stOk (w64 (u64 j.p 0) ++ w64 (j.stamp / 256 % 2 ^ 64) ++ w8 (j.stamp % 256) ++ zeros 1 ++ w16 j.epoch ++ zeros 4)) }

/-! ### Rows -/

/-- TIME_STATUS. -/
def execTimeStatus (q : Req) (s : State) : Out := .next (s.on (fun d => d.command cmdTimeStatus q))
/-- TIME_REF_CONFIG: it may change the REF_UNLOCK source and GSTAT. -/
def execTimeRefConfig (q : Req) (s : State) : Out := .next (s.on (fun d => d.withFabric (fun d => d.command cmdTimeRefConfig q)))
/-- TIME_SET_RATE. -/
def execTimeSetRate (q : Req) (s : State) : Out := .next (s.on (fun d => d.command cmdTimeSetRate q))
/-- TIME_SYNC_CONFIG. -/
def execTimeSyncConfig (q : Req) (s : State) : Out := .next (s.on (fun d => d.command cmdTimeSyncConfig q))
/-- TIME_SET. -/
def execTimeSet (q : Req) (s : State) : Out := .next (s.on (fun d => d.command cmdTimeSet q))
/-- TIME_SKEW_MEASURE. -/
def execTimeSkewMeasure (q : Req) (s : State) : Out := .next (s.on (fun d => d.command cmdTimeSkewMeasure q))
/-- TIME_PAIR. -/
def execTimePair (q : Req) (s : State) : Out := .next (s.on (fun d => d.command cmdTimePair q))
/-- REFERENCE_LOSS (R474). -/
def execReferenceLoss (pcie : Bool) (s : State) : Out := .next (s.on (fun d => d.observed (fun d => d.refChange pcie false)))
/-- REFERENCE_PRESENT (R474). -/
def execReferencePresent (pcie : Bool) (s : State) : Out := .next (s.on (fun d => d.observed (fun d => d.refChange pcie true)))
/-- LOCK_ACQUIRED (R474). -/
def execLockAcquired (s : State) : Out := .next (s.on (fun d => d.observed Dev.lockAcquired))
/-- SYNC_IN_EDGE (R480). -/
def execSyncInEdge (tR : Nat) (s : State) : Out := .next (s.on (fun d => d.syncEdge tR))
/-- REALIGNMENT (R481). -/
def execRealignment (s : State) : Out := .next (s.on Dev.realign)
/-- RATE_INSTANT (R478). -/
def execRateInstant (s : State) : Out := .next (s.on Dev.rateInstant)
/-- TIME_LOAD (R487). -/
def execTimeLoad (s : State) : Out := .next (s.on Dev.timeLoad)
/-- SCHEDULED_START (R488). -/
def execScheduledStart (kind : SchedKind) (s : State) : Out := .next (s.on (fun d => d.scheduled kind))

end Sys2Proof.Machine
end

