-- ==== Sys2Proof/Machine/MxWire.lean ====
section
/-! DEFINITION. Relay modules, and what the relay chains and the identity buses carry: segments (R495), identity windows
(R498), the words of the
wear and darn areas (R522, R523), and the addresses of stage identity memories (R513). -/

namespace Sys2Proof.Machine

/-! ### Relay modules (R493, R494) -/

/-- The bits of `a` that `b` does not have. -/
def andNot (a b : Nat) : Nat := Nat.xor a (a &&& b)

/-- No module. -/
def relayNone : RelayMod :=
  { serial := [], model := [], hwRev := 0, nxp := 0, rated := 0, tRelNs := 0, tOpNs := 0, map := [], wear := [], saved := [],
    wearAt := 0, darnAt := 0, darns := [],
    outOfService := [], retired := 0, warn := 0, suspect := false, drive := 0, darning := [], writes := [] }

/-- The module at a position. -/
def Dev.rmod (s : Dev) (k pos : Nat) : RelayMod := (s.chain k).mods.getD pos relayNone
/-- The module at a position changed by `g`. -/
def Dev.modRmod (s : Dev) (k pos : Nat) (g : RelayMod → RelayMod) : Dev :=
  s.modChain k (fun c => { c with mods := c.mods.set pos (g (c.mods.getD pos relayNone)) })
/-- The positions of a chain. -/
def Dev.positions (s : Dev) (k : Nat) : List Nat := List.range (s.chain k).mods.length

/-- A local index is a spare. -/
def RelayMod.isSpare (m : RelayMod) (i : Nat) : Bool := m.map.any (fun e => decide (e.1 ≤ i) && decide (i ≤ e.2.1))
/-- The spares, as a map. -/
def RelayMod.spareMask (m : RelayMod) : Nat := bitMap m.isSpare m.nxp
/-- The logical crosspoints, as a map (R493). -/
def RelayMod.logicals (m : RelayMod) : Nat := andNot (2 ^ m.nxp - 1) m.spareMask
/-- A spare may stand for a logical crosspoint (R521). -/
def RelayMod.mayServe (m : RelayMod) (p i : Nat) : Bool :=
  m.map.any (fun e => decide (e.1 ≤ p) && decide (p ≤ e.2.1) && decide (e.2.2.1 ≤ i) && decide (i ≤ e.2.2.2))
/-- The physical crosspoint that a logical one drives (R494). -/
def RelayMod.phys (m : RelayMod) (i : Nat) : Nat := match m.darns.find? (fun d => d.2 == i) with | some d => d.1 | none => i
/-- The logical crosspoint that a physical one serves. -/
def RelayMod.serves (m : RelayMod) (p : Nat) : Nat := match m.darns.find? (fun d => d.1 == p) with | some d => d.2 | none => p
/-- A map of logical crosspoints as drives. -/
def RelayMod.physMap (m : RelayMod) (l : Nat) : Nat := m.darns.foldl (fun a d => putBit (putBit a d.2 false) d.1 (l.testBit d.2)) l
/-- The logical crosspoints that are closed. -/
def RelayMod.closed (m : RelayMod) : Nat :=
  m.darns.foldl (fun a d => putBit a d.2 (m.drive.testBit d.1)) (m.drive &&& m.logicals)
/-- Operations of a physical crosspoint. -/
def RelayMod.ops (m : RelayMod) (p : Nat) : Nat := tblGet (fun _ => 0) m.wear p
/-- A physical crosspoint is worn (R509). -/
def RelayMod.worn (m : RelayMod) (p : Nat) : Bool := decide (m.rated ≤ m.ops p)
/-- The count of WARN (R508). -/
def RelayMod.warnAt (m : RelayMod) : Nat := ceilDiv (9 * m.rated) 10
/-- Retired crosspoints; those whose darn record is not read back yet count (R509). -/
def RelayMod.gone (m : RelayMod) : Nat := m.darning.foldl (fun a d => putBit a d.1 true) m.retired
/-- Drive bits of a segment. -/
def RelayMod.xpb (m : RelayMod) : Nat := 32 * ceilDiv m.nxp 32
/-- Σ (XPB + 32). -/
def Chain.shiftBits (c : Chain) : Nat := c.mods.foldl (fun n m => n + m.xpb + 32) 0
/-- T_shift in ps (R495). -/
def Chain.shiftPs (c : Chain) : Nat := 20000 * c.shiftBits

/-! ### Segments (R495) -/

/-- The 32-bit trailer: CRC-16 over the drive bits, most significant first, and POSITION. -/
def RelayMod.trailer (m : RelayMod) (pos drive : Nat) : Nat :=
  (crc16 ((List.range (m.xpb / 8)).reverse.map (fun k => BitVec.ofNat 8 (drive / 2 ^ (8 * k))))).toNat + 2 ^ 16 * (pos % 32)

/-- A module's segment: XPB drive bits, then the trailer; its top bit is shifted first. -/
def RelayMod.segment (m : RelayMod) (pos drive : Nat) : Nat := drive % 2 ^ m.nxp + 2 ^ m.xpb * m.trailer pos drive

/-- What a data transfer shifts out for an image, by position, the segment of the highest position first. -/
def Chain.transfer (c : Chain) (img : List Nat) : List Nat :=
  (List.range c.mods.length).reverse.map (fun pos => (c.mods.getD pos relayNone).segment pos (img.getD pos 0))

/-- The lowest position whose segment of an echo, listed as the transfer shifts it out, is not what the present drives give. -/
def Chain.echoBad (c : Chain) (echo : List Nat) : Option Nat :=
  let l := c.transfer (c.mods.map (fun m => m.drive))
  (List.range l.length).find? (fun pos => echo[l.length - 1 - pos]? != l[l.length - 1 - pos]?)

/-! ### Identity transfers (R498) -/

/-- A command window: OP 1 READ or 2 WRITE, the word address, and the data. -/
def mxWindow (op waddr data : Nat) : Nat := 2 ^ 62 * (op % 4) + 2 ^ 44 * (waddr % 65536) + data % 2 ^ 32

/-- A result window is good: OP and WADDR echoed and no ERR. -/
def mxResultOk (win res : Nat) : Bool := res / 2 ^ 44 == win / 2 ^ 44

/-- The data of a result window. -/
def mxData (res : Nat) : Nat := res % 2 ^ 32

/-- Word `j` of the results of READs from address `addr` on: none where its window is missing, in error or of another access. -/
def mxWord (addr : Nat) (l : List W64) (j : Nat) : Option Nat :=
  match l[j]? with
  | some r => if mxResultOk (mxWindow 1 (addr + j) 0) r.toNat then some (mxData r.toNat) else none
  | none => none

/-- A write is good: its result shows the data written, and its read-back shows them again (R507, R509). -/
def mxWriteOk (win : Nat) (res : W64 × W64) : Bool :=
  mxResultOk win res.1.toNat && mxData res.1.toNat == mxData win
    && mxResultOk (mxWindow 1 (win / 2 ^ 44) 0) res.2.toNat && mxData res.2.toNat == mxData win

/-! ### The wear and darn areas (R507, R509, R522, R523) -/

/-- The words of the wear area: counts and their CRC-32C. -/
def RelayMod.wearWords (m : RelayMod) : List Nat :=
  let counts := (List.range m.nxp).map m.ops
  counts ++ [(crc32c (counts.flatMap w32)).toNat]

/-- The windows of a write-back: the counts that changed since the last good one first, the CRC word last. -/
def RelayMod.wearWrites (m : RelayMod) : List Nat :=
  ((List.range m.nxp).filter (fun p => m.ops p != tblGet (fun _ => 0) m.saved p)).map (fun p => mxWindow 2 (m.wearAt + p) (m.ops p))
    ++ [mxWindow 2 (m.wearAt + m.nxp) (m.wearWords.getD m.nxp 0)]

/-- The module does not hold the present counts, their CRC or a retirement yet. -/
def RelayMod.dirty (m : RelayMod) : Bool := m.wear != m.saved || m.suspect || !m.writes.isEmpty

/-- The windows of a module in a write-back: the counts that changed with their CRC, and the retirements that wait. -/
def RelayMod.backWrites (m : RelayMod) : List Nat := (if m.wear != m.saved || m.suspect then m.wearWrites else []) ++ m.writes

/-- Every write of a module's write-back is good. -/
def RelayMod.backOk (m : RelayMod) (res : List (W64 × W64)) : Bool :=
  (List.range m.backWrites.length).all (fun j =>
    match res[j]? with | some r => mxWriteOk (m.backWrites.getD j 0) r | none => false)

/-- The module after a good write-back. -/
def RelayMod.backed (m : RelayMod) : RelayMod := { m with suspect := false, saved := m.wear, writes := [] }

/-- The place of a spare among the spares in ascending local index. -/
def RelayMod.spareNo (m : RelayMod) (p : Nat) : Nat := (bitsSet m.spareMask p).length
/-- NSPARE. -/
def RelayMod.nspare (m : RelayMod) : Nat := (bitsSet m.spareMask m.nxp).length

/-- A darn word: the logical index served and USED, and their complement; 0xFFFF_0000 for an unused spare. -/
def darnValue (i : Option Nat) : Nat :=
  let lo := match i with | some i => 0x8000 + i % 512 | none => 0
  lo + 65536 * (65535 - lo)

/-- The window that writes the darn record of spare `p` for logical crosspoint `i`. -/
def RelayMod.darnWrite (m : RelayMod) (p i : Nat) : Nat := mxWindow 2 (m.darnAt + m.spareNo p) (darnValue (some i))

/-- The windows that write the pair of retired words in which logical crosspoint `i` stands. -/
def RelayMod.retireWrites (m : RelayMod) (i : Nat) : List Nat :=
  let j := i / 32
  let w := m.retired / 2 ^ (32 * j) % 2 ^ 32
  let a := m.darnAt + m.nspare + 2 * j
  [mxWindow 2 a w, mxWindow 2 (a + 1) (0xFFFFFFFF - w)]

/-! ### Stage identity memories (R513, R514) -/

/-- The bus of stage module `m`: SMB_ID0 or SMB_ID1. -/
def stageBus (m : Nat) : Nat := m / 8
/-- The 7-bit address of its identity memory. -/
def stageAddr (m : Nat) : Nat := 0x50 + m % 8
/-- The bytes that start a sequential read at an offset: the address with the write bit, then the offset, high byte first. -/
def stageReadStart (m off : Nat) : List Nat := [2 * stageAddr m, off / 256 % 256, off % 256]

end Sys2Proof.Machine
end

