-- ==== Sys2Proof/Machine/MxCore.lean ====
section
/-! DEFINITION. The switch-matrix controller's parts: sets, wear, darning, updates and chain faults (spec/16_matrix.md), with
the relay-module record (spec/17_module_identity.md). -/

namespace Sys2Proof.Machine

/-! ### Sets (R510) -/

/-- Members of a set in a module. -/
def XSet.mem (x : XSet) (pos : Nat) : Nat := tblGet (fun _ => 0) x.members pos
/-- Staged target of a set in a module. -/
def XSet.target (x : XSet) (pos : Nat) : Nat := tblGet (fun _ => 0) x.staged pos
/-- The sets with members on a chain. -/
def Dev.setsOn (s : Dev) (k : Nat) : List Nat :=
  (s.mxSets.filter (fun p => p.2.chain == k && !p.2.members.isEmpty)).map (·.1)
/-- The sets that contain a crosspoint. -/
def Dev.setsWith (s : Dev) (k pos i : Nat) : List Nat := (s.setsOn k).filter (fun q => ((s.xset q).mem pos).testBit i)
/-- The holders of the sets that contain a crosspoint. -/
def Dev.holdersWith (s : Dev) (k pos i : Nat) : List Nat := sortedFns ((s.setsWith k pos i).map s.setHolder)
/-- Crosspoints of a module in sets that functions other than `f` have locked. -/
def Dev.lockedMap (s : Dev) (f k pos : Nat) : Nat :=
  (s.setsOn k).foldl (fun a q => if (s.xset q).locked && s.setHolder q != f then a ||| (s.xset q).mem pos else a) 0
/-- Two sets share a crosspoint. -/
def Dev.shares (s : Dev) (a b : Nat) : Bool :=
  (s.xset a).chain == (s.xset b).chain && (s.xset a).members.any (fun p => p.2 &&& (s.xset b).mem p.1 != 0)
/-- Another function's lock on a set that shares a crosspoint with this one. -/
def Dev.lockedBeside (s : Dev) (f q : Nat) : Bool :=
  (s.setsOn (s.xset q).chain).any (fun r => r != q && (s.xset r).locked && s.setHolder r != f && s.shares q r)

/-! ### Wear and darning (R507 to R509) -/

/-- The entry and occurrences of a crosspoint's WARN or retirement, named by its lowest set. -/
def Dev.wearNote (s : Dev) (k pos i : Nat) (retired : Bool) : Dev :=
  let set := (s.setsWith k pos i).headD (s.freeVal % 256)
  ((s.logIt (kMxWear set retired) (i + (if retired then 65536 else 0))).freeNext).forAll
    (s.holdersWith k pos i) (fun s f => s.irq f irqMatrix)

/-- A crosspoint is retired (R509). -/
def Dev.retire (s : Dev) (k pos i : Nat) : Dev :=
  (s.modRmod k pos (fun m =>
    let m1 := { m with retired := putBit m.retired i true }
    { m1 with writes := m.writes ++ m1.retireWrites i })).wearNote k pos i true

/-- A crosspoint whose worn physical crosspoint has opened: the lowest spare that may serve it is tried (R509). -/
def Dev.wornOpen (s : Dev) (k pos i : Nat) : Dev :=
  let m := s.rmod k pos
  let free := fun (p : Nat) =>
    m.mayServe p i && !m.worn p && !m.outOfService.contains p && !m.darns.any (fun d => d.1 == p) && !m.darning.any (fun d => d.2 == p)
  match (bitsSet m.spareMask m.nxp).find? free with
  | some p => s.modRmod k pos (fun m => { m with darning := m.darning ++ [(i, p)] })
  | none => s.retire k pos i

/-- Every worn crosspoint of a module that is open is replaced or retired. -/
def Dev.wornScan (s : Dev) (k pos : Nat) : Dev :=
  let m := s.rmod k pos
  let l := (bitsSet m.logicals m.nxp).filter (fun i => m.worn (m.phys i) && !m.closed.testBit i && !m.gone.testBit i)
  s.forAll l (fun s i => s.wornOpen k pos i)

/-- One operation of a physical crosspoint at a make latch (R507, R508). -/
def Dev.wearUp (s : Dev) (k pos p : Nat) : Dev :=
  let m := s.rmod k pos
  let n := sat32n (m.ops p + 1)
  let s1 := s.modRmod k pos (fun m => { m with wear := tblSet (fun _ => 0) m.wear p n })
  if n ≥ m.warnAt && !m.warn.testBit p then
    (s1.modRmod k pos (fun m => { m with warn := putBit m.warn p true })).wearNote k pos (m.serves p) false
  else s1

/-! ### Ends of updates -/

/-- A chain's part of the commands is done; a command whose last chain it was completes (R502). -/
def Dev.mxFinish (s : Dev) (k : Nat) (ids : List Nat) : Dev :=
  s.forAll ids (fun s id =>
    match s.running? id with
    | none => s
    | some r =>
      let left := r.data.filter (fun (x : Int) => x != (k : Int))
      if left.isEmpty then s.finish id stOk (w64 (s.nsAt s.now)) else s.setData id left)

/-- Every drive of a chain is released. -/
def Dev.releaseChain (s : Dev) (k : Nat) : Dev :=
  s.modChain k (fun c => { c with mods := c.mods.map (fun m => { m with drive := 0 }) })

/-- Identity transfers can run on the chain. -/
def Chain.up (c : Chain) : Bool := c.state == .ready || c.state == .updating
/-- A write-back is wanted where a module of the chain does not hold what it has to (R507). -/
def Dev.wbAsk (s : Dev) (k : Nat) : Dev :=
  s.modChain k (fun c => { c with wbWant := c.wbWant || (c.up && c.mods.any RelayMod.dirty) })

/-- A rediscovery begins: the release condition opens every crosspoint. -/
def Dev.discBegin (s : Dev) (k : Nat) : Dev :=
  (s.modChain k (fun c => { c with state := .discovering, reason := 0, begun := true, wbWant := false })).releaseChain k

/-- A rediscovery begins once the chain's update is over and its counts are written back (R507). -/
def Dev.rediscover (s : Dev) (k : Nat) : Dev :=
  let s1 := s.wbAsk k
  if (s1.chain k).wbWant || (s1.chain k).update.isSome then s1 else s1.discBegin k

/-- A chain fault (R504). -/
def Dev.chainFault (s : Dev) (k : Nat) : Dev :=
  let c := s.chain k
  let ids := c.queue.filterMap id ++ (match c.update with | some u => u.cmds | none => [])
  let s1 := (s.releaseChain k).modChain k (fun c =>
    { c with state := .failed, reason := 3, update := none, queue := [], opening := [], retried := false, wbCmd := none,
             wbWant := false, wbFail := c.wbFail || c.wbCmd.isSome })
  let s2 := (s1.forAll (s1.setsOn k) (fun s q => s.modSet q (fun x => { x with due := false, byEdge := false }))).forAll ids
    (fun s i => s.finish i stIntegrity [])
  let s3 := (s2.finish? c.wbCmd stIntegrity []).forAll (sortedFns (0 :: (s2.setsOn k).map s2.setHolder)) (fun s f => s.irq f irqError)
  if c.discCmd.isSome then s3.discBegin k else s3

/-- An echo mismatch: the latch is repeated once; a second one is a chain fault (R504). -/
def Dev.mxMismatch (s : Dev) (k pos : Nat) : Dev :=
  let c := s.chain k
  let s1 := (s.modChain k (fun c => { c with echoErr := sat32n (c.echoErr + 1) })).logIt (kMxEcho k c.retried)
    (pos % 65536 + bitAt c.retried 16)
  if c.retried then s1.chainFault k
  else
    let again := fun (u : Update) => { u with due := s.now + c.shiftPs + 1500000 }
    s1.modChain k (fun c => { c with retried := true, update := c.update.map again })

/-! ### Updates (R501 to R503) -/

/-- The due sets of a chain. -/
def Dev.dueSets (s : Dev) (k : Nat) : List Nat := (s.setsOn k).filter (fun q => (s.xset q).due)

/-- The members of a due set that its target governs in a module: an event-armed target leaves crosspoints that another
function has locked (R510). -/
def Dev.governs (s : Dev) (k pos q : Nat) : Nat :=
  let x := s.xset q
  if x.byEdge then andNot (x.mem pos) (s.lockedMap (s.setHolder q) k pos) else x.mem pos

/-- The crosspoints of a module that an update opens and closes, and those that two unlocked sets disagree about (R503). -/
def Dev.wanted (s : Dev) (k pos : Nat) : Nat × Nat × Nat :=
  let qs := s.dueSets k
  let opens := fun (l : List Nat) => l.foldl (fun a q => a ||| andNot (s.governs k pos q) ((s.xset q).target pos)) 0
  let shuts := fun (l : List Nat) => l.foldl (fun a q => a ||| (s.governs k pos q &&& (s.xset q).target pos)) 0
  let locked := qs.filter (fun q => (s.xset q).locked)
  let lo := opens locked
  let lc := andNot (shuts locked) lo
  let fixed := lo ||| lc
  let o := andNot (opens qs) fixed
  let c := andNot (shuts qs) fixed
  let openAll := lo ||| o
  (openAll, andNot (andNot (lc ||| c) openAll) (s.rmod k pos).gone, o &&& c)

/-- Crosspoints that LOCK_SKIP counts for a set. -/
def Dev.skipped (s : Dev) (k q : Nat) : Nat :=
  let x := s.xset q
  (s.positions k).foldl (fun n pos =>
    let held := if x.byEdge then x.mem pos &&& s.lockedMap (s.setHolder q) k pos else 0
    n + (bitsSet (held &&& Nat.xor (x.target pos) (s.rmod k pos).closed) 512).length) 0

/-- The sets of MX_APPLY. -/
def Job.sets (j : Job) : List Nat := bitsSet (leN j.p 0 32) 256

/-- A set's targets close no retired crosspoint. -/
def Dev.applyWorn (s : Dev) (q : Nat) : Bool :=
  let x := s.xset q
  x.members.any (fun p => (s.rmod x.chain p.1).gone &&& p.2 &&& x.target p.1 != 0)

/-- Updates that wait on a chain (R501): the requests, and the break-only update of sets that left (R511). -/
def Chain.waiting (c : Chain) : Nat := c.queue.length + (if c.opening.isEmpty then 0 else 1)

/-- The waiting commands with a due target that closes a crosspoint retired since (R509). -/
def Dev.mxWorn (s : Dev) (k : Nat) : List Nat :=
  ((s.chain k).queue.filterMap id).filter (fun i =>
    match s.running? i with
    | some r => r.job.sets.any (fun q => (s.xset q).chain == k && (s.xset q).due && s.applyWorn q)
    | none => false)

/-- A waiting command ends with ST_WORN, and its sets' targets are no longer due (R509; log entry 152). -/
def Dev.mxRefuse (s : Dev) (i : Nat) : Dev :=
  match s.running? i with
  | none => s
  | some r =>
    let s1 := s.forAll r.job.sets (fun s q => s.modSet q (fun x => { x with due := false, byEdge := false }))
    (s1.forAll (List.range 8) (fun s k => s.modChain k (fun c => { c with queue := c.queue.filter (· != some i) }))).finish i stWorn []

/-- An update starts with a break and a make image for each module; one that changes nothing is over at once (R502). -/
def Dev.mxGo (s : Dev) (k : Nat) (per : List (RelayMod × Nat × Nat)) (cmds : List Nat) : Dev :=
  let opens := per.filter (fun x => x.2.1 != x.1.drive)
  let shuts := per.filter (fun x => x.2.2 != x.2.1)
  if opens.isEmpty && shuts.isEmpty then (s.mxFinish k cmds).pulse (74 + k)
  else
    let u : Update :=
      { phase := if opens.isEmpty then .mk else .brk, brkImg := per.map (fun x => x.2.1), mkImg := per.map (fun x => x.2.2),
        tRelNs := opens.foldl (fun n x => max n x.1.tRelNs) 0, tOpNs := shuts.foldl (fun n x => max n x.1.tOpNs) 0,
        cmds := cmds, made := 0, due := s.now + (s.chain k).shiftPs + 500000 }
    s.modChain k (fun c => { c with state := .updating, update := some u })

/-- The break-only update of sets that left their function (R511). -/
def Dev.mxBreak (s : Dev) (k : Nat) : Dev :=
  let c := s.chain k
  let per := (s.positions k).map (fun pos =>
    let m := s.rmod k pos
    let brk := andNot m.drive (m.physMap (tblGet (fun _ => 0) c.opening pos))
    (m, brk, brk))
  (s.modChain k (fun c => { c with opening := [] })).mxGo k per []

/-- The update of every target that is due (R501 to R503, R510). -/
def Dev.mxTake (s : Dev) (k : Nat) : Dev :=
  let per := (s.positions k).map (fun pos =>
    let w := s.wanted k pos
    let m := s.rmod k pos
    let brk := andNot m.drive (m.physMap w.1)
    (m, brk, brk ||| m.physMap w.2.1))
  let clash := (s.positions k).foldl (fun n pos => n + (bitsSet (s.wanted k pos).2.2 512).length) 0
  let cmds := (s.chain k).queue.filterMap id
  let s1 := s.forAll (s.dueSets k) (fun s q => s.modSet q (fun x =>
    { x with due := false, byEdge := false, lockSkip := sat32n (x.lockSkip + s.skipped k q) }))
  (s1.modChain k (fun c => { c with queue := [], conflicts := sat32n (c.conflicts + clash) })).mxGo k per cmds

/-- An update may start: the chain is READY, no darn record waits (R509), and no rediscovery or reset of the chain is asked for
(R507, R568). -/
def Dev.mxMay (s : Dev) (k : Nat) : Bool :=
  let c := s.chain k
  c.state == .ready && c.mods.all (fun m => m.darning.isEmpty) && c.discCmd.isNone
    && !s.sys.blockReset.any (fun p => p.1 == 64 + k)

/-- MX_UPDATE_START: the break-only update of sets that left goes first; any other update takes every due target of its chain,
once the commands whose targets a retirement forbids have ended (R501, R502, R509, R511). -/
def Dev.mxStart (s : Dev) (k : Nat) : Dev :=
  if !s.mxMay k then s
  else if !(s.chain k).opening.isEmpty then s.mxBreak k
  else
    let s1 := s.forAll (s.mxWorn k) Dev.mxRefuse
    if (s1.chain k).queue.isEmpty then s1 else s1.mxTake k

/-- An image latches at every module. -/
def Dev.latchImage (s : Dev) (k : Nat) (img : List Nat) : Dev :=
  s.forAll (s.positions k) (fun s pos => s.modRmod k pos (fun m => { m with drive := img.getD pos 0 }))

/-- The update in progress changed. -/
def Dev.modUpdate (s : Dev) (k : Nat) (u : Update) : Dev := s.modChain k (fun c => { c with update := some u })

/-- MX_ECHO_COMPARE (R502, R504). -/
def Dev.mxEcho (s : Dev) (k : Nat) (echo : List Nat) : Dev :=
  match (s.chain k).update with
  | none => s
  | some u =>
    if u.phase == .settle || u.phase == .operate then s
    else
      let s1 := s.advance u.due
      match (s1.chain k).echoBad echo with
      | some p => s1.mxMismatch k p
      | none =>
        let s2 := s1.modChain k (fun c => { c with retried := false })
        let shift := (s2.chain k).shiftPs
        match u.phase with
        | .brk =>
          let s3 := (s2.latchImage k u.brkImg).modUpdate k { u with phase := .settle, due := s2.now + u.tRelNs * 1000 }
          s3.forAll (s3.positions k) (fun s pos => s.wornScan k pos)
        | .mk =>
          let closing := (s2.positions k).flatMap (fun pos =>
            (bitsSet (andNot (u.mkImg.getD pos 0) (s2.rmod k pos).drive) 512).map (fun p => (pos, p)))
          let s3 := closing.foldl (fun s (x : Nat × Nat) => s.wearUp k x.1 x.2) (s2.latchImage k u.mkImg)
          s3.modUpdate k { u with phase := .confirm, made := s2.now, due := s2.now + shift + 1400000 }
        | _ => s2.modUpdate k { u with phase := .operate, due := max s2.now (u.made + u.tOpNs * 1000) }

/-- MX_RELEASE_SETTLE_END. -/
def Dev.mxSettled (s : Dev) (k : Nat) : Dev :=
  match (s.chain k).update with
  | some u =>
    if u.phase == .settle then
      let s1 := s.advance u.due
      s1.modUpdate k { u with phase := .mk, due := s1.now + (s1.chain k).shiftPs + 500000 }
    else s
  | none => s

/-- MX_DONE. -/
def Dev.mxDone (s : Dev) (k : Nat) : Dev :=
  match (s.chain k).update with
  | some u =>
    if u.phase == .operate then
      let s1 := (s.advance u.due).modChain k (fun c => { c with state := .ready, update := none })
      let s2 := (s1.mxFinish k u.cmds).pulse (74 + k)
      if (s2.chain k).discCmd.isSome then s2.rediscover k else s2
    else s
  | none => s

/-- MX_PERIODIC_CONFIRM (R505): a mismatch relatches the current image. -/
def Dev.mxConfirm (s : Dev) (k : Nat) (echo : List Nat) : Dev :=
  if (s.chain k).state != .ready then s
  else match (s.chain k).echoBad echo with
    | some p => s.mxMismatch k p
    | none => s.modChain k (fun c => { c with retried := false })

/-! ### A set leaves its function (R511) -/

/-- The set is disarmed, its target becomes the present state, a lock is released, and its crosspoints open in a break-only update
unless LOSS is KEEP. A committed target of a set that is kept still takes effect (R536); of one that opens it goes (log entry 152).
Answers whether a lock broke. -/
def Dev.setLoss (s : Dev) (q : Nat) : Dev × Bool :=
  let x := s.xset q
  let k := x.chain
  let now := x.members.foldl (fun t p => tblSet (fun _ => 0) t p.1 ((s.rmod k p.1).closed &&& p.2)) []
  let opens := x.locked || !x.keepOnLoss
  let s1 := s.modSet q (fun x =>
    if x.due && !opens then { x with armed := false, locked := false }
    else { x with armed := false, due := false, byEdge := false, locked := false, staged := now })
  if (s.chain k).up && !x.members.isEmpty && opens then
    let add := x.members.foldl (fun t p => tblSet (fun _ => 0) t p.1 (tblGet (fun _ => 0) t p.1 ||| p.2)) (s.chain k).opening
    (s1.modChain k (fun c => { c with opening := add }), x.locked)
  else (s1, x.locked)

/-! ### Identity records (R516, R520, R521) -/

/-- MSTATE's code. -/
def MState.code (m : MState) : Nat :=
  match m with | .discovering => 0 | .absent => 1 | .corrupt => 2 | .unsupported => 3 | .busFault => 4 | .valid => 5

/-- A record's header and CRC (R516), but for REC_FORMAT and KIND, which R526 checks apart. -/
def recordOk (b : List Byte) : Bool :=
  let len := u32 b 8
  u32 b 0 == 0x44495643 && u8 b 7 == 0 && allZero b 12 4 && allZero b 50 10 && decide (64 ≤ len) && decide (len ≤ b.length)
    && (u8 b 6 != 1 || len == 848) && (u8 b 6 != 2 || len == 256)
    && (crc32c (b.take 60 ++ (b.take len).drop 64)).toNat == u32 b 60

/-- The header of the executing bank. -/
def Dev.bankNow (s : Dev) : Bank := if s.store.executing = 0 then s.store.bankA else s.store.bankB
/-- REC_FORMAT and KIND (R526). -/
def Dev.recordKind (s : Dev) (b : List Byte) (kind : Nat) : Bool :=
  u8 b 6 == kind && decide (1 ≤ u16 b 4) && decide (u16 b 4 ≤ s.bankNow.recMax)

/-- Map entry `j` of a relay record. -/
def mapEntry (b : List Byte) (j : Nat) : Nat × Nat × Nat × Nat :=
  (u16 b (128 + 8 * j), u16 b (130 + 8 * j), u16 b (132 + 8 * j), u16 b (134 + 8 * j))

/-- No two intervals of a list meet. -/
def disjoint (l : List (Nat × Nat × Nat × Nat)) : Bool :=
  match l with
  | [] => true
  | e :: r => r.all (fun x => decide (e.2.1 < x.1) || decide (x.2.1 < e.1)) && disjoint r

/-- The block and map of a relay record (R520, R521). -/
def relayBlockOk (b : List Byte) : Bool :=
  let nxp := u16 b 64
  let n := u8 b 84
  let map := (List.range n).map (mapEntry b)
  let spares := map.foldl (fun k e => k + (e.2.1 + 1 - e.1)) 0
  let wear := u16 b 80
  let darn := u16 b 82
  decide (1 ≤ nxp) && decide (nxp ≤ 512) && allZero b 66 2 && decide (1 ≤ u32 b 68) && decide (u32 b 72 ≤ 100000000)
    && decide (u32 b 76 ≤ 100000000) && decide (n ≤ 16) && allZero b 85 43 && allZero b (128 + 8 * n) (128 - 8 * n)
    && map.all (fun e => decide (e.1 ≤ e.2.1) && decide (e.2.1 < nxp) && decide (e.2.2.1 ≤ e.2.2.2) && decide (e.2.2.2 < nxp))
    && disjoint map
    && map.all (fun e => map.all (fun x => decide (e.2.2.2 < x.1) || decide (x.2.1 < e.2.2.1)))
    && decide (64 ≤ wear) && decide (64 ≤ darn) && decide (wear + nxp + 1 ≤ 65536) && decide (darn + spares + 32 ≤ 65536)
    && (decide (wear + nxp + 1 ≤ darn) || decide (darn + spares + 32 ≤ wear))

/-- The 256 bytes of a record, and whether every word of it was read (R515). -/
def relayBytes (f : RelayFound) : List Byte × Bool :=
  ((List.range 64).flatMap (fun j => w32 ((mxWord 0 f.record j).getD 0)), (List.range 64).all (fun j => (mxWord 0 f.record j).isSome))

/-- A spare's darn word: none when it is unused, the logical index when it is valid, and whether the spare is out of service
(R523, R524). A word that could not be read fails its check. -/
def darnWord (m : RelayMod) (p : Nat) (read : Option Nat) : Option Nat × Bool :=
  match read with
  | none => (none, true)
  | some w =>
    let lo := w % 65536
    if w / 65536 + lo ≠ 65535 then (none, true)
    else if lo / 32768 = 0 then (none, false)
    else if lo / 512 % 64 = 0 && m.mayServe p (lo % 512) then (some (lo % 512), false) else (none, true)

/-- A relay module as its record and areas describe it (R520 to R524). -/
def relayOf (f : RelayFound) : RelayMod :=
  let b := (relayBytes f).1
  let nxp := u16 b 64
  let count := fun (p : Nat) => (mxWord (u16 b 80) f.wear p).getD 0
  let counts := (List.range nxp).foldl (fun t p => tblSet (fun _ => 0) t p (count p)) []
  let m0 : RelayMod :=
    { relayNone with
      serial := slice b 16 16, model := slice b 32 16, hwRev := u16 b 48, nxp := nxp, rated := u32 b 68, tRelNs := u32 b 72,
      tOpNs := u32 b 76, map := (List.range (u8 b 84)).map (mapEntry b),
      wear := counts, saved := counts, wearAt := u16 b 80, darnAt := u16 b 82,
      suspect := (List.range (nxp + 1)).any (fun p => (mxWord (u16 b 80) f.wear p).isNone)
        || (crc32c ((List.range nxp).flatMap (fun p => w32 (count p)))).toNat != count nxp }
  let spares := bitsSet m0.spareMask nxp
  let words := (List.range spares.length).map (fun s => (spares.getD s 0, darnWord m0 (spares.getD s 0) (mxWord (u16 b 82) f.darn s)))
  let used := words.filterMap (fun x => x.2.1.map (fun i => (x.1, i)))
  let ret := (List.range 16).foldl (fun a j =>
    let pair := (mxWord (u16 b 82) f.darn (spares.length + 2 * j), mxWord (u16 b 82) f.darn (spares.length + 2 * j + 1))
    let w := match pair with | (some x, some y) => if x + y = 0xFFFFFFFF then x else 0xFFFFFFFF | _ => 0xFFFFFFFF
    a + w * 2 ^ (32 * j)) 0
  let order := used.filter (fun d => !m0.worn d.1) ++ used.filter (fun d => m0.worn d.1)
  { m0 with
    darns := order.foldl (fun l d => if l.any (fun x => x.2 == d.2) then l else l ++ [d]) [],
    outOfService := (words.filter (fun x => x.2.2)).map (·.1), retired := ret &&& m0.logicals,
    warn := bitMap (fun p => decide (m0.warnAt ≤ m0.ops p)) nxp }

end Sys2Proof.Machine
end

