-- ==== Sys2Proof/Machine/Matrix.lean ====
section
/-! DEFINITION. The switch-matrix commands and events (spec/16_matrix.md). -/

namespace Sys2Proof.Machine

/-! ### Checks -/

/-- A chain whose modules are known: discovery is over, and a FAILED chain has kept its modules. -/
def Dev.chainKnown (s : Dev) (k : Nat) : Bool :=
  (s.chain k).state != .discovering && ((s.chain k).state != .failed || !(s.chain k).mods.isEmpty)
/-- Discovery runs on a chain (R525). -/
def Dev.chainBusy (s : Dev) (k : Nat) : Bool := (s.chain k).state == .discovering
/-- A set does not lie on a chain that discovery or a fault holds. -/
def Dev.setUp (s : Dev) (q : Nat) : Bool := (s.xset q).members.isEmpty || (s.chain (s.xset q).chain).state != .failed
/-- Discovery has ended on a set's chain. -/
def Dev.setReady (s : Dev) (q : Nat) : Bool := (s.xset q).members.isEmpty || !s.chainBusy (s.xset q).chain
/-- The set of a request. -/
def Job.set (j : Job) : Nat := u8 j.p 0
/-- 512 bits of free values (log entry 76). -/
def Dev.freeBits (s : Dev) : Nat := (List.range 16).foldl (fun a k => a + (Config.freeWord (s.freeCtr + k)).toNat * 2 ^ (32 * k)) 0

/-- ChainState's code (R499). -/
def ChainState.code (c : ChainState) : Nat :=
  match c with | .discovering => 0 | .empty => 1 | .ready => 2 | .updating => 3 | .failed => 4

/-! ### Commands -/

/-- MX_CHAIN_STATUS's sheet. -/
def cmdMxChainStatus : Cmd :=
  { op := 0x0B01, opt := .m, len := some 4, args := fun _ j => decide (u8 j.p 0 < 8) && j.rsv 1 3,
    body := fun s j =>
      let c := s.chain (u8 j.p 0)
      (s, .done stOk (w8 c.state.code ++ w8 c.reason ++ w8 c.mods.length ++ w8 (bit c.wbFail + 2 * min c.waiting 16)
        ++ w32 c.shiftBits ++ w32 c.conflicts ++ w32 c.echoErr ++ w64 c.lastWbNs)) }

/-- A set's members in a module, and the staged targets that go with them: the spec states no target for a crosspoint that
joins a set, so it is free. -/
def XSet.setMembers (x : XSet) (k pos op mask free : Nat) : XSet :=
  let old := x.mem pos
  let new := if op = 0 then mask else if op = 1 then old ||| mask else andNot old mask
  { x with chain := k, members := tblSet (fun _ => 0) x.members pos new,
           staged := tblSet (fun _ => 0) x.staged pos ((x.target pos &&& old &&& new) ||| (free &&& andNot new old)) }

/-- MX_SET_MEMBERS's sheet. -/
def cmdMxSetMembers : Cmd :=
  { op := 0x0B02, owner := true, opt := .m, len := some 72,
    args := fun s j =>
      let k := u8 j.p 1
      let m := s.rmod k (u8 j.p 2)
      decide (k < 8) && ((s.xset j.set).members.isEmpty || (s.xset j.set).chain == k) && decide (u8 j.p 3 < 3)
        && (decide (u8 j.p 4 < 2) || u8 j.p 4 == 0xFF) && j.rsv 5 3
        && (!s.chainKnown k || (decide (u8 j.p 2 < (s.chain k).mods.length) && andNot (leN j.p 8 64) m.logicals == 0)),
    held := fun s j => s.setHolder j.set == j.f, ready := fun s j => !s.chainBusy (u8 j.p 1),
    state := fun s j =>
      stIf (!(s.xset j.set).armed && !(s.xset j.set).locked && (s.chain (u8 j.p 1)).state != .failed),
    names := fun _ j => [Res.set j.set],
    body := fun s j =>
      let keep := fun (x : XSet) => if u8 j.p 4 = 0xFF then x else { x with keepOnLoss := u8 j.p 4 == 1 }
      let s1 := s.modSet j.set (fun x => keep (x.setMembers (u8 j.p 1) (u8 j.p 2) (u8 j.p 3) (leN j.p 8 64) s.freeBits))
      ({ s1 with freeCtr := s1.freeCtr + 16 }, .done stOk []) }

/-- MX_STAGE's sheet. -/
def cmdMxStage : Cmd :=
  { op := 0x0B03, opt := .m, len := some 68,
    args := fun s j =>
      let m := (s.xset j.set).mem (u8 j.p 1)
      j.rsv 2 2 && m != 0 && andNot (leN j.p 4 64) m == 0,
    held := fun s j => s.setHolder j.set == j.f, ready := fun s j => s.setReady j.set,
    unlocked := fun s j =>
      let x := s.xset j.set
      let pos := u8 j.p 1
      s.setFree j.f j.set
        && s.lockedMap j.f x.chain pos &&& x.mem pos &&& Nat.xor (leN j.p 4 64) (s.rmod x.chain pos).closed == 0,
    state := fun s j =>
      let x := s.xset j.set
      if x.armed || !s.setUp j.set then stState
      else if (s.rmod x.chain (u8 j.p 1)).gone &&& leN j.p 4 64 != 0 then stWorn else 0,
    names := fun _ j => [Res.set j.set],
    body := fun s j =>
      (s.modSet j.set (fun x => { x with staged := tblSet (fun _ => 0) x.staged (u8 j.p 1) (leN j.p 4 64) }), .done stOk []) }

/-- Chains of a list of sets. -/
def Dev.chainsOfSets (s : Dev) (l : List Nat) : List Nat :=
  sortedFns ((l.filter (fun q => !(s.xset q).members.isEmpty)).map (fun q => (s.xset q).chain))

/-- A set's targets change no crosspoint that another function has locked. -/
def Dev.applyFree (s : Dev) (f q : Nat) : Bool :=
  let x := s.xset q
  x.members.all (fun p => s.lockedMap f x.chain p.1 &&& p.2 &&& Nat.xor (x.target p.1) (s.rmod x.chain p.1).closed == 0)

/-- MX_APPLY's execution (R501). -/
def mxApplyBody (s : Dev) (j : Job) : Dev × Result :=
  let w := u8 j.p 32
  if w = 0 then
    let s1 := s.forAll j.sets (fun s q => s.modSet q (fun x =>
      if x.members.isEmpty then x else { x with due := true, byEdge := x.due && x.byEdge }))
    let ks := s.chainsOfSets j.sets
    let s2 := s1.forAll ks (fun s k => s.modChain k (fun c => { c with queue := c.queue ++ [some j.id] }))
    if ks.isEmpty then (s, .done stOk (w64 0)) else (s2, .later (ks.map Int.ofNat))
  else (s.forAll j.sets (fun s q => s.modSet q (fun x => { x with armed := w == 2 })), .done stOk (w64 0))

/-- MX_APPLY's sheet. -/
def cmdMxApply : Cmd :=
  { op := 0x0B04, opt := .m, len := some 36,
    args := fun _ j => (u8 j.p 32 == 0 || u8 j.p 32 == 2 || u8 j.p 32 == 3) && j.rsv 33 3,
    held := fun s j => j.sets.all (fun q => s.setHolder q == j.f), ready := fun s j => j.sets.all s.setReady,
    unlocked := fun s j => j.sets.all (s.setFree j.f) && (u8 j.p 32 != 0 || j.sets.all (s.applyFree j.f)),
    state := fun s j =>
      let w := u8 j.p 32
      if !j.sets.all s.setUp || (w == 2 && j.sets.any (fun q => (s.xset q).armed)) || (w == 3 && j.sets.any (fun q => !(s.xset q).armed))
          || (w == 0 && (s.chainsOfSets j.sets).any (fun k => decide ((s.chain k).waiting ≥ 16))) then stState
      else if w ≠ 3 && j.sets.any s.applyWorn then stWorn else 0,
    names := fun _ j => j.sets.map Res.set, body := mxApplyBody }

/-- MX_READ's sheet. -/
def cmdMxRead : Cmd :=
  { op := 0x0B05, opt := .m, len := some 4,
    args := fun s j => (s.xset j.set).mem (u8 j.p 1) != 0 && j.rsv 2 2, held := fun s j => s.setHolder j.set == j.f,
    ready := fun s j => s.setReady j.set, names := fun _ j => [Res.set j.set],
    body := fun s j =>
      let x := s.xset j.set
      let m := s.rmod x.chain (u8 j.p 1)
      let mem := x.mem (u8 j.p 1)
      let warn := bitMap (fun i => m.warn.testBit (m.phys i)) 512
      let used := fun (p : Nat) => m.darns.any (fun d => d.1 == p)
      let spares := ((bitsSet m.spareMask m.nxp).filter (fun p => !used p && !m.worn p)).length
      (s, .done stOk (toLe 64 (m.closed &&& mem) ++ toLe 64 (warn &&& mem) ++ toLe 64 (m.gone &&& mem) ++ w16 m.darns.length
        ++ w16 spares ++ w8 (bitAt x.locked 0 + bitAt (s.lockedBeside j.f j.set) 1 + bitAt x.armed 2) ++ zeros 3)) }

/-- MX_WEAR_READ's sheet. -/
def cmdMxWearRead : Cmd :=
  { op := 0x0B06, opt := .m, len := some 8,
    args := fun s j =>
      let mem := (s.xset j.set).mem (u8 j.p 1)
      mem != 0 && decide (1 ≤ u8 j.p 4) && decide (u8 j.p 4 ≤ 48) && j.rsv 5 3
        && (List.range (u8 j.p 4)).all (fun n => mem.testBit (u16 j.p 2 + n)),
    held := fun s j => s.setHolder j.set == j.f, ready := fun s j => s.setReady j.set, names := fun _ j => [Res.set j.set],
    body := fun s j =>
      let m := s.rmod (s.xset j.set).chain (u8 j.p 1)
      (s, .done stOk (w32 m.rated ++ w8 (u8 j.p 4) ++ zeros 3
        ++ (List.range (u8 j.p 4)).flatMap (fun n => w32 (m.ops (m.phys (u16 j.p 2 + n)))))) }

/-- MX_LOCK's sheet (R510). -/
def cmdMxLock : Cmd :=
  { op := 0x0B07, opt := .m, len := some 4, args := fun _ j => decide (u8 j.p 1 < 2) && j.rsv 2 2,
    held := fun s j => s.setHolder j.set == j.f, ready := fun s j => s.setReady j.set,
    unlocked := fun s j => s.setFree j.f j.set && (u8 j.p 1 == 0 || !s.lockedBeside j.f j.set),
    state := fun s j => stIf (s.setUp j.set && (s.xset j.set).locked == (u8 j.p 1 == 0)), names := fun _ j => [Res.set j.set],
    body := fun s j => (s.modSet j.set (fun x => { x with locked := u8 j.p 1 == 1 }), .done stOk []) }

/-- MX_CHAIN_CTL's sheet: WEAR_WRITEBACK or CHAIN_DISCOVERY completes it. -/
def cmdMxChainCtl : Cmd :=
  { op := 0x0B08, owner := true, opt := .m, len := some 4,
    args := fun _ j => decide (u8 j.p 0 < 8) && decide (u8 j.p 1 < 2) && j.rsv 2 2,
    ready := fun s j => !s.chainBusy (u8 j.p 0),
    state := fun s j =>
      let k := u8 j.p 0
      stIf (if u8 j.p 1 = 0 then (s.chain k).state == .ready
        else !(s.setsOn k).any (fun q => (s.xset q).armed || (s.xset q).locked)),
    names := fun _ j => [Res.chain (u8 j.p 0)],
    body := fun s j =>
      let k := u8 j.p 0
      if u8 j.p 1 = 0 then (s.modChain k (fun c => { c with wbCmd := some j.id }), .later [])
      else
        let s1 := s.modChain k (fun c => { c with discCmd := some j.id })
        (s1.rediscover k, .later []) }

/-! ### Events -/

/-- MX_APPLY_EVENT (R501, R512). -/
def Dev.mxEvent (s0 : Dev) (k : Nat) : Dev :=
  if !s0.hasEdge (58 + k) then s0
  else
    let s := s0.takeEdge (58 + k)
    let l := (s.setsOn k).filter (fun q => (s.xset q).armed)
    if l.isEmpty then s
    else if (s.dueSets k).any (fun q => (s.xset q).byEdge) || (s.chain k).waiting ≥ 16 then s.setOverrun (58 + k)
    else
      (s.forAll l (fun s q => s.modSet q (fun x => { x with due := true, byEdge := true }))).modChain k
        (fun c => { c with queue := c.queue ++ [none] })

/-- Counts and retirements are written back and verified, module by module, or WB_FAIL sets; what waited for it goes on
(R507). -/
def Dev.mxBack (s : Dev) (k : Nat) (res : List (List (W64 × W64))) : Dev :=
  let c := s.chain k
  let okAt := fun (pos : Nat) => (c.mods.getD pos relayNone).backOk (res.getD pos [])
  let good := (List.range c.mods.length).all okAt
  let s1 := s.modChain k (fun c =>
    { c with wbFail := !good, lastWbNs := if good then s.timeNs else c.lastWbNs, wbCmd := none, wbWant := false,
             mods := (List.range c.mods.length).map (fun pos =>
               let m := c.mods.getD pos relayNone
               if okAt pos then m.backed else m) })
  if good then s1.finish? c.wbCmd stOk []
  else
    let s2 := (s1.logIt (kMxWbFail k) 0).finish? c.wbCmd stIntegrity []
    match c.discCmd with
    | some id => s2.addData id (-1)
    | none => s2

/-- WEAR_WRITEBACK (R507): one that nothing asked for comes at the end of its interval; a rediscovery that waited begins. -/
def Dev.mxWriteback (s : Dev) (k : Nat) (res : List (List (W64 × W64))) : Dev :=
  let c := s.chain k
  if !c.up then s
  else
    let asked := c.wbCmd.isSome || c.wbWant
    let s0 := if asked then s else
      (s.advance c.wbNext).modChain k (fun c => { c with wbNext := max s.now c.wbNext + s.sys.opt.wearWbMin * 60000000000000 })
    let s1 := s0.mxBack k res
    if c.discCmd.isSome && c.update.isNone then s1.discBegin k else s1

/-- DARN_VERIFY (R509): the record read back puts the spare in service; a failed one retires the crosspoint. -/
def Dev.darnEnd (s : Dev) (k pos p : Nat) (res : W64 × W64) : Dev :=
  match (s.rmod k pos).darning.find? (fun d => d.2 == p) with
  | none => s
  | some d =>
    let s1 := s.modRmod k pos (fun m => { m with darning := m.darning.filter (fun x => x != d) })
    if mxWriteOk ((s.rmod k pos).darnWrite p d.1) res then
      let s2 := s1.modRmod k pos (fun m => { m with darns := m.darns.filter (fun x => x.2 != d.1) ++ [(p, d.1)] })
      let set := (s2.setsWith k pos d.1).headD (s2.freeVal % 256)
      (s2.logIt (kMxWear set false) (d.1 + 131072)).freeNext
    else s1.retire k pos d.1

/-- The serial and size of the modules of a chain. -/
def chainShape (l : List RelayMod) : List (List Byte × Nat) := l.map (fun m => (m.serial, m.nxp))

/-- The reply table of SYS_BLOCK_RESET: OUTCOME and IDLE_US. -/
def blockReply (d : List Int) : List Byte := w8 (d.getD 0 0).toNat ++ zeros 3 ++ w32 (d.getD 1 0).toNat

/-- Discovery of a chain ends; a rediscovery's command completes (with ST_INTEGRITY after a write-back that failed, and for
a block reset also after a discovery that failed, R568), and sets are emptied unless the modules are the same. -/
def Dev.discEnd (s : Dev) (k : Nat) (st : ChainState) (reason : Nat) (mods : List RelayMod) (bad : Nat × MState) : Dev :=
  let c := s.chain k
  let same := chainShape mods == chainShape c.mods
  let ok : Bool := match c.discCmd with
    | some id => (match s.running? id with | some r => !r.data.contains (-1) && (r.job.op == 0x0B08 || st != .failed) | none => true)
    | none => true
  let s1 := s.modChain k (fun c => { c with state := st, reason := reason, mods := mods, badPos := bad.1, badState := bad.2,
                                            discCmd := none, retried := false,
                                            wbNext := s.now + s.sys.opt.wearWbMin * 60000000000000 })
  let s2 := if same then s1 else s1.forAll (s1.setsOn k) (fun s q => s.modSet q (fun x => { x with members := [], staged := [] }))
  let pay := match c.discCmd with
    | some id => (match s.running? id with | some r => if r.job.op = 0x0E02 then blockReply r.data else [] | none => [])
    | none => []
  let s3 := (s2.finish? c.discCmd (if ok then stOk else stIntegrity) (if ok then pay else [])).modSys (fun y =>
    { y with blockReset := y.blockReset.filter (fun p => p.1 != 64 + k) })
  if st == .failed then
    (s3.modChain k (fun c => { c with queue := [], opening := [] })).forAll (c.queue.filterMap id) (fun s i => s.finish i stIntegrity [])
  else s3

/-- The log entry of a discovery that failed. -/
def Dev.discLog (s : Dev) (k : Nat) (st : MState) (step : Nat) : Dev := s.logIt (kModule 4 k) (st.code + 256 * step)

/-- What the relay records of a chain of `n` modules show: the first that is missing or not valid, by position, with its state
(R500, R528). -/
def Dev.relayBad (s : Dev) (n : Nat) (l : List RelayFound) : Option (Nat × MState) :=
  ((List.range n).filterMap (fun pos =>
    let r := relayBytes (l.getD pos { record := [], wear := [], darn := [] })
    let b := r.1
    if !r.2 || !recordOk b then some (pos, MState.corrupt)
    else if !s.recordKind b 2 then some (pos, MState.unsupported)
    else if !relayBlockOk b then some (pos, MState.corrupt) else none)).head?

/-- The entries of the modules whose wear CRC is wrong (R524). -/
def Dev.wearLog (s : Dev) (k : Nat) : Dev :=
  s.forAll (s.positions k) (fun s pos =>
    if (s.rmod k pos).suspect then (s.logIt (key (s.freeVal % 65536) 16 (s.freeVal / 65536 % 4) 4 k) 0).freeNext else s)

/-- CHAIN_DISCOVERY (R500, R524, R528): of a chain whose discovery has started (R525). -/
def Dev.chainFound (s : Dev) (k : Nat) (f : ChainFound) : Dev :=
  if !s.optM || (s.chain k).state != .discovering || !(s.chain k).begun then s
  else if f.count = 0 then s.discEnd k .empty 0 [] (0, .valid)
  else if f.count > 32 then s.discEnd k .failed 1 [] (0, .valid)
  else if !f.trained then s.discEnd k .failed 4 [] (0, .valid)
  else
    match s.relayBad f.count f.modules with
    | some b => (s.discLog k b.2 (if b.2 == .unsupported then 3 else 2)).discEnd k .failed 2 [] b
    | none =>
      let mods := (f.modules.take f.count).map relayOf
      match ({ s.chain k with mods := mods } : Chain).echoBad f.echo with
      | some pos =>
        (((s.modChain k (fun c => { c with echoErr := sat32n (c.echoErr + 1) })).logIt (kMxEcho k true) (pos + 65536)).discEnd
          k .failed 3 mods (0, .valid)).wearLog k
      | none =>
        let s1 := (s.discEnd k .ready 0 mods (0, .valid)).wearLog k
        s1.forAll (s1.positions k) (fun s pos => s.wornScan k pos)

/-! ### Rows -/

/-- MX_CHAIN_STATUS. -/
def execMxChainStatus (q : Req) (s : State) : Out := .next (s.on (fun d => d.command cmdMxChainStatus q))
/-- MX_SET_MEMBERS. -/
def execMxSetMembers (q : Req) (s : State) : Out := .next (s.on (fun d => d.command cmdMxSetMembers q))
/-- MX_STAGE. -/
def execMxStage (q : Req) (s : State) : Out := .next (s.on (fun d => d.command cmdMxStage q))
/-- MX_APPLY. -/
def execMxApply (q : Req) (s : State) : Out := .next (s.on (fun d => d.command cmdMxApply q))
/-- MX_READ. -/
def execMxRead (q : Req) (s : State) : Out := .next (s.on (fun d => d.command cmdMxRead q))
/-- MX_WEAR_READ. -/
def execMxWearRead (q : Req) (s : State) : Out := .next (s.on (fun d => d.command cmdMxWearRead q))
/-- MX_LOCK. -/
def execMxLock (q : Req) (s : State) : Out := .next (s.on (fun d => d.command cmdMxLock q))
/-- MX_CHAIN_CTL. -/
def execMxChainCtl (q : Req) (s : State) : Out := .next (s.on (fun d => d.command cmdMxChainCtl q))
/-- MX_APPLY_EVENT (R512). -/
def execMxApplyEvent (k : ChainId) (s : State) : Out := .next (s.on (fun d => d.mxEvent k.val))
/-- MX_UPDATE_START (R502). -/
def execMxUpdateStart (k : ChainId) (s : State) : Out := .next (s.on (fun d => d.mxStart k.val))
/-- MX_ECHO_COMPARE (R502, R504). -/
def execMxEchoCompare (k : ChainId) (echo : List Nat) (s : State) : Out := .next (s.on (fun d => d.mxEcho k.val echo))
/-- MX_RELEASE_SETTLE_END (R502). -/
def execMxReleaseSettleEnd (k : ChainId) (s : State) : Out := .next (s.on (fun d => d.mxSettled k.val))
/-- MX_DONE (R502). -/
def execMxDone (k : ChainId) (s : State) : Out := .next (s.on (fun d => d.mxDone k.val))
/-- MX_PERIODIC_CONFIRM (R505). -/
def execMxPeriodicConfirm (k : ChainId) (echo : List Nat) (s : State) : Out :=
  .next (s.on (fun d => d.mxConfirm k.val echo))
/-- WEAR_WRITEBACK (R507). -/
def execWearWriteback (k : ChainId) (results : List (List (W64 × W64))) (s : State) : Out :=
  .next (s.on (fun d => d.mxWriteback k.val results))
/-- DARN_VERIFY (R509). -/
def execDarnVerify (k : ChainId) (position : Fin 32) (spare : Nat) (result : W64 × W64) (s : State) : Out :=
  .next (s.on (fun d => d.darnEnd k.val position.val spare result))
/-- CHAIN_DISCOVERY (R500). -/
def execChainDiscovery (k : ChainId) (found : ChainFound) (s : State) : Out := .next (s.on (fun d => d.chainFound k.val found))

end Sys2Proof.Machine
end

