-- ==== Sys2Proof/Machine/Modules.lean ====
section
/-! DEFINITION. Stage-module discovery and the module commands (spec/17_module_identity.md). -/

namespace Sys2Proof.Machine

/-! ### The stage record (R517 to R519) -/

/-- Offset of a range entry. -/
def entryAt (cur : Bool) (k : Nat) : Nat := (if cur then 0x170 else 0x080) + 40 * k

/-- A range entry (R518). -/
def rangeAt (b : List Byte) (cur : Bool) (k : Nat) : RangeDef :=
  let o := entryAt cur k
  let fl := u16 b (o + 4)
  { fs := u32 b o, bipolar := fl.testBit 0, calPath := fl.testBit 1, calValid := fl.testBit 2, rly := u16 b (o + 6),
    settleNs := u32 b (o + 8), vFs := u32 b (o + 12), aux := u32 b (o + 16), limHi := u32 b (o + 20), limLo := u32 b (o + 24),
    calRg := u32 b (o + 28) % 16777216, calRo := toSigned 24 (u32 b (o + 32) % 16777216) }

/-- A binary32 word is finite and positive. -/
def f32Pos (w : Nat) : Bool := f32Finite w && decide (0 < (f32Val w).num)

/-- A limit converts under R357 without saturation. -/
def thrFits (r : RangeDef) (lim : Nat) : Bool :=
  let c := fracRhe (fracMul (fracDiv (fracMul (f32Val lim) (f32Val r.vFs)) (f32Val r.fs)) ⟨1000, 1⟩)
  decide (-2048 ≤ c) && decide (c ≤ 2047)

/-- A used range entry (R518, R519); the limits of V_FS are taken as binary32 words. -/
def entryOk (b : List Byte) (cur : Bool) (k : Nat) : Bool :=
  let o := entryAt cur k
  let r := rangeAt b cur k
  f32Pos r.fs && f32Pos r.vFs && f32Pos r.aux && f32Pos r.limHi && f32Finite r.limLo && decide ((f32Val r.limLo).num < 0)
    && decide (u16 b (o + 4) < 8) && decide (r.rly < 1024) && decide (r.settleNs ≤ 100000000)
    && fracLe (f32Val (f32Of ⟨512, 1000⟩)) (f32Val r.vFs) && fracLe (f32Val r.vFs) (f32Val (f32Of ⟨1024, 1000⟩))
    && thrFits r r.limHi && thrFits r r.limLo && u8 b (o + 31) == 0 && u8 b (o + 35) == 0 && allZero b (o + 36) 4
    && (r.calValid || allZero b (o + 28) 8)

/-- FS rises strictly with the code (R122). -/
def fsRises (b : List Byte) (cur : Bool) (n : Nat) : Bool :=
  (List.range (n - 1)).all (fun k => fracLt (f32Val (rangeAt b cur k).fs) (f32Val (rangeAt b cur (k + 1)).fs))

/-- The ranges of one quantity: `n` used of `m` (R519). -/
def entriesOk (b : List Byte) (cur : Bool) (n m : Nat) : Bool :=
  decide (1 ≤ n) && decide (n ≤ m) && (List.range n).all (entryOk b cur) && fsRises b cur n
    && (List.range m).all (fun k => decide (k < n) || allZero b (entryAt cur k) 40)

/-- The module block and ranges of a stage record (R519). -/
def stageBlockOk (b : List Byte) : Bool :=
  entriesOk b false (u8 b 0x40) 6 && entriesOk b true (u8 b 0x41) 12 && decide (1 ≤ u8 b 0x42) && decide (u8 b 0x42 < 16)
    && decide (u8 b 0x43 ≤ 3) && u8 b 0x47 == 0 && decide (1 ≤ u16 b 0x48) && decide (u16 b 0x48 ≤ 256) && allZero b 0x4A 2
    && decide (u32 b 0x4C ≤ 10000000) && decide (u32 b 0x50 ≤ 100000000) && f32Pos (u32 b 0x54) && allZero b 0x58 40

/-- The content of a valid stage record. -/
def stageOf (b : List Byte) : StageId :=
  { serial := slice b 16 16, model := slice b 32 16, hwRev := u16 b 48, chPresent := u8 b 0x42, span := u8 b 0x43,
    step := u32 b 0x44, divr := u16 b 0x48, enSettleNs := u32 b 0x4C, outSettleNs := u32 b 0x50, capMax := u32 b 0x54,
    volts := (List.range (u8 b 0x40)).map (rangeAt b false), amps := (List.range (u8 b 0x41)).map (rangeAt b true) }

/-! ### Discovery (R526, R527) -/

/-- What a discovery finds: the identity, or the state and the step that fails. -/
def Dev.stageResult (s : Dev) (f : StageFound) : Option StageId × MState × Nat :=
  match f with
  | .absent => (none, .absent, 1)
  | .busFault => (none, .busFault, 5)
  | .record b =>
    if !recordOk b then (none, .corrupt, 2)
    else if !s.recordKind b 1 then (none, .unsupported, 3)
    else if !stageBlockOk b then (none, .corrupt, 4)
    else (some (stageOf b), .valid, 0)

/-- Step 6 for a channel: SPAN, STEP, DIV, the highest codes with their thresholds, RG and RO (R137, R253, R257, R526). -/
def Dev.chanFound (s : Dev) (i : StageId) (c : Nat) : Dev :=
  let vr := i.volts.length - 1
  let ir := i.amps.length - 1
  let s1 := s.modChan c (fun x => { x with vr := vr, ir := ir })
  if s1.noModule c then s1
  else
    ((s1.sendDown c (.slew i.span i.step i.divr)).sendRange c false vr).sendRange c true ir

/-- STAGE_DISCOVERY: a module under discovery takes the state of R526, and a rescan's command completes; from step 5 on the
all-reset word is latched. The module of
channels that the variant does not enable is never discovered and its pins stay high-impedance (R3). -/
def Dev.stageFound (s : Dev) (m : Nat) (f : StageFound) : Dev :=
  let g := s.stage m
  if g.mstate != .discovering || !g.driven || s.nChan ≤ 4 * m then s
  else
    let r := s.stageResult f
    let s0 := s.modStage m (fun g => { g with mstate := r.2.1, ident := r.1, rescan := none })
    let s1 := if r.2.2 = 0 || r.2.2 = 5 then
        s0.modStage m (fun g => { g with latched := stageWordReset, wanted := stageWordReset, shift := none, unconfirmed := false,
                                         failedOnce := false, readback := stageWordReset })
      else s0
    let s2 := match r.1 with
      | some i => s1.forAll (List.range 4) (fun s k => s.chanFound i (4 * m + k))
      | none => s1.logIt (kModule 3 m) (r.2.1.code + 256 * r.2.2)
    s2.finish? g.rescan stOk []

/-! ### Commands -/

/-- The chain and position that a TARGET names. -/
def targetRelay (t : Nat) : Nat × Nat := ((t - 256) / 32, t % 32)

/-- A TARGET of the part: a stage module that serves an enabled channel, or a relay module with option M. -/
def Dev.targetOk (s : Dev) (t : Nat) : Bool :=
  (decide (t < 16) && decide (4 * t < s.nChan)) || (decide (256 ≤ t) && decide (t < 512) && s.optM)

/-- The resources that a TARGET names: a stage module with its channels, or the chain of a relay module (R107). -/
def targetNames (t : Nat) : List Res :=
  if t < 16 then Res.stage t :: (List.range 4).map (fun k => Res.chan (4 * t + k)) else [Res.chain (targetRelay t).1]

/-- MSTATE of a relay module. A position that shows no module is ABSENT. -/
def Dev.relayState (s : Dev) (t : Nat) : MState :=
  let k := (targetRelay t).1
  let c := s.chain k
  if c.state == .discovering then .discovering
  else if c.state == .failed && c.reason == 2 then (if (targetRelay t).2 = c.badPos then c.badState else .absent)
  else if (targetRelay t).2 < c.mods.length then .valid else .absent

/-- A session holds a channel of a stage module, or a set with a member in a relay module. -/
def Dev.targetHeld (s : Dev) (f t : Nat) : Bool :=
  f == 0 || (if t < 16 then (List.range 4).any (fun k => s.holdsChan f (4 * t + k))
    else (s.setsOn (targetRelay t).1).any (fun q => s.setHolder q == f && (s.xset q).mem (targetRelay t).2 != 0))

/-- The reply of MOD_INFO. -/
def modReply (s : Dev) (t : Nat) : List Byte :=
  if t < 16 then
    let g := s.stage t
    match g.ident, g.mstate == .valid with
    | some i, true => w8 5 ++ w8 1 ++ w16 i.hwRev ++ padTo 16 i.serial ++ padTo 16 i.model ++ w8 i.volts.length ++ w8 i.amps.length
        ++ w16 i.chPresent ++ zeros 8
    | _, _ => w8 g.mstate.code ++ zeros 47
  else if s.relayState t == .valid then
    let m := s.rmod (targetRelay t).1 (targetRelay t).2
    w8 5 ++ w8 2 ++ w16 m.hwRev ++ padTo 16 m.serial ++ padTo 16 m.model
      ++ w8 (bitAt m.suspect 0 + bitAt (s.chain (targetRelay t).1).wbFail 1) ++ zeros 1 ++ w16 m.nxp
      ++ w16 (bitsSet m.spareMask m.nxp).length ++ zeros 6
  else w8 (s.relayState t).code ++ zeros 47

/-- MOD_INFO's sheet. -/
def cmdModInfo : Cmd :=
  { op := 0x0C01, len := some 4, args := fun s j => s.targetOk (u16 j.p 0) && j.rsv 2 2,
    held := fun s j => s.targetHeld j.f (u16 j.p 0), body := fun s j => (s, .done stOk (modReply s (u16 j.p 0))) }

/-- MSTATE of a target. -/
def Dev.targetState (s : Dev) (t : Nat) : MState := if t < 16 then (s.stage t).mstate else s.relayState t

/-- MOD_READ's sheet: FINAL_REPLY completes it with the bytes read. -/
def cmdModRead : Cmd :=
  { op := 0x0C02, owner := true, len := some 8,
    args := fun s j =>
      let n := u8 j.p 2
      let t := u16 j.p 0
      s.targetOk t && decide (4 ≤ n) && decide (n ≤ 224) && n % 4 == 0 && j.rsv 3 1 && u32 j.p 4 % 4 == 0
        && decide (u32 j.p 4 + n ≤ (if t < 16 then 65536 else 262144)),
    ready := fun s j => s.targetState (u16 j.p 0) != .discovering,
    state := fun s j =>
      let t := u16 j.p 0
      stIf (s.targetState t != .absent && (decide (t < 16) || (s.chain (targetRelay t).1).state != .failed)),
    names := fun _ j => targetNames (u16 j.p 0),
    body := fun s j => (s, .later [(u8 j.p 2 : Int)]) }

/-- A channel that keeps its module from a rescan. -/
def Dev.rescanHeld (s : Dev) (c : Nat) : Bool :=
  (s.chan c).state != 0 || (s.gangOf c).isSome || s.seqBusy c || s.calAwaiting c || s.calActive c

/-- MOD_RESCAN's sheet: STAGE_DISCOVERY completes it. -/
def cmdModRescan : Cmd :=
  { op := 0x0C03, owner := true, len := some 4,
    args := fun s j => decide (u16 j.p 0 < 16) && s.targetOk (u16 j.p 0) && j.rsv 2 2,
    held := fun s j => (List.range 4).all (fun k => s.holdsChan j.f (4 * u16 j.p 0 + k)),
    ready := fun s j => (s.stage (u16 j.p 0)).mstate != .discovering,
    state := fun s j => stIf (!(List.range 4).any (fun k => s.rescanHeld (4 * u16 j.p 0 + k))),
    names := fun _ j => Res.stage (u16 j.p 0) :: (List.range 4).map (fun k => Res.chan (4 * u16 j.p 0 + k)),
    body := fun s j =>
      let m := u16 j.p 0
      let s1 := s.modStage m (fun g => { g with mstate := .discovering, rescan := some j.id })
      (s1.forAll ((List.range 16).map (16 * m + ·)) (fun s e => s.modEng e (fun x => { x with lib := [] })), .later []) }

/-- MOD_INFO. -/
def execModInfo (q : Req) (s : State) : Out := .next (s.on (fun d => d.command cmdModInfo q))
/-- MOD_READ. -/
def execModRead (q : Req) (s : State) : Out := .next (s.on (fun d => d.command cmdModRead q))
/-- MOD_RESCAN. -/
def execModRescan (q : Req) (s : State) : Out := .next (s.on (fun d => d.command cmdModRescan q))
/-- STAGE_DISCOVERY (R526). -/
def execStageDiscovery (m : ModId) (found : StageFound) (s : State) : Out := .next (s.on (fun d => d.stageFound m.val found))

end Sys2Proof.Machine
end

