-- ==== Sys2Proof/Machine/Admin.lean ====
section
/-! DEFINITION. Holding and assignment: moves between functions, locks that break, loss policies, and the owner's
administration commands (spec/18_sessions.md). -/

namespace Sys2Proof.Machine

/-! ### Moves (R529, R530) -/

/-- The exclusive resources of a move, and the view entries. -/
structure Moved where
  chans : List Nat
  routes : List Nat
  pins : List Nat
  segs : List Nat
  lines : List Nat
  sets : List Nat
  view : Nat
deriving DecidableEq, Repr

/-- The members of the gangs of a map. -/
def Dev.namedGangs (s : Dev) (gs : Nat) : List Nat :=
  (bitsSet gs 32).flatMap (fun g => match s.gang g with | some x => bitsSet x.members 64 | none => [])

/-- The resource layout of ADM_ASSIGN and ADM_RELEASE. -/
def Dev.layout (s : Dev) (p : List Byte) (o : Nat) : Moved :=
  { chans := sortedFns (bitsSet (u64 p o) 64 ++ s.namedGangs (u32 p (o + 8))), routes := bitsSet (leN p (o + 12) 32) 256,
    pins := bitsSet (leN p (o + 44) 16) 128, segs := bitsSet (u16 p (o + 60)) 16, lines := bitsSet (u16 p (o + 62)) 13,
    sets := bitsSet (leN p (o + 96) 32) 256, view := leN p (o + 64) 32 }

/-- The layout names what the part has. -/
def Dev.layoutOk (s : Dev) (p : List Byte) (o : Nat) : Bool :=
  s.chansOk (u64 p o) && (s.optG || u32 p (o + 8) == 0) && (bitsSet (u32 p (o + 8)) 32).all (fun g => (s.gang g).isSome)
    && (s.optV || (leN p (o + 44) 16 == 0 && u16 p (o + 60) == 0)) && decide (u16 p (o + 62) < 8192)
    && (s.optM || leN p (o + 96) 32 == 0)

/-- Every named exclusive resource is held by a function. -/
def Dev.movedHeld (s : Dev) (f : Nat) (m : Moved) : Bool :=
  m.chans.all (s.holdsChan f) && m.routes.all (fun r => s.routeHolder r == f) && m.pins.all (fun p => s.pinHolder p == f)
    && m.segs.all (fun i => s.segHolder i == f) && m.lines.all (fun l => s.lineHolder l == f) && m.sets.all (fun q => s.setHolder q == f)

/-- The conditions of R529 on a channel. -/
def Dev.chanMovable (s : Dev) (c : Nat) : Bool :=
  !s.calAwaiting c && !s.calActive c && (s.chan (s.leader c)).rc.isNone && !s.armedOnChan c

/-- No member of a gang is named alone (R530). -/
def Dev.gangsWhole (s : Dev) (p : List Byte) (o : Nat) : Bool :=
  (bitsSet (u64 p o) 64).all (fun c => match s.gangOf c with | some g => (u32 p (o + 8)).testBit g.1 | none => true)

/-- The conditions of R529. -/
def Dev.movable (s : Dev) (m : Moved) : Bool :=
  m.chans.all s.chanMovable && m.sets.all (fun q => !(s.xset q).armed && !(s.xset q).locked) && m.segs.all (fun i => s.segState i != 3)

/-- A VF that is enabled and not in reset (R538). -/
def Dev.vfUp (s : Dev) (f : Nat) : Bool := (s.fn f).enabled && (s.fn f).flr == .idle

/-- A VF that may receive an assignment: it is up, and its bus lies in the upstream port's range (R58; the status of another
one is DEDUCED, log entry 120). -/
def Dev.vfAssignable (s : Dev) (f : Nat) : Bool := s.vfUp f && s.routed f

/-- ORPHANED: the lock of function `f` on set `q` has broken (R535). -/
def Dev.orphaned (s : Dev) (f q : Nat) : Dev :=
  let beside := (s.setsOn (s.xset q).chain).filter (fun r => r != q && s.shares q r)
  let others := (sortedFns (beside.map s.setHolder)).filter (fun g => g != f && g != 0)
  (((s.logIt (kOrphaned 5 q) f).irq 0 irqError)).forAll others (fun s g =>
    let own := (beside.filter (fun r => s.setHolder r == g)).headD q
    (s.logIt (kOrphaned 5 own) f).irq g irqError)

/-- The player lock of a function breaks: its pattern ends with RELEASED and the owner learns it (R448, R535). -/
def Dev.playerBreaks (s : Dev) (f : Nat) : Dev :=
  if s.vMine f then ((s.vAbort 7).logIt (kOrphaned 10 f) f).irq 0 irqError else s

/-- A set leaves its function, or its lock breaks (R511, R535). -/
def Dev.setLeaves (s : Dev) (f q : Nat) : Dev :=
  let r := s.setLoss q
  if r.2 then r.1.orphaned f q else r.1

/-- A channel leaves its function: sequencers, engines of a handler, results and swap groups (R206, R269, R304, R319). -/
def Dev.chanLeaves (s : Dev) (f c : Nat) : Dev :=
  let s1 := ((s.seqRelease c).hsRelease c).resRelease c
  let drop := fun (m : Nat) => andNot m (15 * 2 ^ (4 * c))
  let groups := s1.swapGroups.foldl (fun a p => tblSet groupInit a p.1 (if p.1 / 64 = f then drop p.2 else p.2)) []
  { s1 with swapGroups := groups, assign := { s1.assign with holdChan := putBit s1.assign.holdChan c false } }

/-- Holders of a list of resources become a function. -/
def setHolders (t : Tbl Nat) (l : List Nat) (f : Nat) : Tbl Nat := l.foldl (fun t i => tblSet holderInit t i f) t

/-- Resources pass from one function to another (R529). -/
def Dev.move (s : Dev) (frm to_ : Nat) (m : Moved) : Dev :=
  let s1 := s.forAll m.chans (fun s c => s.chanLeaves frm c)
  let s2 := s1.forAll m.routes (fun s r => s.routeLeave r)
  let s3 := if m.pins.isEmpty && m.segs.isEmpty then s2 else s2.playerBreaks frm
  let s4 := (s3.forAll m.pins (fun s p => s.vPinLeaves p)).forAll m.segs (fun s i => s.vSegLeaves i)
  let s5 := s4.forAll m.sets (fun s q => s.setLeaves frm q)
  let a := s5.assign
  let a1 : Assign :=
    { a with chan := setHolders a.chan m.chans to_, route := setHolders a.route m.routes to_, pin := setHolders a.pin m.pins to_,
             seg := setHolders a.seg m.segs to_, line := setHolders a.line m.lines to_, set := setHolders a.set m.sets to_,
             holdRoute := m.routes.foldl (fun h r => putBit h r false) a.holdRoute,
             holdSet := m.sets.foldl (fun h q => putBit h q false) a.holdSet }
  ({ s5 with assign := a1 } : Dev).fabMoved s frm

/-- Entries leave a session's view (R388). -/
def Dev.viewLeaves (s : Dev) (f m : Nat) : Dev :=
  let s1 := s.modFn f (fun r =>
    let gone := m.testBit r.survey.entry && r.view.testBit r.survey.entry
    { r with view := andNot r.view m, survey := if gone then svyNone else r.survey })
  s1.fabMoved s f

/-- The resources that a move names (R107). -/
def movedNames (f : Nat) (m : Moved) : List Res :=
  Res.func f :: m.chans.map Res.chan ++ m.routes.map Res.route ++ m.pins.map Res.pin ++ m.segs.map Res.seg
    ++ m.lines.map Res.line ++ m.sets.map Res.set

/-! ### Loss policies (R533) -/

/-- No channel waits for its policy. -/
def leavingInit : Nat → Nat := fun _ => 0

/-- A channel leaves a session: its policy waits for the boundary of R533. The instant is kept plus 1. -/
def Dev.lossBegins (s : Dev) (c : Nat) : Dev :=
  let t := if s.seqBusy c then s.edgeAfter s.now else s.now
  { s with assign := { s.assign with leaving := tblSet leavingInit s.assign.leaving c (t + 1) } }

/-- A channel ends its transition and range change at the state reached (R533, R536). -/
def Dev.chanHalts (s : Dev) (c : Nat) : Dev :=
  if s.follower c || ((s.chan c).trans.isNone && (s.chan c).rc.isNone) then s
  else
    let s1 := (s.rcDrop c stState).transEnd c stState
    s1.forAll (s1.team c) (fun s m => (s.modChan m (fun x => { x with req := decide (x.state ≥ 1) })).setHalf m (s.halfOfState m))

/-- LOSS_POLICY: the policy acts at its boundary; that of a gang leader acts on the whole gang. -/
def Dev.lossActs (s : Dev) (c : Nat) : Dev :=
  match tblGet leavingInit s.assign.leaving c with
  | 0 => s
  | t + 1 =>
    let b := s.boundaryAt (t + 1000000)
    let s0 := s.advance (b - 1)
    let s1 : Dev := { s0 with assign := { s0.assign with leaving := tblSet leavingInit s0.assign.leaving c 0 } }
    if s1.follower c then s1
    else
      let s2 := s1.chanHalts c
      match tblGet policyInit s2.assign.policy c with
      | 0 => s2
      | 1 => if (s2.chan c).state = 3 then s2.transBegin c 2 true none else s2
      | _ => if (s2.chan c).state = 0 then s2 else s2.transBegin c 0 true none

/-! ### Commands -/

/-- The VF of a request. -/
def Job.vf (j : Job) : Nat := u16 j.p 0

/-- ADM_ASSIGN's sheet: its bound of 5 ms exceeds every service bound, so FINAL_REPLY completes it (R22). -/
def cmdAdmAssign : Cmd :=
  { op := 0x0D01, owner := true, len := some 132,
    args := fun s j => s.vfOk j.vf && j.rsv 2 2 && s.layoutOk j.p 4, held := fun s j => s.movedHeld 0 (s.layout j.p 4),
    unlocked := fun s j =>
      let m := s.layout j.p 4
      m.sets.all (fun q => !(s.xset q).locked)
        && !(s.vMine 0 && (m.pins.any (s.vPinOn 0) || m.segs.any (fun i => s.segState i == 3))),
    state := fun s j => stIf (s.vfAssignable j.vf && s.gangsWhole j.p 4 && s.movable (s.layout j.p 4)),
    names := fun s j => movedNames j.vf (s.layout j.p 4),
    body := fun s j =>
      let m := s.layout j.p 4
      ((s.move 0 j.vf m).modFn j.vf (fun r => { r with view := r.view ||| m.view }), .later []) }

/-- ADM_RELEASE's sheet; FINAL_REPLY completes it (R22). -/
def cmdAdmRelease : Cmd :=
  { op := 0x0D02, owner := true, len := some 132,
    args := fun s j => s.vfOk j.vf && j.rsv 2 2 && s.layoutOk j.p 4, held := fun s j => s.movedHeld j.vf (s.layout j.p 4),
    state := fun s j => stIf (s.vfUp j.vf && s.gangsWhole j.p 4 && s.movable (s.layout j.p 4)),
    names := fun s j => movedNames j.vf (s.layout j.p 4),
    body := fun s j =>
      let m := s.layout j.p 4
      (((s.forAll m.chans Dev.lossBegins).move j.vf 0 m).viewLeaves j.vf m.view, .later []) }

/-- 32 GiB. -/
def quotaMax : Nat := 2 ^ 35

/-- Ring count and quota keep the enabled rings (R532). -/
def Dev.quotaOk (s : Dev) (f rings quota : Nat) : Bool :=
  (s.fn f).rings.all (fun p => !p.2.enabled || decide (p.1 < rings)) && decide ((s.fn f).ringBytes ≤ quota)

/-- ADM_FUNC_CONFIG's sheet (R532, R544). -/
def cmdAdmFuncConfig : Cmd :=
  { op := 0x0D03, owner := true, len := some 16,
    args := fun s j =>
      let m := u8 j.p 2
      s.funcOk j.vf && decide (m < 4) && j.rsv 7 1
        && (!m.testBit 0 || (decide (u8 j.p 3 < 8) && decide (1 ≤ u16 j.p 4) && decide (u16 j.p 4 ≤ 255)))
        && (!m.testBit 1 || (decide (u8 j.p 6 ≤ 8) && decide (u64 j.p 8 ≤ quotaMax))),
    state := fun s j =>
      if !s.vfUp j.vf || ((u8 j.p 2).testBit 1 && !s.quotaOk j.vf (u8 j.p 6) (u64 j.p 8)) then stState
      else if (u8 j.p 2).testBit 1
          && decide (s.fns.foldl (fun a p => a + p.2.quota) 0 - (s.fn j.vf).quota + u64 j.p 8 > ringSpace) then stResource else 0,
    names := fun _ j => [Res.func j.vf],
    body := fun s j =>
      let m := u8 j.p 2
      (s.modFn j.vf (fun r =>
        let r1 := if m.testBit 0 then { r with cls := u8 j.p 3, weight := u16 j.p 4 } else r
        if m.testBit 1 then { r1 with ringCount := u8 j.p 6, quota := u64 j.p 8 } else r1), .done stOk []) }

/-- ADM_CHAN_POLICY's sheet. -/
def cmdAdmChanPolicy : Cmd :=
  { op := 0x0D04, owner := true, len := some 12,
    args := fun s j => s.chansOk j.map && decide (u8 j.p 8 ≤ 2) && j.rsv 9 3, state := fun s j => stIf (!j.chans.any s.follower),
    names := fun s j => s.chanNames j.map,
    body := fun s j =>
      ({ s with assign := { s.assign with policy := j.chans.foldl (fun t c => tblSet policyInit t c (u8 j.p 8)) s.assign.policy } },
        .done stOk []) }

/-- ADM_TOLLGATE's sheet (R541). -/
def cmdAdmTollgate : Cmd :=
  { op := 0x0D05, owner := true, len := some 16,
    args := fun _ j => (List.range 7).all (fun c => decide (10 ≤ u16 j.p (2 * c)) && decide (u16 j.p (2 * c) ≤ 1000)) && j.rsv 14 2,
    body := fun s j => (s.modTg (fun t => { t with ages := (List.range 7).map (fun c => u16 j.p (2 * c)) }), .done stOk []) }

/-- A map with the bits of another set or cleared. -/
def holdBits (h m : Nat) (place : Bool) : Nat := if place then h ||| m else andNot h m

/-- ADM_HOLD's sheet (R534). -/
def cmdAdmHold : Cmd :=
  { op := 0x0D06, owner := true, len := some 76,
    args := fun s j =>
      s.vfOk j.vf && decide (u8 j.p 2 < 2) && j.rsv 3 1 && s.chansOk (u64 j.p 4) && (s.optM || leN j.p 44 32 == 0),
    held := fun s j =>
      s.holdsChans j.vf (u64 j.p 4) && (bitsSet (leN j.p 12 32) 256).all (fun r => s.routeHolder r == j.vf)
        && (bitsSet (leN j.p 44 32) 256).all (fun q => s.setHolder q == j.vf),
    state := fun s j => stIf (s.vfUp j.vf && !(chansIn (u64 j.p 4)).any s.follower),
    names := fun s j =>
      Res.func j.vf :: s.chanNames (u64 j.p 4) ++ (bitsSet (leN j.p 12 32) 256).map Res.route ++ (bitsSet (leN j.p 44 32) 256).map Res.set,
    body := fun s j =>
      let on := u8 j.p 2 == 1
      let a := s.assign
      ({ s with assign := { a with holdChan := holdBits a.holdChan (u64 j.p 4) on, holdRoute := holdBits a.holdRoute (leN j.p 12 32) on,
                                   holdSet := holdBits a.holdSet (leN j.p 44 32) on } }, .done stOk []) }

/-- FSTATE. -/
def Dev.fstate (s : Dev) (f : Nat) : Nat := if (s.fn f).flr != .idle then 2 else if (s.fn f).enabled then 1 else 0

/-- ADM_QUERY's sheet. -/
def cmdAdmQuery : Cmd :=
  { op := 0x0D07, owner := true, len := some 4, args := fun s j => s.funcOk j.vf && j.rsv 2 2,
    body := fun s j =>
      let pol := (List.range 64).foldl (fun a c => a + tblGet policyInit s.assign.policy c * 4 ^ c) 0
      (s, .done stOk (resourcesReply s j.vf ++ toLe 16 pol ++ w8 (s.fstate j.vf) ++ zeros 1 ++ w16 (min (s.fn j.vf).lateCpl 0xFFFF))) }

/-- ADM_ASSIGN. -/
def execAdmAssign (q : Req) (s : State) : Out := .next (s.on (fun d => d.observed (fun d => d.command cmdAdmAssign q)))
/-- ADM_RELEASE. -/
def execAdmRelease (q : Req) (s : State) : Out := .next (s.on (fun d => d.observed (fun d => d.command cmdAdmRelease q)))
/-- ADM_FUNC_CONFIG. -/
def execAdmFuncConfig (q : Req) (s : State) : Out := .next (s.on (fun d => d.command cmdAdmFuncConfig q))
/-- ADM_CHAN_POLICY. -/
def execAdmChanPolicy (q : Req) (s : State) : Out := .next (s.on (fun d => d.command cmdAdmChanPolicy q))
/-- ADM_TOLLGATE. -/
def execAdmTollgate (q : Req) (s : State) : Out := .next (s.on (fun d => d.command cmdAdmTollgate q))
/-- ADM_HOLD. -/
def execAdmHold (q : Req) (s : State) : Out := .next (s.on (fun d => d.command cmdAdmHold q))
/-- ADM_QUERY. -/
def execAdmQuery (q : Req) (s : State) : Out := .next (s.on (fun d => d.command cmdAdmQuery q))
/-- LOSS_POLICY (R533). -/
def execLossPolicy (ch : ChanId) (s : State) : Out := .next (s.on (fun d => d.observed (fun d => d.lossActs ch.val)))

end Sys2Proof.Machine
end

