-- ==== Sys2Proof/Machine/Flr.lean ====
section
/-! DEFINITION. Function-level reset and VF Enable (spec/18_sessions.md R536 to R540, spec/02_host_link.md R56, R57). -/

namespace Sys2Proof.Machine

/-! ### Step 1 -/

/-- The mailbox registers return to their reset states (R115). -/
def Fn.mailboxReset (r : Fn) : Fn :=
  { r with reqWin := [], repWin := [], busyUntil := 0, reply := false, ready := false, completion := false, reject := false,
           fireDenied := false, replyTag := 0, shownLast := false, replies := [], ringReplies := [], dropped := 0, completed := 0,
           maxService := 0, cmdr := cmdrInit }

/-- Moderation state and PBA bits cleared; the entries of the MSI-X table keep their contents (R536 step 5). -/
def clearVecs (t : Tbl Vec) : Tbl Vec :=
  tblMap vecInit (fun v => { vecInit 0 with mask := v.mask, addr := v.addr, data := v.data }) t

/-- The Mask bits of the MSI-X table are set. -/
def Fn.maskAll (r : Fn) : Fn := { r with vecs := tblMap vecInit (fun v => { v with mask := true }) r.vecs }

/-- The configuration registers take their reset states. -/
def Fn.configReset (r : Fn) : Fn :=
  let z := fnInit 1
  { r with vecs := tblMap vecInit (fun v => { v with addr := 0, data := 0 }) r.vecs, msixEnable := z.msixEnable,
           funcMask := z.funcMask, busMaster := z.busMaster, cplDisable := z.cplDisable,
           cplValue := z.cplValue, maxPayload := z.maxPayload, maxReadReq := z.maxReadReq, relaxed := z.relaxed,
           ecrcCheck := z.ecrcCheck, ecrcGen := z.ecrcGen, aerEcrc := z.aerEcrc, aerPoison := z.aerPoison, aerLog := z.aerLog,
           tag10 := z.tag10, d3hot := z.d3hot }

/-- T_cpl in ps (R536). -/
def Fn.tCpl (r : Fn) : Nat := (if r.cplDisable then 50000 else min (cplUpperUs r.cplValue) 50000) * 1000000

/-- The requests of a function are discarded: their commands run on, without replies (R115), but for an arming, a ring disable or a
commit still to be made (R536); a calibration run that waits goes. Its VEC_LOADs and SYS_FW_LOADs leave reads outstanding. -/
def Dev.dropRequests (s : Dev) (f : Nat) : Dev :=
  let mine := s.tg.running.filter (fun r => r.job.f == f)
  let loads := (mine.filter (fun r => r.live && r.started && (r.job.op == 0x0805 || r.job.op == 0x0E06))).length
  let waits := fun (r : CalRun) =>
    r.part == .waiting && (match r.cmd with | some i => mine.any (fun x => x.job.id == i) | none => false)
  let stays := fun (r : Running) => r.live && r.started && !([0x0404, 0x0405, 0x0501].contains r.job.op)
    && !s.cal.runs.any (fun k => waits k && k.cmd == some r.job.id)
  let mark := fun (r : Running) => if r.job.f == f then { r with silent := true } else r
  (((s.modTg (fun t => { t with
      waiting := t.waiting.filter (fun j => j.f != f),
      running := (t.running.filter (fun r => r.job.f != f || stays r)).map mark })).modCal
    (fun k => { k with runs := k.runs.filter (fun r => !waits r) })).modFn f (fun r => { r with outstanding := loads }))

/-- What a function has armed and not committed is disarmed; its sequencers and pattern end with RELEASED, and its channels
wait for their policies (R533, R536). -/
def Dev.disarmAll (s : Dev) (f : Nat) : Dev :=
  let cs := (List.range 64).filter (s.holdsChan f)
  let lim := s.now + 1000000
  let s1 := s.forAll cs Dev.lossBegins
  let s2 := (s1.forAll cs (fun s c => s.seqEnd c 10 (s.edgeAfter s.now))).playerBreaks f
  let s3 := (s2.swaps.filter (fun w => w.fn == f && !w.committed)).foldl (fun s w => s.swapGone w) s2
  let s4 := s3.forAll ((s3.mxSets.map (·.1)).filter (fun q => s3.setHolder q == f))
    (fun s q => s.modSet q (fun x => { x with armed := false }))
  let s5 := s4.forAll cs (fun s c =>
    let byEvent := s.fab.attached.any (fun a => a.1 == 128 + 8 * c + 7)
    let keep := match (s.res c).meas with
      | some m => (match m.start with | some t => byEvent || decide (t ≤ lim) | none => false)
      | none => true
    let s1 := if keep then s else s.measGone c
    s1.modRes c (fun r => if r.cap == .armed && decide (r.armAt > lim) then { r with cap := .idle, hist := [] } else r))
  s5.forAll ((List.range 128).filter (fun p => s5.pinHolder p == f)) Dev.vPinLeaves

/-- t_F: the mailbox is gone, nothing of the function is admitted, and its occurrences go to the owner (R536, R537). -/
def Dev.flrEnter (s : Dev) (f : Nat) (cmd : Option Nat) (step : FlrStep) : Dev :=
  ((s.dropRequests f).modFn f (fun r => { r.mailboxReset with flr := step, flrAt := s.now, flrCmd := cmd })).modTg
    (fun t => { t with caravans := t.caravans.filter (fun c => c.fn != f || c.admitted) })

/-- PF0's registers of configuration space and BAR0 that its own reset clears beside those of any function (R546). -/
def Dev.pf0Reset (s : Dev) : Dev :=
  let z := linkInit
  let s1 : Dev := { s with link := { s.link with
    numVfs := z.numVfs, ltrUs := z.ltrUs, ltrOn := z.ltrOn, aspmL1 := z.aspmL1, l11 := z.l11, l12 := z.l12, bar0 := z.bar0, bar2 := z.bar2,
    vfBar0 := z.vfBar0, vfBar2 := z.vfBar2, pageSize := z.pageSize } }
  (s1.modFn 0 (fun r => { r with snap := (fnInit 0).snap })).modSys (fun y => { y with gstatChg := 0 })

/-- Step 1 of a function's own reset (R536). `keep` leaves the configuration registers (ADM_SESSION_RESET). -/
def Dev.flrOwn (s : Dev) (f : Nat) (keep : Bool) : Dev :=
  let s1 := s.modFn f (fun r => { (if keep then r.maskAll else r.maskAll.configReset) with flr := .drain })
  (if f = 0 then s1.pf0Reset else s1).disarmAll f

/-- A function-level reset starts. -/
def Dev.flrStart (s : Dev) (f : Nat) (keep : Bool) (cmd : Option Nat) : Dev :=
  if (s.fn f).flr != .idle then s else (s.flrEnter f cmd .drain).flrOwn f keep

/-- PF0's own reset starts once those of the VFs are over (R540). -/
def Dev.flrPf0 (s : Dev) : Dev :=
  if (s.fn 0).flr == .vfs && s.fns.all (fun p => p.1 == 0 || p.2.flr == .idle) then s.flrOwn 0 false else s

/-! ### Steps 2 to 7 -/

/-- How far a reset has come: the steps of R536 in order. -/
def FlrStep.rank (x : FlrStep) : Nat :=
  match x with | .vfs => 1 | .drain => 2 | .completions => 3 | .resources => 4 | .finishing => 7 | .idle => 8

/-- Whether a function's next step may be taken. The resets of VFs come before PF0's own steps; of the resets that clearing
VF Enable runs, each step is taken for every VF, in ascending number, before the next step begins (R57, R540). -/
def Dev.flrTurn (s : Dev) (f : Nat) : Bool :=
  let k := (s.fn f).flr.rank
  if f = 0 then s.fns.all (fun p => p.1 == 0 || p.2.flr == .idle)
  else !(s.fn f).flrSeq || s.fns.all (fun p =>
    p.1 == 0 || p.1 == f || !p.2.flrSeq || (if p.1 < f then decide (k < p.2.flr.rank) else decide (k ≤ p.2.flr.rank)))

/-- FLR_RING_DRAIN_DONE: step 2. -/
def Dev.flrDrained (s : Dev) (f : Nat) : Dev :=
  if (s.fn f).flr != .drain || !s.flrTurn f then s
  else
    let s1 := s.forAll (List.range 8) (fun s r => if ((s.fn f).ring r).enabled then s.disableRing f r else s)
    let s2 := s1.forAll ((List.range 64).filter (fun c => s1.holdsChan f c && tblGet leavingInit s1.assign.leaving c != 0)) Dev.chanHalts
    s2.modFn f (fun r => { r with flr := .completions })

/-- A load whose reads are abandoned ends: what its destination holds is as its sheet has it for an end without them. -/
def Dev.loadDropped (s : Dev) (r : Running) : Dev :=
  (if r.job.op = 0x0805 then s.vLoadUndefined r.job else s.modStore (fun t => { t with loadBusy := false })).modTg (fun t =>
    { t with running := t.running.filter (fun x => x.job.id != r.job.id) })

/-- FLR_COMPLETIONS_DONE: step 3; what is still missing is abandoned, with the loads that wait for it (R448, R536). -/
def Dev.flrCompleted (s : Dev) (f : Nat) : Dev :=
  if (s.fn f).flr != .completions || !s.flrTurn f then s
  else
    let loads := s.tg.running.filter (fun r => r.job.f == f && r.silent && (r.job.op == 0x0805 || r.job.op == 0x0E06))
    (loads.foldl Dev.loadDropped s).modFn f (fun r => { r with flr := .resources, outstanding := 0 })

/-- What a function holds. -/
def Dev.holdings (s : Dev) (f : Nat) : Moved :=
  let of := fun (t : Tbl Nat) => (t.filter (fun p => p.2 == f)).map (·.1)
  { chans := of s.assign.chan, routes := of s.assign.route, pins := of s.assign.pin, segs := of s.assign.seg,
    lines := of s.assign.line, sets := of s.assign.set, view := (s.fn f).view }

/-- FLR_RESOURCES_RETURN: steps 4 to 6. PF0 keeps its resources; its set locks break, and the owner's
holds end (R540). -/
def Dev.flrReturned (s : Dev) (f : Nat) : Dev :=
  if (s.fn f).flr != .resources || !s.flrTurn f then s
  else
    let gone := (s.svy.urgent.filter (fun k => k.cmd.isSome && k.fn == f)).filterMap (·.cmd)
    let s0 := s.modSvy (fun y => { y with urgent := y.urgent.filter (fun k => k.cmd.isNone || k.fn != f) })
    let s1 := s0.forAll gone (fun s i => s.finish i stState [])
    let s2 := (s1.modFn f (fun r => { r with irqCause := 0, irqMask := 0, vecs := clearVecs r.vecs })).modTg
      (fun t => { t with caravans := t.caravans.filter (fun c => c.fn != f),
                         running := t.running.filter (fun r => r.job.f != f || !r.silent || r.job.op != 0x0806) })
    let locked := (s2.mxSets.filter (fun p => s2.setHolder p.1 == f && p.2.locked)).map (·.1)
    if f = 0 then
      let s3 := s2.forAll locked (fun s q => s.setLeaves 0 q)
      ({ s3 with assign := { s3.assign with holdChan := 0, holdRoute := 0, holdSet := 0 } } : Dev).modFn 0
        (fun r => { r with flr := .finishing })
    else
      let m := s2.holdings f
      let s3 := (s2.move f 0 m).viewLeaves f m.view
      s3.modFn f (fun r =>
        { fnInit f with
          vecs := r.vecs, enabled := r.enabled, flr := .finishing, flrAt := r.flrAt, flrCmd := r.flrCmd, lateCpl := r.lateCpl,
          msixEnable := r.msixEnable, funcMask := r.funcMask, busMaster := r.busMaster, cplDisable := r.cplDisable,
          cplValue := r.cplValue, maxPayload := r.maxPayload, maxReadReq := r.maxReadReq, relaxed := r.relaxed,
          ecrcCheck := r.ecrcCheck, ecrcGen := r.ecrcGen, aerEcrc := r.aerEcrc, aerPoison := r.aerPoison, aerLog := r.aerLog,
          tag10 := r.tag10, d3hot := r.d3hot, flrSeq := r.flrSeq })

/-- FLR_COMPLETE: step 7. READY returns where firmware serves the function; in recovery it serves no VF (R584). -/
def Dev.flrDone (s : Dev) (f : Nat) : Dev :=
  if (s.fn f).flr != .finishing || !s.flrTurn f then s
  else
    let up := (s.fn f).enabled && (f == 0 || ((s.fn 0).ready && !s.store.recovery)) && (s.sys.phase == .ready || decide (s.sys.scope ≥ 3))
    let s1 := s.modFn f (fun r => { r with flr := .idle, flrCmd := none, flrSeq := false, ready := up })
    ((if f = 0 then s1 else s1.irq 0 irqSession).finish? (s.fn f).flrCmd stOk []).flrPf0

/-- LATE_CPL: a completion that arrives after it was abandoned. -/
def Dev.lateCplIn (s : Dev) (f : Nat) : Dev := s.modFn f (fun r => { r with lateCpl := min (r.lateCpl + 1) 0xFFFF })

/-! ### VF Enable -/

/-- VF Enable is set: VFs 1 to NumVFs exist, and firmware serves them (R56, R114); the change is a SESSION cause (R80). -/
def Dev.vfsOn (s : Dev) : Dev :=
  if s.link.vfEnable then s
  else
    let n := min s.link.numVfs s.totalVfs
    let s1 : Dev := { s with link := { s.link with vfEnable := true, numVfs := n } }
    (s1.forAll ((List.range n).map (· + 1)) (fun s f => s.modFn f (fun r =>
      { r with enabled := true, ready := (s.fn 0).ready && !s.store.recovery && r.flr == .idle }))).irq 0 irqSession

/-- VF Enable is cleared: every enabled VF is reset, in ascending number (R57); the change is a SESSION cause (R80). -/
def Dev.vfsOff (s : Dev) : Dev :=
  if !s.link.vfEnable then s
  else
    let l := s.functions.filter (· != 0)
    let s1 := s.forAll l (fun s f => s.flrStart f false none)
    let s2 := s1.forAll l (fun s f => s.modFn f (fun r => { r with enabled := false, flrSeq := r.flr != .idle }))
    ({ s2 with link := { s2.link with vfEnable := false } }).irq 0 irqSession

/-- Initiate Function Level Reset is set (R536, R540). -/
def Dev.flrWrite (s : Dev) (f : Nat) : Dev :=
  if !(s.fn f).enabled then s
  else if f = 0 then (if (s.fn 0).flr == .idle then ((s.vfsOff).flrEnter 0 none .vfs).flrPf0 else s)
  else s.flrStart f false none

/-! ### Rows -/

/-- ADM_SESSION_RESET's sheet: FLR_COMPLETE completes it. -/
def cmdAdmSessionReset : Cmd :=
  { op := 0x0D08, owner := true, len := some 4, args := fun s j => s.vfOk j.vf && j.rsv 2 2, state := fun s j => stIf (s.vfUp j.vf),
    names := fun _ j => [Res.func j.vf], body := fun s j => (s.flrStart j.vf true (some j.id), .later []) }

/-- ADM_SESSION_RESET. -/
def execAdmSessionReset (q : Req) (s : State) : Out := .next (s.on (fun d => d.observed (fun d => d.command cmdAdmSessionReset q)))
/-- INITIATE_FUNCTION_LEVEL_RESET (R536). -/
def execInitiateFunctionLevelReset (fn : FnId) (s : State) : Out := .next (s.on (fun d => d.observed (fun d => d.flrWrite fn.val)))
/-- FLR_RING_DRAIN_DONE (R536). -/
def execFlrRingDrainDone (fn : FnId) (s : State) : Out := .next (s.on (fun d => d.observed (fun d => d.flrDrained fn.val)))
/-- FLR_COMPLETIONS_DONE (R536). -/
def execFlrCompletionsDone (fn : FnId) (s : State) : Out := .next (s.on (fun d => d.flrCompleted fn.val))
/-- FLR_RESOURCES_RETURN (R536). -/
def execFlrResourcesReturn (fn : FnId) (s : State) : Out := .next (s.on (fun d => d.observed (fun d => d.flrReturned fn.val)))
/-- FLR_COMPLETE (R536). -/
def execFlrComplete (fn : FnId) (s : State) : Out := .next (s.on (fun d => d.observed (fun d => d.flrDone fn.val)))
/-- LATE_CPL (R536). -/
def execLateCpl (fn : FnId) (s : State) : Out := .next (s.on (fun d => d.lateCplIn fn.val))
/-- VF_ENABLE_SET (R56). -/
def execVfEnableSet (s : State) : Out := .next (s.on Dev.vfsOn)
/-- VF_ENABLE_CLEAR (R57). -/
def execVfEnableClear (s : State) : Out := .next (s.on (fun d => d.observed Dev.vfsOff))

end Sys2Proof.Machine
end

