-- ==== Sys2Proof/Machine/Store.lean ====
section
/-! DEFINITION. The MRAM store: option record, firmware banks and their commands (spec/20_config_store.md). -/

namespace Sys2Proof.Machine

/-! ### The option record (R558, R580, R581) -/

/-- The fields of a record's bytes (R580). -/
def optOf (b : List Byte) : OptRec :=
  { format := u16 b 0, seq := u32 b 4, channels := u8 b 8, options := u8 b 9, grade := u8 b 10, serial := slice b 12 16,
    subsysVid := u16 b 32, subsysId := u16 b 34, fwBank := u8 b 36, refSel := u8 b 37, calBoot := u8 b 38,
    mgmtAddr := u8 b 39, lineFreq := u32 b 40, holdTime := u16 b 44, safeDiv := u16 b 46, safeStep := u32 b 48,
    wdogMs := u16 b 52, wearWbMin := u16 b 54, integ := u8 b 56, jtag := u8 b 57 }

/-- A number lies in a range. -/
def between (lo hi v : Nat) : Bool := decide (lo ≤ v) && decide (v ≤ hi)

/-- Every field lies in its range and every reserved field is 0 (R580, R581). -/
def optFieldsOk (b : List Byte) : Bool :=
  let o := optOf b
  o.format == 1 && allZero b 2 2 && (o.channels == 0x10 || o.channels == 0x20 || o.channels == 0x40) && decide (o.options < 16)
    && decide (o.grade ≤ 1) && allZero b 11 1 && allZero b 28 4 && decide (o.fwBank ≤ 1) && decide (o.refSel ≤ 2)
    && decide (o.calBoot ≤ 1) && between 0x08 0x77 o.mgmtAddr && between 45000 66000 o.lineFreq && decide (o.holdTime ≤ 1000)
    && between 1 256 o.safeDiv && decide (o.safeStep < 2 ^ 24) && between 10 10000 o.wdogMs && between 1 1440 o.wearWbMin
    && decide (o.integ < 8) && decide (o.jtag ≤ 2) && allZero b 58 194

/-- A copy is valid: its CRC is right and its fields pass (R558, R581). -/
def optOk (b : List Byte) : Bool :=
  b.length == 256 && u32 b 252 == (crc32c (b.take 252)).toNat && optFieldsOk b

/-- A copy of the record by number. -/
def Store.optCopy (t : Store) (n : Nat) : List Byte := if n = 1 then t.copy1 else t.copy0
/-- A copy written. -/
def Store.setOpt (t : Store) (n : Nat) (b : List Byte) : Store :=
  let t := { t with unread := putBit t.unread n false }
  if n = 1 then { t with copy1 := b } else { t with copy0 := b }

/-- The copy that the loader uses (R558): the higher SEQ, copy 0 at a tie. -/
def Store.newestOpt (t : Store) : Option Nat :=
  let v0 := optOk t.copy0 && !t.unread.testBit 0
  let v1 := optOk t.copy1 && !t.unread.testBit 1
  if v0 && v1 then some (if (optOf t.copy1).seq > (optOf t.copy0).seq then 1 else 0)
  else if v0 then some 0 else if v1 then some 1 else none

/-- A factory section that passes, to check an owner section by itself. -/
def factoryRom : List Byte := w16 1 ++ zeros 6 ++ w8 0x10 ++ zeros 23

/-- An owner section passes R581. -/
def ownerOk (owner : List Byte) : Bool := optFieldsOk (factoryRom ++ padTo 220 owner ++ zeros 4)

/-- The copy a write goes to, its SEQ and the record written (SYS_OPT_WRITE). -/
def Store.optNext (t : Store) (owner : List Byte) : Nat × Nat × List Byte :=
  let n := t.newestOpt.getD 0
  let old := t.optCopy n
  let q := u32 old 4 + 1
  let b := old.take 4 ++ w32 q ++ slice old 8 24 ++ padTo 220 owner
  (1 - n, q, b ++ w32 (crc32c b).toNat)

/-- `n` free words as bytes. -/
def freeBytes (n ctr : Nat) : List Byte := (List.range n).flatMap (fun i => w32 (Config.freeWord (ctr + i)).toNat)

/-- What a write that failed leaves of `n` words: free bytes under a CRC that is not theirs (R578). -/
def brokenBytes (n ctr : Nat) : List Byte :=
  let b := freeBytes (n - 1) ctr
  b ++ w32 (Nat.xor (crc32c b).toNat (1 + (Config.freeWord (ctr + n - 1)).toNat % (2 ^ 32 - 1)))

/-- A copy whose write failed (R578). -/
def Dev.optBreak (s : Dev) (n : Nat) : Dev :=
  let s1 : Dev := { s with freeCtr := s.freeCtr + 64 }
  s1.modStore (fun t => t.setOpt n (brokenBytes 64 s.freeCtr))

/-! ### Rows (R576 to R578) -/

/-- A region of the MRAM: its byte offset, its size and its spare-row quota (R44, R575). -/
structure Region where
  base : Nat
  size : Nat
  quota : Nat
deriving DecidableEq, Repr

/-- The region map: firmware banks A and B, option record, calibration store, persistent log (R575). -/
def regionMap : List Region :=
  [⟨0x0000000, 0x600000, 224⟩, ⟨0x0600000, 0x600000, 224⟩, ⟨0x0C00000, 0x10000, 64⟩, ⟨0x0C10000, 0x200000, 256⟩,
   ⟨0x0E10000, 0x100000, 192⟩]
/-- The spare-row pool: 960 rows of 1 KiB (R575). -/
def poolRegion : Region := ⟨0x0F10000, 0xF0000, 0⟩
/-- Offsets of the two copies of the option record and of the calibration store (R575). -/
def copyOffset (region n : Nat) : Nat :=
  (match regionMap[region]? with | some r => r.base | none => 0) + n * (if region = 2 then 0x8000 else if region = 3 then 0x100000 else 0)

/-- The row of the pool that holds a row's data, or the row itself (R577). -/
def Store.rowAt (t : Store) (off : Nat) : Nat :=
  let k := t.pool.reverse.findIdx (· == off / 1024 * 1024)
  if k < t.pool.length then poolRegion.base + 1024 * (t.pool.length - 1 - k) else off / 1024 * 1024

/-- The region in which an offset lies. -/
def regionOf (off : Nat) : Option Nat :=
  (List.range 5).find? (fun r =>
    match regionMap[r]? with | some g => decide (g.base ≤ off) && decide (off < g.base + g.size) | none => false)

/-- A span of the MRAM: its first offset and its size. -/
abbrev Span := Nat × Nat
/-- The span of a region. -/
def regionSpan (region : Nat) : Span := match regionMap[region]? with | some r => (r.base, r.size) | none => (0, 0)
/-- The rows of a copy of the option record (256 bytes) or of the calibration store (up to 0x2_1FFF). -/
def copySpan (region n : Nat) : Span := (copyOffset region n, if region = 2 then 1024 else 0x22000)
/-- A row lies in one of a list of spans. -/
def inSpans (l : List Span) (off : Nat) : Bool :=
  l.any (fun p => decide (p.1 / 1024 ≤ off / 1024) && decide (off / 1024 * 1024 < p.1 + p.2))

/-- Rows are written: what reads of them had corrected no longer counts (R577). -/
def Store.written (t : Store) (l : List Span) : Store := { t with corrected := t.corrected.filter (fun p => !inSpans l p.1) }

/-- A failing row: it is replaced by a row of the pool, or that fails once the quota of its region is used up (R577, R578). -/
def Dev.rowFail (s : Dev) (off : Nat) : Dev × Bool :=
  match regionOf off with
  | none => (s, true)
  | some region =>
    let used := tblGet (fun _ => 0) s.store.rowsUsed region
    let q := (regionMap.getD region poolRegion).quota
    let row := off / 1024 * 1024
    if used ≥ q then (s, false)
    else
      let s1 := (s.modStore (fun t =>
        { t.written [(row, 1024)] with rowsUsed := tblSet (fun _ => 0) t.rowsUsed region (used + 1), pool := t.pool ++ [row] })).logIt
          (kMramRow region) row
      if used + 1 < q then (s1, true)
      else ((s1.modStore (fun t => { t with degraded := t.degraded ||| 2 ^ region })).logIt (kMramDegraded region) 0, true)

/-- What an access shows about a row: a row with corrected errors in 16 distinct bit positions is failing (R577). -/
def Dev.rowSeen (s : Dev) (e : RowErr) : Dev × Bool :=
  match e with
  | .failing off => s.rowFail off.toNat
  | .corrected off b =>
    let row := off.toNat / 1024 * 1024
    let l := tblGet (fun _ => []) s.store.corrected row
    let l1 := if l.contains b then l else l ++ [b]
    if l1.length ≥ 16 then s.rowFail row
    else (s.modStore (fun t => { t with corrected := tblSet (fun _ => []) t.corrected row l1 }), true)

/-- The offset that an observation names. -/
def rowErrOff (e : RowErr) : Nat := match e with | .failing o => o.toNat | .corrected o _ => o.toNat

/-- What a command meets in the rows that it reads or writes, in order; false once a failing one had no replacement. -/
def Dev.rowsSeen (s : Dev) (l : List Span) (rows : List RowErr) : Dev × Bool :=
  match rows with
  | [] => (s, true)
  | e :: r =>
    if !inSpans l (rowErrOff e) then s.rowsSeen l r
    else
      let a := s.rowSeen e
      if a.2 then a.1.rowsSeen l r else (a.1, false)

/-- Rows are written, and each is read back (R576). -/
def Dev.rowsWrite (s : Dev) (l : List Span) (rows : List RowErr) : Dev × Bool := (s.modStore (fun t => t.written l)).rowsSeen l rows

/-- The two copies of the option record (kind 0) or of the calibration store (kind 1) are read: whether a read of one meets an
uncorrectable error is open (R579, log entry 154). Such a row waits until firmware replaces it. -/
def Dev.readCopies (s : Dev) (kind : Nat) : Dev :=
  let bad := fun (n : Nat) => Config.freeFlag (s.freeCtr + n)
  let row := fun (n : Nat) => copyOffset (2 + kind) n + 1024 * (if kind = 0 then 0 else (Config.freeWord (s.freeCtr + n)).toNat % 136)
  let s1 : Dev := { s with freeCtr := s.freeCtr + 2 }
  s1.modStore (fun t =>
    { t with unread := putBit (putBit t.unread (2 * kind) (bad 0)) (2 * kind + 1) (bad 1),
             failing := t.failing ++ ((List.range 2).filter bad).map row })

/-- Firmware replaces the rows found failing before it ran (R577). -/
def Dev.rowsMend (s : Dev) : Dev := (s.store.failing.foldl (fun s r => (s.rowFail r).1) s).modStore (fun t => { t with failing := [] })

/-! ### Firmware banks (R582) -/

/-- The header of an image, and whether its CRC is right; the bytes beyond the transfer are 0 (R582). -/
def imageBank (d : List Byte) : Bank :=
  let len := u32 d 12
  { image := d, magic := u32 d 0, format := u16 d 4, rclass := u8 d 6, version := u32 d 8, length := len, entry := u32 d 16,
    minStep := u8 d 20, optMax := u8 d 21, storeMax := u8 d 22, recMax := u8 d 23, rsvZero := allZero d 7 1 && allZero d 24 36,
    crcOk := between 1 6291392 len && u32 d 60 == (crc32c (d.take 60 ++ padTo len (d.drop 64))).toNat, verified := false }

/-- The header fields that R582 checks, beside the CRC; `fmt` is the OPT_FORMAT loaded. -/
def Bank.fieldsOk (b : Bank) (fmt : Nat) : Bool :=
  b.magic == 0x57465643 && b.format == 1 && b.rsvZero && between 1 6291392 b.length && decide (b.entry < b.length)
    && decide (b.minStep ≤ 0xB1) && decide (fmt ≤ b.optMax)

/-- A bank passes R582. -/
def Bank.passes (b : Bank) (fmt : Nat) : Bool := b.fieldsOk fmt && b.crcOk

/-- The bank is executing: in recovery neither is (R584). -/
def Dev.executing (s : Dev) (n : Nat) : Bool := !s.store.recovery && s.store.executing == n

/-! ### Command sheets -/

/-- SYS_OPT_READ's sheet; the CRC of ROM defaults is a free value (log entry 110). Whether a read of a copy meets an uncorrectable
error is open; the row is then replaced (R577, R579, log entry 154). -/
def cmdSysOptRead : Cmd :=
  { op := 0x0E04, owner := true, len := some 4,
    args := fun _ j => decide (u8 j.p 0 ≤ 2) && decide (u8 j.p 1 ≤ 1) && j.rsv 2 2,
    body := fun s j =>
      let w := u8 j.p 0
      let rom := (optBytes s.sys.opt).take 252 ++ w32 s.freeVal
      if w ≠ 0 && (s.store.unread.testBit (w - 1) || Config.freeFlag s.freeCtr) then
        (((s.freeNext.modStore (fun t => { t with unread := putBit t.unread (w - 1) true })).rowFail (copyOffset 2 (w - 1))).1,
          .done stIntegrity [])
      else
      let b := if w = 0 then (if s.sys.optDefaults then rom else optBytes s.sys.opt) else s.store.optCopy (w - 1)
      let ok := if w = 0 then !s.sys.optDefaults else optOk b
      (s.freeNext, .done stOk (w8 (bit ok) ++ zeros 3 ++ slice b (128 * u8 j.p 1) 128)) }

/-- The newer SEQ leaves no next one. -/
def Store.seqFull (t : Store) : Bool :=
  match t.newestOpt with | some n => (optOf (t.optCopy n)).seq == 0xFFFFFFFF | none => false

/-- SYS_OPT_WRITE's sheet; FINAL_REPLY completes it. -/
def cmdSysOptWrite : Cmd :=
  { op := 0x0E05, owner := true, len := some 224,
    args := fun _ j => u16 j.p 0 == 0x4F57 && j.rsv 2 2 && ownerOk (slice j.p 4 220),
    state := fun s _ => firstSt [stIf (!s.sys.optDefaults && s.store.newestOpt.isSome && !s.store.optBusy),
      if s.store.seqFull then stResource else 0],
    body := fun s _ => (s.modStore (fun t => { t with optBusy := true }), .later []) }

/-- SYS_FW_LOAD's sheet; the bank is unverified from its start (R585), and FINAL_REPLY completes it. -/
def cmdSysFwLoad : Cmd :=
  { op := 0x0E06, owner := true, len := some 24,
    args := fun _ j => decide (u8 j.p 0 ≤ 1) && j.rsv 1 3 && between 65 6291456 (u32 j.p 4) && u64 j.p 8 % 64 == 0 && j.rsv 20 4,
    state := fun s j => stIf (!s.executing (u8 j.p 0) && !s.store.loadBusy),
    body := fun s j =>
      let n := u8 j.p 0
      (s.modStore (fun t => { t.setBank n { t.bank n with verified := false, crcOk := false } with loadBusy := true }), .later []) }

/-- SYS_FW_COMMIT's sheet; FINAL_REPLY completes it. -/
def cmdSysFwCommit : Cmd :=
  { op := 0x0E07, owner := true, len := some 4,
    args := fun _ j => decide (u8 j.p 0 ≤ 1) && decide (u8 j.p 1 ≤ 1) && j.rsv 2 2,
    state := fun s j =>
      let sw := u8 j.p 1 == 1
      firstSt [stIf (!s.executing (u8 j.p 0) && !s.store.loadBusy && !s.store.optBusy
          && !(sw && (s.sys.optDefaults || s.store.newestOpt.isNone))),
        if sw && s.store.seqFull then stResource else 0],
    body := fun s j => (s.modStore (fun t => { t with loadBusy := true, optBusy := u8 j.p 1 == 1 }), .later []) }

/-- VER of a bank: 0 where its header fails. -/
def Dev.bankVersion (s : Dev) (n : Nat) : Nat :=
  let b := s.store.bank n
  if b.passes s.sys.opt.format then b.version else 0

/-- SYS_STORE_STATUS's sheet; the SEQ of a region without a valid copy is a free value (log entry 110). -/
def cmdSysStoreStatus : Cmd :=
  { op := 0x0E08, owner := true, len := some 0,
    body := fun s _ =>
      let t := s.store
      let banks := bitAt t.bankA.verified 0 + bitAt t.bankB.verified 1 + bitAt (!t.bankA.verified) 2 + bitAt (!t.bankB.verified) 3
        + bitAt (t.executing == 1) 4 + bitAt t.fallback 5 + bitAt t.recovery 6 + bitAt t.loadBusy 7
      let optSeq := match t.newestOpt with | some n => (optOf (t.optCopy n)).seq | none => s.freeVal
      let calSeq := match s.calNewest with | some c => c.seq | none => s.freeNext.freeVal
      (s.freeNext.freeNext, .done stOk (w32 (s.bankVersion 0) ++ w32 (s.bankVersion 1) ++ w8 banks ++ w8 t.degraded ++ zeros 2
        ++ (List.range 5).flatMap (fun r => w16 (tblGet (fun _ => 0) t.rowsUsed r)) ++ zeros 2 ++ w32 optSeq ++ w32 calSeq)) }

/-! ### Completion -/

/-- The option record with an owner section is written to the other copy: the SEQ written, or none where a failing row had
no replacement and the copy is invalid (R576 to R578). -/
def Dev.optWritten (s : Dev) (owner : List Byte) (rows : List RowErr) : Dev × Option Nat :=
  let x := s.store.optNext owner
  let a := s.rowsWrite [copySpan 2 x.1] rows
  if a.2 then (a.1.modStore (fun t => t.setOpt x.1 x.2.2), some x.2.1) else (a.1.optBreak x.1, none)

/-- SYS_OPT_WRITE completes. -/
def Dev.optWriteEnd (s : Dev) (j : Job) (x : Ext) : Dev × Nat × List Byte :=
  let r := (s.modStore (fun t => { t with optBusy := false })).optWritten (slice j.p 4 220) x.rows
  match r.2 with
  | some q => (r.1, stOk, w32 q)
  | none => (r.1, stIntegrity, [])

/-- SYS_FW_LOAD completes: the bytes transferred are in the bank, which stays unverified (R585). -/
def Dev.fwLoadEnd (s : Dev) (j : Job) (x : Ext) : Dev × Nat × List Byte :=
  let n := u8 j.p 0
  let s1 := s.modStore (fun t => { t with loadBusy := false })
  let d := padTo (u32 j.p 4) x.data
  if !x.ok || (crc32c d).toNat != u32 j.p 16 then (s1, stIntegrity, [])
  else
    let a := s1.rowsWrite [regionSpan n] x.rows
    if a.2 then (a.1.modStore (fun t => t.setBank n (imageBank d)), stOk, []) else (a.1, stIntegrity, [])

/-- SYS_FW_COMMIT completes (R582, R585): with SWITCH the option record follows. -/
def Dev.fwCommitEnd (s : Dev) (j : Job) (x : Ext) : Dev × Nat × List Byte :=
  let n := u8 j.p 0
  let s1 := ((s.modStore (fun t => { t with loadBusy := false, optBusy := false })).rowsSeen [regionSpan n] x.rows).1
  let b := s1.store.bank n
  if !b.fieldsOk s1.sys.opt.format then (s1, stArg, [])
  else if !x.ok || !b.crcOk then (s1, stIntegrity, [])
  else
    let s2 := s1.modStore (fun t => t.setBank n { b with verified := true })
    let ok := w32 b.version ++ w8 b.rclass ++ zeros 3
    if u8 j.p 1 = 0 then (s2, stOk, ok)
    else
      let old := s2.store.optCopy (s2.store.newestOpt.getD 0)
      let r := s2.optWritten (splice (slice old 32 220) 4 (w8 n)) x.rows
      match r.2 with
      | some _ => (r.1, stOk, ok)
      | none => (r.1, stIntegrity, [])

/-- What ST_TIMEOUT leaves of a write command of the store: the copy or bank is invalid. -/
def Dev.storeTimeout (s : Dev) (j : Job) : Dev :=
  let s1 := s.modStore (fun t => { t with loadBusy := if j.op = 0x0E05 then t.loadBusy else false,
                                          optBusy := if j.op = 0x0E06 then t.optBusy else false })
  if j.op = 0x0E05 then s1.optBreak (1 - s1.store.newestOpt.getD 0) else s1

/-- A write that a reset cuts leaves its copy invalid (R416, R557, R585). -/
def Dev.storeCut (s : Dev) : Dev :=
  let s1 := if s.store.optBusy then s.optBreak (1 - s.store.newestOpt.getD 0) else s
  let s2 := match s1.cal.storing with
    | some (_, c) => (s1.calWrite { c with ok := false }).modCal (fun k => { k with storing := none })
    | none => s1
  s2.modStore (fun t => { t with loadBusy := false, optBusy := false })

/-! ### Rows -/

/-- SYS_OPT_READ. -/
def execSysOptRead (q : Req) (s : State) : Out := .next (s.on (fun d => d.command cmdSysOptRead q))
/-- SYS_OPT_WRITE. -/
def execSysOptWrite (q : Req) (s : State) : Out := .next (s.on (fun d => d.command cmdSysOptWrite q))
/-- SYS_FW_LOAD. -/
def execSysFwLoad (q : Req) (s : State) : Out := .next (s.on (fun d => d.command cmdSysFwLoad q))
/-- SYS_FW_COMMIT. -/
def execSysFwCommit (q : Req) (s : State) : Out := .next (s.on (fun d => d.command cmdSysFwCommit q))
/-- SYS_STORE_STATUS. -/
def execSysStoreStatus (q : Req) (s : State) : Out := .next (s.on (fun d => d.command cmdSysStoreStatus q))

end Sys2Proof.Machine
end

