-- ==== Sys2Proof/Machine/Retained.lean ====
section
/-! DEFINITION. The error log's way from its FIFO to the ring and to the persistent log, and the crash record (R566, R603 to
R609). -/

namespace Sys2Proof.Machine

/-! ### FIFO and ring (R605, R607) -/

/-- LOG_FIFO_DRAIN: the oldest entry of the FIFO enters the ring at ELOG_HEAD (R605, R607). -/
def Log.drain (l : Log) : Log :=
  match l.fifo with
  | [] => l
  | e :: rest =>
    let h := (l.head + 1) % 512
    { l with fifo := rest, ring := tblSet (fun _ => none) l.ring l.head (some e), head := h, pos := l.pos + 1,
             tail := if h = l.tail then (l.tail + 1) % 512 else l.tail }

/-- The log position of an occurrence that the log has just taken (R609); none where it was lost. -/
def Dev.logPosOf (s : Dev) (k : LogKey) : Option Nat :=
  let same := fun (e : LogEntry) => e.same k s.now
  match s.log.fifo.findIdx? same with
  | some i => some (s.log.pos + i)
  | none =>
    (List.range (min 512 s.log.pos)).findSome? (fun d =>
      let p := s.log.pos - 1 - d
      match logEntryAt s (p % 512) with | some e => if same e then some p else none | none => none)

/-! ### The persistent log (R608) -/

/-- LOG_PERSIST. -/
def Dev.logPersist (s : Dev) : Bool := s.sys.opt.integ.testBit 2

/-- The first entry of a list that is not final. -/
def openEntry (l : List (Nat × Option LogEntry)) : Option (Nat × LogEntry) :=
  l.findSome? (fun p => match p.2 with | some e => if e.final_ then none else some (p.1, e) | none => none)

/-- The ring's entries in log order, oldest first. -/
def Dev.ringOrder (s : Dev) : List (Nat × Option LogEntry) :=
  let n := min 512 s.log.pos
  (List.range n).map (fun i => let k := (s.log.pos - n + i) % 512; (k, logEntryAt s k))

/-- LOG_ENTRY_FINAL: the oldest entry of the ring that is not final becomes final 1 ms after its TIME_NS (R605); with
LOG_PERSIST set, one of severity DETECTED or ESCALATED joins the row that firmware fills (R608). -/
def Dev.entryFinal (s : Dev) : Dev :=
  match openEntry s.ringOrder with
  | none => s
  | some (k, e) =>
    let s1 := s.advance (e.firstPs + 1000000000)
    let f := { e with final_ := true }
    let keep := s1.logPersist && decide (e.severity ≥ 2)
    s1.modLog (fun l =>
      { l with ring := tblSet (fun _ => none) l.ring k (some f), row := if keep then l.row ++ [f] else l.row,
               rowAt := if keep then some (l.rowAt.getD s1.now) else l.rowAt })

/-- An entry committed to the persistent log. -/
def LogEntry.persisted (e : LogEntry) : LogEntry := { e with eflags := e.eflags ||| 2 }

/-- The row's entries are in the archive: each takes the next slot, the header row names the one after them, and the ring shows
each as PERSISTED. -/
def Log.commitRow (l : Log) : Log :=
  let add := fun (a : Tbl (Option LogEntry) × Nat) (e : LogEntry) =>
    (tblSet (fun _ => none) a.1 (a.2 % 32736) (some e.persisted), a.2 + 1)
  let r := l.row.foldl add (l.archive, l.archived)
  let mark := fun (x : Option LogEntry) => x.map (fun e => if l.row.contains e then e.persisted else e)
  { l with archive := r.1, archived := r.2, header := logHeader r.2, ring := tblMap (fun _ => none) mark l.ring, row := [], rowAt := none }

/-- The rows of the persistent log that hold entries `a` to `a + n − 1`, and the header row (R608). -/
def logSpans (a n : Nat) : List Span :=
  let base := (regionSpan 4).1
  (base, 1024) :: (List.range n).map (fun i => (base + 1024 * (1 + (a + i) % 32736 / 32), 1024))

/-- The row is written at once with its header row and read back: failing rows met are replaced, or the write fails, and what
the header row holds then is undefined (R576 to R578, R608). -/
def Dev.rowWrite (s : Dev) (rows : List RowErr) : Dev :=
  if s.log.row.isEmpty then s
  else
    let a := s.rowsWrite (logSpans s.log.archived s.log.row.length) rows
    if a.2 then a.1.modLog Log.commitRow
    else
      let s1 := a.1.modLog (fun l => { l with header := brokenBytes 256 a.1.freeCtr, row := [], rowAt := none })
      { s1 with freeCtr := s1.freeCtr + 256 }

/-- The row is written before a reset that firmware makes: which of its rows fail their read-back is open (log entry 154). -/
def Dev.rowWriteOut (s : Dev) : Dev :=
  let l := (logSpans s.log.archived s.log.row.length).map (·.1)
  let bad := (List.range l.length).filter (fun k => Config.freeFlag (s.freeCtr + k))
  ({ s with freeCtr := s.freeCtr + l.length } : Dev).rowWrite (bad.map (fun k => .failing (BitVec.ofNat 32 (l.getD k 0))))

/-- PERSISTENT_LOG_WRITE: when the row is full, or 1 s after its first entry (R608). -/
def Dev.persistentWrite (s : Dev) (rows : List RowErr) : Dev :=
  match s.log.rowAt with
  | none => s
  | some t => (if s.log.row.length ≥ 32 then s else s.advance (t + 1000000000000)).rowWrite rows

/-! ### The crash record (R566, R609) -/

/-- The crash record of a cause: `dump` is what the cores, the trace and the stack hold. -/
def Dev.crashRecord (s : Dev) (cause pair pos : Nat) (dump : List Byte) : List Byte :=
  let b := w16 1 ++ w8 cause ++ w8 pair ++ w32 (capFw s) ++ w64 s.timeNs ++ w16 s.tb.epoch ++ zeros 2 ++ w32 pos ++ padTo 4004 dump
  b ++ w32 (crc32c b).toNat

/-- CRASH.VALID set or cleared (R565). -/
def Dev.setCrashValid (s : Dev) (v : Bool) : Dev :=
  s.modSys (fun y => { y with bkup := tblSet (fun _ => 0) y.bkup 30 (if v then 1 else 0) })

/-- The cause is logged and the crash record captured; a lost entry's LOG_POS is a free value (log entry 110). -/
def Dev.crash (s : Dev) (k : LogKey) (detail cause pair : Nat) (dump : List Byte) : Dev :=
  let s1 := s.logIt k detail
  let pos := (s1.logPosOf k).getD s1.freeVal
  (s1.freeNext.modLog (fun l => { l with crash := s1.crashRecord cause pair pos dump })).setCrashValid true

/-! ### Rows -/

/-- LOG_FIFO_DRAIN (R605). -/
def execLogFifoDrain (s : State) : Out := .next (s.on (fun d => d.modLog Log.drain))
/-- LOG_ENTRY_FINAL (R605). -/
def execLogEntryFinal (s : State) : Out := .next (s.on Dev.entryFinal)
/-- PERSISTENT_LOG_WRITE (R608). -/
def execPersistentLogWrite (rows : List RowErr) (s : State) : Out :=
  .next (s.on (fun d => d.withGstat (fun d => d.persistentWrite rows)))

end Sys2Proof.Machine
end

