-- ==== Sys2Proof/Machine/Reset.lean ====
section
/-! DEFINITION. What each reset scope clears, the assertion of a reset, and the start-up sequence (R545 to R562, R582 to
R584). -/

namespace Sys2Proof.Machine

/-! ### What a scope clears (R545) -/

/-- Self-calibrations of before a loss of VAON (R401). -/
def CalCopy.away (c : CalCopy) : CalCopy :=
  { c with svyHere := false, chans := tblMap calChanInit (fun x => { x with here := false, dacHere := false }) c.chans }

/-- The Seam cleared: training, FSEQ, packets and staged writes; Helon's settings and Hem too where `helon` says so. -/
def Seam.cleared (m : Seam) (helon : Bool) (now : Nat) : Seam :=
  let b := if helon then { seamInit with intlk := m.intlk, powered := m.powered, hb := m.hb, hbRunning := m.hbRunning, hbHelon := m.hb,
                                         hbChangedAt := now }
    else { m with clkGated := false }
  { b with up := false, locked := false, goodUp := 0, goodDn := 0, badUp := 0, badDn := 0, fseq := 0, dnBad := false,
           enterHold := false, seamHold := false, upFrame := none, dnFrame := none, atHelon := none, scSeqUp := 0, scSeqDn := 0,
           scAckUp := 0, scAckDn := 0, packets := [], timed := [] }

/-- A channel's staged writes go with the Seam (R346, R545). -/
def Helon.unstage (h : Helon) : Helon := { h with staged := none, rpathReq := 0 }
/-- Staged writes of the channels go with the Seam (R346, R545). -/
def Dev.unstage (s : Dev) : Dev := { s with hel := tblMap helonInit Helon.unstage s.hel }

/-- The survey converter restarts: windows are UNKNOWN and a start that waits is discarded; table, mode and views stay
(R376, R568). No scan runs then, so that a configuration that waits takes effect (R385). -/
def Survey.restart (y : Survey) (cal : PairCal) (now : Nat) : Survey :=
  let z := match y.newCfg with | some c => y.apply c now | none => y
  { z with run := none, scanning := false, next := 0, fallback := false, scanFb := false, starts := [], urgentRan := false, last := none,
           win := [], wdFrom := now, pauseAt := now, faultState := false, pair := { pairInit with cal := cal } }

/-- The survey pair's factors of the working copy. -/
def Dev.svyFactors (s : Dev) : PairCal := pairCalOf s.cal.wc.svy (0x400000, 0)

/-- Degraded mode of a channel's pairs ends (R244). -/
def Helon.undegrade (h : Helon) : Helon :=
  { h with v := { h.v with faultyA := false, faultyB := false, histA := 0, histB := 0 },
           i := { h.i with faultyA := false, faultyB := false, histA := 0, histB := 0 } }

/-- Helon is cleared, and with it the survey pair and degraded mode (R244, R545).
The last period samples stay (R252). DESIGN CHOICE, log entry 161. -/
def Dev.clearHelon (s : Dev) : Dev :=
  let s1 : Dev := { s with hel := [], seam := s.seam.cleared true s.now }
  (s1.forAll (List.range s1.nChan) (fun s c =>
    if (s.chan c).degraded then s.modChan c (fun x => { x with degraded := false }) else s)).modSvy (fun y => y.restart pairCalInit s.now)

/-- The log after a reset: retained but for COLD; what firmware has not persisted is lost (R545, R608). -/
def Log.afterReset (l : Log) (cold : Bool) : Log :=
  if cold then { logInit with archive := l.archive, archived := l.archived, header := l.header }
  else
    let fin := fun (e : LogEntry) => { e with final_ := true }
    { l with fifo := l.fifo.map fin, ring := tblMap (fun _ => none) (fun x => x.map fin) l.ring, row := [], rowAt := none }

/-- The reset controller after a reset of scope COLD, PACKAGE or DENRIX. -/
def SysCtl.afterReset (y : SysCtl) (cold : Bool) : SysCtl :=
  let k := { sysInit with
    causes := y.causes, scope := y.scope, loadRestarts := y.loadRestarts, thermalWarn := y.thermalWarn,
    denrixGood := y.denrixGood, helonGood := y.helonGood,
    perst := y.perst, tap := y.tap, smbData := y.smbData, relAt := y.relAt }
  if cold then k
  else
    { k with work := y.work, resets := y.resets, wdogResets := y.wdogResets, bkup := y.bkup, opt := y.opt,
             wakeCause := y.wakeCause, wakes := y.wakes, seamLossAt := y.seamLossAt, latchNs := y.latchNs, latchPower := y.latchPower }

/-- The store after such a reset. -/
def Store.afterReset (t : Store) : Store := { t with loadBusy := false, optBusy := false, fallback := false, recovery := false }

/-- A reset of scope COLD, PACKAGE (`helon`) or DENRIX clears Denrix (R545, R557); levels outside the device
stay, and the lines' polarity is that of reset again. -/
def Dev.clearDenrix (s : Dev) (cold helon : Bool) : Dev :=
  let s := s.storeCut
  let z := Dev.reset
  let copy := fun (c : CalCopy) => if cold then c.away else c
  let seam := s.seam.cleared helon s.now
  let svy := if helon then svyInit else { svyInit with pair := s.svy.pair, faultState := s.svy.faultState }
  let base : Dev := { z with
    now := s.now, freeCtr := s.freeCtr, readData := s.readData, msgs := s.msgs,
    hel := if helon then [] else tblMap helonInit (fun h => h.undegrade.unstage) s.hel,
    seam := if helon then { seam with hb := 0, hbHelon := 0 } else seam,
    svy := svy }
  (({ base with
      log := s.log.afterReset cold,
      sys := s.sys.afterReset cold,
      store := s.store.afterReset,
      cal := { calInit with copy0 := copy s.cal.copy0, copy1 := copy s.cal.copy1 } }).modTb (fun b =>
    { b with refSel := s.tb.refSel, refIn := s.tb.refIn, refNom := s.tb.refNom, refPcie := s.tb.refPcie, lastSample := s.now,
             monoZero := s.now, edgeBase := s.now, edgeWas := s.now })).modFab (fun f =>
      { f with ext := Nat.xor s.fab.ext (512 * s.fab.fpPol + 256 * bit s.fab.starPol) })

/-- The first edge of the sample clock lies at the reset, and hold-then-safe that is still to start keeps its place in the new
grid. -/
def Dev.regrid (s : Dev) : Dev :=
  let s1 := s.modVec (fun v => { v with edge0 := s.now })
  if s1.seam.hold == .hold && decide (s1.seam.holdAt > s1.now) then
    s1.modSeam (fun m => { m with holdAt := s1.boundaryAt m.holdAt })
  else s1

/-! ### HELON and SEAM (R545, R557) -/

/-- The calibration run under way ends with ST_INTEGRITY (R557). -/
def Dev.calBreak (s : Dev) : Dev :=
  match s.activeRun with
  | none => s
  | some r =>
    let cs := bitsSet r.slotChans 64
    let s1 := s.modRun (fun r => { r with failed := r.failed ||| r.slotChans, slotChans := 0, integrity := true, part := .between })
    let s2 := if r.part == .survey then s1.svyPause false s1.svy.pausedPwr else s1
    (s2.forAll cs Dev.slotLeave).runOver

/-- The device leaves DEEP for a power state: timers resume on their series, waiting occurrences of HOST are made, the survey
table and BOX streams go on (R470, R472, R573). -/
def Dev.unrest (s : Dev) (power : Nat) : Dev :=
  let t := s.now
  let s1 := s.modSys (fun y => { y with power := power, deepEntering := false, wakeLatched := none, waking := none })
  if s.sys.power ≠ 3 then s1.svyPause s1.svy.pausedCal false else
  let s2 : Dev := { s1 with link := { s1.link with ltrUs := 20 } }
  let s3 := s2.forAll (s2.fab.timers.map (·.1)) (fun s n =>
    s.setTimer n { s.timer n with next := gridAfter (s.timer n).next t ((s.timer n).period * tickPs) })
  let s4 := s3.forAll s3.functions (fun s f =>
    ((s.modFn f (fun r => { r with evtDeep := 0 })).forAll (List.range (s.fn f).evtDeep) (fun s _ => s.irq f irqEvent)))
  (s4.svyPause s4.svy.pausedCal false).forAll (List.range s4.nChan) Dev.slotLeave

/-- A reset of scope HELON (`helon`) or SEAM: every channel is in OFF, and Helon or the Seam is cleared (R545, R557). -/
def Dev.clearSeam (s : Dev) (helon : Bool) : Dev :=
  let leaders := (List.range s.nChan).filter (fun c => !s.follower c)
  let s1 := (s.forAll leaders (fun s c => s.toSafe c stIntegrity stIntegrity 5)).calBreak
  let s2 := if s1.sys.power = 3 || s1.sys.deepEntering then s1.unrest 0 else s1
  if helon then s2.clearHelon else (s2.modSeam (fun m => { m.cleared false s2.now with clkGated := m.clkGated, upHelon := false })).unstage

/-! ### The assertion of a source (R547, R548, R565) -/

/-- The management complex runs firmware: it is released, and a HELON or SEAM scope does not reset it (R560). -/
def Dev.mgmtUp (s : Dev) : Bool :=
  decide (s.sys.scope ≥ 3)
    || (match s.sys.phase with | .held => false | .loading => false | .releasing n => decide (n ≥ 5) | _ => true)

/-- What the always-on domain latches at an assertion: device time at the last conversion-clock edge, 0 where the timebase
does not run, and the power state (R565). -/
def Dev.resetLatch (s : Dev) : Dev :=
  let e := s.edgeAt s.now
  let t := if e = s.now then e else e - tickPs
  s.modSys (fun y => { y with latchNs := if s.tbRuns then s.nsAt t else 0, latchPower := y.power })

/-- Firmware's working area changed. -/
def Dev.modWork (s : Dev) (g : WorkArea → WorkArea) : Dev := s.modSys (fun y => { y with work := g y.work })

/-- A start of a bank that ends before READY: it counts where the watchdog or lockstep ended it (R583). -/
def Dev.startFails (s : Dev) (bit : Nat) : Dev :=
  if s.sys.phase != .starting || s.sys.scope ≥ 3 || s.store.recovery then s
  else
    s.modWork (fun w =>
      if bit = 6 || bit = 7 then
        { w with failedStarts := (if w.failedBank = s.store.executing then w.failedStarts else 0) + 1, failedBank := s.store.executing }
      else { w with failedStarts := 0 })

/-- A reset source asserts with a scope: 0 COLD, 1 PACKAGE, 2 DENRIX, 3 HELON, 4 SEAM. A narrower one during a wider sequence
is only recorded (R548). -/
def Dev.assertReset (s : Dev) (bit scope : Nat) : Dev :=
  let y := s.sys
  let runs := y.phase != .ready
  if runs && decide (scope > y.scope) && decide (scope ≥ 3) then s.modSys (fun y => { y with causes := y.causes ||| 2 ^ bit })
  else
    let s0 := (s.resetLatch).startFails bit
    let wide := if runs then min scope y.scope else scope
    let again := y.phase == .loading && decide (scope ≤ 2)
    let old := if runs then y.causes else 0
    let s1 := s0.modSys (fun y =>
      { y with causes := old ||| 2 ^ bit ||| bitAt again 12, scope := wide,
               resets := y.resets + 1, wdogResets := y.wdogResets + bitAt (bit == 6 || bit == 7) 0,
               loadRestarts := (if scope = 0 then 0 else y.loadRestarts) + bitAt again 0 })
    let s2 := if scope ≤ 2 then (s1.clearDenrix (scope == 0) (decide (wide ≤ 1))).regrid
      else s1.observed (fun d => d.clearSeam (scope == 3))
    s2.modSys (fun y => { y with phase := .held, eccDone := false })

/-! ### Device escalation (R591, R592) -/

/-- The safe packets under way to Helon act before the reset that follows an escalation (R592, R593; log entry 153). -/
def Dev.safeFlush (s : Dev) : Dev :=
  if !s.seam.locked then s
  else (s.seam.packets.filter (fun p => !p.up && p.flying && p.msg == .safe)).foldl (fun s p => s.sideReceive p) s

/-- Device escalation: the heartbeat stops, ENTER_HOLD is set, the conversion clock to Helon is gated, and Hem starts
hold-then-safe with its substitute clock. -/
def Dev.escalate (s : Dev) : Dev :=
  let s1 := s.modSeam (fun m => { m with hbRunning := false, enterHold := true, clkGated := true })
  if !s1.helonOn then s1
  else ((s1.safeFlush.modSeam (fun m => { m with substitute := true })).seamLossLog 2).holdStart s1.nextSample

/-- A fault that resets Denrix: crash record, escalation, reset (R592). -/
def Dev.fatal (s : Dev) (k : LogKey) (detail cause pair bit : Nat) (dump : List Byte) : Dev :=
  if s.mgmtUp then ((s.crash k detail cause pair dump).escalate).assertReset bit 2 else s

/-- Seam-loss escalation: 10 ms after the loss, then every 100 ms until the Seam is up (R552). -/
def Dev.seamEscalation (s : Dev) : Dev :=
  match s.seam.lossAt with
  | none => s
  | some t =>
    if s.seam.up then s
    else
      let due := match s.sys.seamLossAt with | some e => if e ≥ t then e + 100000000000 else t + 10000000000 | none => t + 10000000000
      let s1 := (s.advance due).modSys (fun y => { y with seamLossAt := some (max s.now due) })
      let s2 := s1.assertReset 8 4
      s2.logIt (kReset true) (s2.sys.causes % 8192 + 65536 * s2.sys.scope)

/-! ### Start-up (R558 to R562) -/

/-- RESET_NEGATION: the last source is negated (R548, R559, R560, R636). -/
def Dev.negation (s : Dev) : Dev :=
  if s.sys.phase != .held || !s.sys.denrixGood then s
  else
    let out := fun (t : JtagInstr) => t == .extest || t == .clamp || t == .highz
    s.modSys (fun y => { y with
      perst := false, relAt := s.now, tap := if y.perst && out y.tap then .bypass else y.tap,
      phase := if y.scope ≤ 2 then .loading else .releasing 1, eccDone := decide (y.scope ≥ 3) })

/-- The timebase takes the REF_SEL loaded and acquires a reference that is present (R473, R474). -/
def Timebase.refLoad (b : Timebase) (sel : Nat) : Timebase := (b.refPick sel).reacquire

/-- OPTION_LOAD_DONE: the record selected takes effect at once, and the always-on domain is released (R558, R560, R581). -/
def Dev.optLoaded (s : Dev) : Dev :=
  if s.sys.phase != .loading then s
  else
    let s0 := (s.advance (s.sys.relAt + min 1500000000 (Config.freeDelay s.freeCtr))).freeNext
    s0.withGstat (fun s0 =>
      let s := s0.readCopies 0
      let n := s.store.newestOpt
      let o := match n with | some k => optOf (s.store.optCopy k) | none => optRom
      ((s.modSys (fun y => { y with opt := o, optDefaults := n.isNone, optCopy := n.getD 0, phase := .releasing 1, relAt := s.now,
                                    tap := if o.jtag = 0 then .bypass else y.tap })).modTb (fun b => b.refLoad o.refSel)).modSeam
        (fun m => { m with hbRunning := true }))

/-- The timebase starts: its first conversion-clock edge, one that meets the phase clock, is a sample instant, an edge of the sample
clock, and 0 of TIME and MONO (R476, R477, R485). -/
def Dev.tbStart (s : Dev) : Dev :=
  let t := gridEdge 0 s.now 50000
  ((s.advance t).modTb (fun b => { b with lastSample := t, monoZero := t, edgeBase := t, edgeWas := t })).regrid

/-- DOMAIN_RELEASE: the next domain, 1,024 oscillator cycles after the last; the management complex waits for the memories
(R560). -/
def Dev.release (s : Dev) : Dev :=
  match s.sys.phase with
  | .releasing n =>
    if n = 4 && !s.sys.eccDone then s
    else
      let s1 := s.advance (s.sys.relAt + 40960000)
      let s2 := s1.modSys (fun y => { y with
        relAt := s1.now, phase := if n < 5 then .releasing (n + 1) else if y.scope ≥ 3 then .starting else .firmware })
      if n = 2 && decide (s2.sys.scope ≤ 2) then s2.tbStart else s2
  | _ => s

/-- ECC_INIT_DONE: step 4 ends (R560). -/
def Dev.eccInit (s : Dev) : Dev :=
  match s.sys.phase with
  | .releasing n =>
    if n ≠ 4 || s.sys.eccDone then s
    else
      let s1 := (s.advance (s.sys.relAt + min 2200000000 (Config.freeDelay s.freeCtr))).freeNext
      s1.modSys (fun y => { y with eccDone := true, relAt := s1.now })
  | _ => s

/-! ### Firmware (R562, R582 to R584) -/

/-- A bank may execute: it passes R582, and it is not the named one that failed two starts (R583). -/
def Dev.bankOk (s : Dev) (n : Nat) : Bool :=
  (s.store.bank n).passes s.sys.opt.format
    && !(n == s.sys.opt.fwBank && s.sys.work.failedBank == n && decide (s.sys.work.failedStarts ≥ 2))

/-- Helon takes its option values, factors, thresholds and bank configuration (step F3; R545). -/
def Dev.helonWrite (s : Dev) : Dev :=
  let o := s.sys.opt
  let s1 := (s.sendDown 0 (.safeSlew o.holdTime o.safeStep o.safeDiv)).sendDown 0 .bank
  let s2 := s1.forAll (List.range s1.nChan) (fun s c =>
    let x := s.chan c
    let s1 := match s.ident c with
      | some i => s.sendDown c (.slew i.span i.step i.divr)
      | none => s
    ((s1.sendRange c false x.vr).sendRange c true x.ir).sendDown c (.gangMap (match s.gangOf c with | some g => g.2.members | none => 0)))
  s2.modSvy (fun y => { y with pair := { y.pair with cal := s2.svyFactors } })

/-- Step F2: the newer valid copy of the calibration store, or defaults (R413). -/
def Dev.calLoad (s0 : Dev) : Dev :=
  let s := s0.readCopies 1
  s.modCal (fun k => match s.calNewest with
    | some c => { k with wc := c.loaded, defaults := false, storeSeq := c.seq }
    | none => { k with wc := calCopyInit, defaults := true, storeSeq := 0 })

/-- The fabric starts: a line asserted then is HELD until it has been negated (R468), and its time counts from here (R469). -/
def Fabric.start (x : Fabric) (now : Nat) (intlk : Bool) : Fabric :=
  { x with configured := true, held := x.ext + bitAt intlk 14,
           since := (bitsSet x.ext 14).foldl (fun t n => tblSet (fun _ => 0) t n now) x.since }

/-- Step F4: discovery starts on every module whose channels the variant enables, and its stage bus is configured (R563). -/
def Dev.discoveryStarts (s : Dev) : Dev :=
  let s1 := s.forAll ((List.range 16).filter (fun m => decide (4 * m < s.nChan))) (fun s m =>
    s.modStage m (fun g => { g with driven := true }))
  if s1.optM then s1.forAll (List.range 8) (fun s k => s.modChain k (fun c => { c with begun := true })) else s1

/-- Steps F2 to F5 (R562); the rows found failing are replaced (R577). -/
def Dev.firmwareSteps (s : Dev) : Dev :=
  let s1 := ((s.calLoad.rowsMend).modFab (fun f => f.start s.now s.seam.intlk)).helonWrite.discoveryStarts
  if s1.sys.opt.calBoot = 1 then s1.calQueue none 0 0 false else s1

/-- A bank as the boot ROM finds it: an uncorrectable read makes it fail, which is open (R579, R582, log entry 154). -/
def Dev.bankSeen (s : Dev) (n : Nat) : Bool := s.bankOk n && !Config.freeFlag (s.freeCtr + n)
/-- The rows that those reads find failing. -/
def Dev.bankRows (s : Dev) : List Nat :=
  let read := if s.bankSeen s.sys.opt.fwBank then [s.sys.opt.fwBank] else [s.sys.opt.fwBank, 1 - s.sys.opt.fwBank]
  (read.filter (fun n => Config.freeFlag (s.freeCtr + n))).map (fun n =>
    (regionSpan n).1 + 1024 * ((Config.freeWord (s.freeCtr + n)).toNat % 6144))

/-- FIRMWARE_BANK_CHECK: step F1 (R582, R583, R584), and what follows it. -/
def Dev.bankCheck (s : Dev) : Dev :=
  if s.sys.phase != .firmware then s
  else
    let n := s.sys.opt.fwBank
    let s9 : Dev := { s with freeCtr := s.freeCtr + 2 }
    let s0 := (s9.modStore (fun t => { t with failing := t.failing ++ s.bankRows })).modSys (fun y => { y with phase := .starting })
    let run := fun (k : Nat) => (s0.modStore (fun t => { t with executing := k, fallback := k != n })).modSys (fun y =>
      { y with fwVersion := (s.store.bank k).version })
    if s.bankSeen n then (run n).firmwareSteps
    else if s.bankSeen (1 - n) then
      let s1 := run (1 - n)
      ((s1.logIt (key (s1.freeVal % 65536) 18 (s1.freeVal / 65536 % 4) 0 0) 0).freeNext).firmwareSteps
    else s0.modStore (fun t => { t with recovery := true })

/-- BKUP[i] written by firmware. -/
def Dev.setBkup (s : Dev) (i v : Nat) : Dev :=
  s.modSys (fun y => { y with bkup := tblSet (fun _ => 0) y.bkup i (BitVec.ofNat 32 v) })

/-- BKUP[31] (R565). -/
def Dev.bkupPower (s : Dev) : Dev :=
  s.setBkup 31 (s.sys.latchPower % 4 + 256 * s.sys.wakeCause + 65536 * (s.sys.wakes % 65536))

/-- BKUP[24] of the sequence (R565). -/
def SysCtl.cause (y : SysCtl) : Nat := y.causes % 8192 + 65536 * y.scope

/-- Step F6: BKUP[24] to BKUP[31] (R565); CRASH stays as it is. -/
def Dev.bkupFill (s : Dev) : Dev :=
  let y := s.sys
  let boot := y.optCopy + bitAt y.optDefaults 1 + bitAt (s.store.executing == 1) 2 + bitAt s.store.fallback 3
    + bitAt s.calNewer1 4 + bitAt s.cal.defaults 5 + 256 * min y.loadRestarts 255
  let s1 := ((s.setBkup 25 (bkup s 24)).setBkup 24 y.cause).setBkup 26 (y.resets % 65536 + 65536 * min y.wdogResets 65535)
  (((s1.setBkup 27 boot).setBkup 28 (y.latchNs % 2 ^ 32)).setBkup 29 (y.latchNs / 2 ^ 32)).bkupPower

/-- PF0 is served, with its first resources, and so are the enabled VFs; in recovery none of them (R532, R562, R584). -/
def Dev.serve (s : Dev) : Dev :=
  let s1 := s.modFn 0 (fun r => { r with ready := r.flr == .idle, ringCount := 8, quota := 2 ^ 35, cls := 7, weight := 16 })
  if s1.store.recovery then s1
  else s1.forAll (s1.functions.filter (· != 0)) (fun s f => s.modFn f (fun r => { r with ready := r.flr == .idle }))

/-- READY: step F6 and the end of the sequence, once the start-up calibration is over (R404, R562). After a HELON scope Helon is
written again (R545). -/
def Dev.readyRow (s : Dev) : Dev :=
  if s.sys.phase != .starting || s.cal.runs.any (fun r => r.cmd.isNone) then s
  else
    let y := s.sys
    let s1 := s.bkupFill
    let esc := (List.range 4).any (fun i => y.causes.testBit (6 + i))
    let s2 := if y.scope = 4 then s1 else s1.logIt (kReset esc) y.cause
    let s3 := if y.scope ≤ 2 then s2.serve.modWork (fun w => { w with failedStarts := 0 })
      else if y.scope = 3 && !s2.store.recovery then s2.helonWrite else s2
    s3.modSys (fun y => { y with phase := .ready, causes := 0 })

/-! ### Rows -/

/-- VAON_POWER_ON (R547). -/
def execVaonPowerOn (s : State) : Out := .next (s.on (fun d => d.assertReset 0 0))
/-- DENRIX_POWER_ON (R547). -/
def execDenrixPowerOn (s : State) : Out :=
  .next (s.on (fun d => (d.modSys (fun y => { y with denrixGood := true })).assertReset 1 2))
/-- HELON_POWER_ON (R547). -/
def execHelonPowerOn (s : State) : Out :=
  .next (s.on (fun d => ((d.modSys (fun y => { y with helonGood := true })).modSeam (fun m => { m with powered := true })).assertReset 2 3))
/-- RESET_N (R549). -/
def execResetN (s : State) : Out := .next (s.on (fun d => d.assertReset 3 1))
/-- PERST_N (R547). -/
def execPerstN (s : State) : Out := .next (s.on (fun d => (d.modSys (fun y => { y with perst := true })).assertReset 4 2))
/-- HOT_RESET (R547). -/
def execHotReset (s : State) : Out := .next (s.on (fun d => d.assertReset 5 2))
/-- WATCHDOG (R550, R592). -/
def execWatchdog (dump : List Byte) (s : State) : Out := .next (s.on (fun d => d.fatal kWatchdog 0 1 0xFF 6 dump))
/-- LOCKSTEP (R592). -/
def execLockstep (pair : Byte) (dump : List Byte) (s : State) : Out :=
  .next (s.on (fun d => d.fatal kLockstep pair.toNat 2 pair.toNat 7 dump))
/-- FW_FATAL (R592). -/
def execFwFatal (pair : Byte) (addr : W32) (dump : List Byte) (s : State) : Out :=
  .next (s.on (fun d => d.fatal kFwFatal addr.toNat 3 pair.toNat 7 dump))
/-- SEAM_LOSS_ESCALATION (R552). -/
def execSeamLossEscalation (s : State) : Out := .next (s.on Dev.seamEscalation)
/-- THERMAL (R551). -/
def execThermal (s : State) : Out := .next (s.on (fun d => d.assertReset 9 1))
/-- THERMAL_WARN (R551). -/
def execThermalWarn (hot : Bool) (s : State) : Out :=
  .next (s.on (fun d => d.observed (fun d => d.modSys (fun y => { y with thermalWarn := hot }))))
/-- RESET_NEGATION (R548). -/
def execResetNegation (s : State) : Out := .next (s.on Dev.negation)
/-- OPTION_LOAD_DONE (R558). -/
def execOptionLoadDone (s : State) : Out := .next (s.on Dev.optLoaded)
/-- DOMAIN_RELEASE (R560). -/
def execDomainRelease (s : State) : Out := .next (s.on Dev.release)
/-- ECC_INIT_DONE (R560). -/
def execEccInitDone (s : State) : Out := .next (s.on Dev.eccInit)
/-- FIRMWARE_BANK_CHECK (R582). -/
def execFirmwareBankCheck (s : State) : Out := .next (s.on (fun d => d.observed Dev.bankCheck))
/-- READY (R562). -/
def execReady (s : State) : Out := .next (s.on (fun d => d.observed Dev.readyRow))

end Sys2Proof.Machine
end

