-- ==== Sys2Proof/Machine/Power.lean ====
section
/-! DEFINITION. SYS_RESET, power states and the reset of one block (R567 to R574), supply rails and the remaining sources of
R547. -/

namespace Sys2Proof.Machine

/-! ### SYS_RESET -/

/-- A write-back is wanted on every chain (R507). -/
def Dev.wbAskAll (s : Dev) : Dev := s.forAll (List.range 8) Dev.wbAsk
/-- A chain has a write-back to make first. -/
def Dev.wbWaits (s : Dev) : Bool := (List.range 8).any (fun k => (s.chain k).wbWant)

/-- SYS_RESET's sheet: it is accepted, wear is written back unless NO_WB is set, and the reset follows. -/
def cmdSysReset : Cmd :=
  { op := 0x0E01, owner := true, len := some 4,
    args := fun _ j => (u8 j.p 0 == 1 || u8 j.p 0 == 2) && decide (u8 j.p 1 ≤ 1) && u16 j.p 2 == 0x5253,
    state := fun s _ => stIf s.sys.sysReset.isNone,
    body := fun s j =>
      ((if u8 j.p 1 = 1 then s else s.wbAskAll).modSys (fun y => { y with sysReset := some (u8 j.p 0), sysResetAt := s.now }),
        .done stOk []) }

/-- SYS_RESET_ASSERTION: 100 µs to 60 ms after the acceptance; firmware first writes its persistent-log row (R608). -/
def Dev.sysResetDue (s : Dev) : Dev :=
  match s.sys.sysReset with
  | none => s
  | some l =>
    if s.wbWaits then s else
    let s1 := (s.advance (s.sys.sysResetAt + 100000000 + min 59900000000 (Config.freeDelay s.freeCtr))).freeNext
    s1.rowWriteOut.assertReset 10 l

/-! ### Power states (R569 to R574) -/

/-- Every channel is in OFF. -/
def Dev.allOff (s : Dev) : Bool := (List.range s.nChan).all s.isOff

/-- The conditions of R571. -/
def Dev.deepOk (s : Dev) : Bool :=
  s.cal.runs.isEmpty && s.cal.trace.isNone && (List.range s.nChan).all (fun c => (s.res c).meas.isNone && (s.res c).cap == .idle)
    && (List.range 8).all (fun k => (s.chain k).update.isNone && (s.chain k).waiting == 0) && s.sys.blockReset.isEmpty
    && s.tb.timeSet.isNone

/-- A power state below DEEP takes effect (R570). -/
def Dev.powerTo (s : Dev) (target : Nat) : Dev :=
  let s1 := if target = 1 then s.vAbort 6 else s
  (s1.modSys (fun y => { y with power := target })).svyPause s.svy.pausedCal (target == 1)

/-- The reply table of SYS_POWER. -/
def powerReply (s : Dev) (st : Nat) : List Byte := w8 st ++ zeros 3 ++ w64 (s.nsAt s.now)

/-- SYS_POWER's sheet; DEEP_ENTRY_DONE completes an entry to DEEP. -/
def cmdSysPower : Cmd :=
  { op := 0x0E03, owner := true, len := some 4,
    args := fun _ j => decide (u8 j.p 0 ≤ 3) && j.rsv 1 3,
    state := fun s j =>
      let t := u8 j.p 0
      stIf (!s.sys.deepEntering && (t < 2 || (t == 2 && s.allOff) || (t == 3 && s.sys.power == 2 && s.deepOk))),
    body := fun s j =>
      let t := u8 j.p 0
      if t = 3 then
        ((((s.vAbort 6).modSys (fun y => { y with deepEntering := true })).svyPause s.svy.pausedCal true).wbAskAll, .later [])
      else
        (s.powerTo t, .later [(s.nsAt s.now : Int)]) }

/-- A SYS_POWER to RUN, QUIET or IDLE completes with the state and the device time at which it took effect (R22). -/
def powerEnd (r : Running) : Nat × List Byte := (stOk, w8 (u8 r.job.p 0) ++ zeros 3 ++ w64 (r.data.headD 0).toNat)

/-- DEEP_ENTRY_DONE, once wear is written back: apertures end, the converters and clocks stop, the Seam rests, and the reply
has gone; a wake cause that
was latched starts the wake (R571, R572, R574). -/
def Dev.deepEntered (s : Dev) : Dev :=
  if !s.sys.deepEntering || s.wbWaits then s
  else
    let s1 := (s.forAll (List.range s.nChan) Dev.apersEnd).forAll (List.range s.nChan) (fun s c =>
      s.modRes c (fun r => { r with lastV := 0, lastI := 0 }))
    let s2 := s1.modSeam (fun m =>
      { m with up := false, upHelon := false, goodUp := 0, goodDn := 0, badUp := 0, badDn := 0, upFrame := none,
               dnFrame := none, atHelon := none,
               lossAt := none })
    let code := s2.sys.wakeLatched
    let s3 := s2.modSys (fun y =>
      { y with power := 3, deepEntering := false, wakeLatched := none, waking := code, wakeCause := code.getD y.wakeCause })
    let s4 : Dev := { s3 with link := { s3.link with ltrUs := 3000 } }
    match s4.tg.running.find? (fun r => r.job.op == 0x0E03 && u8 r.job.p 0 == 3 && r.live && r.started) with
    | some r => s4.leaves r stOk (powerReply s4 3)
    | none => s4

/-- WAKE_DONE: once the Seam is up the state is IDLE, and what rested goes on (R573). -/
def Dev.wakeDone (s : Dev) : Dev :=
  if s.sys.power ≠ 3 || s.sys.waking.isNone || !s.seam.up then s
  else ((s.modSys (fun y => { y with wakes := y.wakes + 1 })).unrest 2).bkupPower

/-! ### The reset of one block (R567, R568) -/

/-- The key of a block in the table of resets under way. -/
def blockKey (block index : Nat) : Nat := 16 * block + index

/-- The channels of an engine island (R568). -/
def islandChans (i : Nat) : List Nat := (List.range 4).map (4 * i + ·)

/-- The condition of an ISLAND reset. -/
def Dev.islandOk (s : Dev) (i : Nat) : Bool :=
  (islandChans i).all (fun c => (s.chan c).state == 0 && (s.chan (s.leader c)).trans.isNone && !s.seqBusy c)

/-- What the idle request does at once (R568). -/
def Dev.blockRequest (s : Dev) (block index : Nat) : Dev :=
  if block = 2 then s.svyRefuse
  else if block = 3 then s.vAbort 2
  else if block = 4 then
    let ids := (s.chain index).queue.filterMap id
    let s1 := (s.modChain index (fun c => { c with queue := [], opening := [] })).forAll (s.setsOn index) (fun s q =>
      s.modSet q (fun x => { x with due := false, byEdge := false }))
    s1.forAll ids (fun s i => s.finish i stState [])
  else s

/-- The resources that a block reset names (R107): those of the block whose commands its idle request does not end. -/
def blockNames (block index : Nat) : List Res :=
  if block = 2 then [Res.survey] else if block = 3 then [Res.player] else if block = 4 then [Res.chain index]
  else if block = 5 then (islandChans index).map Res.chan else []

/-- SYS_BLOCK_RESET's sheet; BLOCK_IDLE_OR_TIMEOUT goes on. -/
def cmdSysBlockReset : Cmd :=
  { op := 0x0E02, owner := true, len := some 8,
    args := fun s j =>
      let b := u8 j.p 0
      let i := u8 j.p 1
      between 1 5 b && (if b = 4 then decide (i < 8) else if b = 5 then decide (4 * i < s.nChan) else i == 0)
        && (b != 3 || s.optV) && (b != 4 || s.optM) && j.rsv 2 2 && between 1 100000 (u32 j.p 4),
    ready := fun s j => u8 j.p 0 != 4 || !s.chainBusy (u8 j.p 1),
    state := fun s j =>
      let k := blockKey (u8 j.p 0) (u8 j.p 1)
      stIf (!(s.sys.blockReset.any (fun p => p.1 == k)) && !s.sys.deepEntering && (u8 j.p 0 != 5 || s.islandOk (u8 j.p 1))),
    names := fun _ j => blockNames (u8 j.p 0) (u8 j.p 1),
    body := fun s j =>
      let b := u8 j.p 0
      let i := u8 j.p 1
      let s1 := s.modSys (fun y => { y with blockReset := tblSet (fun _ => 0) y.blockReset (blockKey b i) (j.id + 1) })
      (s1.blockRequest b i, .later [(s.now : Int)]) }

/-- The block is idle (R568). -/
def Dev.blockIdle (s : Dev) (block index : Nat) : Bool :=
  if block = 2 then s.svy.run.isNone
  else if block = 3 then !s.vBusy
  else if block = 4 then (s.chain index).update.isNone
  else true

/-- Closed blocks that Caravan has not begun are discarded: their records count as lost. -/
def Dev.dropClosed (s : Dev) (f r : Nat) : Dev :=
  let g := (s.fn f).ring r
  let l := g.closed.flatMap (·.recs)
  let s1 := (s.modFn f (fun x => x.modRing r (fun g =>
    { g with closed := [], lostSince := sat32n (g.lostSince + (g.closed.foldl (fun a b => a + b.lost) 0)) }))).freeSlots l
  l.foldl (fun s x => if s.streamFn x.stream = f then s.lose x.stream x 1 else s) s1

/-- CARAVAN is reset: rings keep their configuration, HEAD, TAIL and BLOCK_SEQ. -/
def Dev.resetCaravan (s : Dev) : Dev :=
  let s1 := s.modTg (fun t => { t with caravans := [] })
  s1.forAll s1.functions (fun s f => (s.forAll (List.range 8) (fun s r => s.dropClosed f r)).takeAll f)

/-- SURVEY is reset: an urgent request that runs ends with ST_STATE; table, mode, factors and views stay. -/
def Dev.resetSurvey (s : Dev) : Dev :=
  let s1 := match s.svy.run with | some r => s.finish? r.conv.cmd stState [] | none => s
  s1.modSvy (fun y => y.restart y.pair.cal s.now)

/-- VECTOR is reset: a player lock still held breaks (R535, R567), player and fail FIFOs restart, and waiting VFAIL records are
lost (R320). -/
def Dev.resetVector (s : Dev) : Dev :=
  let s1 := match s.vec.player.fn with | some f => s.playerBreaks f | none => s
  let s2 := s1.forAll (s1.vec.fails.map (·.1)) (fun s k =>
    let i := 64 + k
    let l := (s.stream i).recs
    let s1 := s.modStream i (fun t => { t with recs := [] })
    l.foldl (fun s x => s.lose i x 1) s1)
  s2.modPlayer (fun q => { playerInit with lastEnd := q.lastEnd })

/-- CHAIN is reset: an update that is forced ends, set locks are broken, and rediscovery begins after the write-back (R507, R535,
R568). -/
def Dev.resetChain (s : Dev) (k id : Nat) : Dev :=
  let ids := match (s.chain k).update with | some u => u.cmds | none => []
  let s1 := (s.modChain k (fun c => { c with update := none, state := if c.update.isSome then .ready else c.state })).forAll ids
    (fun s i => s.finish i stIntegrity [])
  let s2 := s1.forAll ((s1.setsOn k).filter (fun q => (s1.xset q).locked)) (fun s q => s.setLeaves (s.setHolder q) q)
  (s2.modChain k (fun c => { c with discCmd := some id, queue := [], opening := [] })).rediscover k

/-- ISLAND is reset: its engines take the state of R190, and their libraries are EMPTY.
An armed swap with a member there is disarmed as a whole. DESIGN CHOICE, log entry 158. -/
def Dev.resetIsland (s : Dev) (i : Nat) : Dev :=
  let es := (List.range 16).map (16 * i + ·)
  let s1 := (s.swaps.filter (fun w => w.engines.any es.contains)).foldl (fun s w => s.swapGone w) s
  s1.forAll es (fun s e => s.modEng e (fun _ => engInit e))

/-- The block reset, once the block is idle or TIMEOUT_US has passed (R567). -/
def Dev.blockReset (s : Dev) (block index id : Nat) : Dev :=
  if block = 1 then s.resetCaravan
  else if block = 2 then s.resetSurvey
  else if block = 3 then s.resetVector
  else if block = 4 then s.resetChain index id
  else s.resetIsland index

/-- BLOCK_IDLE_OR_TIMEOUT: the block is reset, forced after the timeout; an ISLAND reset is never forced. A chain's command
completes with its rediscovery. -/
def Dev.blockDone (s : Dev) (block index : Nat) (forced : Bool) : Dev :=
  let k := blockKey block index
  match s.sys.blockReset.find? (fun p => p.1 == k) with
  | none => s
  | some (_, n) =>
    let id := n - 1
    match s.running? id with
    | none => s
    | some r =>
      let f := forced && block != 5
      if !f && !s.blockIdle block index then s
      else
        let t0 := (r.data.getD 0 0).toNat
        let us := u32 r.job.p 4
        let s1 := if f then s.advance (t0 + us * 1000000) else s
        let spent := if f then us else min us ((s1.now - t0) / 1000000)
        let s2 := (s1.setData id [(bit f : Int), (spent : Int)]).blockReset block index id
        if block = 4 then s2
        else
          let s3 := s2.modSys (fun y => { y with blockReset := y.blockReset.filter (fun p => p.1 != k) })
          let s4 := if block = 2 && s3.svy.run.isNone then s3.svyNext (s3.edgeAfter s3.now) else s3
          s4.finish id stOk (blockReply [(bit f : Int), (spent : Int)])

/-! ### Supply rails and SMB_MGMT -/

/-- A Helon rail falls: Helon is in power-on reset, and lane lock is lost (R555, R620). -/
def Dev.helonFalls (s : Dev) : Dev :=
  let s1 := (s.clearHelon).modSys (fun y => { y with helonGood := false })
  s1.modSeam (fun m => { m with powered := false, lossAt := some (s.seam.lossAt.getD s.now) })

/-- A Denrix rail falls: Denrix is held in power-on reset until the rail returns, which is the source (R620). -/
def Dev.denrixFalls (s : Dev) : Dev :=
  let wide := if s.sys.phase != .ready then min 2 s.sys.scope else 2
  let s1 := (s.resetLatch).modSys (fun y => { y with scope := wide })
  ((s1.clearDenrix false (decide (wide ≤ 1))).regrid).modSys (fun y => { y with phase := .held, eccDone := false, denrixGood := false })

/-- SMB_MGMT answers: in every reset but COLD and PACKAGE (R553). -/
def Dev.smbOn (s : Dev) : Bool :=
  decide (s.sys.scope ≥ 2) || !(s.sys.phase == .held || s.sys.phase == .loading)

/-- A command on SMB_MGMT; in DEEP it is a wake cause (R573). -/
def Dev.smb (s : Dev) (g : Dev → Dev) : Dev := if s.smbOn then g (s.wakeBy 4) else s

/-- The status word of command 0xE1 (R553). -/
def Dev.smbStatus (s : Dev) : Nat :=
  bitAt (s.fn 0).ready 0 + 2 * s.sys.power + bitAt s.sys.thermalWarn 3 + bitAt s.sys.optDefaults 4

/-! ### Rows -/

/-- SYS_RESET. -/
def execSysReset (q : Req) (s : State) : Out := .next (s.on (fun d => d.command cmdSysReset q))
/-- SYS_RESET_ASSERTION (R547). -/
def execSysResetAssertion (s : State) : Out := .next (s.on Dev.sysResetDue)
/-- SYS_POWER. -/
def execSysPower (q : Req) (s : State) : Out := .next (s.on (fun d => d.observed (fun d => d.command cmdSysPower q)))
/-- DEEP_ENTRY_DONE (R571). -/
def execDeepEntryDone (s : State) : Out := .next (s.on (fun d => d.observed Dev.deepEntered))
/-- WAKE (R573). -/
def execWake (cause : Fin 5) (s : State) : Out :=
  .next (s.on (fun d => if cause.val = 0 then d else d.wakeBy cause.val))
/-- WAKE_DONE (R573). -/
def execWakeDone (s : State) : Out := .next (s.on (fun d => d.observed Dev.wakeDone))
/-- SYS_BLOCK_RESET. -/
def execSysBlockReset (q : Req) (s : State) : Out := .next (s.on (fun d => d.observed (fun d => d.command cmdSysBlockReset q)))
/-- BLOCK_IDLE_OR_TIMEOUT (R567). -/
def execBlockIdleOrTimeout (block : Fin 6) (index : Fin 16) (forced : Bool) (s : State) : Out :=
  .next (s.on (fun d => d.observed (fun d => d.blockDone block.val index.val forced)))
/-- HELON_RAIL_FALL (R620). -/
def execHelonRailFall (s : State) : Out := .next (s.on (fun d => d.observed Dev.helonFalls))
/-- DENRIX_RAIL_FALL (R620). -/
def execDenrixRailFall (s : State) : Out := .next (s.on Dev.denrixFalls)
/-- SMB_MGMT_RESET_PACKAGE (R553). -/
def execSmbMgmtResetPackage (s : State) : Out := .next (s.on (fun d => d.smb (fun d => d.assertReset 11 1)))
/-- SMB_MGMT_RESET_DENRIX (R553). -/
def execSmbMgmtResetDenrix (s : State) : Out := .next (s.on (fun d => d.smb (fun d => d.assertReset 11 2)))
/-- SMB_MGMT_READ_STATUS (R553): the word read. -/
def execSmbMgmtReadStatus (s : State) : Out :=
  .next (s.on (fun d => d.smb (fun d => d.modSys (fun y => { y with smbData := BitVec.ofNat 16 d.smbStatus }))))
/-- SMB_MGMT_INVALID (R553): it has no effect. -/
def execSmbMgmtInvalid (_code : Byte) (_data : W16) (_pecOk : Bool) (s : State) : Out := .next s

end Sys2Proof.Machine
end

