-- ==== Sys2Proof/Machine/Integrity.lean ====
section
/-! DEFINITION. Memory and clock faults (R595, R596, R600). -/

namespace Sys2Proof.Machine

/-! ### SRAM (R595, R596) -/

/-- The partition of an error in the order of R43, retained SRAM after them, and the resource it names (R604). -/
def sramName (e : SramErr) : Nat × Nat × Nat :=
  match e with
  | .vector => (0, 0, 0)
  | .waystation c _ _ => (1, 1, c.val)
  | .sweep c => (2, 1, c.val)
  | .mgmt _ _ _ => (3, 0, 0)
  | .engine k => (4, 2, k.val)
  | .session f _ => (5, 10, f.val)
  | .caravan f r => (6, 7, f.val + 65536 * r.val)
  | .matrix k => (7, 4, k.val)
  | .events f _ => (8, 10, f.val)
  | .cal c => (9, 1, c.val)
  | .survey k => (10, 9, k.val)
  | .vfail f g => (10, 8, 4 * f.val + g.val)
  | .msix f => (10, 10, f.val)
  | .log _ => (11, 0, 0)
  | .crash => (11, 0, 0)

/-- The record of a stream before place `n` of those that wait: the one before it there, or the last that a block took. -/
def Dev.recBefore (s : Dev) (c n : Nat) : Option Rec :=
  if n > 0 then (s.res c).st.recs[n - 1]?
  else
    let g := (s.fn (s.streamFn c)).ring (s.res c).st.ring
    ((g.closed.flatMap (·.recs) ++ g.openRecs).filter (fun r => r.stream == c)).getLast?

/-- The GAP record in place of a discarded one: its slots, and its instant where that can be read, else that of the record before it
in the stream (R595); where there is none either, the instant is a free value (log entry 149). -/
def Dev.gapInPlace (s : Dev) (r : Rec) (before : Option Rec) (timeOk : Bool) : Rec :=
  let g := { gapOf 1 r r.seq with slots := r.slots }
  if timeOk then g
  else match before with
    | some p => { g with timeNs := p.timeNs, frac := p.frac, epoch := p.epoch, at_ := p.at_ }
    | none => { g with timeNs := s.freeVal, frac := 0, epoch := 0 }

/-- One more record of a channel's stream is lost without a GAP that waits (R309, R595). -/
def Dev.lostInPlace (s : Dev) (c ring : Nat) : Dev :=
  ((s.modStream c (fun t => { t with lost := sat32n (t.lost + 1) })).modFn (s.streamFn c) (fun f =>
    f.modRing ring (fun x => { x with lostSince := sat32n (x.lostSince + 1) }))).freeNext

/-- A pair that a capture holds is unreadable: it counts as lost, and becomes a GAP record with V = 1 (R595). -/
def Dev.pairLost (s : Dev) (c k : Nat) (timeOk : Bool) : Dev :=
  match (s.res c).hist[k]? with
  | none => s
  | some r =>
    let g := s.gapInPlace r ((s.res c).hist[k + 1]?) timeOk
    (s.modRes c (fun x => { x with hist := x.hist.set k g })).lostInPlace c (s.res c).st.ring

/-- A waiting record of a channel is unreadable: a GAP record with V = 1 and its SEQ takes its place and its slots, and it counts
as lost (R309, R595). The slots after the records hold a capture's pairs. -/
def Dev.recLost (s : Dev) (c n : Nat) (timeOk : Bool) : Dev :=
  match (s.res c).st.recs[n]? with
  | none => s.pairLost c (n - (s.res c).st.recs.length) timeOk
  | some r =>
    let g := s.gapInPlace r (s.recBefore c n) timeOk
    (s.modStream c (fun t => { t with recs := t.recs.set n g })).lostInPlace c r.ring

/-- The working-copy record of a channel is read again from the newer valid store copy, or takes its defaults; a command in
progress on the channel ends with ST_INTEGRITY (R595). -/
def Dev.calReload (s : Dev) (c : Nat) : Dev :=
  let x := match s.calNewest with | some k => (tblGet calChanInit k.chans c).loaded | none => calChanInit c
  let s1 := s.modCalChan c (fun _ => x)
  let l := s1.leader c
  let s2 := (s1.rcDrop l stIntegrity).transEnd l stIntegrity
  let mine := s2.tg.running.filter (fun r => r.live && r.started && r.job.op != 0x0701 && r.names.contains (Res.chan c))
  let s3 := s2.forAll (mine.map (·.job.id)) (fun s i => s.finish i stIntegrity [])
  let s4 := s3.modCal (fun k => { k with trace := k.trace.map (fun t => if t.ch = c then { t with run := none } else t) })
  let s5 := if s4.slotChans.testBit c then
      (s4.modRun (fun r => { r with slotChans := r.slotChans - 2 ^ c, failed := r.failed ||| 2 ^ c, integrity := true })).slotLeave c
    else s4
  (s5.sendFactors c false (s5.chan c).vr).sendFactors c true (s5.chan c).ir

/-- A survey result is lost (R380, R595). -/
def Dev.svyLost (s : Dev) (e : Nat) : Dev :=
  s.modSvy (fun y => { y with lost := sat32n (y.lost + 1), flights := y.flights.eraseP (fun f => f.conv.entry == e) })

/-- The oldest waiting VFAIL record of a group is lost (R320, R595). -/
def Dev.vfailLost (s : Dev) (i : Nat) : Dev :=
  match (s.stream i).recs with
  | [] => s
  | r :: rest => (s.modStream i (fun t => { t with recs := rest })).lose i r 1

/-- The word of vector memory at an address has been fetched and is to play. -/
def Dev.vFetched (s : Dev) (a : Nat) : Bool := s.vBusy && s.vec.player.pf.contains a

/-- What the user of a partition does (R595); `addr` is the word address, in vector memory that of the vector word (R445). -/
def Dev.sramResponse (s : Dev) (e : SramErr) (addr : Nat) : Dev :=
  match e with
  | .vector => if s.vFetched addr then s.modPlayer (fun q => { q with ecc := addr :: q.ecc }) else s
  | .waystation c n timeOk => s.recLost c.val n timeOk
  | .sweep c => s.chanResponse c.val 7
  | .mgmt pair addr dump => s.fatal kFwFatal addr.toNat 3 pair.toNat 7 dump
  | .engine k => if (s.eng k.val).next.isSome then s.modEng k.val (fun g => { g with lateFail := some 2 }) else s
  | .session f dump =>
    if f.val = 0 then s.fatal kFwFatal addr 3 0xFF 7 dump
    else if (s.fn f.val).enabled then s.flrStart f.val true none else s
  | .caravan f r => (s.disableRing f.val r.val).irq f.val irqError
  | .matrix k => if (s.chain k.val).state == .ready || (s.chain k.val).state == .updating then s.chainFault k.val else s
  | .events f n => s.modFn f.val (fun r =>
      if n < r.events.length then { r with events := r.events.eraseIdx n, evtLost := sat32n (r.evtLost + 1) } else r)
  | .cal c => s.calReload c.val
  | .survey k => s.svyLost k.val
  | .vfail f g => s.vfailLost (groupStream f.val g.val)
  | .msix f => s.forAll (List.range (vecCount f.val)) (fun s v => if (s.fn f.val).armed f.val v then s.signal f.val v else s)
  | .log n => s.modLog (fun l =>
      if (tblGet (fun _ => none) l.ring n.val).isNone then l
      else { l with ring := tblSet (fun _ => none) l.ring n.val none, lost := min (l.lost + 1) 0xFFFFFFFF })
  | .crash => s.setCrashValid false

/-- SRAM_UNCORRECTABLE: one entry, and the response of the partition (R595). An error that ends a pattern is logged when the word
would have played (R445). -/
def Dev.sramError (s : Dev) (e : SramErr) (addr : Nat) : Dev :=
  let n := sramName e
  let quiet := e == .vector && s.vFetched addr
  let s1 := if quiet then s else s.logIt (kSramUncorrectable n.2.1 n.2.2) (addr + 2 ^ 32 * n.1)
  s1.sramResponse e addr

/-! ### Clocks (R600) -/

/-- Subsystem, severity, named resource and number of a clock (R600, R604). -/
def clockName (k : ClockId) : Nat × Nat × Nat × Nat × Nat :=
  match k with
  | .island i => (5, 2, 12, i.val, 0)
  | .sequencer => (6, 2, 0, 0, 1)
  | .mgmt => (2, 3, 0, 0, 2)
  | .alwaysOn => (2, 3, 0, 0, 2)
  | .vector => (13, 2, 0, 0, 3)
  | .matrix => (16, 2, 0, 0, 4)
  | .hostLink => (1, 1, 0, 0, 5)
  | .caravan => (1, 1, 0, 0, 5)

/-- The result former stops: STREAM is OFF and every capture IDLE, and each aperture in progress and each pair of a capture is a
lost record. -/
def Dev.streamsStop (s : Dev) (c : Nat) : Dev :=
  let r := s.res c
  let apers := [r.box.isSome, (match r.meas with | some m => m.start.isSome | none => false), (s.seq c).aper.isSome]
  let n := (apers.filter (fun b => b)).length + r.boxOld.length + r.seqOld.length + r.hist.length
  let s1 := s.modRes c (fun r =>
    { r with stream := 0, active := 0, changes := [], box := none, boxOld := [], seqOld := [], meas := none, cap := .idle, hist := [],
             disarm := false })
  let s2 := (if r.meas.isSome then s1.measGone c else s1).modSeq c (fun q => { q with aper := none })
  -- the first lost record: the oldest pair held, else the apertures end now (R308)
  let first := r.hist.getLast?.getD (s2.recAt c c 6 s2.now 0 0 0 (s2.rangeFlags c))
  if n = 0 || r.st.ring = 0xFF then s2 else s2.lose c { first with ring := r.st.ring } n

/-- CLOCK_FAULT (R600). -/
def Dev.clockFault (s : Dev) (k : ClockId) : Dev :=
  let n := clockName k
  let s1 := s.logIt (kClock n.1 n.2.1 n.2.2.1 n.2.2.2.1) n.2.2.2.2
  match k with
  | .island i => s1.forAll ((islandChans i.val).filter s1.chanOk) (fun s c => s.chanResponse c 6 5)
  | .sequencer =>
    let hit := (List.range s1.nChan).filter (fun c => s1.seqBusy c || (s1.chan (s1.leader c)).rc.isSome)
    (s1.forAll hit (fun s c => s.chanResponse c 6 6)).forAll (List.range s1.nChan) Dev.streamsStop
  | .mgmt => s1.escalate
  | .alwaysOn => s1.escalate
  | .vector => s1.resetVector
  | .matrix => s1.forAll ((List.range 8).filter (fun i => (s1.chain i).state == .ready || (s1.chain i).state == .updating)) Dev.chainFault
  | .hostLink => s1.irq 0 irqError
  | .caravan => s1.irq 0 irqError

/-- The reset that follows the escalation of a clock fault. -/
def Dev.clockRow (s : Dev) (k : ClockId) : Dev :=
  match k with
  | .mgmt => (s.clockFault k).assertReset 7 2
  | .alwaysOn => (s.clockFault k).assertReset 7 2
  | _ => s.observed (fun d => d.clockFault k)

/-- An error that resets Denrix leaves nothing for GSTAT to note. -/
def Dev.sramRow (s : Dev) (e : SramErr) (addr : Nat) : Dev :=
  match e with
  | .mgmt _ _ _ => s.sramError e addr
  | .session f _ => if f.val = 0 then s.sramError e addr else s.observed (fun d => d.sramError e addr)
  | _ => s.observed (fun d => d.sramError e addr)

/-! ### Rows -/

/-- SRAM_UNCORRECTABLE (R595). -/
def execSramUncorrectable (err : SramErr) (addr : W32) (s : State) : Out := .next (s.on (fun d => d.sramRow err addr.toNat))
/-- SRAM_CORRECTED (R596). -/
def execSramCorrected (addr : W32) (s : State) : Out := .next (s.on (fun d => d.logIt kSramCorrected addr.toNat))
/-- SCRUB (R596): a pass over the memories, with SCRUB set; what it finds are rows of their own. -/
def execScrub (s : State) : Out :=
  .next (s.on (fun d => if d.sys.opt.integ.testBit 0 then d.modSys (fun y => { y with scrubs := y.scrubs + 1 }) else d))
/-- CLOCK_FAULT (R600). -/
def execClockFault (clk : ClockId) (s : State) : Out := .next (s.on (fun d => d.clockRow clk))

end Sys2Proof.Machine
end

