-- ==== Sys2Proof/Machine/LinkRows.lean ====
section
/-! DEFINITION. The link, configuration space and the test port (R46, R47, R55 to R58, R86, R561, R635, R636). -/

namespace Sys2Proof.Machine

/-- LINK_UP: once the host-link domain is released the link trains (R46, R560). -/
def Dev.linkTrained (s : Dev) (width : LinkWidth) (rate : LinkRate) : Dev :=
  let released := decide (s.sys.scope ≥ 3)
    || (match s.sys.phase with | .firmware => true | .starting => true | .ready => true | _ => false)
  if released then { s with link := { s.link with up := true, width := width, rate := rate } } else s

/-- A field of a function's configuration space is written (R47, R56 to R58, R86, R536). -/
def Dev.cfgWrite (s : Dev) (f : Nat) (w : CfgWrite) : Dev :=
  match w with
  | .bus b l => if f = 0 then { s with link := { s.link with bus := b, last := l } } else s
  | .numVfs n => if f = 0 && !s.link.vfEnable then { s with link := { s.link with numVfs := n.toNat } } else s
  | .vfEnable on => if f ≠ 0 then s else if on then s.vfsOn else s.vfsOff
  | .initiateFlr => s.flrWrite f
  | .msixEnable on => s.modFn f (fun r => { r with msixEnable := on })
  | .functionMask on =>
    let s1 := s.modFn f (fun r => { r with funcMask := on })
    if on then s1 else s1.flushAll f
  | .vectorMask v on =>
    if v.val ≥ vecCount f then s
    else
      let s1 := s.modFn f (fun r => r.modVec v.val (fun x => { x with mask := on }))
      if on then s1 else s1.flushPba f v.val
  | .busMaster on => s.modFn f (fun r => { r with busMaster := on })
  | .cplTimeout disable v => s.modFn f (fun r => { r with cplDisable := disable,
                                                          cplValue := if cplValueOk v.val then v.val else r.cplValue })
  | .maxPayload c => s.modFn f (fun r => { r with maxPayload := c.val })
  | .maxReadRequest c => s.modFn f (fun r => { r with maxReadReq := c.val })
  | .relaxedOrdering on => s.modFn f (fun r => { r with relaxed := on })
  | .ecrc check gen => s.modFn f (fun r => { r with ecrcCheck := check, ecrcGen := gen })
  | .bar second a => if f = 0 then { s with link := s.link.setBar second (barBase a (if second then 4096 else 65536)) } else s
  | .vfBar second a =>
    if f = 0 then { s with link := s.link.setVfBar second (barBase a (if second then pageBytes s.link else 65536)) } else s
  | .systemPageSize v => if f = 0 && pageSizeOk v then { s with link := { s.link with pageSize := v } } else s
  | .tag10 on => s.modFn f (fun r => { r with tag10 := on })
  | .ltr on => if f = 0 then { s with link := { s.link with ltrOn := on } } else s
  | .aspmL1 on => if f = 0 then { s with link := { s.link with aspmL1 := on } } else s
  | .l1Substates a b => if f = 0 then { s with link := { s.link with l11 := a, l12 := b } } else s
  | .powerState d => s.modFn f (fun r => { r with d3hot := d })
  | .aerClear e p => s.modFn f (fun r => { r with aerEcrc := r.aerEcrc && !e, aerPoison := r.aerPoison && !p })
  | .vectorMessage v a d =>
    if v.val ≥ vecCount f then s else s.modFn f (fun r => r.modVec v.val (fun x => { x with addr := a, data := d }))
  | .other _ _ => s

/-- CONFIGURATION_WRITE: it reaches a function that exists and to whose bus the upstream port passes requests (R58), over
a link that is up. -/
def Dev.cfgRow (s : Dev) (f : Nat) (w : CfgWrite) : Dev :=
  if s.link.up && (s.fn f).enabled && s.routed f then s.cfgWrite f w else s

/-- The instruction in force after a load (R635, R636): EXTEST, CLAMP and HIGHZ only while PERST_N is asserted, no IDCODE
register, other codes only with debug access. -/
def tapLoad (jtag : Nat) (perst : Bool) (i : JtagInstr) : JtagInstr :=
  if jtag = 0 then .bypass
  else
    match i with
    | .bypass => .bypass
    | .idcode => .bypass
    | .sample => .sample
    | .extest => if perst then .extest else .bypass
    | .clamp => if perst then .clamp else .bypass
    | .highz => if perst then .highz else .bypass
    | .other c => if jtag = 2 then .other c else .bypass

/-- LINK_UP (R561). -/
def execLinkUp (width : LinkWidth) (rate : LinkRate) (s : State) : Out := .next (s.on (fun d => d.linkTrained width rate))
/-- CONFIGURATION_WRITE (R58). -/
def execConfigurationWrite (fn : FnId) (w : CfgWrite) (s : State) : Out :=
  .next (s.on (fun d => d.observed (fun d => d.cfgRow fn.val w)))
/-- JTAG_INSTRUCTION_LOAD (R636), while the pins' supply is up (R628). -/
def execJtagInstructionLoad (i : JtagInstr) (s : State) : Out :=
  .next (s.on (fun d => if d.sys.denrixGood then d.modSys (fun y => { y with tap := tapLoad y.opt.jtag y.perst i }) else d))

end Sys2Proof.Machine
end

