-- ==== Sys2Proof/Machine/Serve.lean ====
section
/-! DEFINITION. Firmware's service of waiting requests, and the commands that complete later (R107, R111, R112, R541,
R542). -/

namespace Sys2Proof.Machine

/-! ### The command sheets by opcode -/

/-- The command sheets of group 0x01. -/
def cmdsGroup01 : List Cmd :=
  [cmdSessionInfo, cmdSessionStatus, cmdSessionResources]
/-- The command sheets of group 0x02. -/
def cmdsGroup02 : List Cmd :=
  [cmdChanInfo, cmdChanConfig, cmdChanSetSource, cmdChanSetState, cmdChanStatus, cmdGangDefine, cmdGangDissolve]
/-- The command sheets of group 0x03. -/
def cmdsGroup03 : List Cmd :=
  [cmdLoopLoadImage, cmdLoopReadImage, cmdLoopEngineStatus, cmdLoopReadState, cmdLoopLoadDefault, cmdLoopSetStructure,
   cmdLoopStructStatus, cmdLoopSwapGroup, cmdLoopSwap, cmdLoopSwapCancel, cmdLoopRangeStore]
/-- The command sheets of group 0x04. -/
def cmdsGroup04 : List Cmd :=
  [cmdSeqWrite, cmdSeqRead, cmdSeqConfig, cmdSeqArm, cmdSeqStart, cmdSeqStop, cmdSeqStatus, cmdHandlerConfig,
   cmdHandlerBin, cmdHandlerStatus]
/-- The command sheets of group 0x05. -/
def cmdsGroup05 : List Cmd :=
  [cmdResRingConfig, cmdResRingStatus, cmdResChanConfig, cmdResMeasure, cmdResCapture, cmdResFlush, cmdResChanStatus]
/-- The command sheets of group 0x06. -/
def cmdsGroup06 : List Cmd :=
  [cmdSvyTableWrite, cmdSvyTableRead, cmdSvyConfig, cmdSvyData, cmdSvyUrgent, cmdSvyStatus]
/-- The command sheets of group 0x07. -/
def cmdsGroup07 : List Cmd :=
  [cmdCalSelf, cmdCalStatus, cmdCalTraceBegin, cmdCalTracePoint, cmdCalTraceEnd, cmdCalStore]
/-- The command sheets of group 0x08. -/
def cmdsGroup08 : List Cmd :=
  [cmdVecBankConfig, cmdVecClock, cmdVecConfig, cmdVecWrite, cmdVecLoad, cmdVecSegCommit, cmdVecRead, cmdVecStart,
   cmdVecStop, cmdVecStatus]
/-- The command sheets of group 0x09. -/
def cmdsGroup09 : List Cmd :=
  [cmdEvtRoute, cmdEvtRouteStatus, cmdEvtOverrun, cmdEvtRead, cmdEvtLineConfig, cmdEvtTimer]
/-- The command sheets of group 0x0A. -/
def cmdsGroup0A : List Cmd :=
  [cmdTimeStatus, cmdTimeRefConfig, cmdTimeSetRate, cmdTimeSyncConfig, cmdTimeSet, cmdTimeSkewMeasure, cmdTimePair]
/-- The command sheets of group 0x0B. -/
def cmdsGroup0B : List Cmd :=
  [cmdMxChainStatus, cmdMxSetMembers, cmdMxStage, cmdMxApply, cmdMxRead, cmdMxWearRead, cmdMxLock, cmdMxChainCtl]
/-- The command sheets of group 0x0C. -/
def cmdsGroup0C : List Cmd :=
  [cmdModInfo, cmdModRead, cmdModRescan]
/-- The command sheets of group 0x0D. -/
def cmdsGroup0D : List Cmd :=
  [cmdAdmAssign, cmdAdmRelease, cmdAdmFuncConfig, cmdAdmChanPolicy, cmdAdmTollgate, cmdAdmHold, cmdAdmQuery,
   cmdAdmSessionReset]
/-- The command sheets of group 0x0E. -/
def cmdsGroup0E : List Cmd :=
  [cmdSysReset, cmdSysBlockReset, cmdSysPower, cmdSysOptRead, cmdSysOptWrite, cmdSysFwLoad, cmdSysFwCommit,
   cmdSysStoreStatus]
/-- The command sheets of group 0x0F. -/
def cmdsGroup0F : List Cmd :=
  [cmdDiagEcho, cmdLogRead, cmdFuncStatus, cmdLogClearLost, cmdLogArchiveRead]
/-- Every command sheet. -/
def allCmds : List Cmd :=
  cmdsGroup01 ++ cmdsGroup02 ++ cmdsGroup03 ++ cmdsGroup04 ++ cmdsGroup05 ++ cmdsGroup06 ++ cmdsGroup07 ++ cmdsGroup08
    ++ cmdsGroup09 ++ cmdsGroup0A ++ cmdsGroup0B ++ cmdsGroup0C ++ cmdsGroup0D ++ cmdsGroup0E ++ cmdsGroup0F

/-- The sheet of an opcode; none for an opcode the tables do not list. -/
def cmdOf (op : Nat) : Option Cmd := allCmds.find? (fun c => c.op == op)

/-- A request is taken: its command runs, or check 2 of R94 ends it. -/
def Dev.takeUp (s : Dev) (j : Job) : Dev :=
  match cmdOf j.op with
  | some c => runCmd c s j
  | none => s.done j (if headerOk j then stOpcode else stArg) []

/-- TOLLGATE_SERVE: the next waiting request; in DEEP requests wait for the wake (R542, R573). -/
def Dev.tollgateServe (s : Dev) : Dev :=
  if s.sys.power = 3 then s
  else
    match tollgateNext s with
    | none => s
    | some (j, fresh) => (s.takeJob j fresh).takeUp j

/-- A CHAN_SET_STATE to OFF waits behind a command for the same channel (R142, R222). -/
def Dev.offBehind (s : Dev) (r : Running) : Bool :=
  s.tg.running.any (fun x => x.live && !x.started && x.job.op == 0x0204 && u8 x.job.p 1 == 0
    && x.job.ch == r.job.ch && decide (x.job.id > r.job.id))

/-- COMMAND_WAIT_RELEASE: a command that waited starts once nothing before it stands in its way (R107, R108). A transition or
range change that starts with an OFF waiting behind it ends at once (R142, R222). -/
def Dev.waitRelease (s : Dev) (id : Nat) : Dev :=
  if s.sys.power = 3 then s
  else
    match s.running? id with
    | none => s
    | some r =>
      match cmdOf r.job.op with
      | some c =>
        let s1 := releaseCmd c s r
        if (r.job.op == 0x0202 || r.job.op == 0x0204) && s1.offBehind r then s1.preemptOff (s1.leader r.job.ch) else s1
      | none => s

/-! ### Completion by firmware -/

/-- MOD_READ completes with the bytes read. -/
def modReadEnd (j : Job) (x : Ext) : Nat × List Byte :=
  if x.ok then (stOk, slice x.data 0 (u8 j.p 2)) else (stIntegrity, [])

/-- The CRC-32C of the persistent log's header row is right (R608). -/
def Log.headerOk (l : Log) : Bool := l.header.length == 1024 && u32 l.header 1020 == (crc32c (l.header.take 1020)).toNat

/-- LOG_ARCHIVE_READ of the persistent log completes: VALID shows the header's CRC, and failing rows met are replaced (R577, R608). -/
def archiveEnd (s : Dev) (j : Job) (x : Ext) : Dev × Nat × List Byte :=
  let r := archiveRead s (u32 j.p 4) (u8 j.p 1)
  let s1 := (s.rowsSeen (logSpans (r.1 - r.2.2.length) r.2.2.length) x.rows).1
  if x.ok then
    (s1, stOk, w8 (bitAt s.log.headerOk 0 + bitAt r.2.1 1) ++ w8 r.2.2.length ++ zeros 2 ++ w32 r.1 ++ r.2.2.flatMap entryBytes)
  else (s1, stIntegrity, [])

/-- CAL_STORE completes: failing rows are replaced, and the read-back decides (R416, R577, R578). -/
def Dev.calStoreEnd (s : Dev) (id : Nat) (x : Ext) : Dev × Nat × List Byte :=
  let a := s.rowsWrite [copySpan 3 (bit (!s.calNewer1))] x.rows
  a.1.calStored id (x.ok && a.2)

/-- How a command completes whose end is firmware's own work or the outside's: the device after it, the final status and the
payload. None for a command that another row completes, or whose completion is not due. -/
def Dev.complete (s : Dev) (r : Running) (x : Ext) : Option (Dev × Nat × List Byte) :=
  let j := r.job
  match j.op with
  | 0x0404 => some (s.armAll j.chans)
  | 0x0405 => some (s.seqStartEnd r)
  | 0x0501 => some (s.disableRing j.f j.ring, stOk, w64 0)
  | 0x0703 => if s.halfLatched j.ch then some (s.traceOpen, stOk, []) else none
  | 0x0706 => some (s.calStoreEnd j.id x)
  | 0x0802 => let a := s.vClockSet (u32 j.p 0); some (a.1, stOk, w64 a.2)
  | 0x0805 => some (s.vLoadEnd j x.ok x.data)
  | 0x0806 => some (s.vCommit (u8 j.p 0))
  | 0x0C02 => some (s, modReadEnd j x)
  | 0x0D01 => some (s, stOk, [])
  | 0x0D02 => some (s, stOk, [])
  | 0x0E03 => if u8 j.p 0 = 3 then none else some (s, powerEnd r)
  | 0x0E05 => some (s.optWriteEnd j x)
  | 0x0E06 => some (s.fwLoadEnd j x)
  | 0x0E07 => some (s.fwCommitEnd j x)
  | 0x0F05 => some (archiveEnd s j x)
  | _ => none

/-- FINAL_REPLY: a command that has completed, or that completes now, leaves with its final reply (R99, R112). -/
def Dev.finalRow (s : Dev) (id : Nat) (x : Ext) : Dev :=
  if s.asleep then s
  else
    match s.running? id with
    | none => s
    | some r =>
      match r.result with
      | some p => s.leaves r p.1 p.2
      | none =>
        if !r.started then s
        else match s.complete r x with | some e => e.1.leaves r e.2.1 e.2.2 | none => s

/-! ### Timeout (R112) -/

/-- A rediscovery that times out leaves its chain FAILED, with a reason that stays open. -/
def Dev.chainTimeout (s : Dev) (k : Nat) : Dev :=
  let c := s.chain k
  let ids := c.queue.filterMap id ++ (match c.update with | some u => u.cmds | none => [])
  let s1 := (s.releaseChain k).modChain k (fun c =>
    { c with state := .failed, reason := 1 + s.freeVal % 4, discCmd := none, wbCmd := none, wbWant := false, update := none, queue := [],
             opening := [] })
  s1.freeNext.forAll ids (fun s i => s.finish i stIntegrity [])

/-- A block reset that times out: the block has been reset, and a later command may repeat it. -/
def Dev.blockTimeout (s : Dev) (j : Job) : Dev :=
  let b := u8 j.p 0
  let i := u8 j.p 1
  let s1 := if b = 4 then
      let t := if (s.chain i).discCmd = some j.id then s else s.resetChain i j.id
      (if (t.chain i).state == .discovering then t else t.discBegin i).modChain i (fun c => { c with discCmd := none })
    else s.blockReset b i j.id
  s1.modSys (fun y => { y with blockReset := y.blockReset.filter (fun p => p.1 != blockKey b i) })

/-- The effects that a command's sheet lists for ST_TIMEOUT, and its payload. -/
def Dev.timeoutEffect (s : Dev) (r : Running) : Dev × List Byte :=
  let j := r.job
  let l := s.leader j.ch
  let unqueue := s.modSvy (fun y => { y with urgent := y.urgent.filter (fun k => k.cmd != some j.id) })
  match j.op with
  | 0x0202 => (if (s.chan l).rc.isSome then s.rcFail l stTimeout else s.toSafe l stTimeout stTimeout 5, [])
  | 0x0204 => (s.toSafe l stTimeout stTimeout 5, [])
  | 0x0605 => (unqueue, [])
  | 0x0701 => s.calTimeout j.id
  | 0x0703 => (s.traceUndo, [])
  | 0x0704 => (s.modCal (fun k => { k with trace := k.trace.map (fun t => { t with run := none }) }), [])
  | 0x0706 => ((s.calStored j.id false).1, [])
  | 0x0801 => (unqueue, [])
  | 0x0805 => (s.vLoadUndefined j, [])
  | 0x0A03 => (s.modTb (fun b => { b with rateD := none }), [])
  | 0x0A05 => (s.modTb (fun b => { b with timeSet := none }), [])
  | 0x0B04 => (s.forAll (r.data.map Int.toNat) Dev.chainFault, [])
  | 0x0B08 => (if u8 j.p 1 = 1 then s.chainTimeout (u8 j.p 0) else s.modChain (u8 j.p 0) (fun c => { c with wbCmd := none }), [])
  | 0x0C03 => ((s.modStage (u16 j.p 0) (fun g => { g with mstate := .absent, ident := none, rescan := none })).logIt
      (kModule 3 (u16 j.p 0)) (MState.absent.code + 256), [])
  | 0x0E02 => (s.blockTimeout j, [])
  | 0x0E03 => (if u8 j.p 0 = 3 && s.sys.deepEntering then s.unrest 2 else s, [])
  | 0x0E05 => (s.storeTimeout j, [])
  | 0x0E06 => (s.storeTimeout j, [])
  | 0x0E07 => (s.storeTimeout j, [])
  | _ => (s, [])

/-- A started command that COMMAND_TIMEOUT does not end: one that has its one reply still to make within its bound, a SYS_POWER
whose state has taken effect, and ADM_SESSION_RESET, whose sheet names no ST_TIMEOUT (log entry 36). -/
def Running.lasts (r : Running) : Bool :=
  r.direct || (r.started && (r.job.op == 0x0D08 || (r.job.op == 0x0E03 && u8 r.job.p 0 != 3)))

/-- COMMAND_TIMEOUT: a pending command ends with ST_TIMEOUT, before its effects end it otherwise (R112). -/
def Dev.timeoutRow (s : Dev) (id : Nat) : Dev :=
  match s.running? id with
  | none => s
  | some r =>
    if !r.live || r.lasts then s
    else if !r.started then s.finish id stTimeout []
    else
      ((s.finish id stTimeout (s.timeoutEffect r).2).timeoutEffect r).1

/-! ### Rows -/

/-- TOLLGATE_SERVE (R542). -/
def execTollgateServe (s : State) : Out := .next (s.on (fun d => d.observed Dev.tollgateServe))
/-- COMMAND_WAIT_RELEASE (R107). -/
def execCommandWaitRelease (id : Nat) (s : State) : Out := .next (s.on (fun d => d.observed (fun d => d.waitRelease id)))
/-- FINAL_REPLY (R112). -/
def execFinalReply (id : Nat) (ext : Ext) (s : State) : Out := .next (s.on (fun d => d.observed (fun d => d.finalRow id ext)))
/-- COMMAND_TIMEOUT (R112). -/
def execCommandTimeout (id : Nat) (s : State) : Out := .next (s.on (fun d => d.observed (fun d => d.timeoutRow id)))

end Sys2Proof.Machine
end

