-- ==== Sys2Proof/Machine/Dispatch.lean ====
section
/-! DEFINITION. The dispatch: one arm per command, each one call of its meaning. -/

namespace Sys2Proof.Machine

def exec (i : Instr) (s : State) : Host.Outcome State Fault Refusal :=
  match i with
  | .registerWrite fn off w => Sys2Proof.Machine.execRegisterWrite fn off w s
  | .registerAccessBadSize fn off size write => Sys2Proof.Machine.execRegisterAccessBadSize fn off size write s
  | .unassignedOffsetAccess fn off write val => Sys2Proof.Machine.execUnassignedOffsetAccess fn off write val s
  | .requestWindowWrite fn word val => Sys2Proof.Machine.execRequestWindowWrite fn word val s
  | .replyWindowWrite fn word val => Sys2Proof.Machine.execReplyWindowWrite fn word val s
  | .submit fn val => Sys2Proof.Machine.execSubmit fn val s
  | .replyClear fn w => Sys2Proof.Machine.execReplyClear fn w s
  | .replyEntersWindow fn => Sys2Proof.Machine.execReplyEntersWindow fn s
  | .tollgateServe => Sys2Proof.Machine.execTollgateServe s
  | .tollgateAge caravan pos => Sys2Proof.Machine.execTollgateAge caravan pos s
  | .commandWaitRelease id => Sys2Proof.Machine.execCommandWaitRelease id s
  | .finalReply id ext => Sys2Proof.Machine.execFinalReply id ext s
  | .commandTimeout id => Sys2Proof.Machine.execCommandTimeout id s
  | .cmdrEnable fn val => Sys2Proof.Machine.execCmdrEnable fn val s
  | .idxReset fn val => Sys2Proof.Machine.execIdxReset fn val s
  | .cmdrTailWrite fn val => Sys2Proof.Machine.execCmdrTailWrite fn val s
  | .ringEntryFetch fn bytes => Sys2Proof.Machine.execRingEntryFetch fn bytes s
  | .fetchErr fn => Sys2Proof.Machine.execFetchErr fn s
  | .ringReplyWrite fn entry => Sys2Proof.Machine.execRingReplyWrite fn entry s
  | .evtFire fn val => Sys2Proof.Machine.execEvtFire fn val s
  | .timeSnapLoRead fn => Sys2Proof.Machine.execTimeSnapLoRead fn s
  | .ringTailWrite fn ring val => Sys2Proof.Machine.execRingTailWrite fn ring val s
  | .irqCauseWrite fn w => Sys2Proof.Machine.execIrqCauseWrite fn w s
  | .irqMaskWrite fn val => Sys2Proof.Machine.execIrqMaskWrite fn val s
  | .holdoffExpiry fn vec => Sys2Proof.Machine.execHoldoffExpiry fn vec s
  | .msixUnmask fn vec => Sys2Proof.Machine.execMsixUnmask fn vec s
  | .ecrcDiscard tlp => Sys2Proof.Machine.execEcrcDiscard tlp s
  | .poisonedWrite tlp => Sys2Proof.Machine.execPoisonedWrite tlp s
  | .vfEnableSet => Sys2Proof.Machine.execVfEnableSet s
  | .vfEnableClear => Sys2Proof.Machine.execVfEnableClear s
  | .sessionInfo q => Sys2Proof.Machine.execSessionInfo q s
  | .sessionStatus q => Sys2Proof.Machine.execSessionStatus q s
  | .sessionResources q => Sys2Proof.Machine.execSessionResources q s
  | .diagEcho q => Sys2Proof.Machine.execDiagEcho q s
  | .logRead q => Sys2Proof.Machine.execLogRead q s
  | .funcStatus q => Sys2Proof.Machine.execFuncStatus q s
  | .logClearLost q => Sys2Proof.Machine.execLogClearLost q s
  | .logArchiveRead q => Sys2Proof.Machine.execLogArchiveRead q s
  | .chanInfo q => Sys2Proof.Machine.execChanInfo q s
  | .chanConfig q => Sys2Proof.Machine.execChanConfig q s
  | .chanSetSource q => Sys2Proof.Machine.execChanSetSource q s
  | .chanSetState q => Sys2Proof.Machine.execChanSetState q s
  | .chanStatus q => Sys2Proof.Machine.execChanStatus q s
  | .gangDefine q => Sys2Proof.Machine.execGangDefine q s
  | .gangDissolve q => Sys2Proof.Machine.execGangDissolve q s
  | .transitionSettleEnd ch => Sys2Proof.Machine.execTransitionSettleEnd ch s
  | .stageWordLatch m => Sys2Proof.Machine.execStageWordLatch m s
  | .stageConfirmTransfer m readback => Sys2Proof.Machine.execStageConfirmTransfer m readback s
  | .loopLoadImage q => Sys2Proof.Machine.execLoopLoadImage q s
  | .loopReadImage q => Sys2Proof.Machine.execLoopReadImage q s
  | .loopEngineStatus q => Sys2Proof.Machine.execLoopEngineStatus q s
  | .loopReadState q => Sys2Proof.Machine.execLoopReadState q s
  | .loopLoadDefault q => Sys2Proof.Machine.execLoopLoadDefault q s
  | .loopSetStructure q => Sys2Proof.Machine.execLoopSetStructure q s
  | .loopStructStatus q => Sys2Proof.Machine.execLoopStructStatus q s
  | .loopSwapGroup q => Sys2Proof.Machine.execLoopSwapGroup q s
  | .loopSwap q => Sys2Proof.Machine.execLoopSwap q s
  | .loopSwapCancel q => Sys2Proof.Machine.execLoopSwapCancel q s
  | .loopRangeStore q => Sys2Proof.Machine.execLoopRangeStore q s
  | .swapCommit id => Sys2Proof.Machine.execSwapCommit id s
  | .swapEventLatch id => Sys2Proof.Machine.execSwapEventLatch id s
  | .swapBoundary id => Sys2Proof.Machine.execSwapBoundary id s
  | .sampleInstant samples marks => Sys2Proof.Machine.execSampleInstant samples marks s
  | .upstreamFrameArrival residue codeFaults => Sys2Proof.Machine.execUpstreamFrameArrival residue codeFaults s
  | .upstreamFrameMissing => Sys2Proof.Machine.execUpstreamFrameMissing s
  | .downstreamLaunch late => Sys2Proof.Machine.execDownstreamLaunch late s
  | .downstreamFrameAtHelon => Sys2Proof.Machine.execDownstreamFrameAtHelon s
  | .downstreamFrameMissing => Sys2Proof.Machine.execDownstreamFrameMissing s
  | .seamUp => Sys2Proof.Machine.execSeamUp s
  | .seamLaneLockLoss => Sys2Proof.Machine.execSeamLaneLockLoss s
  | .sideChannelPacket up seq => Sys2Proof.Machine.execSideChannelPacket up seq s
  | .sideChannelRetransmit up seq => Sys2Proof.Machine.execSideChannelRetransmit up seq s
  | .heartbeatIncrement => Sys2Proof.Machine.execHeartbeatIncrement s
  | .heartbeatLoss => Sys2Proof.Machine.execHeartbeatLoss s
  | .hemTrip ch cmp => Sys2Proof.Machine.execHemTrip ch cmp s
  | .hemSelftest ch cmp spare pass => Sys2Proof.Machine.execHemSelftest ch cmp spare pass s
  | .selftestOverdue quadrant => Sys2Proof.Machine.execSelftestOverdue quadrant s
  | .hemClkFault outside => Sys2Proof.Machine.execHemClkFault outside s
  | .convClkLoss => Sys2Proof.Machine.execConvClkLoss s
  | .intlkAssert => Sys2Proof.Machine.execIntlkAssert s
  | .intlkNegate => Sys2Proof.Machine.execIntlkNegate s
  | .holdTimeExpiry => Sys2Proof.Machine.execHoldTimeExpiry s
  | .holdRampTimeout => Sys2Proof.Machine.execHoldRampTimeout s
  | .rangePrimingDone ch => Sys2Proof.Machine.execRangePrimingDone ch s
  | .rangeSettleExpiry ch => Sys2Proof.Machine.execRangeSettleExpiry ch s
  | .rangeChangeTimeout ch => Sys2Proof.Machine.execRangeChangeTimeout ch s
  | .railStale ch => Sys2Proof.Machine.execRailStale ch s
  | .seqWrite q => Sys2Proof.Machine.execSeqWrite q s
  | .seqRead q => Sys2Proof.Machine.execSeqRead q s
  | .seqConfig q => Sys2Proof.Machine.execSeqConfig q s
  | .seqArm q => Sys2Proof.Machine.execSeqArm q s
  | .seqStart q => Sys2Proof.Machine.execSeqStart q s
  | .seqStop q => Sys2Proof.Machine.execSeqStop q s
  | .seqStatus q => Sys2Proof.Machine.execSeqStatus q s
  | .seqStartEvent ch => Sys2Proof.Machine.execSeqStartEvent ch s
  | .seqStopEvent ch => Sys2Proof.Machine.execSeqStopEvent ch s
  | .seqTrigger ch input => Sys2Proof.Machine.execSeqTrigger ch input s
  | .entryCurrent ch => Sys2Proof.Machine.execEntryCurrent ch s
  | .sourceInstant ch => Sys2Proof.Machine.execSourceInstant ch s
  | .apertureStart ch => Sys2Proof.Machine.execApertureStart ch s
  | .apertureEnd ch => Sys2Proof.Machine.execApertureEnd ch s
  | .waitTimeout ch => Sys2Proof.Machine.execWaitTimeout ch s
  | .endAction ch => Sys2Proof.Machine.execEndAction ch s
  | .handlerConfig q => Sys2Proof.Machine.execHandlerConfig q s
  | .handlerBin q => Sys2Proof.Machine.execHandlerBin q s
  | .handlerStatus q => Sys2Proof.Machine.execHandlerStatus q s
  | .hsSot h => Sys2Proof.Machine.execHsSot h s
  | .hsEot h => Sys2Proof.Machine.execHsEot h s
  | .eotPulseEnd h => Sys2Proof.Machine.execEotPulseEnd h s
  | .resRingConfig q => Sys2Proof.Machine.execResRingConfig q s
  | .resRingStatus q => Sys2Proof.Machine.execResRingStatus q s
  | .resChanConfig q => Sys2Proof.Machine.execResChanConfig q s
  | .resMeasure q => Sys2Proof.Machine.execResMeasure q s
  | .resCapture q => Sys2Proof.Machine.execResCapture q s
  | .resFlush q => Sys2Proof.Machine.execResFlush q s
  | .resChanStatus q => Sys2Proof.Machine.execResChanStatus q s
  | .measEvent ch => Sys2Proof.Machine.execMeasEvent ch s
  | .boxApertureEnd ch => Sys2Proof.Machine.execBoxApertureEnd ch s
  | .wsTrig ch => Sys2Proof.Machine.execWsTrig ch s
  | .rearmExpiry ch => Sys2Proof.Machine.execRearmExpiry ch s
  | .waitSpaceArm ch => Sys2Proof.Machine.execWaitSpaceArm ch s
  | .gapInsert stream => Sys2Proof.Machine.execGapInsert stream s
  | .flushTimer fn ring => Sys2Proof.Machine.execFlushTimer fn ring s
  | .caravanAdmit => Sys2Proof.Machine.execCaravanAdmit s
  | .blockWrite fn ring => Sys2Proof.Machine.execBlockWrite fn ring s
  | .svyTableWrite q => Sys2Proof.Machine.execSvyTableWrite q s
  | .svyTableRead q => Sys2Proof.Machine.execSvyTableRead q s
  | .svyConfig q => Sys2Proof.Machine.execSvyConfig q s
  | .svyData q => Sys2Proof.Machine.execSvyData q s
  | .svyUrgent q => Sys2Proof.Machine.execSvyUrgent q s
  | .svyStatus q => Sys2Proof.Machine.execSvyStatus q s
  | .surveyTimerTick => Sys2Proof.Machine.execSurveyTimerTick s
  | .surveyStart => Sys2Proof.Machine.execSurveyStart s
  | .scanBegin => Sys2Proof.Machine.execScanBegin s
  | .surveyEntryEnd samples => Sys2Proof.Machine.execSurveyEntryEnd samples s
  | .surveyResult delivered => Sys2Proof.Machine.execSurveyResult delivered s
  | .surveyWatchdog => Sys2Proof.Machine.execSurveyWatchdog s
  | .calSelf q => Sys2Proof.Machine.execCalSelf q s
  | .calStatus q => Sys2Proof.Machine.execCalStatus q s
  | .calTraceBegin q => Sys2Proof.Machine.execCalTraceBegin q s
  | .calTracePoint q => Sys2Proof.Machine.execCalTracePoint q s
  | .calTraceEnd q => Sys2Proof.Machine.execCalTraceEnd q s
  | .calStore q => Sys2Proof.Machine.execCalStore q s
  | .calRunStart => Sys2Proof.Machine.execCalRunStart s
  | .referenceCheckEnd codes => Sys2Proof.Machine.execReferenceCheckEnd codes s
  | .groupSlotStart => Sys2Proof.Machine.execGroupSlotStart s
  | .groupSlotEnd results => Sys2Proof.Machine.execGroupSlotEnd results s
  | .surveyCalEnd result => Sys2Proof.Machine.execSurveyCalEnd result s
  | .vecBankConfig q => Sys2Proof.Machine.execVecBankConfig q s
  | .vecClock q => Sys2Proof.Machine.execVecClock q s
  | .vecConfig q => Sys2Proof.Machine.execVecConfig q s
  | .vecWrite q => Sys2Proof.Machine.execVecWrite q s
  | .vecLoad q => Sys2Proof.Machine.execVecLoad q s
  | .vecSegCommit q => Sys2Proof.Machine.execVecSegCommit q s
  | .vecRead q => Sys2Proof.Machine.execVecRead q s
  | .vecStart q => Sys2Proof.Machine.execVecStart q s
  | .vecStop q => Sys2Proof.Machine.execVecStop q s
  | .vecStatus q => Sys2Proof.Machine.execVecStatus q s
  | .vectorCycle receivers uncorrectable => Sys2Proof.Machine.execVectorCycle receivers uncorrectable s
  | .failLimitEnd => Sys2Proof.Machine.execFailLimitEnd s
  | .vecStartEvent => Sys2Proof.Machine.execVecStartEvent s
  | .vecStopEvent => Sys2Proof.Machine.execVecStopEvent s
  | .vecTrig input => Sys2Proof.Machine.execVecTrig input s
  | .evtRoute q => Sys2Proof.Machine.execEvtRoute q s
  | .evtRouteStatus q => Sys2Proof.Machine.execEvtRouteStatus q s
  | .evtOverrun q => Sys2Proof.Machine.execEvtOverrun q s
  | .evtRead q => Sys2Proof.Machine.execEvtRead q s
  | .evtLineConfig q => Sys2Proof.Machine.execEvtLineConfig q s
  | .evtTimer q => Sys2Proof.Machine.execEvtTimer q s
  | .chassisLineEdge line high => Sys2Proof.Machine.execChassisLineEdge line high s
  | .timerPulse t => Sys2Proof.Machine.execTimerPulse t s
  | .host fn route => Sys2Proof.Machine.execHost fn route s
  | .pfVec v => Sys2Proof.Machine.execPfVec v s
  | .chanOff ch => Sys2Proof.Machine.execChanOff ch s
  | .routeFault route => Sys2Proof.Machine.execRouteFault route s
  | .lineStuck line => Sys2Proof.Machine.execLineStuck line s
  | .timeStatus q => Sys2Proof.Machine.execTimeStatus q s
  | .timeRefConfig q => Sys2Proof.Machine.execTimeRefConfig q s
  | .timeSetRate q => Sys2Proof.Machine.execTimeSetRate q s
  | .timeSyncConfig q => Sys2Proof.Machine.execTimeSyncConfig q s
  | .timeSet q => Sys2Proof.Machine.execTimeSet q s
  | .timeSkewMeasure q => Sys2Proof.Machine.execTimeSkewMeasure q s
  | .timePair q => Sys2Proof.Machine.execTimePair q s
  | .referenceLoss pcie => Sys2Proof.Machine.execReferenceLoss pcie s
  | .referencePresent pcie => Sys2Proof.Machine.execReferencePresent pcie s
  | .lockAcquired => Sys2Proof.Machine.execLockAcquired s
  | .syncInEdge tR => Sys2Proof.Machine.execSyncInEdge tR s
  | .realignment => Sys2Proof.Machine.execRealignment s
  | .rateInstant => Sys2Proof.Machine.execRateInstant s
  | .timeLoad => Sys2Proof.Machine.execTimeLoad s
  | .scheduledStart kind => Sys2Proof.Machine.execScheduledStart kind s
  | .mxChainStatus q => Sys2Proof.Machine.execMxChainStatus q s
  | .mxSetMembers q => Sys2Proof.Machine.execMxSetMembers q s
  | .mxStage q => Sys2Proof.Machine.execMxStage q s
  | .mxApply q => Sys2Proof.Machine.execMxApply q s
  | .mxRead q => Sys2Proof.Machine.execMxRead q s
  | .mxWearRead q => Sys2Proof.Machine.execMxWearRead q s
  | .mxLock q => Sys2Proof.Machine.execMxLock q s
  | .mxChainCtl q => Sys2Proof.Machine.execMxChainCtl q s
  | .mxApplyEvent k => Sys2Proof.Machine.execMxApplyEvent k s
  | .mxUpdateStart k => Sys2Proof.Machine.execMxUpdateStart k s
  | .mxEchoCompare k echo => Sys2Proof.Machine.execMxEchoCompare k echo s
  | .mxReleaseSettleEnd k => Sys2Proof.Machine.execMxReleaseSettleEnd k s
  | .mxDone k => Sys2Proof.Machine.execMxDone k s
  | .mxPeriodicConfirm k echo => Sys2Proof.Machine.execMxPeriodicConfirm k echo s
  | .wearWriteback k results => Sys2Proof.Machine.execWearWriteback k results s
  | .darnVerify k position spare result => Sys2Proof.Machine.execDarnVerify k position spare result s
  | .chainDiscovery k found => Sys2Proof.Machine.execChainDiscovery k found s
  | .modInfo q => Sys2Proof.Machine.execModInfo q s
  | .modRead q => Sys2Proof.Machine.execModRead q s
  | .modRescan q => Sys2Proof.Machine.execModRescan q s
  | .stageDiscovery m found => Sys2Proof.Machine.execStageDiscovery m found s
  | .admAssign q => Sys2Proof.Machine.execAdmAssign q s
  | .admRelease q => Sys2Proof.Machine.execAdmRelease q s
  | .admFuncConfig q => Sys2Proof.Machine.execAdmFuncConfig q s
  | .admChanPolicy q => Sys2Proof.Machine.execAdmChanPolicy q s
  | .admTollgate q => Sys2Proof.Machine.execAdmTollgate q s
  | .admHold q => Sys2Proof.Machine.execAdmHold q s
  | .admQuery q => Sys2Proof.Machine.execAdmQuery q s
  | .admSessionReset q => Sys2Proof.Machine.execAdmSessionReset q s
  | .lossPolicy ch => Sys2Proof.Machine.execLossPolicy ch s
  | .initiateFunctionLevelReset fn => Sys2Proof.Machine.execInitiateFunctionLevelReset fn s
  | .flrRingDrainDone fn => Sys2Proof.Machine.execFlrRingDrainDone fn s
  | .flrCompletionsDone fn => Sys2Proof.Machine.execFlrCompletionsDone fn s
  | .flrResourcesReturn fn => Sys2Proof.Machine.execFlrResourcesReturn fn s
  | .flrComplete fn => Sys2Proof.Machine.execFlrComplete fn s
  | .lateCpl fn => Sys2Proof.Machine.execLateCpl fn s
  | .sysReset q => Sys2Proof.Machine.execSysReset q s
  | .sysBlockReset q => Sys2Proof.Machine.execSysBlockReset q s
  | .sysPower q => Sys2Proof.Machine.execSysPower q s
  | .sysOptRead q => Sys2Proof.Machine.execSysOptRead q s
  | .sysOptWrite q => Sys2Proof.Machine.execSysOptWrite q s
  | .sysFwLoad q => Sys2Proof.Machine.execSysFwLoad q s
  | .sysFwCommit q => Sys2Proof.Machine.execSysFwCommit q s
  | .sysStoreStatus q => Sys2Proof.Machine.execSysStoreStatus q s
  | .blockIdleOrTimeout block index forced => Sys2Proof.Machine.execBlockIdleOrTimeout block index forced s
  | .vaonPowerOn => Sys2Proof.Machine.execVaonPowerOn s
  | .denrixPowerOn => Sys2Proof.Machine.execDenrixPowerOn s
  | .helonPowerOn => Sys2Proof.Machine.execHelonPowerOn s
  | .resetN => Sys2Proof.Machine.execResetN s
  | .perstN => Sys2Proof.Machine.execPerstN s
  | .hotReset => Sys2Proof.Machine.execHotReset s
  | .watchdog dump => Sys2Proof.Machine.execWatchdog dump s
  | .lockstep pair dump => Sys2Proof.Machine.execLockstep pair dump s
  | .fwFatal pair addr dump => Sys2Proof.Machine.execFwFatal pair addr dump s
  | .seamLossEscalation => Sys2Proof.Machine.execSeamLossEscalation s
  | .thermal => Sys2Proof.Machine.execThermal s
  | .thermalWarn hot => Sys2Proof.Machine.execThermalWarn hot s
  | .smbMgmtResetPackage => Sys2Proof.Machine.execSmbMgmtResetPackage s
  | .smbMgmtResetDenrix => Sys2Proof.Machine.execSmbMgmtResetDenrix s
  | .smbMgmtReadStatus => Sys2Proof.Machine.execSmbMgmtReadStatus s
  | .smbMgmtInvalid code data pecOk => Sys2Proof.Machine.execSmbMgmtInvalid code data pecOk s
  | .resetNegation => Sys2Proof.Machine.execResetNegation s
  | .optionLoadDone => Sys2Proof.Machine.execOptionLoadDone s
  | .domainRelease => Sys2Proof.Machine.execDomainRelease s
  | .eccInitDone => Sys2Proof.Machine.execEccInitDone s
  | .firmwareBankCheck => Sys2Proof.Machine.execFirmwareBankCheck s
  | .ready => Sys2Proof.Machine.execReady s
  | .deepEntryDone => Sys2Proof.Machine.execDeepEntryDone s
  | .wake cause => Sys2Proof.Machine.execWake cause s
  | .wakeDone => Sys2Proof.Machine.execWakeDone s
  | .sramUncorrectable err addr => Sys2Proof.Machine.execSramUncorrectable err addr s
  | .sramCorrected addr => Sys2Proof.Machine.execSramCorrected addr s
  | .scrub => Sys2Proof.Machine.execScrub s
  | .clockFault clk => Sys2Proof.Machine.execClockFault clk s
  | .logFifoDrain => Sys2Proof.Machine.execLogFifoDrain s
  | .logEntryFinal => Sys2Proof.Machine.execLogEntryFinal s
  | .persistentLogWrite rows => Sys2Proof.Machine.execPersistentLogWrite rows s
  | .helonRailFall => Sys2Proof.Machine.execHelonRailFall s
  | .denrixRailFall => Sys2Proof.Machine.execDenrixRailFall s
  | .linkUp width rate => Sys2Proof.Machine.execLinkUp width rate s
  | .configurationWrite fn w => Sys2Proof.Machine.execConfigurationWrite fn w s
  | .sysResetAssertion => Sys2Proof.Machine.execSysResetAssertion s
  | .jtagInstructionLoad ir => Sys2Proof.Machine.execJtagInstructionLoad ir s

end Sys2Proof.Machine
end

