-- ==== Sys2Proof/Safety.lean ====
section
/-! DEFINITION. What the statements are written in: the invariant of a state, when a mailbox command runs at once and what
its answer is, and the offsets that BAR0 gives a function. -/

namespace Sys2Proof.Machine

/-- Host memory has its canonical form. -/
def State.Inv (s : State) : Prop := Memory.wf s.mem = true

/-- The device is not in DEEP and does not enter it, so a write does not wake it (R572 to R574). -/
def Dev.awake (d : Dev) : Prop := d.sys.power ≠ 3 ∧ d.sys.deepEntering = false

/-- A request executes at once: firmware serves its function's mailbox and takes the request from Tollgate (outside DEEP, with a
credit, and with no request of its transport before it: R106, R543), checks 1 to 8 of R94 pass, nothing before it stands in its
way (R106 to R108), and check 9 passes. -/
def Dev.runsNow (d : Dev) (c : Cmd) (q : Req) : Bool :=
  let j := d.jobOf c.op q
  let n := d.taken q
  d.serves q.fn.val && d.takesNow j && (firstFail c n j).isNone && mayStart n j (c.names n j)
    && decide (c.state n j = 0)

/-- A command that ends at once: its effect, then its one reply (R111). -/
def Dev.answer (d : Dev) (op : Nat) (q : Req) (effect : Dev → Dev) (st : Nat) (payload : List Byte) : Dev :=
  (effect (d.taken q)).done (d.jobOf op q) st payload

/-- A command that completes later: its effect, then its place among the commands that execute, with the resources it names
and its working data (R107, R111). -/
def Dev.goesOn (d : Dev) (op : Nat) (q : Req) (effect : Dev → Dev) (names : List Res) (data : List Int) : Dev :=
  (effect (d.taken q)).pend (d.jobOf op q) true names data

/-- A command that completes at an instant within its service bound: its effect, then its place among the commands that
execute; its one reply follows at that instant (R111). -/
def Dev.completesAt (d : Dev) (op : Nat) (q : Req) (effect : Dev → Dev) (names : List Res) (data : List Int) : Dev :=
  (effect (d.taken q)).hold (d.jobOf op q) names data

/-- A pending command marked as started, with the resources it names from then on (R107). -/
def Dev.begun (d : Dev) (id : Nat) (names : List Res) : Dev :=
  d.modTg (fun t => { t with running := updFirst (fun x => x.job.id == id) (fun x => { x with started := true, names := names }) t.running })

/-- A request that Tollgate or the ring brings to firmware executes now: checks 1 to 8 of R94 pass, nothing before it stands
in its way (R106 to R108), and check 9 passes. -/
def Dev.startsNow (d : Dev) (c : Cmd) (j : Job) : Bool :=
  (firstFail c d j).isNone && mayStart d j (c.names d j) && decide (c.state d j = 0)

/-- The job that a command with an opcode makes of a request now. -/
abbrev Dev.job (d : Dev) (op : Nat) (q : Req) : Job := d.jobOf op q

/-- Whether the table of R60 gives an offset of BAR0 to a function. -/
def assignedOffset (f off : Nat) : Bool :=
  decide (off < 0x208) || (decide (0x300 ≤ off) && decide (off < 0x318)) || (decide (0x400 ≤ off) && decide (off < 0x404))
    || (decide (0x500 ≤ off) && decide (off < 0x508))
    || (decide (0x540 ≤ off) && decide (off < (if f = 0 then 0x640 else 0x560)))
    || (decide (0x800 ≤ off) && decide (off < 0x80C)) || (decide (0xC00 ≤ off) && decide (off < 0xC14))
    || (decide (0x1000 ≤ off) && decide (off < 0x1080))
    || (decide (f = 0) && ((decide (0x2000 ≤ off) && decide (off < 0x2008)) || (decide (0x3000 ≤ off) && decide (off < 0x300C))
        || (decide (0x4000 ≤ off) && decide (off < 0x8080))))

/-- The latched codes of `n` sample instants with one requested code, every instant an update instant (R258, R259). -/
def limiterRun (span step : Nat) (cReq : Int) (n : Nat) (c : Int) : Int :=
  match n with
  | 0 => c
  | k + 1 => limiterRun span step cReq k (slewStep span step 1 cReq c 0).1

/-! ### The rows of the mailbox commands -/

/-- A row of a mailbox command: its constructor, its sheet, and what the row shows besides the command: nothing, the changes of
fabric levels and GSTAT, or those of fabric levels alone. -/
structure SheetRow where
  row : Req → Instr
  sheet : Cmd
  shows : Dev → (Dev → Dev) → Dev

/-- A row that shows nothing besides its command. -/
def alone (d : Dev) (g : Dev → Dev) : Dev := g d

/-- Group 0x01. -/
def sheetsSession : List SheetRow :=
  [⟨.sessionInfo, cmdSessionInfo, alone⟩, ⟨.sessionStatus, cmdSessionStatus, alone⟩,
   ⟨.sessionResources, cmdSessionResources, alone⟩]

/-- Group 0x02. -/
def sheetsChannel : List SheetRow :=
  [⟨.chanInfo, cmdChanInfo, alone⟩, ⟨.chanConfig, cmdChanConfig, Dev.observed⟩, ⟨.chanSetSource, cmdChanSetSource, alone⟩,
   ⟨.chanSetState, cmdChanSetState, Dev.observed⟩, ⟨.chanStatus, cmdChanStatus, alone⟩,
   ⟨.gangDefine, cmdGangDefine, alone⟩, ⟨.gangDissolve, cmdGangDissolve, alone⟩]

/-- Group 0x03. -/
def sheetsLoop : List SheetRow :=
  [⟨.loopLoadImage, cmdLoopLoadImage, alone⟩, ⟨.loopReadImage, cmdLoopReadImage, alone⟩,
   ⟨.loopEngineStatus, cmdLoopEngineStatus, alone⟩, ⟨.loopReadState, cmdLoopReadState, alone⟩,
   ⟨.loopLoadDefault, cmdLoopLoadDefault, alone⟩, ⟨.loopSetStructure, cmdLoopSetStructure, alone⟩,
   ⟨.loopStructStatus, cmdLoopStructStatus, alone⟩, ⟨.loopSwapGroup, cmdLoopSwapGroup, alone⟩,
   ⟨.loopSwap, cmdLoopSwap, alone⟩, ⟨.loopSwapCancel, cmdLoopSwapCancel, alone⟩,
   ⟨.loopRangeStore, cmdLoopRangeStore, alone⟩]

/-- Group 0x04. -/
def sheetsSweep : List SheetRow :=
  [⟨.seqWrite, cmdSeqWrite, alone⟩, ⟨.seqRead, cmdSeqRead, alone⟩, ⟨.seqConfig, cmdSeqConfig, alone⟩,
   ⟨.seqArm, cmdSeqArm, alone⟩, ⟨.seqStart, cmdSeqStart, alone⟩, ⟨.seqStop, cmdSeqStop, Dev.observed⟩,
   ⟨.seqStatus, cmdSeqStatus, alone⟩, ⟨.handlerConfig, cmdHandlerConfig, Dev.observed⟩,
   ⟨.handlerBin, cmdHandlerBin, Dev.observed⟩, ⟨.handlerStatus, cmdHandlerStatus, alone⟩]

/-- Group 0x05. -/
def sheetsResult : List SheetRow :=
  [⟨.resRingConfig, cmdResRingConfig, alone⟩, ⟨.resRingStatus, cmdResRingStatus, alone⟩,
   ⟨.resChanConfig, cmdResChanConfig, alone⟩, ⟨.resMeasure, cmdResMeasure, alone⟩, ⟨.resCapture, cmdResCapture, alone⟩,
   ⟨.resFlush, cmdResFlush, alone⟩, ⟨.resChanStatus, cmdResChanStatus, alone⟩]

/-- Group 0x06. -/
def sheetsSurvey : List SheetRow :=
  [⟨.svyTableWrite, cmdSvyTableWrite, alone⟩, ⟨.svyTableRead, cmdSvyTableRead, alone⟩, ⟨.svyConfig, cmdSvyConfig, alone⟩,
   ⟨.svyData, cmdSvyData, alone⟩, ⟨.svyUrgent, cmdSvyUrgent, alone⟩, ⟨.svyStatus, cmdSvyStatus, alone⟩]

/-- Group 0x07. -/
def sheetsCalibration : List SheetRow :=
  [⟨.calSelf, cmdCalSelf, alone⟩, ⟨.calStatus, cmdCalStatus, alone⟩, ⟨.calTraceBegin, cmdCalTraceBegin, alone⟩,
   ⟨.calTracePoint, cmdCalTracePoint, alone⟩, ⟨.calTraceEnd, cmdCalTraceEnd, alone⟩, ⟨.calStore, cmdCalStore, alone⟩]

/-- Group 0x08. -/
def sheetsVector : List SheetRow :=
  [⟨.vecBankConfig, cmdVecBankConfig, alone⟩, ⟨.vecClock, cmdVecClock, alone⟩, ⟨.vecConfig, cmdVecConfig, alone⟩,
   ⟨.vecWrite, cmdVecWrite, alone⟩, ⟨.vecLoad, cmdVecLoad, alone⟩, ⟨.vecSegCommit, cmdVecSegCommit, alone⟩,
   ⟨.vecRead, cmdVecRead, alone⟩, ⟨.vecStart, cmdVecStart, alone⟩, ⟨.vecStop, cmdVecStop, alone⟩,
   ⟨.vecStatus, cmdVecStatus, alone⟩]

/-- Group 0x09. -/
def sheetsEvent : List SheetRow :=
  [⟨.evtRoute, cmdEvtRoute, Dev.withFabric⟩, ⟨.evtRouteStatus, cmdEvtRouteStatus, alone⟩, ⟨.evtOverrun, cmdEvtOverrun, alone⟩,
   ⟨.evtRead, cmdEvtRead, alone⟩, ⟨.evtLineConfig, cmdEvtLineConfig, Dev.withFabric⟩, ⟨.evtTimer, cmdEvtTimer, alone⟩]

/-- Group 0x0A. -/
def sheetsTime : List SheetRow :=
  [⟨.timeStatus, cmdTimeStatus, alone⟩, ⟨.timeRefConfig, cmdTimeRefConfig, Dev.withFabric⟩,
   ⟨.timeSetRate, cmdTimeSetRate, alone⟩, ⟨.timeSyncConfig, cmdTimeSyncConfig, alone⟩, ⟨.timeSet, cmdTimeSet, alone⟩,
   ⟨.timeSkewMeasure, cmdTimeSkewMeasure, alone⟩, ⟨.timePair, cmdTimePair, alone⟩]

/-- Group 0x0B. -/
def sheetsMatrix : List SheetRow :=
  [⟨.mxChainStatus, cmdMxChainStatus, alone⟩, ⟨.mxSetMembers, cmdMxSetMembers, alone⟩, ⟨.mxStage, cmdMxStage, alone⟩,
   ⟨.mxApply, cmdMxApply, alone⟩, ⟨.mxRead, cmdMxRead, alone⟩, ⟨.mxWearRead, cmdMxWearRead, alone⟩,
   ⟨.mxLock, cmdMxLock, alone⟩, ⟨.mxChainCtl, cmdMxChainCtl, alone⟩]

/-- Group 0x0C. -/
def sheetsModule : List SheetRow :=
  [⟨.modInfo, cmdModInfo, alone⟩, ⟨.modRead, cmdModRead, alone⟩, ⟨.modRescan, cmdModRescan, alone⟩]

/-- Group 0x0D. -/
def sheetsAdmin : List SheetRow :=
  [⟨.admAssign, cmdAdmAssign, Dev.observed⟩, ⟨.admRelease, cmdAdmRelease, Dev.observed⟩,
   ⟨.admFuncConfig, cmdAdmFuncConfig, alone⟩, ⟨.admChanPolicy, cmdAdmChanPolicy, alone⟩,
   ⟨.admTollgate, cmdAdmTollgate, alone⟩, ⟨.admHold, cmdAdmHold, alone⟩, ⟨.admQuery, cmdAdmQuery, alone⟩,
   ⟨.admSessionReset, cmdAdmSessionReset, Dev.observed⟩]

/-- Group 0x0E. -/
def sheetsSystem : List SheetRow :=
  [⟨.sysReset, cmdSysReset, alone⟩, ⟨.sysBlockReset, cmdSysBlockReset, Dev.observed⟩,
   ⟨.sysPower, cmdSysPower, Dev.observed⟩, ⟨.sysOptRead, cmdSysOptRead, alone⟩, ⟨.sysOptWrite, cmdSysOptWrite, alone⟩,
   ⟨.sysFwLoad, cmdSysFwLoad, alone⟩, ⟨.sysFwCommit, cmdSysFwCommit, alone⟩, ⟨.sysStoreStatus, cmdSysStoreStatus, alone⟩]

/-- Group 0x0F. -/
def sheetsLog : List SheetRow :=
  [⟨.diagEcho, cmdDiagEcho, alone⟩, ⟨.logRead, cmdLogRead, alone⟩, ⟨.funcStatus, cmdFuncStatus, alone⟩,
   ⟨.logClearLost, cmdLogClearLost, alone⟩, ⟨.logArchiveRead, cmdLogArchiveRead, alone⟩]

/-- Every mailbox command. -/
def sheetRows : List SheetRow :=
  sheetsSession ++ sheetsChannel ++ sheetsLoop ++ sheetsSweep ++ sheetsResult
    ++ sheetsSurvey ++ sheetsCalibration ++ sheetsVector ++ sheetsEvent ++ sheetsTime
    ++ sheetsMatrix ++ sheetsModule ++ sheetsAdmin ++ sheetsSystem ++ sheetsLog

end Sys2Proof.Machine
end

