-- ==== Sys2Proof/Certificates/Slice0/Obligations.lean ====
section
/-! DEFINITION. The statements for the provers. -/

open Sys2Proof Sys2Proof.Machine

/-- A step runs the command at the front of the queue with the queue's rest, and idles on an empty queue. For every
command c and state s, step of s with c at the front of its queue is exec of c at s (whose own queue is the rest);
where no command waits, a step answers the same state. Model's convention: the queue of the block (assumption 1) and
its idling (assumption 2: no row of the table is a clock tick). (spec/00_scope.md, spec/95_what_each_step_holds.md) -/
def Obligations.StepRunsTheFrontCommand : Prop :=
  (∀ (c : Instr) (s : State), step { s with pending := c :: s.pending } = exec c s) ∧
  (∀ s : State, s.pending = [] → step s = .next s)

/-- Each of the 105 mailbox commands completes by its sheet wherever it may run, waits, or is turned away. For each row of
a mailbox command (all 105 are named), every request and every state: where firmware serves the function outside DEEP,
checks 1 to 8 pass, nothing stands in the command's way and check 9 passes, exec answers the next state of the sheet's
effect with its one reply, or with its place among the commands that go on, as the sheet gives it. Firmware runs that
same sheet for the row's opcode. Where the command has to wait, it waits with the names of its resources; a request
that firmware does not take up yet (in DEEP, behind an earlier request of its transport, or without a mailbox credit,
R543) waits, and in DEEP it wakes the device; where firmware does not serve the function, a doorbell request that
reaches it sets REJECT and any other request has no effect. (R64, R90, R94, R106, R107, R108, R111, R114, R142, R543,
R573, spec/03_mailbox.md) -/
def Obligations.EveryCommandSheetRuns : Prop :=
  (∀ e ∈ sheetRows, cmdOf e.sheet.op = some e.sheet ∧ ∀ (q : Req) (s : State),
    exec (e.row q) s = .next (s.on (fun d => e.shows d (fun d => d.command e.sheet q))) ∧
    (s.dev.runsNow e.sheet q = true →
      let j := s.dev.jobOf e.sheet.op q
      let b := e.sheet.body (s.dev.taken q) j
      (∀ (st : Nat) (p : List Byte), b.2 = .done st p → exec (e.row q) s = .next (s.on (fun d => e.shows d (fun _ => b.1.done j st p)))) ∧
      (∀ x : List Int, b.2 = .later x →
        exec (e.row q) s = .next (s.on (fun d => e.shows d (fun _ => b.1.pend j true (e.sheet.names (s.dev.taken q) j) x)))) ∧
      (∀ x : List Int, b.2 = .soon x →
        exec (e.row q) s = .next (s.on (fun d => e.shows d (fun _ => b.1.hold j (e.sheet.names (s.dev.taken q) j) x)))))) ∧
  (∀ (c : Cmd) (q : Req) (d : Dev),
    let j := d.jobOf c.op q
    let n := d.taken q
    let w := c.preempt n j
    (d.serves q.fn.val = true → d.takesNow j = true → firstFail c n j = none →
      mayStart n j (c.names n j) = false → mayStart w j (c.names w j) = false →
      d.command c q = w.pend j false (c.names w j) []) ∧
    (d.serves q.fn.val = true → d.takesNow j = false →
      d.command c q = n.modTg (fun t => { t with waiting := t.waiting ++ [j] })) ∧
    (d.sys.power = 3 → d.takesNow j = false ∧ n = (d.wakeBy 1).nextJob) ∧
    (d.serves q.fn.val = false → q.ring = none → d.reachable q.fn.val = true →
      d.command c q = d.modFn q.fn.val (fun f => { f with reject := true })) ∧
    (d.serves q.fn.val = false → q.ring ≠ none ∨ d.reachable q.fn.val = false → d.command c q = d))

/-- The state after reset has host memory in canonical form. State.reset meets State.Inv (host memory in its canonical
form), its queue is empty and no byte of host memory is listed. (spec/19_startup_reset.md, spec/02_host_link.md) -/
def Obligations.ResetHasInvariant : Prop :=
  State.reset.Inv ∧ State.reset.pending = [] ∧ ∀ a : Nat, memRead State.reset.mem a = none

/-- Every step keeps host memory in its canonical form. For every state with host memory in canonical form (addresses
strictly rising), every step answers a next state and that state's host memory is in canonical form again, whichever
of the 274 commands stands in front. (spec/02_host_link.md, spec/03_mailbox.md, spec/09_results.md) -/
def Obligations.EveryStepKeepsInvariant : Prop :=
  ∀ s : State, s.Inv → ∃ t : State, step s = .next t ∧ t.Inv

/-- Every command completes and leaves the waiting commands as they are. For every command and every state exec answers a
next state (no command of the table stops the device), and the queue of that state is the queue it was given.
(spec/00_scope.md, spec/95_what_each_step_holds.md) -/
def Obligations.CommandsLeaveTheQueue : Prop :=
  ∀ (i : Instr) (s : State), ∃ t : State, exec i s = .next t ∧ t.pending = s.pending

/-- Only RING_REPLY_WRITE and BLOCK_WRITE change host memory. Every command except the write of a ring entry's reply
(R103) and the write of a result block leaves every byte of host memory as it was. (R103, R331, spec/03_mailbox.md,
spec/09_results.md) -/
def Obligations.OnlyTwoRowsWriteHostMemory : Prop :=
  ∀ (i : Instr) (s t : State), (∀ fn entry, i ≠ .ringReplyWrite fn entry) → (∀ fn ring, i ≠ .blockWrite fn ring) →
    exec i s = .next t → ∀ a : Nat, memRead t.mem a = memRead s.mem a

/-- An access of another size or alignment has no effect and reads all ones. For an enabled function of an awake device, a
REGISTER_ACCESS_BAD_SIZE write leaves the whole state as it was, and a read changes nothing but what the read
returned, 0xFFFF_FFFF. (In DEEP a write is a wake cause, R573.) (R17) -/
def Obligations.BadSizeAccessReadsAllOnes : Prop :=
  ∀ (fn : FnId) (off : W16) (size : Nat) (s : State), (s.dev.fn fn.val).enabled = true → s.dev.awake →
    exec (.registerAccessBadSize fn off size true) s = .next s ∧
    exec (.registerAccessBadSize fn off size false) s = .next (s.on (fun d => { d with readData := 0xFFFFFFFF#32 }))

/-- An offset that the table does not give to the function reads 0 and ignores writes. For every aligned offset of BAR0
that the table of R60 does not give to the function (owner windows of a VF and IRQ_MOD[8 to 63] of a VF among them), a
read returns 0 and changes nothing else, and a write to an awake device leaves the whole state as it was. (R61) -/
def Obligations.UnassignedOffsetReadsZero : Prop :=
  ∀ (fn : FnId) (off : W16) (val : W32) (s : State), off.toNat % 4 = 0 → assignedOffset fn.val off.toNat = false →
    (s.dev.fn fn.val).enabled = true →
    exec (.unassignedOffsetAccess fn off false val) s = .next (s.on (fun d => { d with readData := 0#32 })) ∧
    (s.dev.awake → exec (.unassignedOffsetAccess fn off true val) s = .next s) ∧
    (s.dev.awake → ∀ tie : W32, exec (.registerWrite fn off ⟨val, tie⟩) s = .next s)

/-- A register write sets or clears the fields of its register and leaves the rest. At an awake device and a reachable
function a REGISTER_WRITE to IRQ_MOD[v] of a vector the function has sets HOLDOFF and COUNT of that vector and nothing
else; to CMDR_BASE_LO and CMDR_BASE_HI while ENABLE is 0 the base's bits, and while ENABLE is 1 nothing; to CMDR_STAT
and RING_STAT clears exactly the W1C flags written 1 that hardware did not set in the same tick (R18); of PF0 to
GSTAT_CHG clears its bits likewise, to ELOG_TAIL sets the tail alone, to BKUP[i], i below 24, that register alone, and
to BKUP[24] to BKUP[31] nothing; to the reply window or an offset that is not a multiple of 4 nothing; and a write to
an offset that has a row of its own is that row. A write to a function that is not reachable (it does not exist, or is
in function-level reset, R538) has no effect. (R18, R88, R61, R83, R85, R70, R538, spec/02_host_link.md) -/
def Obligations.RegisterWriteSetsItsField : Prop :=
  ∀ (fn : FnId) (val tie : W32) (s : State),
    (s.dev.reachable fn.val = false → ∀ off : W16, exec (.registerWrite fn off ⟨val, tie⟩) s = .next s) ∧
    (s.dev.awake → s.dev.reachable fn.val = true →
    (∀ v : Fin 64, v.val < vecCount fn.val →
      exec (.registerWrite fn (BitVec.ofNat 16 (0x540 + 4 * v.val)) ⟨val, tie⟩) s = .next (s.on (fun d => d.modFn fn.val (fun r =>
        r.modVec v.val (fun x => { x with holdoff := val.setWidth 16, countReg := BitVec.ofNat 8 (val.toNat / 65536) }))))) ∧
    ((s.dev.fn fn.val).cmdr.enable = false →
      (∃ t : State, exec (.registerWrite fn 0x300 ⟨val, tie⟩) s = .next t ∧ t.mem = s.mem ∧
        t.dev = s.dev.modFn fn.val (fun _ => { s.dev.fn fn.val with
          cmdr := { (s.dev.fn fn.val).cmdr with baseLo := val &&& 0xFFFFF000#32 } })) ∧
      (∃ t : State, exec (.registerWrite fn 0x304 ⟨val, tie⟩) s = .next t ∧ t.mem = s.mem ∧
        t.dev = s.dev.modFn fn.val (fun _ => { s.dev.fn fn.val with
          cmdr := { (s.dev.fn fn.val).cmdr with baseHi := val } }))) ∧
    ((s.dev.fn fn.val).cmdr.enable = true → ∀ off ∈ [0x300#16, 0x304#16],
      exec (.registerWrite fn off ⟨val, tie⟩) s = .next (s.on (fun d => d.modFn fn.val (fun _ => d.fn fn.val)))) ∧
    exec (.registerWrite fn 0x314 ⟨val, tie⟩) s = .next (s.on (fun d => d.modFn fn.val (fun r => { r with cmdr := { r.cmdr with
      cfgErr := r.cmdr.cfgErr && !(val.getLsbD 1 && !tie.getLsbD 1),
      tailErr := r.cmdr.tailErr && !(val.getLsbD 2 && !tie.getLsbD 2),
      fetchErr := r.cmdr.fetchErr && !(val.getLsbD 3 && !tie.getLsbD 3) } }))) ∧
    (∀ r : RingId, exec (.registerWrite fn (BitVec.ofNat 16 (0x1008 + 16 * r.val)) ⟨val, tie⟩) s =
      .next (s.on (fun d => d.modFn fn.val (fun x => x.modRing r.val (fun g => { g with
        wmarkHit := g.wmarkHit && !(val.getLsbD 2 && !tie.getLsbD 2),
        tailErr := g.tailErr && !(val.getLsbD 3 && !tie.getLsbD 3) }))))) ∧
    (fn.val = 0 →
      (∃ t : State, exec (.registerWrite fn 0x2004 ⟨val, tie⟩) s = .next t ∧ t.mem = s.mem ∧ t.dev.fns = s.dev.fns ∧
        t.dev.sys = { s.dev.sys with gstatChg := t.dev.sys.gstatChg } ∧
        ∀ b : Nat, t.dev.sys.gstatChg.testBit b =
          (s.dev.sys.gstatChg.testBit b && !(decide (b < 12) && val.getLsbD b && !tie.getLsbD b))) ∧
      exec (.registerWrite fn 0x3004 ⟨val, tie⟩) s = .next (s.on (fun d => d.modLog (fun l => { l with tail := val.toNat % 512 }))) ∧
      (∀ i : Fin 32, exec (.registerWrite fn (BitVec.ofNat 16 (0x8000 + 4 * i.val)) ⟨val, tie⟩) s =
        if i.val < 24 then .next (s.on (fun d => d.modSys (fun y => { y with bkup := tblSet (fun _ => 0) y.bkup i.val val })))
        else .next s)) ∧
    (∀ off : W16, off.toNat % 4 ≠ 0 ∨ (0x100 ≤ off.toNat ∧ off.toNat < 0x200) → exec (.registerWrite fn off ⟨val, tie⟩) s = .next s) ∧
    exec (.registerWrite fn 0x200 ⟨val, tie⟩) s = exec (.submit fn val) s ∧
    exec (.registerWrite fn 0x204 ⟨val, tie⟩) s = exec (.replyClear fn ⟨val, tie⟩) s ∧
    exec (.registerWrite fn 0x308 ⟨val, tie⟩) s = exec (.cmdrEnable fn val) s ∧
    exec (.registerWrite fn 0x30C ⟨val, tie⟩) s = exec (.cmdrTailWrite fn val) s ∧
    exec (.registerWrite fn 0x400 ⟨val, tie⟩) s = exec (.evtFire fn val) s ∧
    exec (.registerWrite fn 0x500 ⟨val, tie⟩) s = exec (.irqCauseWrite fn ⟨val, tie⟩) s ∧
    exec (.registerWrite fn 0x504 ⟨val, tie⟩) s = exec (.irqMaskWrite fn val) s ∧
    (∀ w : Fin 64, exec (.registerWrite fn (BitVec.ofNat 16 (4 * w.val)) ⟨val, tie⟩) s = exec (.requestWindowWrite fn w val) s) ∧
    (∀ r : RingId, exec (.registerWrite fn (BitVec.ofNat 16 (0x1004 + 16 * r.val)) ⟨val, tie⟩) s = exec (.ringTailWrite fn r val) s))

/-- A doorbell while BUSY or not READY, or a window write while BUSY, sets REJECT and nothing else. At an awake device and
a reachable function: a doorbell (SUBMIT = 1) while BUSY is 1 or READY is 0, and a request-window write while BUSY is
1, answer the state with REJECT of that function set and nothing else changed. (R64) -/
def Obligations.RefusedMailboxWritesSetReject : Prop :=
  ∀ (fn : FnId) (w : Fin 64) (val : W32) (s : State), s.dev.awake → s.dev.reachable fn.val = true →
    (val.getLsbD 0 = true → s.dev.busy fn.val = true ∨ (s.dev.fn fn.val).ready = false →
      exec (.submit fn val) s = .next (s.on (fun d => d.modFn fn.val (fun r => { r with reject := true })))) ∧
    (s.dev.busy fn.val = true →
      exec (.requestWindowWrite fn w val) s = .next (s.on (fun d => d.modFn fn.val (fun r => { r with reject := true }))))

/-- A doorbell takes the request of the window, or drops it beyond 32 outstanding. At an awake, READY and not BUSY
function SUBMIT sets BUSY for at most 1 µs; with fewer than 32 outstanding requests it puts the request that the
window spells at the end of the waiting requests, and with 32 it counts DROPPED (saturating) and queues nothing. A
SUBMIT of 0 changes nothing. A window write while not BUSY sets its word, and a write to the reply window changes
nothing. (R63, R96, R97, R89, R64, R100) -/
def Obligations.DoorbellQueuesTheRequest : Prop :=
  ∀ (fn : FnId) (w : Fin 64) (val : W32) (s : State), s.dev.awake → s.dev.reachable fn.val = true → s.dev.busy fn.val = false →
    exec (.replyWindowWrite fn w val) s = .next s ∧
    exec (.requestWindowWrite fn w val) s =
      .next (s.on (fun d => d.modFn fn.val (fun r => { r with reqWin := tblSet (fun _ => 0) r.reqWin w.val val }))) ∧
    (val.getLsbD 0 = false → exec (.submit fn val) s = .next s) ∧
    ((s.dev.fn fn.val).ready = true → val.getLsbD 0 = true → ∃ t : State, exec (.submit fn val) s = .next t ∧
      s.dev.now ≤ (t.dev.fn fn.val).busyUntil ∧ (t.dev.fn fn.val).busyUntil ≤ s.dev.now + 1000000 ∧ t.mem = s.mem ∧
      (s.dev.outstanding fn.val < 32 → ∃ j : Job,
        t.dev.tg.waiting = s.dev.tg.waiting ++ [j] ∧ (j.op, j.q) = reqOf fn none (winBytes (s.dev.fn fn.val).reqWin) ∧
        (t.dev.fn fn.val).dropped = (s.dev.fn fn.val).dropped) ∧
      (32 ≤ s.dev.outstanding fn.val → t.dev.tg = s.dev.tg ∧
        (t.dev.fn fn.val).dropped = min ((s.dev.fn fn.val).dropped + 1) 0xFFFFFFFF))

/-- Replies enter the free window in order, and a W1C write of REPLY frees it. REPLY_ENTERS_WINDOW with REPLY 0 and a
queued reply moves the first queued reply into the window (its header and payload bytes), sets REPLY and REPLY_TAG,
sets COMPLETION exactly where the reply is a final one (else keeps it) and sets IRQ_CAUSE.MBX of a function outside
function-level reset; while REPLY is 1, or with nothing queued, it changes nothing. REPLY_CLEAR at an awake device
clears REPLY, COMPLETION, REJECT and FIRE_DENIED where its bit is 1 and hardware did not set the bit in the same
conversion tick (R18), and leaves them where it is 0; it leaves the window. (R65, R92, R98, R99, R105, R80, R18) -/
def Obligations.ReplyWindowProtocol : Prop :=
  (∀ (fn : FnId) (s : State) (r : Reply) (rest : List Reply), (s.dev.fn fn.val).replies = r :: rest → (s.dev.fn fn.val).reply = false →
    ∃ t : State, exec (.replyEntersWindow fn) s = .next t ∧ t.mem = s.mem ∧ t.dev.tg = s.dev.tg ∧
      (t.dev.fn fn.val).replies = rest ∧ (t.dev.fn fn.val).repWin = winOf (replyBytes r) ∧ (t.dev.fn fn.val).reply = true ∧
      (t.dev.fn fn.val).replyTag = r.tag ∧ (t.dev.fn fn.val).completion = ((s.dev.fn fn.val).completion || r.final) ∧
      ((s.dev.fn fn.val).flr = .idle → (t.dev.fn fn.val).irqCause.testBit irqMbx = true)) ∧
  (∀ (fn : FnId) (s : State), (s.dev.fn fn.val).reply = true ∨ (s.dev.fn fn.val).replies = [] →
    exec (.replyEntersWindow fn) s = .next s) ∧
  (∀ (fn : FnId) (val tie : W32) (s : State), s.dev.awake → s.dev.reachable fn.val = true →
    ∃ t : State, exec (.replyClear fn ⟨val, tie⟩) s = .next t ∧ t.mem = s.mem ∧ t.dev.tg = s.dev.tg ∧
      (t.dev.fn fn.val).repWin = (s.dev.fn fn.val).repWin ∧ (t.dev.fn fn.val).replies = (s.dev.fn fn.val).replies ∧
      (t.dev.fn fn.val).reply = ((s.dev.fn fn.val).reply && !(val.getLsbD 1 && !tie.getLsbD 1)) ∧
      (t.dev.fn fn.val).completion = ((s.dev.fn fn.val).completion && !(val.getLsbD 3 && !tie.getLsbD 3)) ∧
      (t.dev.fn fn.val).reject = ((s.dev.fn fn.val).reject && !(val.getLsbD 4 && !tie.getLsbD 4)) ∧
      (t.dev.fn fn.val).fireDenied = ((s.dev.fn fn.val).fireDenied && !(val.getLsbD 5 && !tie.getLsbD 5)))

/-- The first check of R94 that fails decides a request's status, and no later check is made. For every command sheet, a
served function and a request that firmware takes up as it arrives (outside DEEP, with a mailbox credit, none of its
transport waiting before it): where check 1 fails the answer is ST_ARG; where it passes and the option is absent,
ST_OPCODE; then a session issuing an owner's command ST_OWNERSHIP; then LENGTH or a value ST_ARG; then a resource held
by another ST_OWNERSHIP; then a subsystem that has not started ST_NOT_READY; then a lock of another party ST_LOCKED;
then a state that does not permit it, for a command that has not to wait, the status of check 9. In each case the one
reply, without payload, is the only effect. A command no table lists gives ST_OPCODE (or ST_ARG where check 1 fails).
(R94) -/
def Obligations.RequestChecksInOrder : Prop :=
  ∀ (c : Cmd) (q : Req) (d : Dev), d.serves q.fn.val = true →
    let j := d.jobOf c.op q
    let n := d.taken q
    let gives := fun (st : Nat) => d.command c q = d.answer c.op q id st []
    d.takesNow j = true →
    (headerOk j = false → gives stArg) ∧
    (headerOk j = true → d.hasOpt c.opt = false → gives stOpcode) ∧
    (headerOk j = true → d.hasOpt c.opt = true → c.owner = true → j.f ≠ 0 → gives stOwnership) ∧
    (headerOk j = true → d.hasOpt c.opt = true → (c.owner = true → j.f = 0) →
      (∃ l, c.len = some l ∧ l ≠ j.q.len) ∨ c.args n j = false → gives stArg) ∧
    (headerOk j = true → d.hasOpt c.opt = true → (c.owner = true → j.f = 0) → (∀ l, c.len = some l → l = j.q.len) →
      c.args n j = true →
      (c.held n j = false → gives stOwnership) ∧
      (c.held n j = true → recoveryOk n c.op = false ∨ c.ready n j = false → gives stNotReady) ∧
      (c.held n j = true → recoveryOk n c.op = true → c.ready n j = true → c.unlocked n j = false → gives stLocked) ∧
      (c.held n j = true → recoveryOk n c.op = true → c.ready n j = true → c.unlocked n j = true →
        mayStart n j (c.names n j) = true → c.state n j ≠ 0 → gives (c.state n j))) ∧
    (cmdOf j.op = none → d.takeUp j = d.done j (if headerOk j = true then stOpcode else stArg) [])

/-- A waiting request is served, ages and is released; a pending command ends once. TOLLGATE_SERVE outside DEEP takes the
request that Tollgate picks and runs it: where its checks pass and nothing stands in its way, its sheet's effect with
its one reply, or its place among the commands that go on; where one of checks 1 to 8 fails, that status; where an
opcode has no sheet, ST_OPCODE or ST_ARG. TOLLGATE_AGE raises the effective class of a waiting request, or of a
caravan not admitted, below 7 by one at its threshold. COMMAND_WAIT_RELEASE starts a live command that waited and may
start now: its sheet's effect with its result or working data, or the status of the check that fails then as its
result (a transition or range change that starts with an OFF waiting behind it ends at once, R142). FINAL_REPLY takes
a command that has a result off the pending list, after the doorbell commands of its function that finished before it
(R99): of a doorbell command with none before it its final reply (FINAL 1) is queued, of a ring entry its entry's
reply; a started command that completes by this row completes and leaves. COMMAND_TIMEOUT gives a command that still
waits the result ST_TIMEOUT without payload, and one that executes ST_TIMEOUT with the effects of its sheet (a
SYS_POWER whose state has taken effect and ADM_SESSION_RESET, whose sheet names no ST_TIMEOUT, go on: log entry 36).
(R541, R542, R107, R111, R112, R99, R94) -/
def Obligations.TollgateServesAndCommandsEnd : Prop :=
  (∀ (s : State) (j : Job) (fresh : Bool), s.dev.sys.power ≠ 3 → tollgateNext s.dev = some (j, fresh) →
    let n := s.dev.takeJob j fresh
    exec .tollgateServe s = .next (s.on (fun d => d.observed (fun d => (d.takeJob j fresh).takeUp j))) ∧
    (cmdOf j.op = none →
      exec .tollgateServe s = .next (s.on (fun d => d.observed (fun _ => n.done j (if headerOk j then stOpcode else stArg) [])))) ∧
    (∀ c : Cmd, cmdOf j.op = some c →
      (∀ st : Nat, firstFail c n j = some st →
        exec .tollgateServe s = .next (s.on (fun d => d.observed (fun _ => n.done j st [])))) ∧
      (n.startsNow c j = true →
        (∀ (st : Nat) (p : List Byte), (c.body n j).2 = .done st p →
          exec .tollgateServe s = .next (s.on (fun d => d.observed (fun _ => (c.body n j).1.done j st p)))) ∧
        (∀ x : List Int, (c.body n j).2 = .later x →
          exec .tollgateServe s = .next (s.on (fun d => d.observed (fun _ => (c.body n j).1.pend j true (c.names n j) x))))))) ∧
  (∀ (s : State) (pos : Nat) (j : Job), s.dev.tg.waiting[pos]? = some j → j.eff < 7 →
    ∃ t : State, exec (.tollgateAge false pos) s = .next t ∧ t.mem = s.mem ∧ t.dev.fns = s.dev.fns ∧
      t.dev.tg.waiting = modAt s.dev.tg.waiting pos
        (fun x => { x with eff := x.eff + 1, agedAt := j.agedAt + j.ages.getD j.eff 50 * 1000000 }) ∧
      t.dev.now = max s.dev.now (j.agedAt + j.ages.getD j.eff 50 * 1000000)) ∧
  (∀ (s : State) (pos : Nat) (c : Caravan), s.dev.tg.caravans[pos]? = some c → c.eff < 7 → c.admitted = false →
    ∃ t : State, exec (.tollgateAge true pos) s = .next t ∧ t.mem = s.mem ∧ t.dev.fns = s.dev.fns ∧
      (let up := fun x : Caravan => { x with eff := x.eff + 1, agedAt := c.agedAt + c.ages.getD c.eff 50 * 1000000 }
       t.dev.tg = { s.dev.tg with caravans := modAt s.dev.tg.caravans pos up }) ∧
      t.dev.now = max s.dev.now (c.agedAt + c.ages.getD c.eff 50 * 1000000)) ∧
  (∀ (s : State) (id : Nat) (r : Running) (c : Cmd) (st : Nat), s.dev.sys.power ≠ 3 → s.dev.running? id = some r →
    cmdOf r.job.op = some c → r.live = true → r.started = false → mayStart s.dev r.job (c.names s.dev r.job) = true →
    firstFail c s.dev r.job = some st →
    (releaseCmd c s.dev r).offBehind r = false ∨ (r.job.op ≠ 0x0202 ∧ r.job.op ≠ 0x0204) →
    ∃ t : State, exec (.commandWaitRelease id) s = .next t ∧ t.mem = s.mem ∧
      ∃ x : Running, t.dev.running? r.job.id = some x ∧ x.result = some (st, []) ∧ x.started = true) ∧
  (∀ (s : State) (id : Nat) (r : Running) (c : Cmd), s.dev.sys.power ≠ 3 → s.dev.running? id = some r →
    cmdOf r.job.op = some c → r.live = true → r.started = false → s.dev.startsNow c r.job = true →
    (releaseCmd c s.dev r).offBehind r = false ∨ (r.job.op ≠ 0x0202 ∧ r.job.op ≠ 0x0204) →
    (∀ (st : Nat) (p : List Byte), (c.body s.dev r.job).2 = .done st p →
      exec (.commandWaitRelease id) s =
        .next (s.on (fun d => d.observed (fun d => ((c.body d r.job).1.begun r.job.id []).finish r.job.id st p)))) ∧
    (∀ x : List Int, (c.body s.dev r.job).2 = .later x →
      exec (.commandWaitRelease id) s =
        .next (s.on (fun d => d.observed (fun d => ((c.body d r.job).1.begun r.job.id (c.names d r.job)).setData r.job.id x))))) ∧
  (∀ (s : State) (id : Nat) (r : Running) (c : Cmd), s.dev.sys.power ≠ 3 → s.dev.running? id = some r →
    cmdOf r.job.op = some c → r.job.op = 0x0202 ∨ r.job.op = 0x0204 → (releaseCmd c s.dev r).offBehind r = true →
    exec (.commandWaitRelease id) s = .next (s.on (fun d => d.observed (fun d =>
      (releaseCmd c d r).preemptOff ((releaseCmd c d r).leader r.job.ch))))) ∧
  (∀ (s : State) (id : Nat) (r : Running) (x : Ext) (st : Nat) (p : List Byte), s.dev.asleep = false →
    s.dev.running? id = some r → r.result = some (st, p) →
    exec (.finalReply id x) s = .next (s.on (fun d => d.observed (fun d => d.leaves r st p))) ∧
    (r.silent = false → (s.dev.finished r.job.f).takeWhile (fun y => y.job.id != r.job.id) = [] ∨ r.job.doorbell = false →
      ∃ t : State, exec (.finalReply id x) s = .next t ∧ t.mem = s.mem ∧
        t.dev.tg.running = s.dev.tg.running.filter (fun y => y.job.id != r.job.id) ∧
        (r.job.q.ring = none → (t.dev.fn r.job.q.fn.val).replies = (s.dev.fn r.job.q.fn.val).replies ++
          [{ op := BitVec.ofNat 16 r.job.op, tag := r.job.q.tag, status := BitVec.ofNat 16 st, final := !r.direct, last := true,
             payload := p, arrival := if r.direct then some r.job.arrival else none }]) ∧
        (∀ e : Nat, r.job.q.ring = some e → ∃ y : RingReply,
          (t.dev.fn r.job.q.fn.val).ringReplies = (s.dev.fn r.job.q.fn.val).ringReplies ++ [y] ∧ y.entry = e ∧
          y.notify = r.job.q.flags.getLsbD 1 ∧ y.reply.status = BitVec.ofNat 16 st ∧ y.reply.payload = p ∧ y.reply.final = false) ∧
        (t.dev.fn r.job.q.fn.val).completed = ((s.dev.fn r.job.q.fn.val).completed + 1) % 2 ^ 32)) ∧
  (∀ (s : State) (id : Nat) (r : Running) (x : Ext) (e : Dev × Nat × List Byte), s.dev.asleep = false →
    s.dev.running? id = some r → r.result = none → r.started = true → s.dev.complete r x = some e →
    exec (.finalReply id x) s = .next (s.on (fun d => d.observed (fun _ => e.1.leaves r e.2.1 e.2.2)))) ∧
  (∀ (s : State) (id : Nat) (r : Running), s.dev.running? id = some r → r.live = true → r.started = false → r.direct = false →
    exec (.commandTimeout id) s = .next (s.on (fun d => d.observed (fun d => d.finish id stTimeout [])))) ∧
  (∀ (s : State) (id : Nat) (r : Running), s.dev.running? id = some r → r.live = true → r.started = true → r.lasts = false →
    exec (.commandTimeout id) s = .next (s.on (fun d => d.observed (fun d =>
      ((d.finish id stTimeout (d.timeoutEffect r).2).timeoutEffect r).1))))

/-- Tollgate serves the function of a waiting request of the highest effective class, its oldest request first. The
request that Tollgate picks waits, and its function has a mailbox credit left; its function has a waiting request of
the highest effective class among all that wait with a credit; and no request of the same function and transport
stands before it. Where a request with a credit waits, one is picked. A function that holds 16 credits, and every
function once 64 are held, has none. (R542, R543, R106) -/
def Obligations.TollgatePicksHighestClass : Prop :=
  ∀ d : Dev,
    (∀ (j : Job) (fresh : Bool), tollgateNext d = some (j, fresh) →
      j ∈ d.tg.waiting ∧ d.mailCredit j.f = true ∧
      (∃ k ∈ d.tg.waiting, k.f = j.f ∧ ∀ x ∈ d.tg.waiting, d.mailCredit x.f = true → x.eff ≤ k.eff) ∧
      ∃ before after : List Job, d.tg.waiting = before ++ j :: after ∧
        ∀ x ∈ before, ¬(x.f = j.f ∧ x.doorbell = j.doorbell)) ∧
    ((∃ x ∈ d.tg.waiting, d.mailCredit x.f = true) → (tollgateNext d).isSome = true) ∧
    (∀ f : Nat, d.mailCredit f = true ↔ d.credits.length < 64 ∧ (d.credits.filter (fun r => r.job.f == f)).length < 16)

/-- CMDR_CFG: ENABLE is refused outside its conditions, IDX_RESET only on an idle disabled ring. At an awake device a
write of CMDR_CFG: ENABLE 1 to a disabled ring, IDX_RESET 0, with LOG2_ENTRIES outside 4 to 12, the base 0, or HEAD or
TAIL not below the size leaves ENABLE 0 and sets CFG_ERR; otherwise it sets ENABLE and changes LOG2_ENTRIES alone
besides; while ENABLE is 1 LOG2_ENTRIES and the indices stay; ENABLE 0 clears ENABLE and keeps the indices; IDX_RESET
on a disabled idle ring zeroes both indices, and on an enabled or busy one leaves them and sets CFG_ERR (ENABLE is
applied as written, log entry 116). Both bits on a disabled idle ring zero the indices first. (R66, R69, R70,
spec/02_host_link.md) -/
def Obligations.RingEnableRules : Prop :=
  ∀ (fn : FnId) (val : W32) (s : State), s.dev.awake → s.dev.reachable fn.val = true →
    let c := (s.dev.fn fn.val).cmdr
    let log2 := val.toNat % 16
    let bad := log2 < 4 ∨ 12 < log2 ∨ (c.baseLo = 0#32 ∧ c.baseHi = 0#32) ∨ 2 ^ log2 ≤ c.head ∨ 2 ^ log2 ≤ c.tail
    (c.enable = false → val.getLsbD 8 = true → val.getLsbD 9 = false → bad →
      exec (.cmdrEnable fn val) s = .next (s.on (fun d => d.modFn fn.val (fun r =>
        { r with cmdr := { r.cmdr with log2 := log2, cfgErr := true, enable := false } })))) ∧
    (c.enable = false → val.getLsbD 8 = true → val.getLsbD 9 = false → ¬bad →
      exec (.cmdrEnable fn val) s = .next (s.on (fun d => d.modFn fn.val (fun r =>
        { r with cmdr := { r.cmdr with log2 := log2, enable := true } })))) ∧
    (c.enable = true → val.getLsbD 8 = true → val.getLsbD 9 = false → exec (.cmdrEnable fn val) s = .next (s.on (fun d =>
      d.modFn fn.val (fun r => r)))) ∧
    (c.enable = true → val.getLsbD 8 = false → val.getLsbD 9 = false → exec (.cmdrEnable fn val) s = .next (s.on (fun d =>
      d.modFn fn.val (fun r => { r with cmdr := { r.cmdr with enable := false } })))) ∧
    exec (.idxReset fn val) s = exec (.cmdrEnable fn val) s ∧
    (c.enable = true → val.getLsbD 9 = true → exec (.idxReset fn val) s = .next (s.on (fun d =>
      d.modFn fn.val (fun r => { r with cmdr := { r.cmdr with cfgErr := true, enable := val.getLsbD 8 } })))) ∧
    (c.enable = false → cmdrIdle s.dev fn.val = true → val.getLsbD 8 = true → val.getLsbD 9 = true →
      exec (.idxReset fn val) s = .next (s.on (fun d => d.modFn fn.val (fun r => { r with cmdr :=
        if log2 < 4 ∨ 12 < log2 ∨ (c.baseLo = 0#32 ∧ c.baseHi = 0#32) then
          { r.cmdr with log2 := log2, head := 0, tail := 0, cfgErr := true, enable := false }
        else { r.cmdr with log2 := log2, head := 0, tail := 0, enable := true } })))) ∧
    (c.enable = false → cmdrIdle s.dev fn.val = true → val.getLsbD 8 = false → val.getLsbD 9 = true →
      exec (.idxReset fn val) s = .next (s.on (fun d => d.modFn fn.val (fun r =>
        { r with cmdr := { r.cmdr with log2 := log2, head := 0, tail := 0, enable := false } })))) ∧
    (c.enable = false → cmdrIdle s.dev fn.val = false → val.getLsbD 8 = false → val.getLsbD 9 = true →
      exec (.idxReset fn val) s = .next (s.on (fun d => d.modFn fn.val (fun r =>
        { r with cmdr := { r.cmdr with log2 := log2, cfgErr := true, enable := false } }))))

/-- The bulk ring: TAIL writes, fetches, a failed fetch and the reply's write to host memory. CMDR_TAIL_WRITE at an awake
device sets TAIL, or ignores a value that is not below the size or would exceed size - 1 unfetched entries and sets
TAIL_ERR. RING_ENTRY_FETCH of an enabled ring with entries and fewer than 64 in service advances HEAD by one and lets
the request wait. FETCH_ERR clears ENABLE, sets FETCH_ERR and leaves HEAD. RING_REPLY_WRITE writes the reply's
payload, its header without RFLAGS and then RFLAGS to bytes 256 on of its entry; every other byte of host memory
stays, REPLY stays, and COMPLETION is set exactly for NOTIFY. (R67, R68, R101, R102, R103, R105) -/
def Obligations.CommandRingRuns : Prop :=
  (∀ (fn : FnId) (val : W32) (s : State), s.dev.awake → s.dev.reachable fn.val = true →
    let c := (s.dev.fn fn.val).cmdr
    let v := val.toNat % 4096
    let n := 2 ^ c.log2
    exec (.cmdrTailWrite fn val) s = .next (s.on (fun d => d.modFn fn.val (fun r => { r with cmdr :=
      if n ≤ v ∨ n - 1 < (c.tail + n - c.head % n) % n + (v + n - c.tail % n) % n then { r.cmdr with tailErr := true } else { r.cmdr with tail := v } })))) ∧
  (∀ (fn : FnId) (bytes : List Byte) (s : State), s.dev.mayFetch fn.val = true → ∃ (t : State) (j : Job),
    exec (.ringEntryFetch fn bytes) s = .next t ∧ t.mem = s.mem ∧ t.dev.tg.waiting = s.dev.tg.waiting ++ [j] ∧
    j.q.ring = some (s.dev.fn fn.val).cmdr.head ∧ j.q.fn = fn ∧ j.op = u16 (padTo 256 bytes) 0 ∧
    (t.dev.fn fn.val).cmdr = { (s.dev.fn fn.val).cmdr with
      head := ((s.dev.fn fn.val).cmdr.head + 1) % 2 ^ (s.dev.fn fn.val).cmdr.log2 }) ∧
  (∀ (fn : FnId) (s : State), s.dev.mayFetch fn.val = true →
    exec (.fetchErr fn) s = .next (s.on (fun d => d.modFn fn.val (fun r =>
      { r with cmdr := { r.cmdr with enable := false, fetchErr := true } })))) ∧
  (∀ (fn : FnId) (entry : Nat) (s : State) (x : RingReply),
    (s.dev.fn fn.val).ringReplies.find? (fun y => y.entry == entry) = some x →
    let c := (s.dev.fn fn.val).cmdr
    let a := c.baseHi.toNat * 2 ^ 32 + c.baseLo.toNat + 512 * entry + 256
    let b := replyBytes x.reply
    ∃ t : State, exec (.ringReplyWrite fn entry) s = .next t ∧
      t.mem = memWrites s.mem [(a + 16, b.drop 16), (a, b.take 8), (a + 12, (b.drop 12).take 4), (a + 8, (b.drop 8).take 4)] ∧
      (∀ i : Nat, (∀ k < b.length, i ≠ (a + k) % 2 ^ 64) → memRead t.mem i = memRead s.mem i) ∧
      (t.dev.fn fn.val).ringReplies = (s.dev.fn fn.val).ringReplies.erase x ∧
      (t.dev.fn fn.val).reply = (s.dev.fn fn.val).reply ∧
      (t.dev.fn fn.val).completion = ((s.dev.fn fn.val).completion || x.notify))

/-- IRQ_CAUSE is W1C, IRQ_MASK is RW, and a vector signals, is blocked or stays silent as armed. At an awake device a
write to IRQ_CAUSE clears exactly the function's cause bits written 1 that hardware did not set in the same conversion
tick (R18) and one to IRQ_MASK stores the function's mask bits. HOLDOFF_EXPIRY of a vector that is not armed sends
nothing and resets its count and timer; of an armed one of a function outside reset with MSI-X enabled it sends
exactly one message where no mask blocks it, and sets the PBA bit where one does. MSIX_UNMASK of a vector clears its
Mask bit: without a blocked message it sends nothing; a blocked one is sent where the vector is still armed and the
Function Mask is 0, and its pending bit clears. MSIX_UNMASK of the Function Mask clears it, sends the blocked message
of every armed vector whose Mask bit is 0 and keeps those of masked vectors. (R80, R82, R83, R84, R85, R86, R18) -/
def Obligations.InterruptRegistersAndMessages : Prop :=
  (∀ (fn : FnId) (val tie : W32) (s : State), s.dev.awake → s.dev.reachable fn.val = true →
    (∃ t : State, exec (.irqCauseWrite fn ⟨val, tie⟩) s = .next t ∧ t.mem = s.mem ∧ t.dev.tg = s.dev.tg ∧
      (∀ b : Nat, (t.dev.fn fn.val).irqCause.testBit b =
        ((s.dev.fn fn.val).irqCause.testBit b &&
          !(val.toNat.testBit b && !tie.toNat.testBit b && (causeMask fn.val).testBit b)))) ∧
    (∃ t : State, exec (.irqMaskWrite fn val) s = .next t ∧ t.mem = s.mem ∧ t.dev.tg = s.dev.tg ∧
      (t.dev.fn fn.val).irqMask = val.toNat &&& causeMask fn.val ∧
      (t.dev.fn fn.val).irqCause = (s.dev.fn fn.val).irqCause)) ∧
  (∀ (fn : FnId) (v : Fin 64) (s : State) (t0 : Nat), ((s.dev.fn fn.val).vec v.val).start = some t0 →
    (((s.dev.fn fn.val).armed fn.val v.val) = false → ∃ t : State, exec (.holdoffExpiry fn v) s = .next t ∧
      t.dev.msgs = s.dev.msgs ∧ ((t.dev.fn fn.val).vec v.val).count = 0 ∧ ((t.dev.fn fn.val).vec v.val).start = none) ∧
    (((s.dev.fn fn.val).armed fn.val v.val) = true → (s.dev.fn fn.val).msixEnable = true → (s.dev.fn fn.val).flr = .idle →
      ∃ t : State, exec (.holdoffExpiry fn v) s = .next t ∧
        ((t.dev.fn fn.val).vec v.val).count = 0 ∧ ((t.dev.fn fn.val).vec v.val).start = none ∧
        (if (s.dev.fn fn.val).funcMask || ((s.dev.fn fn.val).vec v.val).mask then
          t.dev.msgs = s.dev.msgs ∧ ((t.dev.fn fn.val).vec v.val).pba = true
        else t.dev.msgs = (fn.val, v.val) :: s.dev.msgs ∧ ((t.dev.fn fn.val).vec v.val).pba = false))) ∧
  (∀ (fn : FnId) (v : Fin 64) (s : State), (s.dev.fn fn.val).enabled = true → v.val < vecCount fn.val →
    ((s.dev.fn fn.val).vec v.val).pba = false → ∃ t : State, exec (.msixUnmask fn (some v)) s = .next t ∧
      t.dev.msgs = s.dev.msgs ∧ ((t.dev.fn fn.val).vec v.val).mask = false) ∧
  (∀ (fn : FnId) (v : Fin 64) (s : State), (s.dev.fn fn.val).enabled = true → v.val < vecCount fn.val →
    ((s.dev.fn fn.val).vec v.val).pba = true → ∃ t : State, exec (.msixUnmask fn (some v)) s = .next t ∧ t.mem = s.mem ∧
      ((t.dev.fn fn.val).vec v.val).mask = false ∧
      ((s.dev.fn fn.val).funcMask = true → t.dev.msgs = s.dev.msgs ∧ ((t.dev.fn fn.val).vec v.val).pba = true) ∧
      ((s.dev.fn fn.val).funcMask = false → (s.dev.fn fn.val).armed fn.val v.val = false →
        t.dev.msgs = s.dev.msgs ∧ ((t.dev.fn fn.val).vec v.val).pba = false) ∧
      ((s.dev.fn fn.val).funcMask = false → (s.dev.fn fn.val).armed fn.val v.val = true →
        (s.dev.fn fn.val).msixEnable = true → (s.dev.fn fn.val).flr = .idle →
        t.dev.msgs = (fn.val, v.val) :: s.dev.msgs ∧ ((t.dev.fn fn.val).vec v.val).pba = false)) ∧
  (∀ (fn : FnId) (s : State), (s.dev.fn fn.val).enabled = true → (s.dev.fn fn.val).msixEnable = true →
    (s.dev.fn fn.val).flr = .idle → ∃ t : State, exec (.msixUnmask fn none) s = .next t ∧ t.mem = s.mem ∧
      (t.dev.fn fn.val).funcMask = false ∧
      ∀ v : Nat, v < vecCount fn.val →
        ((t.dev.fn fn.val).vec v).pba = (((s.dev.fn fn.val).vec v).pba && ((s.dev.fn fn.val).vec v).mask) ∧
        (((s.dev.fn fn.val).vec v).pba = true → ((s.dev.fn fn.val).vec v).mask = false →
          (s.dev.fn fn.val).armed fn.val v = true → (fn.val, v) ∈ t.dev.msgs))

/-- EVT_FIRE, the time snapshot, link errors and VF Enable. At an awake device an EVT_FIRE that names a route the function
does not hold sets FIRE_DENIED and nothing else; one that names a held route, not faulted and not asserted, counts one
firing of it, asserted for 20 ns (R456; shown where no pulse is under way and no route drives a line, whose pulse of
R467 could fire it again). TIME_SNAP_LO_READ of a READY device latches NS, FRAC, UNLOCKED and EPOCH of the function
and returns the low word; no other function's latch moves. ECRC_DISCARD with checking enabled and POISONED_WRITE
report through AER (the header of the first error is logged, PRESUMED, log entry 14) and change nothing else; an ECRC
error with checking off changes nothing. VF_ENABLE_SET enables and serves VFs 1 to the lesser of NumVFs and TotalVFs;
VF_ENABLE_CLEAR ends VF Enable with every VF disabled. (R71, R72, R74, R50, R51, R56, R57, R80) -/
def Obligations.EventFireTimeSnapAndLinkErrors : Prop :=
  (∀ (fn : FnId) (val : W32) (s : State), s.dev.awake → s.dev.reachable fn.val = true →
    (s.dev.routeHolder (val.toNat % 256) ≠ fn.val →
      exec (.evtFire fn val) s = .next (s.on (fun d => d.modFn fn.val (fun r => { r with fireDenied := true })))) ∧
    (s.dev.routeHolder (val.toNat % 256) = fn.val → (s.dev.route (val.toNat % 256)).fault = false →
      s.dev.outNow (val.toNat % 256) = false → s.dev.fab.pulses = [] →
      (∀ q n : Nat, n ∈ s.dev.consumersOf q → s.dev.lineSource n = none) → ∃ t : State, exec (.evtFire fn val) s = .next t ∧ t.mem = s.mem ∧
        t.dev.fns = s.dev.fns ∧
        (t.dev.route (val.toNat % 256)).fires = ((s.dev.route (val.toNat % 256)).fires + 1) % 2 ^ 32 ∧
        t.dev.fab.pulses = [(4096 + val.toNat % 256, max s.dev.now s.dev.fab.fireFrom, max s.dev.now s.dev.fab.fireFrom + 20000)])) ∧
  (∀ (fn : FnId) (s : State), (s.dev.fn fn.val).enabled = true → (s.dev.fn 0).ready = true → s.dev.reachable fn.val = true →
    ∃ t : State, exec (.timeSnapLoRead fn) s = .next t ∧ t.mem = s.mem ∧ t.dev.tg = s.dev.tg ∧
      (t.dev.fn fn.val).snap =
        { ns := BitVec.ofNat 64 s.dev.timeNs, frac := BitVec.ofNat 8 s.dev.timeFrac,
          unlocked := s.dev.tb.tstate != .locked, epoch := BitVec.ofNat 16 s.dev.tb.epoch } ∧
      t.dev.readData = ((t.dev.fn fn.val).snap.ns).setWidth 32 ∧ ∀ g : Nat, g ≠ fn.val → t.dev.fn g = s.dev.fn g) ∧
  (∀ (fn : FnId) (hdr : W128) (s : State), (s.dev.fn fn.val).enabled = true →
    ((s.dev.fn fn.val).ecrcCheck = true →
      exec (.ecrcDiscard ⟨fn, hdr⟩) s = .next (s.on (fun d => d.modFn fn.val (fun r =>
        { r with aerEcrc := true, aerLog := if r.aerEcrc || r.aerPoison then r.aerLog else hdr })))) ∧
    ((s.dev.fn fn.val).ecrcCheck = false →
      exec (.ecrcDiscard ⟨fn, hdr⟩) s = .next (s.on (fun d => d.modFn fn.val (fun _ => d.fn fn.val)))) ∧
    exec (.poisonedWrite ⟨fn, hdr⟩) s = .next (s.on (fun d => d.modFn fn.val (fun r =>
      { r with aerPoison := true, aerLog := if r.aerEcrc || r.aerPoison then r.aerLog else hdr })))) ∧
  (∀ s : State, s.dev.link.vfEnable = false → ∃ t : State, exec .vfEnableSet s = .next t ∧ t.mem = s.mem ∧
    t.dev.link.vfEnable = true ∧ t.dev.link.numVfs = min s.dev.link.numVfs s.dev.totalVfs ∧
    ∀ n : Nat, 1 ≤ n → n ≤ min s.dev.link.numVfs s.dev.totalVfs → (t.dev.fn n).enabled = true) ∧
  (∀ s : State, s.dev.link.vfEnable = true → ∃ t : State, exec .vfEnableClear s = .next t ∧ t.mem = s.mem ∧
    t.dev.link.vfEnable = false ∧ ∀ n : Nat, 1 ≤ n → n ≤ s.dev.link.numVfs → (t.dev.fn n).enabled = false)

/-- A RING_TAIL write releases blocks of an enabled ring; outside them it sets TAIL_ERR; a ring that is not enabled
ignores it. For a ring that is not enabled RING_HEAD and RING_TAIL read 0 (through the model's read of a BAR0 word),
and a RING_TAIL write to an awake device leaves the whole state as it was. For an enabled ring of a function outside
reset, at an awake device, the write completes: a value within the blocks written and not yet consumed, HEAD included,
becomes TAIL, and TAIL_ERR stays; any other value is ignored and sets TAIL_ERR. The ring's HEAD, size and base, every
other ring's HEAD, TAIL and TAIL_ERR, and host memory stay as they were. (R78, R79) -/
def Obligations.RingTailWriteRules : Prop :=
  (∀ (fn : FnId) (r : RingId) (val : W32) (s : State), ((s.dev.fn fn.val).ring r.val).enabled = false →
    readReg s.dev fn.val (0x1000 + 16 * r.val) = 0 ∧ readReg s.dev fn.val (0x1004 + 16 * r.val) = 0 ∧
    (s.dev.awake → exec (.ringTailWrite fn r val) s = .next s)) ∧
  (∀ (fn : FnId) (r : RingId) (val : W32) (s : State), s.dev.awake → s.dev.reachable fn.val = true →
    ((s.dev.fn fn.val).ring r.val).enabled = true →
    let g := (s.dev.fn fn.val).ring r.val
    let n := 2 ^ g.size
    let v := val.toNat % 2 ^ 23
    ∃ t : State, exec (.ringTailWrite fn r val) s = .next t ∧ t.mem = s.mem ∧
      (let h := (t.dev.fn fn.val).ring r.val
       h.enabled = true ∧ h.head = g.head ∧ h.size = g.size ∧ h.base = g.base ∧
       (v < n → (v + n - g.tail) % n ≤ (g.head + n - g.tail) % n → h.tail = v ∧ h.tailErr = g.tailErr) ∧
       (n ≤ v ∨ (g.head + n - g.tail) % n < (v + n - g.tail) % n → h.tail = g.tail ∧ h.tailErr = true)) ∧
      ∀ f q : Nat, f ≠ fn.val ∨ q ≠ r.val →
        let x := (s.dev.fn f).ring q
        let y := (t.dev.fn f).ring q
        y.head = x.head ∧ y.tail = x.tail ∧ y.tailErr = x.tailErr)

/-- What the session and diagnostic commands answer and change. Each command that may run at once completes: SESSION_INFO,
SESSION_STATUS (with the clears of CLEAR), SESSION_RESOURCES, DIAG_ECHO (the payload itself), LOG_READ (entries a
session holds, R119), FUNC_STATUS of another function, LOG_CLEAR_LOST (LOST returned and zeroed) answer ST_OK with the
reply table and change nothing else; LOG_ARCHIVE_READ reads the crash record, clears its valid bit, or goes on to read
the persistent log. (R119, R529, R606, R609, R96, R97, spec/03_mailbox.md, spec/21_integrity.md) -/
def Obligations.SessionAndDiagnosticCommands : Prop :=
  (∀ (q : Req) (s : State), s.dev.runsNow cmdSessionInfo q = true →
    exec (.sessionInfo q) s = .next (s.on (fun d => d.answer 0x0101 q id stOk
      (w16 0x0100 ++ w16 q.fn.val ++ w32 (capFw d) ++ w32 (capDevice d) ++ w16 32 ++ w16 64 ++ w8 (d.fn q.fn.val).cls
        ++ w8 (d.fn q.fn.val).ringCount ++ zeros 2)))) ∧
  (∀ (q : Req) (s : State), s.dev.runsNow cmdSessionStatus q = true →
    exec (.sessionStatus q) s = .next (s.on (fun d => d.answer 0x0102 q (fun d => d.modFn q.fn.val (fun r =>
      { r with dropped := if (u32 (d.job 0x0102 q).p 0).testBit 0 then 0 else r.dropped,
               maxService := if (u32 (d.job 0x0102 q).p 0).testBit 1 then 0 else r.maxService }))
      stOk (statusReply d q.fn.val (d.job 0x0102 q))))) ∧
  (∀ (q : Req) (s : State), s.dev.runsNow cmdSessionResources q = true →
    exec (.sessionResources q) s = .next (s.on (fun d => d.answer 0x0103 q id stOk (resourcesReply d q.fn.val)))) ∧
  (∀ (q : Req) (s : State), s.dev.runsNow cmdDiagEcho q = true →
    exec (.diagEcho q) s = .next (s.on (fun d => d.answer 0x0F01 q id stOk (q.payload.take q.len)))) ∧
  (∀ (q : Req) (s : State), s.dev.runsNow cmdLogRead q = true →
    exec (.logRead q) s = .next (s.on (fun d =>
      let p := (d.job 0x0F02 q).p
      let r := if u32 p 0 > d.log.pos then (u32 p 0, [])
        else logScan d q.fn.val 512 (max (u32 p 0) (d.log.pos - 512)) (u8 p 4) []
      d.answer 0x0F02 q id stOk (w32 r.1 ++ w8 r.2.length ++ w8 (bit (decide (u32 p 0 < d.log.pos - 512))) ++ zeros 2
        ++ r.2.flatMap entryBytes)))) ∧
  (∀ (q : Req) (s : State), s.dev.runsNow cmdFuncStatus q = true →
    exec (.funcStatus q) s = .next (s.on (fun d => d.answer 0x0F03 q
      (fun d => clearStatus d (u16 (d.job 0x0F03 q).p 0) (u32 (d.job 0x0F03 q).p 4)) stOk
      (statusReply d (u16 (d.job 0x0F03 q).p 0) (d.job 0x0F03 q))))) ∧
  (∀ (q : Req) (s : State), s.dev.runsNow cmdLogClearLost q = true →
    exec (.logClearLost q) s = .next (s.on (fun d => d.answer 0x0F04 q (fun d => d.modLog (fun l => { l with lost := 0 }))
      stOk (w32 d.log.lost)))) ∧
  (∀ (q : Req) (s : State), s.dev.runsNow cmdLogArchiveRead q = true →
    let p := (s.dev.job 0x0F05 q).p
    (u8 p 0 = 0 → exec (.logArchiveRead q) s = .next (s.on (fun d => d.answer 0x0F05 q id stOk
      (w8 (bit (crashValid d)) ++ w8 (min (u8 p 1) (4032 - u32 p 4)) ++ zeros 2
        ++ w32 (u32 p 4 + min (u8 p 1) (4032 - u32 p 4)) ++ slice d.log.crash (u32 p 4) (min (u8 p 1) (4032 - u32 p 4)))))) ∧
    (u8 p 0 = 1 → exec (.logArchiveRead q) s = .next (s.on (fun d => d.goesOn 0x0F05 q id [.store] []))) ∧
    (u8 p 0 = 2 → exec (.logArchiveRead q) s = .next (s.on (fun d => d.answer 0x0F05 q
      (fun d => d.modSys (fun y => { y with bkup := tblSet (fun _ => 0) y.bkup 30 0 })) stOk (zeros 8)))))

/-- What the channel and gang commands answer and change. Each command that may run at once completes. CHAN_INFO answers
the declared ranges. CHAN_CONFIG of a channel alone in OFF or HIGH_Z that changes neither a range nor the sense
answers ST_OK and sets the force mode (a new mode resets the values); one that changes a range of a channel in ZERO or
ON goes on as a range change; one in ZERO or ON that changes none answers ST_OK with no effect; one in OFF or HIGH_Z
that changes a range or the sense goes on as a plain change. CHAN_SET_SOURCE answers ST_OK and lets the values that
are not kept wait for one boundary. CHAN_SET_STATE to the state the channel is in answers ST_OK with that state; a
target that needs steps goes on. CHAN_STATUS answers the flags (ST_STALE under calibration) and clears COMP_SEEN if
asked. GANG_DEFINE and GANG_DISSOLVE define and remove a gang, and send its map to Helon on the side channel (R345,
R358). (R107, R124, R128, R131, R132, R138, R144, R152, R153, R398) -/
def Obligations.ChannelCommands : Prop :=
  (∀ (q : Req) (s : State), s.dev.runsNow cmdChanInfo q = true →
    exec (.chanInfo q) s = .next (s.on (fun d =>
      let c := (d.job 0x0201 q).ch
      d.answer 0x0201 q id stOk (w8 (d.ranges c false).length ++ w8 (d.ranges c true).length ++ w8 (c / 4)
        ++ w8 (bit (d.noModule c)) ++ (d.ranges c false ++ d.ranges c true).flatMap rangeEntry)))) ∧
  (∀ (q : Req) (s : State), s.dev.runsNow cmdChanConfig q = true →
    let j := s.dev.job 0x0202 q
    let r := s.dev.cfgReq j
    let x := s.dev.chan j.ch
    (x.state < 2 → s.dev.team j.ch = [j.ch] → r.v = x.vr → r.i = x.ir → r.loc = x.senseLocal →
      exec (.chanConfig q) s = .next (s.on (fun d => d.observed (fun d => d.answer 0x0202 q (fun d => d.modChan j.ch (fun y =>
        if r.fi = x.fi then { y with fi := r.fi, senseLocal := r.loc }
        else { ({ y with fi := r.fi, senseLocal := r.loc } : Chan).resetValues with ramp := none })) stOk [])))) ∧
    (2 ≤ x.state → (r.v ≠ x.vr ∨ r.i ≠ x.ir) →
      exec (.chanConfig q) s = .next (s.on (fun d => d.observed (fun d => d.goesOn 0x0202 q
        (fun d => d.rcStart j.ch r.v r.i (some j.id) d.now) (d.chanCmdNames j.ch) [])))) ∧
    (2 ≤ x.state → r.v = x.vr → r.i = x.ir →
      exec (.chanConfig q) s = .next (s.on (fun d => d.observed (fun d => d.answer 0x0202 q id stOk [])))) ∧
    (x.state < 2 → (r.v ≠ x.vr ∨ r.i ≠ x.ir ∨ r.loc ≠ x.senseLocal) →
      exec (.chanConfig q) s = .next (s.on (fun d => d.observed (fun d => d.goesOn 0x0202 q
        (fun d => (d.forAll (d.team j.ch) (fun d m => d.modChan m (fun y =>
            if r.fi = x.fi then { y with fi := r.fi, senseLocal := r.loc }
            else { ({ y with fi := r.fi, senseLocal := r.loc } : Chan).resetValues with ramp := none }))).plainBegin j.ch r.v r.i
              (r.fi != x.fi) (some j.id)) (d.chanCmdNames j.ch) []))))) ∧
  (∀ (q : Req) (s : State), s.dev.runsNow cmdChanSetSource q = true →
    let j := s.dev.job 0x0203 q
    let f := u8 j.p 1
    exec (.chanSetSource q) s = .next (s.on (fun d => d.answer 0x0203 q (fun d => d.modChan j.ch (fun x =>
      { x with sourceWait := x.sourceWait ++ [{ at_ := d.boundaryIn 1, soft := f.testBit 0,
                                                setpoint := if f.testBit 1 then none else some (s32 j.p 4),
                                                compPos := if f.testBit 2 then none else some (s32 j.p 8),
                                                compNeg := if f.testBit 2 then none else some (s32 j.p 12) }] })) stOk []))) ∧
  (∀ (q : Req) (s : State), s.dev.runsNow cmdChanSetState q = true →
    let j := s.dev.job 0x0204 q
    let x := s.dev.chan j.ch
    (s.dev.team j.ch = [j.ch] → u8 j.p 1 ≠ 0 → x.state = u8 j.p 1 → x.trans = none → s.dev.seqBusy j.ch = false →
      ∃ t : State, exec (.chanSetState q) s = .next t ∧ t.mem = s.mem ∧ (t.dev.chan j.ch).state = x.state ∧
        (q.ring = none → ∃ l : List Reply, (s.dev.finished q.fn.val = [] → l = []) ∧
          (t.dev.fn q.fn.val).replies = (s.dev.fn q.fn.val).replies ++ l ++
          [{ op := 0x0204, tag := q.tag, status := 0, final := false, last := true,
             payload := w8 (u8 j.p 1) ++ zeros 3, arrival := some s.dev.now }])) ∧
    (∀ (st : Nat) (p : List Byte), (Dev.setStateBody (s.dev.taken q) j).2 = .done st p →
      exec (.chanSetState q) s = .next (s.on (fun d => d.observed (fun d =>
        d.answer 0x0204 q (fun d => (Dev.setStateBody d j).1) st p)))) ∧
    (∀ data : List Int, (Dev.setStateBody (s.dev.taken q) j).2 = .later data →
      exec (.chanSetState q) s = .next (s.on (fun d => d.observed (fun d => d.goesOn 0x0204 q
        (fun d => (Dev.setStateBody d j).1) (d.chanCmdNames j.ch) data))))) ∧
  (∀ (q : Req) (s : State), s.dev.runsNow cmdChanStatus q = true →
    exec (.chanStatus q) s = .next (s.on (fun d =>
      let j := d.job 0x0205 q
      d.answer 0x0205 q (fun d => d.modChan j.ch (fun x => { x with compSeen := x.compSeen && !(u32 j.p 4).testBit 0 }))
        (if d.calActive j.ch then stStale else stOk) (chanStatusReply d j.ch)))) ∧
  (∀ (q : Req) (s : State), s.dev.runsNow cmdGangDefine q = true →
    exec (.gangDefine q) s = .next (s.on (fun d =>
      let p := (d.job 0x0206 q).p
      d.answer 0x0206 q (fun d => d.gangDefine (u8 p 0) (u8 p 1) (u64 p 4)) stOk []))) ∧
  (∀ (q : Req) (s : State), s.dev.runsNow cmdGangDissolve q = true →
    exec (.gangDissolve q) s = .next (s.on (fun d =>
      let g := u8 (d.job 0x0207 q).p 0
      d.answer 0x0207 q (fun d => (d.setGang g none).forAll (d.gangMembers g) (fun d m => d.sendDown m (.gangMap 0))) stOk [])))

/-- Output-state steps, stage-word latches and their confirmation. A settle time that ends, for a channel or all members
of its gang: for the enable step they are in HIGH_Z with INNER's states and output 0, for the close step in ZERO with
the leader's OUTER, CLAMP and TRIM started, and for the release step they leave ZERO to HIGH_Z with the engines'
outputs kept; a step that reaches the target ends the transition; the clock is at the first sample instant not before
its end. STAGE_WORD_LATCH latches the shifted words of the module and of all modules that a gang's change binds to it
at one instant. A STAGE_CONFIRM_TRANSFER that reads the latched word confirms it; one that reads another, for the
first time, shifts the latched word again, and for the second time (no range change, gang, sequencer or traceable
session on them) sets STAGE_FAULT on the module's four channels and takes them to OFF. (R138, R140, R146, R148, R149,
R150, R195, R135, R139, R227) -/
def Obligations.OutputTransitionsAndStageWords : Prop :=
  (∀ (ch : ChanId) (s : State) (t : Trans) (d : Nat), (s.dev.chan ch.val).trans = some t → t.due = some d →
    (t.step = .enable → ∃ u : State, exec (.transitionSettleEnd ch) s = .next u ∧ u.mem = s.mem ∧
      u.dev.now = max s.dev.now (s.dev.instantAt d) ∧ (t.target = 1 → (u.dev.chan ch.val).trans = none) ∧
      ∀ m ∈ s.dev.team ch.val, (u.dev.chan m).state = 1 ∧ (u.dev.eng (4 * m)).st = statesZero ∧ (u.dev.eng (4 * m)).out = 0) ∧
    (t.step = .close → ∃ u : State, exec (.transitionSettleEnd ch) s = .next u ∧ u.mem = s.mem ∧
      u.dev.now = max s.dev.now (s.dev.instantAt d) ∧ (t.target = 2 → (u.dev.chan ch.val).trans = none) ∧
      (∀ m ∈ s.dev.team ch.val, (u.dev.chan m).state = 2) ∧
      ∀ role : Nat, 1 ≤ role → role ≤ 3 →
        (u.dev.eng (4 * ch.val + role)).st = statesZero ∧ (u.dev.eng (4 * ch.val + role)).out = 0) ∧
    (t.step = .release → ∃ u : State, exec (.transitionSettleEnd ch) s = .next u ∧ u.mem = s.mem ∧
      u.dev.now = max s.dev.now (s.dev.instantAt d) ∧ (t.target = 1 → (u.dev.chan ch.val).trans = none) ∧
      (∀ m ∈ s.dev.team ch.val, (u.dev.chan m).state = 1) ∧ (u.dev.chan ch.val).r = 0 ∧
      ∀ role : Nat, role ≤ 3 → (u.dev.eng (4 * ch.val + role)).out = (s.dev.eng (4 * ch.val + role)).out)) ∧
  (∀ (m : ModId) (s : State) (d : Nat), (s.dev.stage m.val).shift.isSome = true → s.dev.groupLatchAt m.val = some d →
    m.val ∈ s.dev.latchGroup m.val ∧
    ((∀ c : Nat, c / 4 ∈ s.dev.latchGroup m.val →
        (s.dev.chan (s.dev.leader c)).trans = none ∧ (s.dev.chan (s.dev.leader c)).rc = none) →
      ∃ u : State, exec (.stageWordLatch m) s = .next u ∧ u.mem = s.mem ∧ u.dev.now = max s.dev.now d ∧
        ∀ n ∈ s.dev.latchGroup m.val, ∀ (w : W64) (e : Nat), (s.dev.stage n).shift = some (w, e) →
          (u.dev.stage n).latched = w ∧ (u.dev.stage n).lastLatch = some d ∧ (u.dev.stage n).unconfirmed = true ∧
          ((s.dev.stage n).wanted = w → (u.dev.stage n).shift = none))) ∧
  (∀ (m : ModId) (rb : W64) (s : State) (d : Nat), (s.dev.stage m.val).lastLatch = some d → (s.dev.stage m.val).unconfirmed = true →
    (rb = (s.dev.stage m.val).latched → (∀ c : Nat, c / 4 = m.val → (s.dev.chan (s.dev.leader c)).rc = none) →
      ∃ u : State, exec (.stageConfirmTransfer m rb) s = .next u ∧ u.mem = s.mem ∧
        u.dev.now = max s.dev.now ((s.dev.stage m.val).checkAt d) ∧
        (u.dev.stage m.val).unconfirmed = false ∧ (u.dev.stage m.val).failedOnce = false ∧
        (u.dev.stage m.val).latched = (s.dev.stage m.val).latched ∧ (u.dev.stage m.val).readback = rb) ∧
    (rb ≠ (s.dev.stage m.val).latched → (s.dev.stage m.val).failedOnce = false →
      (∀ c : Nat, c / 4 = m.val → (s.dev.chan (s.dev.leader c)).rc = none) →
      ∃ u : State, exec (.stageConfirmTransfer m rb) s = .next u ∧ u.mem = s.mem ∧
        (u.dev.stage m.val).failedOnce = true ∧ (u.dev.stage m.val).latched = (s.dev.stage m.val).latched ∧
        (u.dev.stage m.val).shift = some ((s.dev.stage m.val).latched, max s.dev.now ((s.dev.stage m.val).checkAt d) + 3200000)) ∧
    ((s.dev.stage m.val).shift = none → (s.dev.stage m.val).checkAt d = d + 4200000) ∧
    (rb ≠ (s.dev.stage m.val).latched → (s.dev.stage m.val).failedOnce = true → s.dev.cal.trace = none →
      (∀ c : Nat, c / 4 = m.val → (s.dev.chan c).rc = none ∧ (s.dev.chan c).trans = none ∧ s.dev.leader c = c ∧
        s.dev.team c = [c] ∧ (s.dev.seq c).state = 0) →
      ∃ u : State, exec (.stageConfirmTransfer m rb) s = .next u ∧ u.mem = s.mem ∧
        ∀ c : Nat, c / 4 = m.val → (u.dev.chan c).stageFault = true ∧ (u.dev.chan c).state = 0))

/-- What the loop-engine commands answer and change. Each command that may run at once completes. LOOP_LOAD_IMAGE and
LOOP_LOAD_DEFAULT put the part, or the role's default image, into the inactive bank: VALID after both parts pass the
checks of R189 and the fit of R175 (ST_OK with the bank's reply), EMPTY with the failure's status otherwise; nothing
of the active bank changes. LOOP_READ_IMAGE, LOOP_ENGINE_STATUS (with its clears), LOOP_READ_STATE and
LOOP_STRUCT_STATUS answer; LOOP_SET_STRUCTURE lets the selected fields wait for the boundary at least 1 µs on;
LOOP_SWAP_GROUP sets the group; LOOP_SWAP arms its members for one boundary; LOOP_SWAP_CANCEL disarms;
LOOP_RANGE_STORE with PART 0xFF empties a slot, and with a part writes it. (R173, R182, R183, R189, R191, R192, R198,
R203, R206, R207, R210, R212) -/
def Obligations.LoopCommands : Prop :=
  (∀ (q : Req) (s : State), s.dev.runsNow cmdLoopLoadImage q = true →
    let j := s.dev.job 0x0301 q
    let r := ((s.dev.eng j.eng).other.write (u8 j.p 2) (slice j.p 8 192)).check (s.dev.fitsEng j.eng)
    exec (.loopLoadImage q) s = .next (s.on (fun d => d.answer 0x0301 q (fun d => d.modEng j.eng (fun g => { g with other := r.1 }))
      r.2 (if r.2 = 0 then loadReply (d.modEng j.eng (fun g => { g with other := r.1 })) j.eng else [])))) ∧
  (∀ (q : Req) (s : State), s.dev.runsNow cmdLoopReadImage q = true →
    exec (.loopReadImage q) s = .next (s.on (fun d =>
      let j := d.job 0x0302 q
      let g := d.eng j.eng
      let act := u8 j.p 2 == g.active
      d.answer 0x0302 q id stOk (w8 (if act then 3 else 2) ++ zeros 3
        ++ slice (if act then g.image else g.other.bytes) (192 * u8 j.p 3) 192)))) ∧
  (∀ (q : Req) (s : State), s.dev.runsNow cmdLoopEngineStatus q = true →
    let j := s.dev.job 0x0303 q
    let g := s.dev.eng j.eng
    exec (.loopEngineStatus q) s = .next (s.on (fun d => d.answer 0x0303 q (fun d => d.modEng j.eng (fun g =>
      { g with satSeen := g.satSeen && !(u32 j.p 4).testBit 0, limitSeen := g.limitSeen && !(u32 j.p 4).testBit 0,
               heldSeen := g.heldSeen && !(u32 j.p 4).testBit 0, heldRes := if (u32 j.p 4).testBit 1 then 0 else g.heldRes,
               heldLate := if (u32 j.p 4).testBit 1 then 0 else g.heldLate,
               periods := if (u32 j.p 4).testBit 1 then 0 else g.periods })) stOk
      (w8 g.active ++ w8 g.other.state ++ w16 (d.cyclesOf j.eng g.image) ++ w16 (min (engineBudget d.tb.d) 0xFFFF)
        ++ w16 (bitAt g.sat 0 + bitAt g.limit 1 + bitAt g.satSeen 2 + bitAt g.limitSeen 3 + bitAt g.heldSeen 4
          + bitAt (d.engRuns j.eng) 5)
        ++ w32 g.heldRes ++ w32 g.heldLate ++ w32 g.periods ++ wi32 g.out)))) ∧
  (∀ (q : Req) (s : State), s.dev.runsNow cmdLoopReadState q = true →
    let g := s.dev.eng (s.dev.job 0x0304 q).eng
    exec (.loopReadState q) s = .next (s.on (fun d => d.answer 0x0304 q id stOk (w64 g.atNs
      ++ (List.range 8).flatMap (fun k =>
        let p := if k < imgNsec g.image then g.st.getD k (0, 0) else (0, 0)
        wi64 p.1 ++ wi64 p.2)
      ++ wi32 g.et ++ wi32 g.out)))) ∧
  (∀ (q : Req) (s : State), s.dev.runsNow cmdLoopLoadDefault q = true →
    let j := s.dev.job 0x0305 q
    let r := Slot.check { state := 1, parts := 3, bytes := defaultImage (j.eng % 4) } (s.dev.fitsEng j.eng)
    exec (.loopLoadDefault q) s = .next (s.on (fun d => d.answer 0x0305 q (fun d => d.modEng j.eng (fun g => { g with other := r.1 }))
      r.2 (if r.2 = 0 then loadReply (d.modEng j.eng (fun g => { g with other := r.1 })) j.eng else [])))) ∧
  (∀ (q : Req) (s : State), s.dev.runsNow cmdLoopSetStructure q = true →
    let p := (s.dev.job 0x0306 q).p
    let b := s.dev.boundaryIn 1
    exec (.loopSetStructure q) s = .next (s.on (fun d => d.answer 0x0306 q (fun d => d.modChan (u8 p 0) (fun x =>
      { x with pendN := x.pendN ++ (if (u8 p 1).testBit 0 then [(b, u8 p 2)] else []),
               rampSmooth := if (u8 p 1).testBit 1 then u8 p 3 == 1 else x.rampSmooth,
               rampNs := if (u8 p 1).testBit 1 then u32 p 4 else x.rampNs,
               pendFf := x.pendFf ++ (if (u8 p 1).testBit 2 then [(b, u8 p 8, u8 p 9)] else []),
               pendTrim := x.pendTrim ++ (if (u8 p 1).testBit 3 then [(b, u16 p 10)] else []),
               pendRail := x.pendRail ++ (if (u8 p 1).testBit 4 then [(b, u16 p 12, u32 p 16)] else []) })) stOk []))) ∧
  (∀ (q : Req) (s : State), s.dev.runsNow cmdLoopStructStatus q = true →
    exec (.loopStructStatus q) s = .next (s.on (fun d =>
      let j := d.job 0x0307 q
      d.answer 0x0307 q id (if d.calActive j.ch then stStale else stOk) (structReply d j.ch)))) ∧
  (∀ (q : Req) (s : State), s.dev.runsNow cmdLoopSwapGroup q = true →
    let p := (s.dev.job 0x0308 q).p
    exec (.loopSwapGroup q) s = .next (s.on (fun d => d.answer 0x0308 q (fun d =>
      { d with swapGroups := tblSet groupInit d.swapGroups (64 * q.fn.val + u8 p 0) (leN p 4 32) }) stOk []))) ∧
  (∀ (q : Req) (s : State), s.dev.runsNow cmdLoopSwap q = true →
    let j := s.dev.job 0x0309 q
    let es := s.dev.swapMembers q.fn.val (u8 j.p 0) (u16 j.p 2)
    let w : Swap :=
      { id := j.id, fn := q.fn.val, group := u8 j.p 0, engines := es, kind := u8 j.p 1, route := u8 j.p 4,
        target := s.dev.monoTarget (u64 j.p 8), boundary := if u8 j.p 1 = 0 then some (s.dev.boundaryIn 2) else none,
        committed := false }
    (u8 j.p 1 = 0 → exec (.loopSwap q) s = .next (s.on (fun d => d.answer 0x0309 q (fun d => { d with swaps := d.swaps ++ [w] })
      stOk (w64 (d.nsAt (d.boundaryIn 2)))))) ∧
    (u8 j.p 1 = 1 → exec (.loopSwap q) s = .next (s.on (fun d => d.answer 0x0309 q (fun d => { d with swaps := d.swaps ++ [w] })
      stOk (w64 (d.nsAt (d.boundaryAt (d.monoInstant w.target))))))) ∧
    (u8 j.p 1 = 2 → exec (.loopSwap q) s = .next (s.on (fun d => d.answer 0x0309 q (fun d =>
      ({ d with swaps := d.swaps ++ [w] } : Dev).forAll es (fun d e => d.attach (704 + e) (u8 j.p 4))) stOk (w64 0))))) ∧
  (∀ (q : Req) (s : State) (w : Swap), s.dev.runsNow cmdLoopSwapCancel q = true →
    let p := (s.dev.job 0x030A q).p
    s.dev.swaps.find? (fun w => w.isNamed q.fn.val (u8 p 0) (u16 p 2)) = some w →
    exec (.loopSwapCancel q) s = .next (s.on (fun d => d.answer 0x030A q (fun d => d.swapGone w) stOk []))) ∧
  (∀ (q : Req) (s : State), s.dev.runsNow cmdLoopRangeStore q = true →
    let j := s.dev.job 0x030B q
    let k := libNo (u8 j.p 2 == 1) (u8 j.p 3)
    let r := ((tblGet slotInit (s.dev.eng j.eng).lib k).write (u8 j.p 4) (slice j.p 8 192)).check (fun _ => true)
    (u8 j.p 4 = 0xFF → exec (.loopRangeStore q) s = .next (s.on (fun d => d.answer 0x030B q (fun d =>
      d.modEng j.eng (fun x => { x with lib := tblSet slotInit x.lib k slotEmpty })) stOk (zeros 4)))) ∧
    (u8 j.p 4 ≠ 0xFF → exec (.loopRangeStore q) s = .next (s.on (fun d => d.answer 0x030B q (fun d =>
      d.modEng j.eng (fun x => { x with lib := tblSet slotInit x.lib k r.1 })) r.2
      (if r.2 = 0 then w8 r.1.state ++ zeros 1 ++ w16 (if r.1.state = 2 then d.cyclesOf j.eng r.1.bytes else 0) else [])))))

/-- Swap commitment, boundary and event; the rail input goes stale. SWAP_COMMIT marks an armed swap committed at 1 µs
before its boundary. SWAP_EVENT_LATCH of an event swap commits it for the boundary one period after the sample instant
of the edge that ends the event's tick; of a committed one it sets OVERRUN (R463). SWAP_BOUNDARY exchanges the banks
of every member engine at the boundary: the image that was inactive is active, the old one VALID in the other bank,
every other engine is as it was, and the swap is gone. RAIL_STALE 1 ms after the last rail result zeroes the rail
input and marks it stale. RANGE_CHANGE_TIMEOUT and the other range-change rows change nothing on a channel without a
range change (RangeChangeSteps says what they do on one). (R208, R209, R210, R184, R183, R203, R213, R216, R224, R463) -/
def Obligations.SwapsTakeEffectTogether : Prop :=
  (∀ (id : Nat) (s : State) (w : Swap) (b : Nat), s.dev.swapOf id = some w → s.dev.swapBoundary w = some b →
    (∃ t : State, exec (.swapCommit id) s = .next t ∧ t.mem = s.mem ∧ t.dev.now = max s.dev.now (b - 1000000) ∧
      t.dev.engines = s.dev.engines ∧ t.dev.swapOf id = some { w with committed := true }) ∧
    (w.engines.Nodup → ∃ t : State, exec (.swapBoundary id) s = .next t ∧ t.mem = s.mem ∧ t.dev.now = max s.dev.now b ∧
      t.dev.swapOf id = none ∧
      (∀ e ∈ w.engines, (t.dev.eng e).image = (s.dev.eng e).other.bytes ∧ (t.dev.eng e).active = 1 - (s.dev.eng e).active ∧
        (t.dev.eng e).other.state = 2 ∧ (t.dev.eng e).other.bytes = (s.dev.eng e).image) ∧
      (∀ e : Nat, e ∉ w.engines → t.dev.eng e = s.dev.eng e))) ∧
  (∀ (id : Nat) (s : State) (w : Swap), s.dev.swapOf id = some w → w.kind = 2 →
    w.engines.any (fun e => s.dev.hasEdge (704 + e)) = true →
    (w.committed = false → ∃ t : State, exec (.swapEventLatch id) s = .next t ∧ t.mem = s.mem ∧ t.dev.engines = s.dev.engines ∧
      t.dev.swapOf id = some { w with
        committed := true,
        boundary := some (s.dev.instantAt
          (s.dev.latchOf (704 + (w.engines.filter (fun e => s.dev.hasEdge (704 + e))).headD 0)) + s.dev.periodPs) }) ∧
    (w.committed = true → ∃ t : State, exec (.swapEventLatch id) s = .next t ∧ t.mem = s.mem ∧ t.dev.engines = s.dev.engines ∧
      t.dev.swapOf id = some w ∧ ∀ e ∈ w.engines, tblGet (fun _ => false) t.dev.fab.overrun (704 + e) = true)) ∧
  (∀ (ch : ChanId) (s : State) (t0 : Nat), (s.dev.chan ch.val).railAt = some t0 →
    exec (.railStale ch) s = .next (s.on (fun d => (d.advance (t0 + 1000000000)).modChan ch.val (fun x =>
      { x with rail := 0, railStale := true, railAt := none, railNext := none })))) ∧
  (∀ (ch : ChanId) (s : State), (s.dev.chan ch.val).rc = none →
    ∃ t u v : State, exec (.rangePrimingDone ch) s = .next t ∧ exec (.rangeSettleExpiry ch) s = .next u ∧
      exec (.rangeChangeTimeout ch) s = .next v ∧ t.dev.chans = s.dev.chans ∧ u.dev.chans = s.dev.chans ∧
      v.dev.chans = s.dev.chans)

/-- The steps of a range change: priming, settle count or settle time, break, switch-over and timeout. Priming of a
channel's range change whose images all fit ends at most 8 µs after the start, puts each engine's primed image, VALID,
into its inactive bank, leaves the active one, sends Helon every member's set of the new range (R236, R357), and the
change goes on; if one does not fit, the change is over (its command with ST_ARG) and the inactive banks are EMPTY. A
plain change whose settle time ends is complete. A change whose settle count has run down at a boundary that R148
allows (no other channel of its modules in a change or transition) breaks at that boundary: every engine swaps banks
and the members take the new code. A switch-over whose settle count has run down starts OUTER's and TRIM's periods
anew and, with Helon's report and the word's check there, is complete. At the timeout the channel and its gang are in
OFF, the change is over, and the command that began it has the result ST_TIMEOUT. (R213, R214, R215, R216, R218, R220,
R221, R224, R128, R345) -/
def Obligations.RangeChangeSteps : Prop :=
  (∀ (ch : ChanId) (s : State) (rc : RangeChange), (s.dev.chan ch.val).rc = some rc → rc.phase = .priming →
    let es := s.dev.rcEngines ch.val
    let fits := fun e : Nat => imgFits ((s.dev.eng e).primed rc.cur rc.new) (e % 4) (s.dev.ganged (e / 4)) s.dev.tb.d
    ((∀ e ∈ es, fits e = true) → ∃ t : State, exec (.rangePrimingDone ch) s = .next t ∧ t.mem = s.mem ∧
      s.dev.now ≤ t.dev.now ∧ t.dev.now ≤ max s.dev.now (rc.started + 8000000) ∧
      (t.dev.chan ch.val).rc = some { rc with phase := if rc.cur then .made else .switched } ∧
      (∀ e ∈ es, (t.dev.eng e).image = (s.dev.eng e).image ∧
        (t.dev.eng e).other = { state := 2, parts := 3, bytes := (s.dev.eng e).primed rc.cur rc.new }) ∧
      ∀ m ∈ s.dev.team ch.val, ∃ p ∈ t.dev.seam.packets, p.chan = some m ∧ p.msg = .stage (s.dev.rangeSet m rc.cur rc.old rc.new)) ∧
    ((∃ e ∈ es, fits e = false) → ∃ t : State, exec (.rangePrimingDone ch) s = .next t ∧ t.mem = s.mem ∧
      (t.dev.chan ch.val).rc = none ∧ (t.dev.chan ch.val).vr = (s.dev.chan ch.val).vr ∧
      (t.dev.chan ch.val).ir = (s.dev.chan ch.val).ir ∧ (∀ e ∈ es, (t.dev.eng e).other = slotEmpty) ∧
      ∀ (id : Nat) (r : Running), rc.cmd = some id → s.dev.running? id = some r → r.result = none →
        ∃ u : Running, t.dev.running? id = some u ∧ u.job = r.job ∧ u.result = some (stArg, []))) ∧
  (∀ (ch : ChanId) (s : State) (rc : RangeChange), (s.dev.chan ch.val).rc = some rc →
    (∀ d : Nat, rc.due = some d → rc.also = none → ∃ t : State, exec (.rangeSettleExpiry ch) s = .next t ∧ t.mem = s.mem ∧
      t.dev.now = max s.dev.now d ∧ (t.dev.chan ch.val).rc = none ∧ (t.dev.chan ch.val).vr = (s.dev.chan ch.val).vr ∧
      (t.dev.chan ch.val).ir = (s.dev.chan ch.val).ir ∧
      ∀ (id : Nat) (r : Running), rc.cmd = some id → s.dev.running? id = some r → r.result = none →
        ∃ u : Running, t.dev.running? id = some u ∧ u.job = r.job ∧ u.result = some (stOk, [])) ∧
    (rc.due = none → rc.phase = .made → rc.latched = true → rc.counting = true → rc.left = 0 →
      s.dev.breakAllowed ch.val s.dev.tb.lastSample = true → (s.dev.rcEngines ch.val).Nodup →
      (∀ c : Nat, c / 4 ∈ s.dev.teamModules ch.val → s.dev.leader c = ch.val ∨
        ((s.dev.chan (s.dev.leader c)).rc = none ∧ (s.dev.chan (s.dev.leader c)).trans = none)) →
      ∃ t : State, exec (.rangeSettleExpiry ch) s = .next t ∧ t.mem = s.mem ∧
        t.dev.now = max s.dev.now s.dev.tb.lastSample ∧
        (t.dev.chan ch.val).rc = some { rc with
          phase := .breaking, swapped := true, repeats := 0, wordAt := some t.dev.now, pathOk := false } ∧
        (∀ e ∈ s.dev.rcEngines ch.val, (t.dev.eng e).image = (s.dev.eng e).other.bytes ∧
          (t.dev.eng e).active = 1 - (s.dev.eng e).active) ∧
        ∀ m ∈ s.dev.team ch.val, (if rc.cur then (t.dev.chan m).ir else (t.dev.chan m).vr) = rc.new) ∧
    (rc.due = none → rc.phase = .switched → rc.latched = true → rc.left = 0 →
      ∃ t : State, exec (.rangeSettleExpiry ch) s = .next t ∧ t.mem = s.mem ∧
        (t.dev.chan ch.val).k0Outer = 0 ∧ (t.dev.chan ch.val).k0Trim = 0 ∧ t.dev.engines = s.dev.engines ∧
        (rc.pathOk = false → (t.dev.chan ch.val).rc = some { rc with phase := .breaking }) ∧
        (rc.pathOk = true → (∀ m ∈ s.dev.teamModules ch.val, (s.dev.stage m).unconfirmed = false) → rc.also = none →
          (t.dev.chan ch.val).rc = none)) ∧
    (∀ id : Nat, rc.cmd = some id → s.dev.leader ch.val = ch.val →
      ∃ t : State, exec (.rangeChangeTimeout ch) s = .next t ∧ t.mem = s.mem ∧ t.dev.now = max s.dev.now rc.limit ∧
        (t.dev.chan ch.val).rc = none ∧ (∀ m ∈ s.dev.team ch.val, (t.dev.chan m).state = 0 ∧ (t.dev.chan m).req = false) ∧
        ∀ r : Running, s.dev.running? id = some r → r.result = none →
          ∃ u : Running, t.dev.running? id = some u ∧ u.job = r.job ∧ u.result = some (stTimeout, [])))

/-- What the sequence and handler commands answer and change. Each command that may run at once completes. SEQ_WRITE
stores its entries, and SEQ_READ answers them. SEQ_CONFIG sets the settings. SEQ_ARM whose entries all pass and whose
time lies within the service bound arms every sequencer with ARM_ERR cleared; with a longer list it goes on. SEQ_START
starts every sequencer of the map at the first edge at least 1 µs on, and completes there (its one reply is
FINAL_REPLY's). A SEQ_ARM with a failing entry arms none and answers the status of the check. SEQ_STOP stops them at
the next edge. SEQ_STATUS answers the table and clears the counters if asked. HANDLER_CONFIG, HANDLER_BIN and
HANDLER_STATUS set and answer the handshake engine's fields; an engine freed by CHANNELS 0 leaves its function's
routes (R462). (R267, R268, R270, R275, R285, R290, R292, R293, R300, R303, R462) -/
def Obligations.SequencerCommands : Prop :=
  (∀ (q : Req) (s : State), s.dev.runsNow cmdSeqWrite q = true →
    let p := (s.dev.job 0x0401 q).p
    exec (.seqWrite q) s = .next (s.on (fun d => d.answer 0x0401 q (fun d =>
      let m := (List.range (u8 p 4)).foldl (fun m k => tblSet entryInit m (u32 p 0 + k) (slice p (8 + 32 * k) 32)) d.seqMem
      { d with seqMem := m }) stOk []))) ∧
  (∀ (q : Req) (s : State), s.dev.runsNow cmdSeqRead q = true →
    exec (.seqRead q) s = .next (s.on (fun d =>
      let p := (d.job 0x0402 q).p
      d.answer 0x0402 q id stOk ((List.range (u8 p 4)).flatMap (fun k => d.listEntry (u32 p 0 + k)))))) ∧
  (∀ (q : Req) (s : State), s.dev.runsNow cmdSeqConfig q = true →
    let j := s.dev.job 0x0403 q
    exec (.seqConfig q) s = .next (s.on (fun d => d.answer 0x0403 q (fun d => d.modSeq j.ch (fun x =>
      { x with endAction := u8 j.p 1, trigMode := u8 j.p 2, base := u32 j.p 4, len := u32 j.p 8, first := u16 j.p 12,
               waitTimeout := u32 j.p 16, entry := u32 j.p 4 })) stOk []))) ∧
  (∀ (q : Req) (s : State), s.dev.runsNow cmdSeqArm q = true →
    let j := s.dev.job 0x0404 q
    (1000 * j.boundUs < 100000 + 30 * s.dev.armEntries j.chans →
      exec (.seqArm q) s = .next (s.on (fun d => d.goesOn 0x0404 q id (cmdSeqArm.names (d.taken q) j) []))) ∧
    (100000 + 30 * s.dev.armEntries j.chans ≤ 1000 * j.boundUs →
      exec (.seqArm q) s = .next (s.on (fun d => d.answer 0x0404 q (fun d => (d.armAll j.chans).1)
        (d.armAll j.chans).2.1 (d.armAll j.chans).2.2))) ∧
    (100000 + 30 * s.dev.armEntries j.chans ≤ 1000 * j.boundUs →
      (∀ c ∈ j.chans, s.dev.listError c (s.dev.seq c).len 0 0 = none) →
      exec (.seqArm q) s = .next (s.on (fun d => d.answer 0x0404 q (fun d =>
        (d.forAll j.chans (fun d c => d.modSeq c (fun x => { x with armErrEntry := 0xFFFFFFFF, armErrCode := 0 }))).forAll
          j.chans Dev.arm1) stOk [])))) ∧
  (∀ (q : Req) (s : State), s.dev.runsNow cmdSeqStart q = true →
    let j := s.dev.job 0x0405 q
    let e := s.dev.edgeAt (s.dev.now + 1000000)
    exec (.seqStart q) s = .next (s.on (fun d => d.completesAt 0x0405 q (fun d => d.forAll j.chans (fun d c =>
      (d.seqStartAt c e).modSeq c (fun x => { x with startCmd := if x.startEdge = e then some j.id else x.startCmd })))
      (d.chanNames j.map) [(e : Int)])) ∧
    ((∀ c ∈ j.chans, (s.dev.seq c).state = 1) → ∃ t : State, exec (.seqStart q) s = .next t ∧ t.mem = s.mem ∧
      (∀ c ∈ j.chans, t.dev.seq c = { s.dev.seq c with
        state := 2, phase := .current (s.dev.instantAt e), startEdge := e, lastNs := s.dev.nsAt e, startCmd := some j.id }) ∧
      t.dev.tg.running = s.dev.tg.running ++ [{ job := j, started := true, names := s.dev.chanNames j.map, data := [(e : Int)],
                                                result := none, silent := false, direct := true }])) ∧
  (∀ (q : Req) (s : State), s.dev.runsNow cmdSeqStop q = true →
    let j := s.dev.job 0x0406 q
    let e := s.dev.edgeAfter s.dev.now
    exec (.seqStop q) s = .next (s.on (fun d => d.observed (fun d => d.answer 0x0406 q (fun d =>
      d.forAll j.chans (fun d c => d.seqStopAt c e)) stOk (w64 (d.nsAt e)))))) ∧
  (∀ (q : Req) (s : State), s.dev.runsNow cmdSeqStatus q = true →
    exec (.seqStatus q) s = .next (s.on (fun d =>
      let j := d.job 0x0407 q
      d.answer 0x0407 q (fun d => if (u32 j.p 4).testBit 0 then
        d.modSeq j.ch (fun x => { x with earlyStops := 0, startIgnored := 0, trigOverrun := 0 }) else d) stOk
        (seqStatusReply d j.ch)))) ∧
  (∀ (q : Req) (s : State), s.dev.runsNow cmdHandlerConfig q = true →
    let j := s.dev.job 0x0408 q
    let set := fun (d : Dev) => d.modHandler j.hs (fun g =>
      { g with eotMode := u8 j.p 1, eotWidth := u16 j.p 2, channels := u64 j.p 4, bin := 0 })
    (u64 j.p 4 ≠ 0 → exec (.handlerConfig q) s = .next (s.on (fun d => d.observed (fun d => d.answer 0x0408 q set stOk [])))) ∧
    (u64 j.p 4 = 0 → exec (.handlerConfig q) s = .next (s.on (fun d => d.observed (fun d =>
      d.answer 0x0408 q (fun d => ((set d).routesCut q.fn.val (· != 48 + j.hs) (fun n => !hsOwns j.hs n)).clearOverrun (48 + j.hs))
        stOk []))))) ∧
  (∀ (q : Req) (s : State), s.dev.runsNow cmdHandlerBin q = true →
    let j := s.dev.job 0x0409 q
    exec (.handlerBin q) s = .next (s.on (fun d => d.observed (fun d => d.answer 0x0409 q (fun d =>
      (d.advance (d.edgeAfter d.now)).modHandler j.hs (fun g =>
        { g with
          bin := u8 j.p 1,
          eotAt := if g.state = 2 then some (g.eotAt.getD (d.edgeAfter d.now + 8 * tickPs)) else g.eotAt })) stOk [])))) ∧
  (∀ (q : Req) (s : State), s.dev.runsNow cmdHandlerStatus q = true →
    let j := s.dev.job 0x040A q
    let g := s.dev.handler j.hs
    exec (.handlerStatus q) s = .next (s.on (fun d => d.answer 0x040A q (fun d =>
      if (u32 j.p 4).testBit 0 then d.modHandler j.hs (fun g => { g with accepted := 0, rejected := 0 }) else d) stOk
      (w8 g.state ++ w8 g.bin ++ zeros 2 ++ w64 g.channels ++ w32 g.accepted ++ w32 g.rejected))))

/-- Starts, stops, triggers and the wait timeout of a sweep sequencer. SEQ_START_EVENT starts an ARMED sequencer at the
edge that ends the event's tick; one that waits for a later start edge starts at the earlier one and counts the other
start as ignored; a stop of the same edge wins; at any other it counts as ignored (saturating). SEQ_STOP_EVENT ends a
RUNNING one started at an earlier edge in DONE with reason STOPPED (where the execution under way ends before the
stop, the stop waits for that end, R294), and an ARMED one, or one that starts at this edge or later, in IDLE with
reason EARLY_STOP and its counter. Where no stop waits at the sequencer: SEQ_TRIGGER on a sequencer that waits for it
sets the source instant one period after the latching instant, or ends the wait for a measure trigger; on one that
waits for nothing it is pending in latched mode, and else counts as an overrun and sets OVERRUN of its consumer;
WAIT_TIMEOUT of a wait ends the sequencer with reason WAIT_TIMEOUT. No memory changes. (R285, R286, R287, R289, R290,
R292, R293, R294) -/
def Obligations.SequencerStartStopTrigger : Prop :=
  (∀ (ch : ChanId) (s : State),
    let e := s.dev.latchOf (128 + 8 * ch.val)
    let q := s.dev.seq ch.val
    (q.state = 1 → exec (.seqStartEvent ch) s = .next (s.on (fun d =>
      (d.takeEdge (128 + 8 * ch.val)).modSeq ch.val (fun x =>
        { x with state := 2, phase := .current (d.instantAt e), startEdge := e, startCmd := none, lastNs := d.nsAt e })))) ∧
    (q.state = 2 → e < q.startEdge → ∃ t : State, exec (.seqStartEvent ch) s = .next t ∧ t.mem = s.mem ∧
      t.dev.seq ch.val = { q with
        state := 2, phase := .current (s.dev.instantAt e), startEdge := e, startCmd := none, lastNs := s.dev.nsAt e,
        startIgnored := min (q.startIgnored + 1) 0xFFFF }) ∧
    (q.state = 0 → q.stopEdge = some e → exec (.seqStartEvent ch) s = .next (s.on (fun d => d.takeEdge (128 + 8 * ch.val)))) ∧
    (q.state ≠ 1 → ¬(q.state = 2 ∧ e < q.startEdge) → ¬(q.state = 0 ∧ q.stopEdge = some e) →
      exec (.seqStartEvent ch) s = .next (s.on (fun d =>
        (d.takeEdge (128 + 8 * ch.val)).modSeq ch.val (fun x => { x with startIgnored := min (x.startIgnored + 1) 0xFFFF }))))) ∧
  (∀ (ch : ChanId) (s : State),
    let e := s.dev.latchOf (129 + 8 * ch.val)
    let q := s.dev.seq ch.val
    (q.state = 2 → q.startEdge < e → q.endsBefore e s.dev.periodPs = true →
      ∃ t : State, exec (.seqStopEvent ch) s = .next t ∧ t.mem = s.mem ∧
        t.dev.seq ch.val = { q with stopHeld := some (q.stopHeld.getD (e, 3)) }) ∧
    (q.state = 2 → q.startEdge < e → q.endsBefore e s.dev.periodPs = false →
      ∃ t : State, exec (.seqStopEvent ch) s = .next t ∧ t.mem = s.mem ∧ (t.dev.seq ch.val).state = 3 ∧
        (t.dev.seq ch.val).reason = 3 ∧ (t.dev.seq ch.val).phase = .none_ ∧ (t.dev.seq ch.val).lastNs = s.dev.nsAt e) ∧
    (q.state = 1 ∨ (q.state = 2 ∧ e ≤ q.startEdge) →
      ∃ t : State, exec (.seqStopEvent ch) s = .next t ∧ t.mem = s.mem ∧ (t.dev.seq ch.val).state = 0 ∧
        (t.dev.seq ch.val).reason = 4 ∧ (t.dev.seq ch.val).earlyStops = min (q.earlyStops + 1) 0xFFFF) ∧
    (q.state ≠ 1 → q.state ≠ 2 → ∃ t : State, exec (.seqStopEvent ch) s = .next t ∧ t.mem = s.mem ∧ t.dev.seqs = s.dev.seqs)) ∧
  (∀ (ch : ChanId) (i : Fin 4) (s : State),
    let e := s.dev.latchOf (130 + 8 * ch.val + i.val)
    let q := s.dev.seq ch.val
    s.dev.hasEdge (129 + 8 * ch.val) = false →
    (q.state = 2 → q.phase = .wait → q.trigAt = none → q.rcRun = false → (s.dev.curEntry ch.val).srcTrig = some i.val →
      ∃ t : State, exec (.seqTrigger ch i) s = .next t ∧ t.mem = s.mem ∧
        t.dev.seq ch.val = { q with phase := .source (s.dev.instantAt e + s.dev.periodPs) }) ∧
    (∀ b : Nat, q.state = 2 → q.phase = .delay b → q.trigAt = none → q.waitFrom ≤ e →
      (s.dev.curEntry ch.val).measTrig = some i.val → q.pend.testBit i.val = false →
      ∃ t : State, exec (.seqTrigger ch i) s = .next t ∧ t.mem = s.mem ∧
        t.dev.seq ch.val = { q with phase := .ready (s.dev.instantAt e) }) ∧
    (q.state = 2 → q.phase = .aperture → q.trigMode.testBit i.val = true → q.pend.testBit i.val = false →
      ∃ t : State, exec (.seqTrigger ch i) s = .next t ∧ t.mem = s.mem ∧
        t.dev.seq ch.val = { q with pend := q.pend ||| 2 ^ i.val }) ∧
    (q.state = 2 → q.phase = .aperture → (q.trigMode.testBit i.val = false ∨ q.pend.testBit i.val = true) →
      ∃ t : State, exec (.seqTrigger ch i) s = .next t ∧ t.mem = s.mem ∧
        t.dev.seq ch.val = { q with trigOverrun := min (q.trigOverrun + 1) 0xFFFF } ∧
        tblGet (fun _ => false) t.dev.fab.overrun (130 + 8 * ch.val + i.val) = true)) ∧
  (∀ (ch : ChanId) (s : State),
    let q := s.dev.seq ch.val
    let lim := s.dev.instantAt (q.waitFrom + q.waitTimeout * 1000000)
    q.state = 2 → q.waitTimeout ≠ 0 → s.dev.hasEdge (129 + 8 * ch.val) = false → (s.dev.seqWaits ch.val lim).isSome = true →
    ∃ t : State, exec (.waitTimeout ch) s = .next t ∧ t.mem = s.mem ∧
      (t.dev.seq ch.val).state = (if lim < q.startEdge then 0 else 3) ∧
      (t.dev.seq ch.val).reason = 9 ∧ t.dev.now = max s.dev.now lim)

/-- The instants of a list entry's execution, from current to the next entry, and the end action. For a RUNNING sequencer
at which no stop waits: ENTRY_CURRENT of an entry that passes the checks of R282 counts the point; one that changes no
range and waits for no source trigger sets t_src one period after t_c, one that waits for a trigger that is not
pending waits, and one that changes a range begins the change at t_c; one that fails the checks ends the sequencer
with reason ARG. SOURCE_INSTANT applies the values, sets the delay's end and keeps the list position. APERTURE_START
starts the entry's aperture at t_a, also where the measure trigger was pending. APERTURE_END after an aperture that is
over (or an entry without one) forms the record and, with repetitions left, makes the entry current again at t_e with
one less, or gives way to a stop that waited for this end (R294); with END_ON_COMP and compliance it ends the
sequencer with reason COMP_END. END_ACTION with REST puts back legal values, no ramp running in a state other than ON;
with ZERO it begins the transition to ZERO. (R275, R277, R278, R279, R280, R282, R283, R284, R291, R286, R298, R296) -/
def Obligations.SequencerExecution : Prop :=
  (∀ (ch : ChanId) (s : State) (a : Nat),
    let q := s.dev.seq ch.val
    let e := s.dev.curEntry ch.val
    let t0 := s.dev.instantAt a
    q.phase = .current a → q.state = 2 → q.repLeft ≠ 0 → s.dev.hasEdge (129 + 8 * ch.val) = false →
    (s.dev.entryRunOk ch.val e = true → s.dev.entryCodes ch.val e = ((s.dev.chan ch.val).vr, (s.dev.chan ch.val).ir) →
      (e.srcTrig = none →
        ∃ t : State, exec (.entryCurrent ch) s = .next t ∧ t.mem = s.mem ∧ t.dev.now = max s.dev.now t0 ∧
          t.dev.seq ch.val = { q with points := (q.points + 1) % 2 ^ 32, tc := t0, rcRun := false, trigAt := none, waitFrom := t0,
                                      phase := .source (s.dev.instantAt t0 + s.dev.periodPs) }) ∧
      (∀ i : Nat, e.srcTrig = some i → q.pend.testBit i = false →
        ∃ t : State, exec (.entryCurrent ch) s = .next t ∧ t.mem = s.mem ∧ t.dev.now = max s.dev.now t0 ∧
          t.dev.seq ch.val = { q with points := (q.points + 1) % 2 ^ 32, tc := t0, rcRun := false, trigAt := none, waitFrom := t0,
                                      phase := .wait })) ∧
    (s.dev.entryRunOk ch.val e = true → s.dev.entryCodes ch.val e ≠ ((s.dev.chan ch.val).vr, (s.dev.chan ch.val).ir) →
      ∃ t : State, exec (.entryCurrent ch) s = .next t ∧ t.mem = s.mem ∧ (t.dev.seq ch.val).phase = .wait ∧
        (t.dev.seq ch.val).rcRun = true ∧ (t.dev.seq ch.val).points = (q.points + 1) % 2 ^ 32 ∧
        ∃ rc : RangeChange, (t.dev.chan ch.val).rc = some rc ∧ rc.started = t0 ∧ rc.cmd = none ∧ rc.phase = .priming) ∧
    (s.dev.entryRunOk ch.val e = false →
      ∃ t : State, exec (.entryCurrent ch) s = .next t ∧ t.mem = s.mem ∧
        (t.dev.seq ch.val).state = (if t0 < q.startEdge then 0 else 3) ∧ (t.dev.seq ch.val).reason = 7)) ∧
  (∀ (ch : ChanId) (s : State) (a : Nat),
    let q := s.dev.seq ch.val
    let e := s.dev.curEntry ch.val
    let t0 := s.dev.instantAt a
    let b := t0 + e.delay * tickPs
    q.phase = .source a → q.state = 2 → s.dev.hasEdge (129 + 8 * ch.val) = false →
      ∃ t : State, exec (.sourceInstant ch) s = .next t ∧ t.mem = s.mem ∧ t.dev.now = max s.dev.now t0 ∧
        t.dev.seq ch.val = { q with phase := if e.measTrig.isSome then .delay b else .ready b, waitFrom := s.dev.instantAt b } ∧
        (t.dev.chan ch.val).setpoint = (if e.keepS then (s.dev.chan ch.val).setpoint else e.setpoint) ∧
        (t.dev.chan ch.val).compPos = (if e.keepC then (s.dev.chan ch.val).compPos else e.comp) ∧
        (t.dev.chan ch.val).compNeg = (if e.keepC then (s.dev.chan ch.val).compNeg else e.comp)) ∧
  (∀ (ch : ChanId) (s : State) (a : Nat),
    let q := s.dev.seq ch.val
    let e := s.dev.curEntry ch.val
    q.state = 2 → s.dev.hasEdge (129 + 8 * ch.val) = false →
      let ap := fun (t0 : Nat) =>
        if e.apmode = 0 then none else some (s.dev.newAper e.apmode e.aperture t0 ((q.points + 2 ^ 32 - 1) % 2 ^ 32))
      (q.phase = .ready a → ∃ t : State, exec (.apertureStart ch) s = .next t ∧ t.mem = s.mem ∧
        t.dev.seq ch.val = { q with phase := .aperture, tc := s.dev.instantAt a, aper := ap (s.dev.instantAt a) }) ∧
      (∀ i : Nat, q.phase = .delay a → e.measTrig = some i → q.pend.testBit i = true →
        ∃ t : State, exec (.apertureStart ch) s = .next t ∧ t.mem = s.mem ∧
          t.dev.seq ch.val = { q with phase := .aperture, tc := s.dev.instantAt q.waitFrom, pend := Nat.xor q.pend (2 ^ i),
                                      aper := ap (s.dev.instantAt q.waitFrom) })) ∧
  (∀ (ch : ChanId) (s : State),
    let q := s.dev.seq ch.val
    q.state = 2 → q.phase = .aperture → s.dev.hasEdge (129 + 8 * ch.val) = false →
    (∀ a : Aper, q.aper = some a → a.over_ = true → a.mode ≠ 1 →
      (1 < q.repLeft → (s.dev.curEntry ch.val).endComp = false → q.stopHeld = none →
        ∃ t : State, exec (.apertureEnd ch) s = .next t ∧ t.mem = s.mem ∧ t.dev.now = max s.dev.now a.te ∧
          t.dev.seq ch.val = { q with aper := none, repLeft := q.repLeft - 1, phase := .current a.te }) ∧
      (∀ (e r : Nat), 1 < q.repLeft → (s.dev.curEntry ch.val).endComp = false → q.stopHeld = some (e, r) → q.startEdge < e →
        ∃ t : State, exec (.apertureEnd ch) s = .next t ∧ t.mem = s.mem ∧ (t.dev.seq ch.val).state = 3 ∧
          (t.dev.seq ch.val).reason = r) ∧
      ((s.dev.curEntry ch.val).endComp = true → a.flags.testBit 1 = true → q.startEdge ≤ a.te →
        ∃ t : State, exec (.apertureEnd ch) s = .next t ∧ t.mem = s.mem ∧ (t.dev.seq ch.val).state = 3 ∧
          (t.dev.seq ch.val).reason = 2)) ∧
    (q.aper = none → 1 < q.repLeft → (s.dev.curEntry ch.val).endComp = false → q.stopHeld = none →
      ∃ t : State, exec (.apertureEnd ch) s = .next t ∧ t.mem = s.mem ∧ t.dev.now = max s.dev.now q.tc ∧
        t.dev.seq ch.val = { q with repLeft := q.repLeft - 1, phase := .current q.tc })) ∧
  (∀ (ch : ChanId) (s : State) (a : Nat),
    let q := s.dev.seq ch.val
    let x := s.dev.chan ch.val
    q.endAt = some a →
    (q.endAction = 1 → x.state ≠ 3 →
      setpointOk (s.dev.bipolar ch.val x.fi (x.code x.fi)) q.rest.1 = true → compOk q.rest.2.1 = true → compOk q.rest.2.2 = true →
      ∃ t : State, exec (.endAction ch) s = .next t ∧ t.mem = s.mem ∧ t.dev.seq ch.val = { q with endAt := none } ∧
        t.dev.chan ch.val = { x with setpoint := q.rest.1, compPos := q.rest.2.1, compNeg := q.rest.2.2 }) ∧
    (q.endAction = 2 → x.state = 3 → x.trans = none → ∃ t : State, exec (.endAction ch) s = .next t ∧ t.mem = s.mem ∧
      t.dev.seq ch.val = { q with endAt := none } ∧ ∃ r : Trans, (t.dev.chan ch.val).trans = some r ∧ r.target = 2 ∧
        r.step = .rampDown ∧ r.cmd = none))

/-- The handler-handshake engine's start of test, end of test and pulse end. An SOT at an engine in IDLE whose bound
sequencers are all ARMED starts each of them at the edge that ends the SOT's tick, asserts HS_READY, counts as
accepted and makes the engine BUSY, waiting for each of them; at an engine in another state, or with a bound sequencer
in DONE, it starts nothing, counts as rejected and asserts HS_FAULT for 1 µs from that edge (outside DEEP). Once every
bound sequencer has ended since, a BUSY engine with EOT_MODE 0 negates HS_READY and pulses EOT from the edge of the
last end for its width, and with EOT_MODE 1 waits for a bin; a set bin starts the pulse at its instant. The end of the
pulse returns the engine to IDLE. (R300, R301, R303, R304, R294) -/
def Obligations.HandshakeEngineRows : Prop :=
  (∀ (h : HsId) (s : State),
    let g := s.dev.handler h.val
    let e := s.dev.latchOf (48 + h.val)
    chansIn g.channels ≠ [] →
    (g.state = 0 → (∀ c ∈ chansIn g.channels, (s.dev.seq c).state = 1) →
      ∃ t : State, exec (.hsSot h) s = .next t ∧ t.mem = s.mem ∧ (t.dev.handler h.val).state = 1 ∧
        (t.dev.handler h.val).readyOn = true ∧ (t.dev.handler h.val).readyAt = e ∧
          (t.dev.handler h.val).accepted = (g.accepted + 1) % 2 ^ 32 ∧
        (t.dev.handler h.val).rejected = g.rejected ∧ (t.dev.handler h.val).lastEnd = e ∧
        (∀ c : Nat, c < 64 → (t.dev.handler h.val).waits.testBit c = g.channels.testBit c) ∧
        ∀ c ∈ chansIn g.channels, (t.dev.seq c).state = 2 ∧ (t.dev.seq c).phase = .current (s.dev.instantAt e) ∧
          (t.dev.seq c).startEdge = e) ∧
    (g.state ≠ 0 ∨ (∃ c ∈ chansIn g.channels, (s.dev.seq c).state = 3) →
      ∃ t : State, exec (.hsSot h) s = .next t ∧ t.mem = s.mem ∧ t.dev.seqs = s.dev.seqs ∧
        t.dev.handler h.val = { g with rejected := sat32n (g.rejected + 1) }) ∧
    (s.dev.sys.power ≠ 3 → g.state ≠ 0 ∨ (∃ c ∈ chansIn g.channels, (s.dev.seq c).state = 3) →
      exec (.hsSot h) s = .next (s.on (fun d => d.observed (fun d =>
        (((d.takeEdge (48 + h.val)).advance e).modHandler h.val (fun g => { g with rejected := sat32n (g.rejected + 1) })).pulseGo 6
          (44 + h.val) e 1000000 true))))) ∧
  (∀ (h : HsId) (s : State),
    let g := s.dev.handler h.val
    let e := s.dev.edgeAt g.lastEnd
    (g.state = 1 → g.waits = 0 →
      (g.eotMode = 0 → ∃ t : State, exec (.hsEot h) s = .next t ∧ t.mem = s.mem ∧ t.dev.now = max s.dev.now e ∧
        t.dev.handler h.val = { g with state := 3, readyOn := false, readyAt := e, eotAt := none,
                                       eotEnd := some (e + g.eotWidth * tickPs) }) ∧
      (g.eotMode ≠ 0 → ∃ t : State, exec (.hsEot h) s = .next t ∧ t.mem = s.mem ∧ t.dev.handler h.val = { g with state := 2 })) ∧
    (∀ a : Nat, g.state = 2 → g.eotAt = some a → ∃ t : State, exec (.hsEot h) s = .next t ∧ t.mem = s.mem ∧
      t.dev.now = max s.dev.now a ∧
      t.dev.handler h.val = { g with state := 3, readyOn := false, readyAt := a, eotAt := none,
                                     eotEnd := some (a + g.eotWidth * tickPs) })) ∧
  (∀ (h : HsId) (s : State) (e : Nat), (s.dev.handler h.val).eotEnd = some e →
    ∃ t : State, exec (.eotPulseEnd h) s = .next t ∧ t.mem = s.mem ∧ t.dev.now = max s.dev.now e ∧
      t.dev.handler h.val = { s.dev.handler h.val with state := 0, eotEnd := none })

/-- What the results commands answer and change. Each command that may run at once completes. RES_RING_CONFIG with ENABLE
1 enables the ring with the request's settings, indices and BLOCK_SEQ 0 and a free aligned extent of ring space, which
it answers, and Caravan takes what waits; with ENABLE 0 it drops the ring's unwritten blocks and disables it, or where
200 µs exceed the service bound goes on. RES_RING_STATUS answers the table and clears FULL_US if asked.
RES_CHAN_CONFIG sets the selected fields. RES_MEASURE cancels, or sets a measurement that starts at the boundary at
least 1 µs on, or at its event. RES_CAPTURE arms or disarms. RES_FLUSH closes the open block of each ring of the map.
RES_CHAN_STATUS answers the table and clears the counters if asked. (R278, R317, R320, R322, R326, R327, R329, R332,
R333, R335) -/
def Obligations.ResultCommands : Prop :=
  (∀ (q : Req) (s : State), s.dev.runsNow cmdResRingConfig q = true →
    let j := s.dev.job 0x0501 q
    let o := (spaceFor s.dev.extents (2 ^ u8 j.p 2) s.dev.freeVal).getD 0
    (u8 j.p 1 = 0 → j.boundUs < 200 → exec (.resRingConfig q) s = .next (s.on (fun d =>
      d.goesOn 0x0501 q id [Res.ring j.f j.ring] []))) ∧
    (u8 j.p 1 = 0 → 200 ≤ j.boundUs → exec (.resRingConfig q) s = .next (s.on (fun d => d.answer 0x0501 q (fun d =>
      (d.dropBlocks j.f j.ring).modFn j.f (fun x => x.modRing j.ring (fun g => { ringInit 0 with
        lostSince := g.lostSince, fullPs := g.fullPs + (match g.fullAt with | some t => d.now - t | none => 0) }))) stOk (w64 0)))) ∧
    (u8 j.p 1 ≠ 0 → exec (.resRingConfig q) s = .next (s.on (fun d => d.answer 0x0501 q (fun d =>
      (d.freeNext.modFn j.f (fun x => x.modRing j.ring (fun g => { ringInit 0 with
        enabled := true, base := u64 j.p 8, size := u8 j.p 2 - 12, sealOn := (u8 j.p 3).testBit 0,
        roData := (u8 j.p 3).testBit 1, flushUs := u16 j.p 4, irqMode := u8 j.p 6, wbAddr := u64 j.p 16, wmark := u32 j.p 24,
        lostSince := g.lostSince, fullPs := g.fullPs, wmarkHit := g.wmarkHit, tailErr := g.tailErr, space := o }))).takeAll j.f)
      stOk (w64 o))))) ∧
  (∀ (q : Req) (s : State), s.dev.runsNow cmdResRingStatus q = true →
    let j := s.dev.job 0x0502 q
    let g := (s.dev.fn j.f).ring j.ring
    exec (.resRingStatus q) s = .next (s.on (fun d => d.answer 0x0502 q (fun d =>
      if (u32 j.p 4).testBit 0 then
        d.modFn j.f (fun x => x.modRing j.ring (fun g => { g with fullPs := 0, fullAt := g.fullAt.map (fun _ => d.now) }))
      else d) stOk
      (w32 g.head ++ w32 g.tail ++ w32 (if g.enabled then 2 ^ g.size else 0)
        ++ w8 (bitAt g.enabled 0 + bitAt g.full 1 + bitAt g.wmarkHit 2) ++ zeros 3 ++ w64 g.blockSeq ++ w64 g.space
        ++ w32 (d.fullUs g) ++ zeros 4)))) ∧
  (∀ (q : Req) (s : State), s.dev.runsNow cmdResChanConfig q = true →
    let j := s.dev.job 0x0503 q
    let m := u8 j.p 1
    exec (.resChanConfig q) s = .next (s.on (fun d => d.answer 0x0503 q (fun d => d.modRes j.ch (fun r =>
      { r with st := if m.testBit 0 then { r.st with ring := u8 j.p 2, seq := 0 } else r.st,
               aperture := if m.testBit 2 then u32 j.p 4 else r.aperture,
               pre := if m.testBit 3 then u16 j.p 8 else r.pre, post := if m.testBit 3 then u16 j.p 10 else r.post,
               capMode := if m.testBit 3 then u8 j.p 12 else r.capMode,
               stream := if m.testBit 1 then u8 j.p 3 else r.stream,
               changes := if m.testBit 1 then r.changes ++ [(d.boundaryIn 1, u8 j.p 3)] else r.changes,
               capNum := if m.testBit 1 then 0 else r.capNum })) stOk []))) ∧
  (∀ (q : Req) (s : State), s.dev.runsNow cmdResMeasure q = true →
    let j := s.dev.job 0x0504 q
    let b := s.dev.boundaryIn 1
    let m : Meas := { aper := s.dev.newAper (u8 j.p 8) (u32 j.p 12) b 0xFFFFFFFF,
                      start := if u8 j.p 9 = 1 then none else some b, route := u8 j.p 10 }
    (u8 j.p 8 = 0 → exec (.resMeasure q) s = .next (s.on (fun d => d.answer 0x0504 q (fun d => d.forAll j.chans (fun d c =>
      (d.detach (128 + 8 * c + 7)).modRes c (fun r => { r with meas := none }))) stOk (w64 0)))) ∧
    (u8 j.p 8 ≠ 0 → u8 j.p 9 ≠ 1 → exec (.resMeasure q) s = .next (s.on (fun d => d.answer 0x0504 q (fun d =>
      d.forAll j.chans (fun d c => d.modRes c (fun r => { r with meas := some m }))) stOk (w64 (d.nsAt b))))) ∧
    (u8 j.p 8 ≠ 0 → u8 j.p 9 = 1 → exec (.resMeasure q) s = .next (s.on (fun d => d.answer 0x0504 q (fun d =>
      d.forAll j.chans (fun d c => (d.modRes c (fun r => { r with meas := some m })).attach (128 + 8 * c + 7) (u8 j.p 10)))
      stOk (w64 0))))) ∧
  (∀ (q : Req) (s : State), s.dev.runsNow cmdResCapture q = true →
    let j := s.dev.job 0x0505 q
    let b := s.dev.boundaryIn 1
    (u8 j.p 8 = 1 → exec (.resCapture q) s = .next (s.on (fun d => d.answer 0x0505 q (fun d => d.forAll j.chans (fun d c =>
      d.modRes c (fun r => if r.cap == .armed then r
        else { r with cap := .armed, armAt := b, histFrom := b, hist := [], disarm := false }))) stOk (w64 (d.nsAt b))))) ∧
    (u8 j.p 8 ≠ 1 → exec (.resCapture q) s = .next (s.on (fun d => d.answer 0x0505 q (fun d =>
      (d.advance (d.edgeAfter d.now)).forAll j.chans (fun d c =>
      d.modRes c (fun r => if r.cap == .triggered then { r with disarm := true } else { r with cap := .idle, hist := [] })))
      stOk (w64 (d.nsAt (d.edgeAfter d.now))))))) ∧
  (∀ (q : Req) (s : State), s.dev.runsNow cmdResFlush q = true →
    let j := s.dev.job 0x0506 q
    exec (.resFlush q) s = .next (s.on (fun d => d.answer 0x0506 q (fun d =>
      d.forAll (bitsSet j.ring 8) (fun d r => d.closeBlock j.f r true)) stOk []))) ∧
  (∀ (q : Req) (s : State), s.dev.runsNow cmdResChanStatus q = true →
    let j := s.dev.job 0x0507 q
    let r := s.dev.res j.ch
    exec (.resChanStatus q) s = .next (s.on (fun d => d.answer 0x0507 q (fun d => if (u32 j.p 4).testBit 0 then
      d.modRes j.ch (fun r => { r with missed := 0, st := { r.st with lost := 0, codeErr := 0 } }) else d) stOk
      (w8 r.stream ++ w8 (r.capAt d.now).code ++ w16 r.st.seq ++ w32 (d.wsUsed j.ch) ++ w32 r.st.lost ++ w32 r.missed
        ++ w32 r.captures ++ w32 r.st.codeErr))))

/-- Event measurements, BOX apertures, capture triggers and rearming, and the GAP record. MEAS_EVENT starts the armed
measurement at the sample instant of its edge; a further edge before that start sets OVERRUN (R463). BOX_APERTURE_END
forms the record and starts the next aperture where this one ends; of an earlier STREAM's aperture it forms the record
alone. WS_TRIG triggers an ARMED capture (after its t_arm, outside calibration) at the sample instant of its edge and
counts it; a capture that is triggered, rearms or waits for slots, or is under calibration, counts it missed and sets
OVERRUN. After REARM a single-shot capture is IDLE, a repeating one is ARMED again where its slots are free;
WAIT_SPACE_ARM arms one then. GAP_INSERT puts the waiting GAP record, with its count of lost records, into a stream
with four free slots. (R278, R317, R320, R323, R324, R325, R463) -/
def Obligations.MeasurementsAndCaptures : Prop :=
  (∀ (ch : ChanId) (s : State) (m : Meas), (s.dev.res ch.val).meas = some m → m.start = none → s.dev.calActive ch.val = false →
    let n := 128 + 8 * ch.val + 7
    let t0 := s.dev.instantAt (s.dev.latchOf n)
    exec (.measEvent ch) s = .next (s.on (fun d => (d.takeEdge n).modRes ch.val (fun r =>
      { r with meas := some { m with start := some t0, aper := { m.aper with ta := t0, te := t0 } } })))) ∧
  (∀ (ch : ChanId) (s : State) (m : Meas) (t0 : Nat), (s.dev.res ch.val).meas = some m → m.start = some t0 →
    let n := 128 + 8 * ch.val + 7
    s.dev.hasEdge n = true →
    (s.dev.edgeTime n < t0 → exec (.measEvent ch) s = .next (s.on (fun d => (d.takeEdge n).setOverrun n))) ∧
    (t0 ≤ s.dev.edgeTime n → exec (.measEvent ch) s = .next (s.on (fun d => d.takeEdge n)))) ∧
  (∀ (ch : ChanId) (s : State) (a : Aper), (s.dev.res ch.val).boxOld.find? Aper.over_ = some a →
    exec (.boxApertureEnd ch) s = .next (s.on (fun d => (d.modRes ch.val (fun r =>
      { r with boxOld := eraseFirst Aper.over_ r.boxOld })).formMeas ch.val a a.te))) ∧
  (∀ (ch : ChanId) (s : State) (a : Aper), (s.dev.res ch.val).boxOld.find? Aper.over_ = none →
    (s.dev.res ch.val).box = some a → a.over_ = true →
    exec (.boxApertureEnd ch) s = .next (s.on (fun d => (d.modRes ch.val (fun r =>
      { r with box := some (d.newAper 2 r.aperture a.te 0xFFFFFFFF) })).formMeas ch.val a a.te))) ∧
  (∀ (ch : ChanId) (s : State),
    let r := s.dev.res ch.val
    let e := s.dev.latchOf (128 + 8 * ch.val + 6)
    (r.cap = .armed → r.armAt ≤ e → s.dev.calActive ch.val = false →
      ∃ t : State, exec (.wsTrig ch) s = .next t ∧ t.mem = s.mem ∧ (t.dev.res ch.val).cap = .triggered ∧
        (t.dev.res ch.val).trigAt = s.dev.instantAt e ∧ (t.dev.res ch.val).hist = [] ∧
        (t.dev.res ch.val).captures = (r.captures + 1) % 2 ^ 32 ∧ (t.dev.res ch.val).missed = r.missed) ∧
    (r.cap = .triggered ∨ r.cap = .rearm ∨ r.cap = .waitSpace ∨
        (s.dev.calActive ch.val = true ∧ (r.cap = .idle ∨ (r.cap = .armed ∧ r.armAt ≤ e))) →
      ∃ t : State, exec (.wsTrig ch) s = .next t ∧ t.mem = s.mem ∧
        t.dev.res ch.val = { r with missed := sat32n (r.missed + 1) } ∧
        tblGet (fun _ => false) t.dev.fab.overrun (134 + 8 * ch.val) = true)) ∧
  (∀ (ch : ChanId) (s : State),
    let r := s.dev.res ch.val
    let again := fun t0 : Nat => { r with cap := .armed, armAt := t0, histFrom := s.dev.boundaryAt (t0 + 1), hist := [] }
    (r.cap = .rearm → r.capMode = 0 → exec (.rearmExpiry ch) s = .next (s.on (fun d =>
      (d.advance r.rearmAt).modRes ch.val (fun r => { r with cap := .idle })))) ∧
    (r.cap = .rearm → r.capMode ≠ 0 → r.pre + r.post ≤ s.dev.captureFree ch.val → exec (.rearmExpiry ch) s = .next (s.on (fun d =>
      (d.advance r.rearmAt).modRes ch.val (fun _ => again (max d.now r.rearmAt))))) ∧
    (r.cap = .rearm → r.capMode ≠ 0 → s.dev.captureFree ch.val < r.pre + r.post → exec (.rearmExpiry ch) s = .next (s.on (fun d =>
      (d.advance r.rearmAt).modRes ch.val (fun r => { r with cap := .waitSpace })))) ∧
    (r.cap = .waitSpace → r.pre + r.post ≤ s.dev.captureFree ch.val → exec (.waitSpaceArm ch) s = .next (s.on (fun d =>
      d.modRes ch.val (fun _ => again d.now))))) ∧
  (∀ (x : StreamId) (s : State) (g : Nat × Rec), (s.dev.stream (streamNo x)).gap = some g → s.dev.roomFor (streamNo x) 4 = true →
    exec (.gapInsert x) s = .next (s.on (fun d => (d.modStream (streamNo x) (fun t =>
      { t with recs := t.recs ++ [gapOf g.1 g.2 t.seq], seq := (t.seq + 1) % 65536, gap := none })).take (streamNo x))))

/-- The flush timer, Caravan's admission, and the writes of a block to host memory. FLUSH_TIMER closes the open block,
flushed, when its time has passed. CARAVAN_ADMIT admits the first caravan to close of the last served function, where
a caravan of that function has the highest effective class, a credit is free and the deficit covers the blocks, and
charges the deficit; else the first of the function to which the deficit round robin comes, with the weights that the
caravans started waiting with (R544). BLOCK_WRITE of the block whose turn it is in an admitted caravan writes the
records at HEAD * 4,096 + 64, the header with the seal before them and, where set, the write-back, in this order, and
nothing else of host memory; HEAD goes on by one modulo the size and BLOCK_SEQ counts. (R312, R314, R315, R316, R321,
R331, R333, R334, R541, R542, R543) -/
def Obligations.CaravanAndBlocks : Prop :=
  (∀ (fn : FnId) (ring : RingId) (s : State) (t0 : Nat), ((s.dev.fn fn.val).ring ring.val).openSince = some t0 →
    ((s.dev.fn fn.val).ring ring.val).flushUs ≠ 0 →
    exec (.flushTimer fn ring) s = .next (s.on (fun d =>
      (d.advance (t0 + ((s.dev.fn fn.val).ring ring.val).flushUs * 1000000)).closeBlock fn.val ring.val true))) ∧
  (∀ (s : State) (c : Caravan),
    let may := fun x : Caravan => x.admitted = false ∧ s.dev.carCredit x.fn = true ∧ (s.dev.fn x.fn).flr = .idle
    s.dev.tg.caravans.find? (fun x => x.fn == c.fn && !x.admitted) = some c → may c →
    c.fn = s.dev.tg.lastCar → c.rings.length ≤ (s.dev.fn c.fn).deficitCar →
    s.dev.sys.blockReset.any (fun p => p.1 == 16) = false →
    (∃ k ∈ s.dev.tg.caravans, k.fn = c.fn ∧ k.admitted = false ∧ ∀ x ∈ s.dev.tg.caravans, may x → x.eff ≤ k.eff) →
    ∃ t : State, exec .caravanAdmit s = .next t ∧ t.mem = s.mem ∧
      t.dev.tg.caravans = updFirst (fun x => x == c) (fun x => { x with admitted := true }) s.dev.tg.caravans ∧
      (t.dev.fn c.fn).deficitCar = (s.dev.fn c.fn).deficitCar - c.rings.length) ∧
  (∀ (s : State) (f : Nat),
    let w := s.dev.tg.caravans.filter (fun c => !c.admitted && s.dev.carCredit c.fn && (s.dev.fn c.fn).flr == .idle)
    let top := w.foldl (fun m c => max m c.eff) 0
    let l := w.filter (fun c => c.eff == top)
    let fs := sortedFns (l.map (·.fn))
    let r := s.dev.drrCaravan (9 * fs.length + 1) s.dev.tg.lastCar fs
      (fun f => match w.find? (fun c => c.fn == f) with | some c => c.rings.length | none => 0)
      (fun f => match w.find? (fun c => c.fn == f) with | some c => c.weight | none => 0)
    w ≠ [] → s.dev.sys.blockReset.any (fun p => p.1 == 16) = false → r.2 = some f →
    ∃ t : State, exec .caravanAdmit s = .next t ∧ t.mem = s.mem ∧ t.dev.tg.lastCar = f ∧
      t.dev.tg.caravans = updFirst (fun c => c.fn == f && !c.admitted) (fun c => { c with admitted := true })
        r.1.tg.caravans) ∧
  (∀ (fn : FnId) (ring : RingId) (s : State) (c : Caravan) (b : Block) (rest : List Block),
    let g := (s.dev.fn fn.val).ring ring.val
    let hdr := blockHeader b g.sealOn ring.val fn.val g.blockSeq (g.space + 4096 * g.head)
    let a := g.base + 4096 * g.head
    let wb := if g.wbAddr = 0 then [] else [(g.wbAddr, w32 ((g.head + 1) % 2 ^ g.size) ++ w32 g.blockSeq)]
    let writes := [(a + 64, blockRecs b), (a, hdr ++ w32 (blockSeal hdr (blockRecs b) b g.sealOn))] ++ wb
    s.dev.tg.caravans.find? (fun x => x.fn == fn.val && x.admitted && x.rings.contains ring.val) = some c →
    s.dev.blockTurn fn.val ring.val c.rings = true → g.closed = b :: rest →
    ∃ t : State, exec (.blockWrite fn ring) s = .next t ∧ t.mem = memWrites s.mem writes ∧
      (∀ i : Nat, (∀ w ∈ writes, ∀ k < w.2.length, i ≠ (w.1 + k) % 2 ^ 64) → memRead t.mem i = memRead s.mem i) ∧
      ((t.dev.fn fn.val).ring ring.val).head = (g.head + 1) % 2 ^ g.size ∧
      ((t.dev.fn fn.val).ring ring.val).blockSeq = g.blockSeq + 1)

/-- Every conversion from the accumulator rounds half to even, 24 bits to a signal and 14 to a state. For every
accumulator value the signal is the saturated, and the state the saturated, value of a quotient that lies within half
a unit of the exact one, 24 and 14 bits dropped, and is even where the value lies half-way. (R166) -/
def Obligations.ConversionsRoundHalfToEven : Prop :=
  ∀ acc : Int, ∃ q r : Int,
    accToSignal acc = (satN 32 q, satHit 32 q) ∧ accToState acc = (satN 48 r, satHit 48 r) ∧
    2 * (q * 2 ^ 24 - acc).natAbs ≤ 2 ^ 24 ∧ (2 * (q * 2 ^ 24 - acc).natAbs = 2 ^ 24 → q % 2 = 0) ∧
    2 * (r * 2 ^ 14 - acc).natAbs ≤ 2 ^ 14 ∧ (2 * (r * 2 ^ 14 - acc).natAbs = 2 ^ 14 → r % 2 = 0)

/-- An engine's output is its raw output limited to LIM_LO to LIM_HI, and LIMIT says that the limit changed it. For every
image with LIM_LO not above LIM_HI, state, error and inputs there is a raw output, in the signal format and
independent of the two limits, with: the period's output is min(max(raw, LIM_LO), LIM_HI), and LIMIT is set exactly
where that differs from the raw output. (R171) -/
def Obligations.EngineOutputIsLimited : Prop :=
  ∀ (img : Img) (st : List (Int × Int)) (et a b d1 d2 rail : Int), ∃ raw : Int,
    -2 ^ 31 ≤ raw ∧ raw < 2 ^ 31 ∧
    ∀ lo hi : Int, lo ≤ hi →
      let k := enginePeriod { img with limLo := lo, limHi := hi } st et a b d1 d2 rail
      k.out = min (max raw lo) hi ∧ (k.limit = true ↔ k.out ≠ raw)

/-- The slew limiter moves by at most STEP toward the clamped request at update instants only, and reports limiting. At an
update instant with STEP not 0 the latched code moves by at most STEP, ends at the clamped request where that is
within STEP, and otherwise moves by exactly STEP toward it; with STEP 0 it takes the clamped request. At another
instant it stays. lim_act is set exactly where the latched code differs from the request (a clamp counts), and the
code stays in the span's interval. With one request held and every instant an update instant, the distance to the
clamped request shrinks by STEP an instant until it is 0. (R258) -/
def Obligations.SlewLimiterBounds : Prop :=
  (∀ (span step divr : Nat) (req c : Int) (cnt : Nat),
    let want := clampI (cMin span) (cMax span) req
    let r := slewStep span step divr req c cnt
    (r.2.1 = true ↔ r.1 ≠ req) ∧ r.2.2 = (cnt + 1) % divr ∧
    (cnt % divr ≠ 0 → r.1 = c) ∧
    (cnt % divr = 0 → step = 0 → r.1 = want) ∧
    (cnt % divr = 0 → step ≠ 0 → (want - c).natAbs ≤ step → r.1 = want) ∧
    (cnt % divr = 0 → step ≠ 0 → step < want - c → r.1 = c + step) ∧
    (cnt % divr = 0 → step ≠ 0 → want - c < -(step : Int) → r.1 = c - step) ∧
    (cMin span ≤ c → c ≤ cMax span → cMin span ≤ r.1 ∧ r.1 ≤ cMax span)) ∧
  (∀ (span step n : Nat) (req c : Int), step ≠ 0 →
    let want := clampI (cMin span) (cMax span) req
    (want - limiterRun span step req n c).natAbs = (want - c).natAbs - n * step)

/-- A ramp starts at r0, stays between r0 and the target, and at NR holds the target and has ended. For every ramp, linear
or smooth, of NR periods, NR at least 1: its value at 0 is r0, at NR and after it the target, and at every period it
lies between the two. The generator's step at a boundary after the start gives the ramp's next value, and at the last
period leaves no ramp and r equal to the target. (R204) -/
def Obligations.RampReachesItsTarget : Prop :=
  (∀ p : Ramp, 1 ≤ p.nr →
    rampValue p 0 = p.r0 ∧ rampValue p p.nr = p.tgt ∧
    ∀ j : Nat, min p.r0 p.tgt ≤ rampValue p j ∧ rampValue p j ≤ max p.r0 p.tgt) ∧
  (∀ (x : Chan) (p : Ramp) (t0 : Nat), x.ramp = some p → p.k0 < t0 →
    (x.genStep t0).r = rampValue p (p.j + 1) ∧
    (p.nr ≤ p.j + 1 → (x.genStep t0).ramp = none ∧ (x.genStep t0).r = p.tgt) ∧
    (p.j + 1 < p.nr → (x.genStep t0).ramp = some { p with j := p.j + 1 }))

/-- INNER's period, the commit or the held sample of an engine, and the demand selection. Outside OFF, INNER of a channel
computes with A the leader's u_sel and B its own loop current sample, no other engine or channel changes, and in OFF
nothing changes. At the end of a period an engine without a computation stays; one whose period has a residue or late
cause is held: its states, e_t and output stay as they were and nothing waits; any other commits its states, output
and flags. The selection takes the lower demand for direction +1 and the higher for -1, compliance where CLAMP's is
taken and differs, and turns the direction only beyond the hysteresis, never on a unipolar range. (R34, R169, R173,
R178, R180, R192, R193, R195, R199, R226) -/
def Obligations.EnginesComputeAndCommit : Prop :=
  (∀ (d : Dev) (c : Nat) (noLoop : Bool) (res : Nat → Option Nat),
    let x := d.chan c
    let t := d.innerPeriod c noLoop res
    let g := d.eng (4 * c)
    (x.state = 0 → t = d) ∧
    (1 ≤ x.state → t.chans = d.chans ∧ (∀ e : Nat, e ≠ 4 * c → t.eng e = d.eng e) ∧
      (t.eng (4 * c)).next = some (enginePeriod (parseImg g.image) g.st g.et (d.chan (d.leader c)).uSel (x.loopI * 4096)
        x.d1 x.d2 x.rail) ∧
      (t.eng (4 * c)).st = g.st ∧ (t.eng (4 * c)).out = g.out)) ∧
  (∀ (d : Dev) (late : List EngFault) (e : Nat),
    let g := d.eng e
    let t := (d.endPeriod late e).1
    (g.next = none → t = d) ∧
    (∀ k : Computed, g.next = some k →
      (g.resFail.isSome = true ∨ g.lateFail.isSome = true ∨ (∃ f ∈ late, f.eng.val = e) →
        (t.eng e).st = g.st ∧ (t.eng e).et = g.et ∧ (t.eng e).out = g.out ∧ (t.eng e).next = none ∧ (t.eng e).heldSeen = true) ∧
      (g.resFail = none → g.lateFail = none → (∀ f ∈ late, f.eng.val ≠ e) →
        (t.eng e).out = k.out ∧ (t.eng e).st = k.st ++ g.st.drop k.st.length ∧ (t.eng e).limit = k.limit ∧
        (t.eng e).sat = (k.sat || g.satCarry) ∧ (t.eng e).heldRow = 0 ∧ (t.eng e).next = none ∧ t.chans = d.chans))) ∧
  (∀ (d : Dev) (c : Nat),
    let x := d.chan c
    let o := (d.eng (4 * c + 1)).out
    let k := (d.eng (4 * c + 2)).out
    let y := (d.selectStep c .done).chan c
    2 ≤ x.state → x.switching = false →
      y.uSel = (if x.dirNeg && d.bipolar c (!x.fi) (x.code (!x.fi)) then max o k else min o k) ∧
      (y.compliance = true ↔ y.uSel = k ∧ k ≠ o) ∧
      (y.dirNeg = true → x.dirNeg = true ∨ o < -1048576) ∧ (y.dirNeg = false → x.dirNeg = true → 1048576 < o ∨
        d.bipolar c (!x.fi) (x.code (!x.fi)) = false) ∧ (y.dirNeg = true → d.bipolar c (!x.fi) (x.code (!x.fi)) = true))

/-- The six rows of a loop period: sample instant, frames at each end, missing frames, and the launch. SAMPLE_INSTANT
takes the next instant of the grid; awake and out of reset it takes the downstream frame and forms an upstream frame
with the next FSEQ, of that instant, saying whether a downstream frame was there; a channel whose frame requests it
and whose conditions of R349 hold is granted where no comparator is in violation, and one of whose own comparators is
in violation at the instant that would grant it is tripped instead (R370); the writes that name its FSEQ have been
committed (R346); with INTLK and no hold every grant is off and every DAC at the safe code. UPSTREAM_FRAME_ARRIVAL
counts a good frame and, once the Seam has been up, stores, computes and checks in the order of R158; a frame with
another FSEQ is a missing one, and so is one before the Seam is up after lane-lock loss, which counts as good for
R337. UPSTREAM_FRAME_MISSING computes no engine; the second in a row sets ENTER_HOLD and takes the Seam down.
DOWNSTREAM_LAUNCH ends the engines' periods, lets the sets of a range change go that the next boundary latches (R357),
and sends 64 payloads with SEAM_HOLD and the heartbeat. DOWNSTREAM_FRAME_AT_HELON makes a good frame that of the next
instant. A second DOWNSTREAM_FRAME_MISSING in a row takes the Seam down and starts hold-then-safe. (R27, R28, R32,
R39, R158, R246, R337, R338, R341, R342, R343, R349) -/
def Obligations.LoopPeriodRows : Prop :=
  (∀ (samples : List ChanSamples) (faults : List ChanId) (violating : List Violation) (s : State),
    let t0 := s.dev.nextSample
    ∃ t : State, exec (.sampleInstant samples ⟨faults, violating⟩) s = .next t ∧ t.mem = s.mem ∧ t.dev.now = max s.dev.now t0 ∧
      t.dev.tb.lastSample = t0 ∧
      (s.dev.asleep = false → s.dev.helonOn = true →
        t.dev.seam.atHelon = none ∧ t.dev.seam.fseq = s.dev.seam.nextSeq ∧
        (∃ u : UpFrame, t.dev.seam.upFrame = some u ∧ u.t0 = max s.dev.now t0 ∧ u.fseq = s.dev.seam.nextSeq ∧
          u.dnBad = s.dev.seam.atHelon.isNone ∧ u.intlk = s.dev.seam.intlk ∧ u.chans.length = 64) ∧
        t.dev.seam.timed = s.dev.seam.timed.filter (fun x => x.1 != s.dev.seam.nextSeq) ∧
        (∀ (f : DownFrame) (c : Nat), s.dev.seam.atHelon = some f → s.dev.seam.hold = .none_ → c < s.dev.nChan →
          let e := f.chans.getD c (0, 0, false)
          let h := s.dev.helon c
          e.2.2 = true → e.2.1 / 32 % 8 = 0 → h.trip = none → h.safeBit = false → s.dev.chanOk c = true →
          s.dev.seam.intlk = false → s.dev.seam.upHelon = true → s.dev.seam.stgConfigured = true → s.dev.seam.hbLost = false →
          s.dev.seam.hbRunning = true →
          ((∀ x ∈ faults, x.val ≠ c) → (∀ v ∈ violating, v.ago.toNat ≠ 0) → (t.dev.helon c).grant = true ∧ (t.dev.helon c).off = false) ∧
          (∀ v : Violation, v ∈ violating → v.ch.val = c → v.ago.toNat = 0 → h.grant = false →
            (t.dev.helon c).grant = false ∧ (t.dev.helon c).trip.isSome = true)) ∧
        (s.dev.seam.intlk = true → s.dev.seam.hold = .none_ → ∀ c : Nat, c < s.dev.nChan →
          (t.dev.helon c).grant = false ∧ (t.dev.helon c).off = true ∧ (t.dev.helon c).cOut = 0 ∧
          (t.dev.helon c).dac = dacCode (t.dev.helon c).span 0))) ∧
  (∀ (residue : List EngFault) (codes : List CodeFault) (s : State) (u : UpFrame), s.dev.seam.upFrame = some u →
    s.dev.seamOn = true → u.fseq = s.dev.seam.fseq → s.dev.seam.lockLost = false →
    let d0 := ((s.dev.advance (u.t0 + 190000)).sideWith true).modSeam (fun m =>
      { m.acked false u.scAck with upFrame := none, goodUp := min (m.goodUp + 1) 16, badUp := 0, dnBad := u.dnBad,
                                   seamHold := false })
    let cs := List.range d0.nChan
    let ls := cs.filter (fun c => !d0.follower c)
    let live := fun (d : Dev) (c : Nat) => !d.slotChans.testBit c
    (d0.seam.locked = false → exec (.upstreamFrameArrival residue codes) s = .next (s.on (fun d => d.observed (fun _ => d0)))) ∧
    (d0.seam.locked = true → exec (.upstreamFrameArrival residue codes) s = .next (s.on (fun d => d.observed (fun _ =>
      let d1 := d0.forAll ls (fun d c => d.boundaryPart u.t0 c)
      let q := d1.codeFaults u.chans codes
      let us := cs.map (fun c => d1.oldPath c (q.2.getD c upChanZero))
      let at_ := fun (c : Nat) => us.getD c upChanZero
      let res := fun (d : Dev) (e : Nat) => d.resCause residue us e
      let d2 := q.1.forAll cs (fun d c => (d.storeStatus c (at_ c)).replicaStep c u (at_ c))
      let d3 := d2.forAll ls (fun d c => d.grantStep (fun m => (at_ m).grant) c)
      let d4 := if u.holdAny then d3.forAll cs (fun d c => d.modChan c (fun x => { x with req := false })) else d3
      let d5 := d4.forAll cs (fun d c => d.keepDiffs c (at_ c))
      let d6 := d5.forAll cs (fun d c => if live d c then d.storeSamples c (at_ c) else d)
      let d7 := d6.forAll cs (fun d c => d.resFrame c (d.psamp c u.t0 (d.slotChans.testBit c)))
      let d8 := d7.forAll ls (fun d c => (d.pathReport c).transFrame c u.dnBad)
      let d9 := d8.forAll ls (fun d c => d.outerPeriod c u.t0 (live d c) (res d))
      let d10 := d9.forAll cs (fun d c => if live d c then d.innerPeriod c (at_ c).noLoopI (res d) else d)
      (d10.forAll cs Dev.shareStep).shareCheck cs))))) ∧
  (∀ (residue : List EngFault) (codes : List CodeFault) (s : State) (u : UpFrame), s.dev.seam.upFrame = some u →
    s.dev.seamOn = true →
    (u.fseq ≠ s.dev.seam.fseq → s.dev.seamRests = false → exec (.upstreamFrameArrival residue codes) s = exec .upstreamFrameMissing s) ∧
    (u.fseq = s.dev.seam.fseq → s.dev.seam.lockLost = true → s.dev.seam.up = false →
      ∃ t : State, exec (.upstreamFrameArrival residue codes) s = .next t ∧ t.mem = s.mem ∧ t.dev.seam.upFrame = none ∧
        t.dev.seam.goodUp = min (s.dev.seam.goodUp + 1) 16 ∧ t.dev.seam.badUp = s.dev.seam.badUp + 1)) ∧
  (∀ s : State, s.dev.seamRests = false → s.dev.seamOn = true →
    ((s.dev.seam.badUp = 0 ∨ s.dev.seam.up = false) →
      exec .upstreamFrameMissing s = .next (s.on (fun d => d.observed (fun d =>
        let t0 := d.tb.lastSample
        let d1 := ((d.advance (t0 + 210000)).modSeam (fun m =>
          { m with upFrame := none, goodUp := 0, badUp := m.badUp + 1, seamHold := true,
                   enterHold := m.enterHold || decide (1 ≤ m.badUp) })).logIt kSeamFrame d.seam.fseq
        let cs := List.range d1.nChan
        let ls := cs.filter (fun c => !d1.follower c)
        ((d1.forAll ls (fun d c => d.boundaryPart t0 c)).forAll cs (fun d c =>
          d.resFrame c (d.psamp c t0 true))).forAll ls (fun d c => d.outerPeriod c t0 false (fun _ => none)))))) ∧
    (1 ≤ s.dev.seam.badUp → ∃ t : State, exec .upstreamFrameMissing s = .next t ∧ t.mem = s.mem ∧ t.dev.seam.up = false ∧
      t.dev.seam.enterHold = true ∧ t.dev.seam.goodUp = 0 ∧ t.dev.seam.badUp = s.dev.seam.badUp + 1)) ∧
  (∀ (late : List EngFault) (s : State), s.dev.asleep = false → s.dev.seamOn = true →
    exec (.downstreamLaunch late) s = .next (s.on (fun d => d.observed (fun d =>
      let t0 := d.nextSample
      let d1 := d.advance (t0 - 90000)
      let cs := List.range d1.nChan
      let ls := cs.filter (fun c => !d1.follower c)
      let r := (d1.forAll ls (fun d c => d.outerEnd late c)).launchAll late t0 cs
      (((r.1.forAll ls Dev.transLaunched).forAll ls (fun d c => d.modChan c (fun x => { x with rpathReq := 0 }))).forAll ls
        (fun d c => d.namedSets t0 c)).modSeam (fun m =>
        { m with dnFrame := some { fseq := m.nextSeq, enterHold := m.enterHold, seamHold := m.seamHold, hb := m.hb,
                                   scAck := m.scAckUp, chans := r.2 ++ List.replicate (64 - r.2.length) (0, 0, false) },
                 seamHold := false }))))) ∧
  (∀ (s : State) (f : DownFrame), s.dev.seam.dnFrame = some f → s.dev.helonOn = true → f.fseq = s.dev.seam.nextSeq →
    s.dev.seam.lockLost = false →
    ∃ t : State, exec .downstreamFrameAtHelon s = .next t ∧ t.mem = s.mem ∧ t.dev.now = max s.dev.now (s.dev.nextSample - 50000) ∧
      t.dev.seam.dnFrame = none ∧ t.dev.seam.atHelon = some f ∧ t.dev.seam.badDn = 0 ∧
      t.dev.seam.goodDn = min (s.dev.seam.goodDn + 1) 16 ∧ t.dev.seam.hbHelon = f.hb) ∧
  (∀ (s : State) (f : DownFrame), s.dev.seam.dnFrame = some f → s.dev.helonOn = true →
    (f.fseq ≠ s.dev.seam.nextSeq ∨ s.dev.seam.lockLost = true) →
    s.dev.seam.badDn ≠ 1 →
    ∃ t : State, exec .downstreamFrameAtHelon s = .next t ∧ t.mem = s.mem ∧ t.dev.seam.dnFrame = none ∧
      t.dev.seam.atHelon = s.dev.seam.atHelon ∧ t.dev.seam.badDn = s.dev.seam.badDn + 1 ∧
      t.dev.seam.goodDn = (if f.fseq = s.dev.seam.nextSeq then min (s.dev.seam.goodDn + 1) 16 else 0)) ∧
  (∀ s : State, s.dev.seam.atHelon = none → s.dev.seamRests = false → s.dev.helonOn = true →
    ∃ t : State, exec .downstreamFrameMissing s = .next t ∧ t.mem = s.mem ∧ t.dev.seam.badDn = s.dev.seam.badDn + 1 ∧
      t.dev.seam.goodDn = 0 ∧ t.dev.seam.dnFrame = none ∧
      (s.dev.seam.badDn = 1 → t.dev.seam.up = false ∧ t.dev.seam.upHelon = false ∧ t.dev.seam.hold ≠ .none_ ∧
        (s.dev.seam.hold = .none_ → t.dev.seam.hold = .hold ∧ t.dev.seam.holdAt = s.dev.nextSample)) ∧
      (s.dev.seam.badDn ≠ 1 → t.dev.seam.up = s.dev.seam.up ∧ t.dev.seam.hold = s.dev.seam.hold))

/-- Seam up and lane lock loss, side-channel packets and retransmission, and the heartbeat. SEAM_UP after sixteen good
frames each way makes the Seam up and ends ENTER_HOLD. SEAM_LANE_LOCK_LOSS takes it down, empties it and restarts
FSEQ. SIDE_CHANNEL_PACKET of a packet in flight notes its sequence for SC_ACK, and the first time acts on it: a
downstream safe packet acts on its channel, any other downstream packet writes what it carries, at once or staged for
the FSEQ it names; one that names an instant already passed is refused; an upstream packet reports to Denrix.
SIDE_CHANNEL_RETRANSMIT sends a packet again 4 µs after it was sent, up to eight attempts; after the eighth the packet
is dropped and logged, a calibration slot ends, and a range change of its channel ends with ST_INTEGRITY.
HEARTBEAT_INCREMENT counts the heartbeat modulo 2^16 while it runs. HEARTBEAT_LOSS 500 µs after its last change marks
it lost, logs cause 1 and starts hold-then-safe. (R337, R338, R341, R345, R346, R347, R348, R364, R399) -/
def Obligations.SeamAndSideChannel : Prop :=
  (∀ s : State, s.dev.seamOn = true → 16 ≤ s.dev.seam.goodUp → 16 ≤ s.dev.seam.goodDn →
    exec .seamUp s = .next (s.on (fun d => d.observed (fun d => d.modSeam (fun m =>
      { m with up := true, upHelon := true, locked := true, enterHold := false, lossAt := none, badUp := 0, badDn := 0 }))))) ∧
  (∀ s : State, exec .seamLaneLockLoss s = .next (s.on (fun d => d.observed (fun d => d.modSeam (fun m =>
    { m with up := false, upHelon := false, goodUp := 0, goodDn := 0, lossAt := some (m.lossAt.getD d.now), locked := false,
             fseq := 0, upFrame := none, dnFrame := none, atHelon := none }))))) ∧
  (∀ (up : Bool) (seq : W16) (s : State) (p : SidePacket),
    s.dev.seam.packets.find? (fun p => p.up == up && p.seq == seq.toNat) = some p →
    let it := fun x : SidePacket => x.up == up && x.seq == p.seq
    let took := fun d : Dev => d.modSeam (fun m =>
      { m with scAckUp := if up then p.seq else m.scAckUp, scAckDn := if up then m.scAckDn else p.seq,
               packets := updFirst it (fun x => { x with flying := false, received := true }) m.packets })
    let passed := fun f : Nat => (s.dev.seam.nextSeq + 65535 - f) % 65536 < 32768
    (p.flying = false → exec (.sideChannelPacket up seq) s = .next (s.on (fun d => d.observed (fun d => d)))) ∧
    (p.flying = true → p.received = true ∨ p.chan = none →
      exec (.sideChannelPacket up seq) s = .next (s.on (fun d => d.observed took))) ∧
    (∀ c : Nat, p.flying = true → p.received = false → p.chan = some c →
      (up = true → exec (.sideChannelPacket up seq) s = .next (s.on (fun d => d.observed (fun d => (took d).upAct c p.msg)))) ∧
      (up = false → p.msg = .safe →
        exec (.sideChannelPacket up seq) s = .next (s.on (fun d => d.observed (fun d => (took d).safeAt c)))) ∧
      (up = false → p.msg ≠ .safe → p.named = none →
        exec (.sideChannelPacket up seq) s = .next (s.on (fun d => d.observed (fun d => (took d).helonTake c p.msg)))) ∧
      (∀ f : Nat, up = false → p.msg ≠ .safe → p.named = some f →
        (passed f → exec (.sideChannelPacket up seq) s = .next (s.on (fun d => d.observed took))) ∧
        (¬passed f → exec (.sideChannelPacket up seq) s = .next (s.on (fun d => d.observed (fun d =>
          (took d).modSeam (fun m => { m with timed := m.timed ++ [(f, c, p.msg)] }))))))) ∧
    let d1 := s.dev.advance (p.sentAt + 4000000)
    let again := fun x : SidePacket =>
      { x with attempts := x.attempts + 1, sentAt := max s.dev.now (p.sentAt + 4000000), flying := true }
    let d2 := ((d1.modSeam (fun m => { m with packets := m.packets.filter (fun x => !it x) })).logIt kSideChannel p.seq).slotAbort
    (p.attempts < 8 → exec (.sideChannelRetransmit up seq) s = .next (s.on (fun d => d.observed (fun _ =>
      d1.modSeam (fun m => { m with packets := updFirst it again m.packets }))))) ∧
    (8 ≤ p.attempts → (∀ c : Nat, p.chan = some c → (d2.chan (d2.leader c)).rc = none) →
      exec (.sideChannelRetransmit up seq) s = .next (s.on (fun d => d.observed (fun _ => d2)))) ∧
    (8 ≤ p.attempts → ∀ c : Nat, p.chan = some c → (d2.chan (d2.leader c)).rc ≠ none →
      exec (.sideChannelRetransmit up seq) s = .next (s.on (fun d => d.observed (fun _ => d2.rcFail (d2.leader c) stIntegrity))))) ∧
  (∀ s : State, s.dev.seam.hbRunning = true →
    exec .heartbeatIncrement s = .next (s.on (fun d => d.modSeam (fun m => { m with hb := (m.hb + 1) % 65536 })))) ∧
  (∀ s : State, s.dev.seamRests = false → s.dev.helonOn = true → ∃ t : State, exec .heartbeatLoss s = .next t ∧ t.mem = s.mem ∧
    t.dev.now = max s.dev.now (s.dev.seam.hbChangedAt + 500000000) ∧ t.dev.seam.hbLost = true ∧ t.dev.seam.hold ≠ .none_ ∧
    (s.dev.seam.hold = .none_ → t.dev.seam.hold = .hold ∧ t.dev.seam.holdAt = s.dev.nextSample))

/-- Trips, self-tests, the interlock, and the ramp of hold-then-safe. HEM_TRIP trips its channel with the comparator's
cause (a held trip stays) and every other member of the gang in Helon's map, each losing its grant at once, and sends
its cause up on the side channel (R356); no other channel changes. While Helon is off or in reset none of Hem's rows
changes anything. A passed self-test counts to two; a failed one trips the channel and zeroes the count. A failed
spare suspends the testing of its quadrant: no later test counts there. SELFTEST_OVERDUE trips the quadrant's
channels, HEM_CLK_FAULT every channel. CONV_CLK_LOSS takes the Seam down and starts hold-then-safe with the substitute
clock. INTLK_ASSERT takes every grant; INTLK_NEGATE restores none. At the end of HOLD_TIME the ramp begins: a held
channel's code moves toward 0 by at most the step, LIM_ACT set while it is not there; at the ramp's timeout every held
channel is at the safe code without grant. (R263, R354, R355, R356, R358, R359, R360, R364, R365, R367, R368, R370) -/
def Obligations.HemAndHoldThenSafe : Prop :=
  (∀ (ch : ChanId) (cmp : Comparator) (spare pass outside : Bool) (k : Fin 4) (s : State), s.dev.helonOn = false →
    ∀ c ∈ [Instr.hemTrip ch cmp, .hemSelftest ch cmp spare pass, .selftestOverdue k, .hemClkFault outside],
      exec c s = .next (s.on (fun d => d.observed (fun d => d)))) ∧
  (∀ (ch : ChanId) (cmp : Comparator) (s : State), s.dev.chanOk ch.val = true → s.dev.helonOn = true →
    let h := s.dev.helon ch.val
    ∃ t : State, exec (.hemTrip ch cmp) s = .next t ∧ t.mem = s.mem ∧ t.dev.helon ch.val =
        { h with violation := some s.dev.now, grant := false, off := true, safeBit := true, hold := false,
                 trip := some (h.trip.getD (compCause cmp)) } ∧
      (h.trip = none → ∃ p ∈ t.dev.seam.packets, p.up = true ∧ p.chan = some ch.val ∧ p.msg = .tripCause (compCause cmp).num) ∧
      (∀ m ∈ bitsSet h.gang 64, (t.dev.helon m).grant = false ∧ (t.dev.helon m).trip.isSome = true) ∧
      ∀ m : Nat, m ≠ ch.val → m ∉ bitsSet h.gang 64 → t.dev.helon m = s.dev.helon m) ∧
  (∀ (ch : ChanId) (cmp : Comparator) (s : State), s.dev.seam.spareFail.testBit (ch.val / 16) = false →
    s.dev.helonOn = true →
    let k := compIdx cmp
    let h := s.dev.helon ch.val
    let clear := h.stFail - bitAt (h.stFail.testBit k) k
    exec (.hemSelftest ch cmp false true) s = .next (s.on (fun d => d.observed (fun d => d.modHelon ch.val (fun h =>
      { h with passes := modAt h.passes k (fun n => min (n + 1) 2), stFail := clear })))) ∧
    (∃ t : State, exec (.hemSelftest ch cmp false false) s = .next t ∧ t.mem = s.mem ∧
      (t.dev.helon ch.val).grant = false ∧ (t.dev.helon ch.val).trip = some (h.trip.getD .selftest) ∧
      (t.dev.helon ch.val).passes = modAt h.passes k (fun _ => 0) ∧ (t.dev.helon ch.val).stFail = clear + 2 ^ k) ∧
    exec (.hemSelftest ch cmp true true) s = .next (s.on (fun d => d.observed (fun d => d))) ∧
    ∃ t : State, exec (.hemSelftest ch cmp true false) s = .next t ∧ t.mem = s.mem ∧ t.dev.hel = s.dev.hel ∧
      t.dev.seam.spareFail = s.dev.seam.spareFail ||| 2 ^ (ch.val / 16)) ∧
  (∀ (ch : ChanId) (cmp : Comparator) (spare pass : Bool) (s : State), s.dev.seam.spareFail.testBit (ch.val / 16) = true →
    exec (.hemSelftest ch cmp spare pass) s = .next (s.on (fun d => d.observed (fun d => d)))) ∧
  (∀ (k : Fin 4) (s : State), s.dev.helonOn = true → ∃ t : State, exec (.selftestOverdue k) s = .next t ∧ t.mem = s.mem ∧
    ∀ c : Nat, if c / 16 = k.val ∧ s.dev.chanOk c = true then
        (t.dev.helon c).grant = false ∧ (t.dev.helon c).trip = some ((s.dev.helon c).trip.getD .selftest)
      else t.dev.helon c = s.dev.helon c) ∧
  (∀ s : State, s.dev.helonOn = true → ∃ t : State, exec (.hemClkFault true) s = .next t ∧ t.mem = s.mem ∧ t.dev.seam.hemClkOk = false ∧
    ∀ c : Nat, c < s.dev.nChan → (t.dev.helon c).grant = false ∧ (t.dev.helon c).trip = some ((s.dev.helon c).trip.getD .hemClk)) ∧
  (∀ s : State, s.dev.helonOn = true → exec (.hemClkFault false) s = .next (s.on (fun d => d.observed (fun d => d.modSeam (fun m => { m with hemClkOk := true }))))) ∧
  (∀ s : State, s.dev.seamRests = false → s.dev.helonOn = true → ∃ t : State, exec .convClkLoss s = .next t ∧ t.mem = s.mem ∧
    t.dev.seam.up = false ∧ t.dev.seam.upHelon = false ∧ t.dev.seam.substitute = true ∧ t.dev.seam.hold ≠ .none_ ∧
    (s.dev.seam.hold = .none_ → t.dev.seam.hold = .hold ∧ t.dev.seam.holdAt = s.dev.nextSample)) ∧
  (∀ s : State, ∃ t : State, exec .intlkAssert s = .next t ∧ t.mem = s.mem ∧ t.dev.seam.intlk = true ∧
    ∀ c : Nat, c < s.dev.nChan → (t.dev.helon c).grant = false ∧ (t.dev.helon c).trip = (s.dev.helon c).trip) ∧
  (∀ s : State, exec .intlkNegate s = .next (s.on (fun d => d.observed (fun d =>
    (d.modSeam (fun m => { m with intlk := false })).modFab (fun f => { f with held := f.held % 2 ^ 14 }))))) ∧
  (∀ s : State, s.dev.seam.hold = .hold →
    let t0 := s.dev.instantAt (s.dev.seam.holdAt + s.dev.seam.holdTime * 10000000)
    ∃ t : State, exec .holdTimeExpiry s = .next t ∧ t.mem = s.mem ∧ t.dev.now = max s.dev.now t0 ∧
      ∀ c : Nat, c < s.dev.nChan →
        ((s.dev.helon c).hold = false → t.dev.helon c = s.dev.helon c) ∧
        ((s.dev.helon c).hold = true →
          (s.dev.seam.safeStep ≠ 0 → (t.dev.helon c).cOut.natAbs = (s.dev.helon c).cOut.natAbs - s.dev.seam.safeStep) ∧
          (s.dev.seam.safeStep = 0 → (t.dev.helon c).cOut = 0) ∧
          ((t.dev.helon c).limAct = true ↔ (t.dev.helon c).cOut ≠ 0) ∧
          ((t.dev.helon c).cOut = 0 → (t.dev.helon c).grant = false ∧ (t.dev.helon c).hold = false))) ∧
  (∀ s : State, s.dev.seam.hold = .ramp → ∃ t : State, exec .holdRampTimeout s = .next t ∧ t.mem = s.mem ∧
    t.dev.now = max s.dev.now (s.dev.instantAt (s.dev.seam.rampAt + 20000000000)) ∧
    ∀ c : Nat, c < s.dev.nChan → (t.dev.helon c).hold = false ∧
      ((s.dev.helon c).hold = true → (t.dev.helon c).cOut = 0 ∧ (t.dev.helon c).grant = false))

/-- What the survey commands answer and change. Each command that may run at once completes. SVY_TABLE_WRITE puts its
entries into the shadow table alone, and SVY_TABLE_READ answers entries of the table it names. SVY_CONFIG takes effect
at once outside a scan and during a scan waits for its end, which STOP between two entries brings at once; a change of
MODE, as it takes effect, discards waiting starts and counts scans anew. SVY_DATA of 0xFFFF answers and empties the
function's SURVEY_DATA; of an entry it answers its latest result. SVY_URGENT joins the queue and goes on. SVY_STATUS
answers the table with the clears asked. (R377, R378, R379, R382, R385, R386, R387, R391, R393, R376) -/
def Obligations.SurveyCommands : Prop :=
  (∀ (q : Req) (s : State), s.dev.runsNow cmdSvyTableWrite q = true →
    let p := (s.dev.job 0x0601 q).p
    exec (.svyTableWrite q) s = .next (s.on (fun d => d.answer 0x0601 q (fun d => d.modSvy (fun y =>
      let t := (List.range (u8 p 1)).foldl (fun t k => tblSet entryInit t (u8 p 0 + k) (slice p (4 + 32 * k) 32)) y.shadow
      { y with shadow := t })) stOk []))) ∧
  (∀ (q : Req) (s : State), s.dev.runsNow cmdSvyTableRead q = true →
    let p := (s.dev.job 0x0602 q).p
    exec (.svyTableRead q) s = .next (s.on (fun d => d.answer 0x0602 q id stOk ((List.range (u8 p 1)).flatMap (fun k =>
      tblGet entryInit (if u8 p 2 = 0 then d.svy.active else d.svy.shadow) (u8 p 0 + k)))))) ∧
  (∀ (q : Req) (s : State), s.dev.runsNow cmdSvyConfig q = true →
    let p := (s.dev.job 0x0603 q).p
    let c : SvyCfg := { mode := u8 p 0, nent := u16 p 2, startDelay := u32 p 4, timerUs := u32 p 8, watchdogUs := u32 p 12 }
    (s.dev.svy.scanning = false → exec (.svyConfig q) s = .next (s.on (fun d => d.answer 0x0603 q (fun d =>
      d.svyApply c d.now) stOk []))) ∧
    (s.dev.svy.scanning = true → (c.mode ≠ 0 ∨ s.dev.svy.run.isSome = true) →
      exec (.svyConfig q) s = .next (s.on (fun d => d.answer 0x0603 q (fun d =>
        d.modSvy (fun y => { y with newCfg := some c })) stOk []))) ∧
    (s.dev.svy.scanning = true → c.mode = 0 → s.dev.svy.run = none →
      exec (.svyConfig q) s = .next (s.on (fun d => d.answer 0x0603 q (fun d =>
        (d.modSvy (fun y => { y with newCfg := some c })).scanEnd d.now) stOk []))) ∧
    (∀ t0 : Nat, c.mode ≠ s.dev.svy.cfg.mode → (s.dev.svyApply c t0).svy.starts = [] ∧ (s.dev.svyApply c t0).svy.scans = 0)) ∧
  (∀ (q : Req) (s : State), s.dev.runsNow cmdSvyData q = true →
    let j := s.dev.job 0x0604 q
    (u16 j.p 0 = 0xFFFF → exec (.svyData q) s = .next (s.on (fun d => d.answer 0x0604 q (fun d =>
      d.modFn j.f (fun x => { x with surveyUnread := false, surveyOverrun := false })) stOk
      (svyReply (d.fn j.f).survey (d.fn j.f).surveyOverrun)))) ∧
    (u16 j.p 0 ≠ 0xFFFF → exec (.svyData q) s = .next (s.on (fun d => d.answer 0x0604 q id stOk
      (svyReply (tblGet (fun _ => svyNone) d.svy.results (u16 j.p 0)) false))))) ∧
  (∀ (q : Req) (s : State), s.dev.runsNow cmdSvyUrgent q = true →
    let j := s.dev.job 0x0605 q
    let b := if u16 j.p 0 = 0xFFFF then slice j.p 8 32 else tblGet entryInit s.dev.svy.active (u16 j.p 0)
    let k : SvyConv := { entry := u16 j.p 0, bytes := b, fn := j.f, cmd := some j.id, bank := none }
    (s.dev.svy.run.isSome = true → exec (.svyUrgent q) s = .next (s.on (fun d => d.goesOn 0x0605 q (fun d =>
      d.modSvy (fun y => { y with urgent := y.urgent ++ [k] })) [] []))) ∧
    (s.dev.svy.run = none → exec (.svyUrgent q) s = .next (s.on (fun d => d.goesOn 0x0605 q (fun d =>
      (d.modSvy (fun y => { y with urgent := y.urgent ++ [k] })).svyNext (d.edgeAfter d.now)) [] [])))) ∧
  (∀ (q : Req) (s : State), s.dev.runsNow cmdSvyStatus q = true →
    let j := s.dev.job 0x0606 q
    ∃ (t : State) (payload : List Byte), exec (.svyStatus q) s = .next t ∧ payload.length = 24 ∧
      t = s.on (fun d => d.answer 0x0606 q (fun d =>
        let d1 := if (u32 j.p 0).testBit 0 then d.modFn j.f (fun x => { x with surveyOverruns := 0 }) else d
        if (u32 j.p 0).testBit 1 then d1.modSvy (fun y => { y with fellBack := false, missed := 0, lost := 0 }) else d1)
        stOk payload) ∧
      u8 payload 1 = svyState s.dev ∧ u32 payload 4 = s.dev.svy.scans % 2 ^ 32 ∧ u32 payload 8 = s.dev.svy.missed % 2 ^ 32)

/-- Survey starts, the beginning of a scan, its conversions, results and windows, and the watchdog. SURVEY_TIMER_TICK in
timer mode advances to the tick's instant, counts it, and its start waits or is missed; in FAULT the tick only counts.
SURVEY_START takes the edge, and in event mode starts likewise. SCAN_BEGIN of a due scan copies the shadow table, sets
windows of changed entries to UNKNOWN and counts. SURVEY_ENTRY_END ends the running conversion at its instant and
sends one result on its way, oldest first. SURVEY_RESULT, delivered, puts a table result and its window state into the
store and into SURVEY_DATA of every function with the entry in view; not delivered, it is lost and counted.
SURVEY_WATCHDOG begins fallback. The window state follows R389. (R379, R380, R382, R383, R384, R386, R387, R388, R389,
R203, R392) -/
def Obligations.SurveyScans : Prop :=
  (∀ s : State, s.dev.svy.cfg.mode = 2 → s.dev.svy.faultState = false →
    let y := s.dev.svy
    let t0 := y.modeAt + (y.ticks + 1) * y.cfg.timerUs * 1000000
    let full := (if y.scanning then 1 else 2) ≤ y.starts.length
    ∃ t : State, exec .surveyTimerTick s = .next t ∧ t.mem = s.mem ∧ t.dev.now = max s.dev.now t0 ∧
      t.dev.svy = { y with ticks := y.ticks + 1, fallback := false, wdFrom := t0,
                           missed := if full then sat32n (y.missed + 1) else y.missed,
                           starts := if full then y.starts else y.starts ++ [t0 + y.cfg.startDelay * tickPs] }) ∧
  (∀ s : State, s.dev.svy.cfg.mode = 2 → s.dev.svy.faultState = true →
    let y := s.dev.svy
    exec .surveyTimerTick s = .next (s.on (fun d => (d.advance (y.modeAt + (y.ticks + 1) * y.cfg.timerUs * 1000000)).modSvy (fun y =>
      { y with ticks := y.ticks + 1 })))) ∧
  (∀ s : State, s.dev.svy.cfg.mode = 3 → s.dev.svy.faultState = false → s.dev.hasEdge 14 = true →
    let y := s.dev.svy
    let t0 := s.dev.latchOf 14
    let full := (if y.scanning then 1 else 2) ≤ y.starts.length
    ∃ t : State, exec .surveyStart s = .next t ∧ t.mem = s.mem ∧ t.dev.fab.edges = (s.dev.takeEdge 14).fab.edges ∧
      t.dev.svy = { y with fallback := false, wdFrom := t0, missed := if full then sat32n (y.missed + 1) else y.missed,
                           starts := if full then y.starts else y.starts ++ [t0 + y.cfg.startDelay * tickPs] } ∧
      (full → tblGet (fun _ => false) t.dev.fab.overrun 14 = true)) ∧
  (∀ (s : State) (due : Nat), s.dev.scanDue = some due → s.dev.svy.run = none →
    let y := s.dev.svy
    ∃ t : State, exec .scanBegin s = .next t ∧ t.mem = s.mem ∧ t.dev.now = max s.dev.now (s.dev.edgeAt (max s.dev.now due)) ∧
      t.dev.svy.active = y.shadow ∧ t.dev.svy.scanning = true ∧ t.dev.svy.scans = (y.scans + 1) % 2 ^ 32 ∧
      t.dev.svy.win = y.win.filter (fun p => svyEntry y.shadow p.1 == svyEntry y.active p.1) ∧ t.dev.svy.run.isSome = true) ∧
  (∀ (samples : List RawPair) (s : State) (r : SvyRun), s.dev.svy.run = some r →
    let m := s.dev.svyMeasure r.conv samples
    ∃ (t : State) (f : SvyFlight), exec (.surveyEntryEnd samples) s = .next t ∧ t.mem = s.mem ∧
      t.dev.now = max s.dev.now r.endAt ∧ t.dev.svy.flights = s.dev.svy.flights ++ [f] ∧ f.conv = r.conv ∧
      f.scan = s.dev.svy.scans ∧ (s.dev.tb.steps = [] → f.epoch = s.dev.tb.epoch) ∧ t.dev.svy.pair = m.2.2.2 ∧
      f.degraded = (m.2.2.2.faultyA || m.2.2.2.faultyB) ∧ (svyDiff r.conv.bytes = false → f.code = m.1 ∧ f.saturated = m.2.1)) ∧
  (∀ (s : State) (f : SvyFlight) (rest : List SvyFlight), s.dev.svy.flights = f :: rest →
    (exec (.surveyResult false) s = .next (s.on (fun d => d.observed (fun d =>
      d.modSvy (fun y => { y with flights := rest, lost := sat32n (y.lost + 1) }))))) ∧
    (f.conv.cmd = none →
      let e := f.conv.entry
      let was := tblGet (fun _ => 0) s.dev.svy.win e
      let win := if svyWinEn f.conv.bytes then winMove was (s32 f.conv.bytes 8) (s32 f.conv.bytes 12) (svyHyst f.conv.bytes) f.code
        else 0
      ∃ t : State, exec (.surveyResult true) s = .next t ∧ t.mem = s.mem ∧ t.dev.svy.flights = rest ∧
        tblGet (fun _ => 0) t.dev.svy.win e = win ∧ tblGet (fun _ => svyNone) t.dev.svy.results e = f.result win ∧
        ∀ v ∈ s.dev.svyViewers e, (t.dev.fn v).survey = f.result win ∧ (t.dev.fn v).surveyUnread = true ∧
          (t.dev.fn v).surveyOverrun = ((s.dev.fn v).surveyOverrun || (s.dev.fn v).surveyUnread))) ∧
  (∀ s : State, 2 ≤ s.dev.svy.cfg.mode → s.dev.svy.cfg.watchdogUs ≠ 0 → s.dev.svy.fallback = false → s.dev.svyPaused = false →
    s.dev.svy.faultState = false →
    ∃ t : State, exec .surveyWatchdog s = .next t ∧ t.mem = s.mem ∧
      t.dev.now = max s.dev.now (s.dev.svy.wdFrom + s.dev.svy.cfg.watchdogUs * 1000000) ∧
      t.dev.svy = { s.dev.svy with fallback := true, fellBack := true }) ∧
  (∀ (st : Nat) (lo hi h code : Int), lo ≤ hi → 0 ≤ h → st ≤ 3 → lo + h ≤ hi - h →
    (lo + h ≤ code → code ≤ hi - h → winMove st lo hi h code = 1) ∧
    (hi < code → winMove st lo hi h code = 2) ∧ (code < lo → winMove st lo hi h code = 3) ∧
    (st = 2 → hi - h < code → winMove st lo hi h code = 2) ∧ (st = 3 → code < lo + h → winMove st lo hi h code = 3) ∧
    (st ≤ 1 → lo ≤ code → code ≤ hi → winMove st lo hi h code = 1))

/-- What the calibration commands answer and change. Each command that may run at once completes. CAL_SELF adds a waiting
run, with the channels of its scope to calibrate and those it skips, and goes on. CAL_STATUS answers the channel's
table. CAL_TRACE_BEGIN begins a session and goes on with the word of the range that sets CAL; the session opens,
keeping the channel's former ranges, once that word is latched. CAL_TRACE_POINT starts a LINE aperture after the
settle time, for its point, and goes on. CAL_TRACE_END with ACTION 0 closes the session and stores nothing. CAL_STORE
prepares the image of the working copy, numbered one above the newer valid copy and valid itself (its CRC over all its
bytes, R411, R413), and goes on. (R395, R400, R405, R406, R407, R409, R415, R416, R417, R418) -/
def Obligations.CalibrationCommands : Prop :=
  (∀ (q : Req) (s : State), s.dev.runsNow cmdCalSelf q = true →
    let j := s.dev.job 0x0701 q
    let plan := s.dev.calPlan (u8 j.p 0) (u64 j.p 8) ((u8 j.p 1).testBit 0)
    let run : CalRun :=
      { cmd := some j.id, scope := u8 j.p 0, skipLive := (u8 j.p 1).testBit 0, todo := plan.1, passed := 0, failed := 0,
        skipped := plan.2, survey := 0, refFail := false, integrity := false, part := .waiting, startAt := 0, partAt := 0,
        dacChans := 0, slotChans := 0 }
    exec (.calSelf q) s = .next (s.on (fun d => d.goesOn 0x0701 q (fun d =>
      d.modCal (fun k => { k with runs := k.runs ++ [run] })) [] []))) ∧
  (∀ (q : Req) (s : State), s.dev.runsNow cmdCalStatus q = true →
    let c := (s.dev.job 0x0702 q).ch
    let x := (s.dev.calChan c).self
    let fl := bitAt (s.dev.calAwaiting c) 0 + bitAt (s.dev.calActive c) 1 + bitAt (s.dev.tracing c) 2 + bitAt x.valid 3
      + bitAt x.dac 4 + bitAt (s.dev.serialMismatch c) 5 + bitAt (s.dev.calRequired c) 6 + bitAt s.dev.cal.defaults 7
    exec (.calStatus q) s = .next (s.on (fun d => d.answer 0x0702 q id stOk (w16 fl ++ w16 (ofSigned 16 x.temp) ++ w64 x.timeNs
      ++ w64 ((List.range 18).foldl (fun a k => a + d.rsrc c k * 4 ^ k) 0) ++ w32 d.cal.storeSeq ++ zeros 8)))) ∧
  (∀ (q : Req) (s : State), s.dev.runsNow cmdCalTraceBegin q = true →
    let j := s.dev.job 0x0703 q
    let x := s.dev.chan j.ch
    let cur := u8 j.p 1 == 1
    let tr : Trace := { ch := j.ch, cur := cur, code := u8 j.p 2, nplc := u8 j.p 3, settleUs := u32 j.p 4, pts := [], run := none,
                        before := none }
    exec (.calTraceBegin q) s = .next (s.on (fun d => d.goesOn 0x0703 q (fun d =>
      let d1 := d.modCal (fun k => { k with trace := some tr })
      d1.setHalf j.ch (d1.halfCodes j.ch (if cur then x.vr else tr.code) (if cur then tr.code else x.ir) 0)) [Res.chan j.ch] []))) ∧
  (∀ (s : State) (tr : Trace), s.dev.cal.trace = some tr → tr.before = none →
    let x := s.dev.chan tr.ch
    s.dev.traceOpen.cal.trace = some { tr with before := some { vr := x.vr, ir := x.ir, setpoint := x.setpoint,
                                                                compPos := x.compPos, compNeg := x.compNeg, compUse := x.compUse } }) ∧
  (∀ (q : Req) (s : State) (tr : Trace), s.dev.runsNow cmdCalTracePoint q = true → s.dev.cal.trace = some tr →
    let j := s.dev.job 0x0704 q
    let r : TraceRun := { cmd := j.id, k := 2 * u8 j.p 0 + u8 j.p 1, ref := u64 j.p 8,
                          aper := s.dev.newAper 3 tr.nplc (s.dev.boundaryIn tr.settleUs) 0 }
    exec (.calTracePoint q) s = .next (s.on (fun d => d.goesOn 0x0704 q (fun d =>
      d.modCal (fun k => { k with trace := some { tr with run := some r } })) [Res.chan tr.ch] []))) ∧
  (∀ (q : Req) (s : State) (tr : Trace), s.dev.runsNow cmdCalTraceEnd q = true → s.dev.cal.trace = some tr →
    let j := s.dev.job 0x0705 q
    (u8 j.p 0 = 0 → exec (.calTraceEnd q) s = .next (s.on (fun d => d.answer 0x0705 q Dev.traceClose stOk []))) ∧
    (u8 j.p 0 = 0 → ∀ t : State, exec (.calTraceEnd q) s = .next t → t.dev.cal.trace = none ∧ t.dev.cal.wc = s.dev.cal.wc)) ∧
  (∀ (q : Req) (s : State), s.dev.runsNow cmdCalStore q = true →
    let j := s.dev.job 0x0706 q
    let n := match s.dev.calNewest with | some c => c.seq + 1 | none => 1
    exec (.calStore q) s = .next (s.on (fun d => d.goesOn 0x0706 q (fun d =>
      d.modCal (fun k => { k with storing := some (j.id, d.storeImage) })) [Res.store] [])) ∧
    s.dev.storeImage.seq = n ∧ (∀ m : Nat, 1 ≤ m → s.dev.storeImage.valid m = true) ∧ s.dev.storeImage.writeNs = s.dev.timeNs)

/-- The parts of a self-calibration run: its start, reference check, group slots, and survey slot. CAL_RUN_START takes the
oldest waiting run at a sample instant where none is active: to its reference check for scope 0, else to its slots.
REFERENCE_CHECK_END with readings within 0.05 % goes on; outside, the run ends with ST_CAL_PLAUS. GROUP_SLOT_START
takes the channels to do of the lowest group into its slot. GROUP_SLOT_END of a slot of one channel: plausible factors
without a faulty core, of a channel that no channel response hit in its slot (R593), enter the working copy, the
channel counts as passed and its restriction of R242 ends; else its factors stay, it counts as failed and the log has
it. SURVEY_CAL_END with plausible factors takes them and ends FAULT; else it keeps the old ones. (R395, R396, R397,
R398, R399, R401, R402, R403, R242) -/
def Obligations.CalibrationRuns : Prop :=
  (∀ (s : State) (r : CalRun) (rest : List CalRun), s.dev.activeRun = none → s.dev.cal.runs = r :: rest → r.scope = 0 →
    let t0 := max s.dev.now (s.dev.boundaryAt s.dev.now)
    exec .calRunStart s = .next (s.on (fun d => (d.advance (d.boundaryAt d.now)).modCal (fun k =>
      { k with runs := { r with startAt := t0, partAt := t0, part := .reference } :: rest })))) ∧
  (∀ (s : State) (r : CalRun), s.dev.activeRun = some r → r.part = .reference →
    (∀ ref cal : SurveyCode, (ref.toInt - cal.toInt).natAbs * 2000 ≤ cal.toInt.natAbs → r.todo ≠ 0 →
      exec (.referenceCheckEnd ⟨ref, cal⟩) s = .next (s.on (fun d => (d.advance (d.partEnd r 4)).modCal (fun k =>
      { k with runs := updFirst (fun x => x.part != .waiting) (fun x => { x with part := .between }) k.runs })))) ∧
    (∀ (ref cal : SurveyCode) (id : Nat), cal.toInt.natAbs < (ref.toInt - cal.toInt).natAbs * 2000 → r.cmd = some id →
      ∃ t : State, exec (.referenceCheckEnd ⟨ref, cal⟩) s = .next t ∧ t.mem = s.mem ∧
      t.dev.cal.wc = s.dev.cal.wc ∧ (∀ x : Running, s.dev.running? id = some x → x.result = none →
        ∃ (y : Running) (p : List Byte), t.dev.running? id = some y ∧
          y.result = some (if r.integrity then stIntegrity else stCalPlaus, p)))) ∧
  (∀ (s : State) (r : CalRun) (g : Nat), s.dev.activeRun = some r → r.part = .between → nextGroup r.todo = some g →
    (∀ x ∈ s.dev.tg.running, x.live = true → x.started = true → ∀ c ∈ chansIn (r.todo &&& (255 * 2 ^ (8 * g))), Res.chan c ∉ x.names) →
    ∃ (t : State) (u : CalRun), exec .groupSlotStart s = .next t ∧ t.mem = s.mem ∧ t.dev.cal.wc = s.dev.cal.wc ∧
      t.dev.activeRun = some u ∧ u.part = .slot g ∧ u.slotChans = r.todo &&& (255 * 2 ^ (8 * g)) ∧
      u.todo = r.todo - (r.todo &&& (255 * 2 ^ (8 * g))) ∧ u.cmd = r.cmd ∧ u.scope = r.scope) ∧
  (∀ (s : State) (r : CalRun) (g : Nat) (x : CalResult), s.dev.activeRun = some r → r.part = .slot g →
    chansIn r.slotChans = [x.ch.val] → r.todo ≠ 0 →
    let c := x.ch.val
    (slotBad x (s.dev.calChan c) (r.dacChans.testBit c) = none → r.failed.testBit c = false →
      ∃ (t : State) (u : CalRun), exec (.groupSlotEnd [x]) s = .next t ∧ t.mem = s.mem ∧ t.dev.activeRun = some u ∧
        u.passed = r.passed ||| 2 ^ c ∧ u.failed = r.failed ∧ u.part = .between ∧ u.slotChans = 0 ∧
        (t.dev.calChan c).v = pairOf x.factors 0 ∧ (t.dev.calChan c).i = pairOf x.factors 37 ∧
        (t.dev.calChan c).here = true ∧ t.dev.calRequired c = false ∧ (t.dev.chan c).degraded = false) ∧
    ((slotBad x (s.dev.calChan c) (r.dacChans.testBit c)).isSome = true → x.faulty.val = 0 →
      ∃ (t : State) (u : CalRun), exec (.groupSlotEnd [x]) s = .next t ∧ t.mem = s.mem ∧ t.dev.activeRun = some u ∧
        u.failed = r.failed ||| 2 ^ c ∧ u.passed = r.passed ∧ u.part = .between ∧ t.dev.cal.wc = s.dev.cal.wc)) ∧
  (∀ (s : State) (r : CalRun) (x : CalResult), s.dev.activeRun = some r → r.part = .survey →
    let old := s.dev.cal.wc.svy
    let h := s.dev.cal.wc.svyHere
    let w := pairOf x.factors 0
    let good := x.faulty.val % 4 = 0 ∧ ofsOk w old h = true ∧ gainsOk w old h = true ∧ skewOk w old h = true ∧ linOk w old h = true
    (good → ∃ t : State, exec (.surveyCalEnd x) s = .next t ∧ t.mem = s.mem ∧ t.dev.cal.wc.svy = w ∧
      t.dev.cal.wc.svyHere = true ∧ t.dev.svy.faultState = false ∧ t.dev.svy.pausedCal = false) ∧
    (¬good → ∃ t : State, exec (.surveyCalEnd x) s = .next t ∧ t.mem = s.mem ∧ t.dev.cal.wc = s.dev.cal.wc ∧
      t.dev.svy.pausedCal = false))

/-- What the vector commands answer and change, and when a segment commits. Each command that may run at once completes.
VEC_BANK_CONFIG disables a bank (its pins let go at the next start edge), and for an enable queues the conversion of
VIO and goes on. VEC_CLOCK, VEC_LOAD (its segment LOADING) and VEC_SEG_COMMIT go on. VEC_CONFIG sets the selected
fields, an idle state showing from the next start edge. VEC_WRITE stores its words, the segment LOADING; VEC_READ
answers words. VEC_START arms the player at its address and fills the prefetcher. VEC_STOP stops the player at the
next edge. VEC_STATUS answers the table with its clears. A segment's commit is ST_OK and READY exactly where every one
of its words passes the checks of R433. (R425, R428, R429, R431, R433, R434, R435, R440, R441, R442, R443, R444) -/
def Obligations.VectorCommands : Prop :=
  (∀ (q : Req) (s : State), s.dev.runsNow cmdVecBankConfig q = true →
    let j := s.dev.job 0x0801 q
    (u8 j.p 1 = 0 → exec (.vecBankConfig q) s = .next (s.on (fun d => d.answer 0x0801 q (fun d =>
      let off := if (d.vbank (u8 j.p 0)).enabled then d.vEdgeAfter d.now else 0
      d.modVec (fun v => { v with banks := tblSet vbankInit v.banks (u8 j.p 0) { bankOf j.p with offAt := off } })) stOk []))) ∧
    (u8 j.p 1 ≠ 0 → exec (.vecBankConfig q) s = .next (s.on (fun d => d.goesOn 0x0801 q (fun d =>
      d.svyQueue { entry := 0xFFFF, bytes := w8 (210 + u8 j.p 0) ++ zeros 31, fn := j.f, cmd := some j.id, bank := some (u8 j.p 0) })
      [Res.player] [])))) ∧
  (∀ (q : Req) (s : State), s.dev.runsNow cmdVecClock q = true →
    exec (.vecClock q) s = .next (s.on (fun d => d.goesOn 0x0802 q id [Res.player] []))) ∧
  (∀ (q : Req) (s : State), s.dev.runsNow cmdVecConfig q = true →
    let j := s.dev.job 0x0803 q
    let m := u8 j.p 0
    exec (.vecConfig q) s = .next (s.on (fun d => d.answer 0x0803 q (fun d =>
      let mine := (List.range 128).filter (fun k => d.pinHolder k == j.f)
      let idle := mine.foldl (fun t k => tblSet (fun _ => 0) t k (idleCode j.p k)) d.vec.idle
      let was := mine.foldl (fun t k => tblSet (fun _ => (0, 0)) t k (d.vIdle k, d.vEdgeAfter d.now)) d.vec.idleWas
      let d1 := if m.testBit 0 then d.modVec (fun v => { v with idle := idle, idleWas := was }) else d
      let d2 := if m.testBit 1 then d1.modFn j.f (fun f => { f with failMode := u8 j.p 1, failLimit := u32 j.p 4 }) else d1
      if m.testBit 2 then
        (d2.forAll (List.range 4) (fun d g => d.modStream (groupStream j.f g) (fun t =>
          if t.ring = u8 j.p (8 + g) then t else { t with ring := u8 j.p (8 + g), seq := 0 }))).modFn j.f
            (fun f => { f with groupRing := u32 j.p 8 })
      else d2) stOk []))) ∧
  (∀ (q : Req) (s : State), s.dev.runsNow cmdVecWrite q = true →
    let p := (s.dev.job 0x0804 q).p
    exec (.vecWrite q) s = .next (s.on (fun d => d.answer 0x0804 q (fun d =>
      d.storeWords (u32 p 0) (u8 p 4) (p.drop 8)) stOk []))) ∧
  (∀ (q : Req) (s : State), s.dev.runsNow cmdVecLoad q = true →
    let i := u8 (s.dev.job 0x0805 q).p 0
    exec (.vecLoad q) s = .next (s.on (fun d => d.goesOn 0x0805 q (fun d =>
      d.modVec (fun v => { v with segs := tblSet (fun _ => 0) v.segs i 1 })) [Res.seg i] []))) ∧
  (∀ (q : Req) (s : State), s.dev.runsNow cmdVecSegCommit q = true →
    exec (.vecSegCommit q) s = .next (s.on (fun d => d.goesOn 0x0806 q id [Res.seg (u8 (d.job 0x0806 q).p 0)] []))) ∧
  (∀ (q : Req) (s : State), s.dev.runsNow cmdVecRead q = true →
    let p := (s.dev.job 0x0807 q).p
    exec (.vecRead q) s = .next (s.on (fun d => d.answer 0x0807 q id stOk
      ((List.range (u8 p 4)).flatMap (fun k => tblGet wordInit d.vec.words (u32 p 0 + k)))))) ∧
  (∀ (q : Req) (s : State), s.dev.runsNow cmdVecStart q = true →
    let j := s.dev.job 0x0808 q
    let kind := u8 j.p 4
    let start := if kind = 0 then some (s.dev.now + 2000000)
      else if kind = 1 then some (max s.dev.now (s.dev.monoInstant (s.dev.monoTarget (u64 j.p 8)))) else none
    exec (.vecStart q) s = .next (s.on (fun d => d.answer 0x0808 q (fun d =>
      let d1 := (d.modPlayer (fun y => { playerInit with
        state := .armed, fn := some j.f, kind := kind, route := u8 j.p 5, startAt := start, fetch := some (u32 j.p 0),
        lastEnd := y.lastEnd })).modVstat j.f (fun x =>
          { x with reason := 0, cycles := 0, failCycles := [0, 0, 0, 0], failedPins := 0, firstFail := none })
      (if kind = 2 then d1.attach 52 (u8 j.p 5) else d1).vFill 64) stOk
      (w64 (match start with | some t => d.nsAt (d.vEdgeAt t) | none => 0))))) ∧
  (∀ (q : Req) (s : State), s.dev.runsNow cmdVecStop q = true →
    let e := s.dev.vEdgeAfter s.dev.now
    exec (.vecStop q) s = .next (s.on (fun d => d.answer 0x0809 q (fun d => d.vStop e) stOk (w64 (d.nsAt e))))) ∧
  (∀ (q : Req) (s : State), s.dev.runsNow cmdVecStatus q = true →
    let j := s.dev.job 0x080A q
    exec (.vecStatus q) s = .next (s.on (fun d => d.answer 0x080A q (fun d => if (u32 j.p 0).testBit 0 then
      d.modVstat j.f (fun x =>
        { x with failCycles := [0, 0, 0, 0], failedPins := 0, firstFail := none, driveErr := 0, missed := 0 })
      else d) stOk (vecStatusReply d j.f)))) ∧
  (∀ (d : Dev) (i : Nat), tblOk wordInit d.vec.words = true →
    (((d.vCommit i).2.1 = stOk ↔ ∀ k : Nat, k < segWords → wordCheck (d.vWord (segWords * i + k)) = none) ∧
      ((d.vCommit i).2.1 ≠ stOk → (d.vCommit i).2.1 = stArg) ∧ (d.vCommit i).1.vec.words = d.vec.words ∧
      tblGet (fun _ => 0) (d.vCommit i).1.vec.segs i = (if (d.vCommit i).2.1 = stOk then 2 else 1)))

/-- The vector player's cycles, waits, triggers, fails and ends. VECTOR_CYCLE of an ARMED player begins its first
prefetched word at the first edge at or after the start, or lets it wait for its trigger; of a PLAYING one with cycles
left plays one cycle at its edge, counts it, and counts each group with a failing pin once; with no word left it ends
the pattern, reason HALT, or SEG where the prefetcher is blocked. Nothing plays in QUIET and DEEP (R450).
FAIL_LIMIT_END ends it at the first edge at or after its instant, once the cycles before that edge have played;
another end that the pattern comes to at a stop's edge stands (R441). VEC_START_EVENT, VEC_STOP_EVENT and VEC_TRIG
take their edge: they start the ARMED player, stop it at the latching edge (an ARMED one before its start edge with
reason EARLY_STOP, one that plays once the cycles before that edge are over, one that waits at once unless a limit's
end has come), end the wait or stay pending, and a second pending trigger counts as missed. No memory changes. (R422,
R424, R432, R435, R436, R437, R438, R440, R441, R442, R443, R445) -/
def Obligations.VectorPlayer : Prop :=
  (∀ (recv : BitVec 128) (s : State) (f a t0 : Nat) (r : List Nat),
    let q := s.dev.vec.player
    let b := s.dev.vWord a
    s.dev.sys.power % 2 = 0 →
    q.fn = some f → q.state = .armed → q.startAt = some t0 → q.word = none → q.pf = a :: r → q.ecc.contains a = false →
    (u8 b 52 % 8 = 0 ∨ (q.pend.testBit (u8 b 52 % 8 - 1) = true ∧ tblGet (fun _ => 0) q.pendAt (u8 b 52 % 8 - 1) ≤ s.dev.vEdgeAt t0) →
      ∃ t : State, exec (.vectorCycle recv false) s = .next t ∧ t.mem = s.mem ∧
      t.dev.now = max s.dev.now (s.dev.vEdgeAt t0) ∧ t.dev.vec.player.word = some a ∧ t.dev.vec.player.state = .playing ∧
      t.dev.vec.player.left = u16 b 50 - 1 ∧ (t.dev.vstat f).cycles = (s.dev.vstat f).cycles + 1 ∧ (t.dev.vstat f).addr = a) ∧
    (u8 b 52 % 8 ≠ 0 → q.pend.testBit (u8 b 52 % 8 - 1) = false →
      ∃ t : State, exec (.vectorCycle recv false) s = .next t ∧ t.mem = s.mem ∧ t.dev.vec.player.word = some a ∧
        t.dev.vec.player.state = .waiting ∧ t.dev.vec.player.waitIn = u8 b 52 % 8 - 1 ∧ t.dev.vec.player.left = u16 b 50)) ∧
  (∀ (recv : BitVec 128) (bad : Bool) (s : State) (f a : Nat),
    let q := s.dev.vec.player
    let x := s.dev.vstat f
    s.dev.sys.power % 2 = 0 → q.fn = some f → q.state = .playing → q.endFrom = none →
    (q.left ≠ 0 → q.word = some a → x.failCycles.length = 4 →
      ∃ t : State, exec (.vectorCycle recv bad) s = .next t ∧ t.mem = s.mem ∧ t.dev.now = max s.dev.now q.edge ∧
        t.dev.vec.player.left = q.left - 1 ∧ t.dev.vec.player.edge = s.dev.vEdgeAfter q.edge ∧
        (t.dev.vstat f).cycles = x.cycles + 1 ∧ (t.dev.vstat f).addr = a ∧
        ∀ g : Nat, g < 4 → (t.dev.vstat f).failCycles.getD g 0 =
          if s.dev.vMask f (leN (s.dev.vWord a) 0 48) recv.toNat q.edge g = 0 then x.failCycles.getD g 0
          else sat32n (x.failCycles.getD g 0 + 1)) ∧
    (q.left = 0 → q.pf = [] → ∃ t : State, exec (.vectorCycle recv bad) s = .next t ∧ t.mem = s.mem ∧
      t.dev.vec.player = { playerInit with lastEnd := q.edge, pend := q.pend, pendAt := q.pendAt } ∧
        (t.dev.vstat f).reason = (if q.blocked then 3 else 1))) ∧
  (∀ (s : State) (f : Nat) (e : Nat × Nat), s.dev.vec.player.fn = some f → s.dev.vec.player.endFrom = some e →
    let q := s.dev.vec.player
    let te := s.dev.vEdgeAt e.1
    let ends := fun reason : Nat => ∃ t : State, exec .failLimitEnd s = .next t ∧ t.mem = s.mem ∧ t.dev.now = max s.dev.now te ∧
      t.dev.vec.player = { playerInit with lastEnd := te, pend := q.pend, pendAt := q.pendAt } ∧ (t.dev.vstat f).reason = reason
    (q.state = .playing → q.edge < te → exec .failLimitEnd s = .next s) ∧
    (¬(q.state = .playing ∧ q.edge < te) → ¬(q.state = .playing ∧ q.left = 0 ∧ q.edge = te) → ends e.2) ∧
    (q.state = .playing → q.left = 0 → q.edge = te → e.2 ≠ 2 → e.1 ≤ te → ends e.2) ∧
    (q.state = .playing → q.left = 0 → q.edge = te → e.2 = 2 → q.pf = [] → ends (if q.blocked then 3 else 1))) ∧
  (∀ s : State, s.dev.hasEdge 52 = true → s.dev.vec.player.state = .armed → s.dev.vec.player.kind = 2 →
    s.dev.vec.player.startAt = none →
    exec .vecStartEvent s = .next (s.on (fun d => (d.takeEdge 52).modPlayer (fun y =>
      { y with startAt := some (d.vEdgeAfter (d.vLatch (d.edgeTime 52))) })))) ∧
  (∀ (s : State) (f : Nat), s.dev.hasEdge 53 = true → s.dev.vec.player.fn = some f →
    let ep := s.dev.vLatch (s.dev.edgeTime 53)
    (s.dev.vec.player.state = .armed → (∀ t0 : Nat, s.dev.vec.player.startAt = some t0 → ep ≤ s.dev.vEdgeAt t0) →
      ∃ t : State, exec .vecStopEvent s = .next t ∧ t.mem = s.mem ∧
      t.dev.vec.player.state = .idle ∧ (t.dev.vstat f).reason = 10) ∧
    (s.dev.vec.player.state = .playing → s.dev.vec.player.endFrom = none → s.dev.vec.player.edge < ep →
      exec .vecStopEvent s = .next (s.on (fun d => (d.takeEdge 53).modPlayer (fun y =>
        { y with endFrom := some (ep, 2) })))) ∧
    (∀ t0 : Nat, s.dev.vec.player.state = .armed → s.dev.vec.player.endFrom = none → s.dev.vec.player.startAt = some t0 →
      s.dev.vEdgeAt t0 < ep →
      exec .vecStopEvent s = .next (s.on (fun d => (d.takeEdge 53).modPlayer (fun y => { y with endFrom := some (ep, 2) })))) ∧
    (s.dev.vec.player.state = .playing → s.dev.vec.player.endFrom = none → ep ≤ s.dev.vec.player.edge →
      s.dev.vec.player.left ≠ 0 → ∃ t : State, exec .vecStopEvent s = .next t ∧ t.mem = s.mem ∧
      t.dev.vec.player.state = .idle ∧ (t.dev.vstat f).reason = 2) ∧
    (s.dev.vec.player.state = .waiting → s.dev.vec.player.endFrom = none → ∃ t : State, exec .vecStopEvent s = .next t ∧ t.mem = s.mem ∧
      t.dev.vec.player.state = .idle ∧ (t.dev.vstat f).reason = 2) ∧
    (∀ e : Nat × Nat, s.dev.vec.player.state = .waiting → s.dev.vec.player.endFrom = some e → e.2 ≠ 2 → e.1 ≤ ep →
      ∃ t : State, exec .vecStopEvent s = .next t ∧ t.mem = s.mem ∧ t.dev.vec.player.state = .idle ∧ (t.dev.vstat f).reason = e.2)) ∧
  (∀ (k : Fin 4) (s : State) (f : Nat), s.dev.hasEdge (54 + k.val) = true → s.dev.vec.player.fn = some f →
    let y := s.dev.vec.player
    let at_ := s.dev.vLatch (s.dev.edgeTime (54 + k.val))
    (y.state = .waiting → y.waitIn = k.val → exec (.vecTrig k) s = .next (s.on (fun d =>
      (d.takeEdge (54 + k.val)).modPlayer (fun y => { y with state := .playing, edge := d.vEdgeAfter (max at_ y.edge) })))) ∧
    (y.state ≠ .waiting → y.pend.testBit k.val = false → exec (.vecTrig k) s = .next (s.on (fun d =>
      (d.takeEdge (54 + k.val)).modPlayer (fun y =>
        { y with pend := y.pend ||| 2 ^ k.val, pendAt := tblSet (fun _ => 0) y.pendAt k.val at_ })))) ∧
    (y.state ≠ .waiting → y.pend.testBit k.val = true → ∃ t : State, exec (.vecTrig k) s = .next t ∧ t.mem = s.mem ∧
      t.dev.vec.player = y ∧ (t.dev.vstat f).missed = min ((s.dev.vstat f).missed + 1) 0xFFFF))

/-- What the event commands answer and change. Each command that may run at once completes. EVT_ROUTE makes the route what
the request describes, its fault and count cleared, and no other route's configuration changes; the fabric then
follows its sources. EVT_ROUTE_STATUS answers the table. EVT_OVERRUN answers the flags the function sees and clears
them if asked. EVT_READ answers and removes the oldest entries of the function's queue and how many stay.
EVT_LINE_CONFIG sets the selected fields and answers the lines. EVT_TIMER stops a timer, or starts it at the edge its
answer names. (R452, R457, R460, R463, R464, R467, R469, R471, R472, R488) -/
def Obligations.EventFabricCommands : Prop :=
  (∀ (q : Req) (s : State), s.dev.runsNow cmdEvtRoute q = true →
    let p := (s.dev.job 0x0901 q).p
    exec (.evtRoute q) s = .next (s.on (fun d => d.withFabric (fun d => d.answer 0x0901 q (fun d => d.modRoute (u8 p 0) (fun _ =>
      { enable := (u8 p 1).testBit 0, invSrc := (u8 p 1).testBit 1, invGate := (u8 p 1).testBit 2, source := u16 p 2,
        gate := u16 p 4, consumers := leN p 8 128, fault := false, fires := 0 })) stOk [])))) ∧
  (∀ (q : Req) (s : State), s.dev.runsNow cmdEvtRouteStatus q = true →
    let r := u8 (s.dev.job 0x0902 q).p 0
    let x := s.dev.route r
    exec (.evtRouteStatus q) s = .next (s.on (fun d => d.answer 0x0902 q id stOk (w8 r
      ++ w8 (bitAt x.enable 0 + bitAt x.invSrc 1 + bitAt x.invGate 2) ++ w16 x.source ++ w16 x.gate ++ zeros 2
      ++ toLe 128 x.consumers ++ w32 x.fires ++ w8 (bitAt x.fault 0 + bitAt (d.outNow r) 1
        + bitAt (d.fab.attached.any (fun a => a.2 == r)) 2) ++ zeros 3)))) ∧
  (∀ (q : Req) (s : State), s.dev.runsNow cmdEvtOverrun q = true →
    let j := s.dev.job 0x0903 q
    exec (.evtOverrun q) s = .next (s.on (fun d => d.answer 0x0903 q (fun d => if u32 j.p 0 = 1 then
      let keep := d.fab.overrun.filter (fun e => !d.consumerHeld j.f e.1)
      (d.modFab (fun x => { x with overrun := keep })).modFn j.f (fun f => { f with overrunHost := 0 }) else d) stOk
      (toLe 128 (bitMap (d.overrunOf j.f) 1024))))) ∧
  (∀ (q : Req) (s : State), s.dev.runsNow cmdEvtRead q = true →
    let j := s.dev.job 0x0904 q
    let n := u8 j.p 0
    let ev := (s.dev.fn j.f).events
    exec (.evtRead q) s = .next (s.on (fun d => d.answer 0x0904 q (fun d => d.modFn j.f (fun f =>
      { f with events := ev.drop n, evtLost := if u8 j.p 1 = 1 then 0 else f.evtLost })) stOk
      (w8 (ev.take n).length ++ zeros 1 ++ w16 (ev.drop n).length ++ w32 (d.fn j.f).evtLost ++ (ev.take n).flatMap evtBytes)))) ∧
  (∀ (q : Req) (s : State), s.dev.runsNow cmdEvtLineConfig q = true →
    let p := (s.dev.job 0x0905 q).p
    let m := u8 p 0
    let set := fun x : Fabric =>
      { x with fpDir := if m.testBit 0 then u8 p 1 else x.fpDir, stuckMs := if m.testBit 2 then u32 p 4 else x.stuckMs }
    m.testBit 1 = false →
    exec (.evtLineConfig q) s = .next (s.on (fun d => d.withFabric (fun d =>
      d.answer 0x0905 q (fun d => d.modFab set) stOk (w16 (bitMap (d.modFab set).lineOn 15) ++ w16 d.fab.stuck
        ++ w16 d.fab.held ++ zeros 2))))) ∧
  (∀ (q : Req) (s : State), s.dev.runsNow cmdEvtLineConfig q = true →
    let p := (s.dev.job 0x0905 q).p
    (u8 p 0).testBit 1 = true → ∃ t : State, exec (.evtLineConfig q) s = .next t ∧ t.mem = s.mem ∧
      t.dev.fab.fpPol = u8 p 2 % 16 ∧ t.dev.fab.starPol = (u8 p 2).testBit 4 ∧
      t.dev.fab.stuckMs = (if (u8 p 0).testBit 2 then u32 p 4 else s.dev.fab.stuckMs) ∧
      t.dev.fab.fpDir = (if (u8 p 0).testBit 0 then u8 p 1 else s.dev.fab.fpDir)) ∧
  (∀ (q : Req) (s : State), s.dev.runsNow cmdEvtTimer q = true →
    let p := (s.dev.job 0x0906 q).p
    let e := s.dev.edgeAt (if u64 p 8 = 0 then s.dev.now + 2000000 else max s.dev.now (s.dev.monoInstant (s.dev.monoTarget (u64 p 8))))
    (u8 p 1 = 0 → exec (.evtTimer q) s = .next (s.on (fun d => d.answer 0x0906 q (fun d =>
      d.setTimer (u8 p 0) { enable := false, period := 0, next := 0 }) stOk (w64 0)))) ∧
    (u8 p 1 ≠ 0 → exec (.evtTimer q) s = .next (s.on (fun d => d.answer 0x0906 q (fun d =>
      d.setTimer (u8 p 0) { enable := true, period := u32 p 4, next := e }) stOk (w64 (d.nsAt e))))))

/-- Chassis lines, timer pulses, host events, direct vectors, CHAN_OFF, route faults and stuck lines. CHASSIS_LINE_EDGE
makes its line asserted or negated by its polarity; a negation ends STUCK and HELD where this device does not drive
the line. TIMER_PULSE advances a running timer by its period. HOST of an edge that waits adds one entry with the
instant at which the source asserted to a queue that is not full (COARSE in DEEP), and counts it lost, with OVERRUN,
where it is full. PF_VEC takes its edge and sends or blocks vector 32 + v. CHAN_OFF takes its edge, stops the
sequencers of its channel's team at the present edge and begins a FAST OFF on its channel. ROUTE_FAULT sets the fault
once, logs it and turns off the route's CHAN_OFF channels. LINE_STUCK marks an input line that is asserted from
outside for STUCK_TIME while this device does not drive it. (R454, R455, R464, R465, R466, R467, R468, R469, R471,
R472, R81, R83) -/
def Obligations.EventFabricRows : Prop :=
  (∀ (l : LineId) (high : Bool) (s : State),
    let n := LineId.num l
    let on := s.dev.asserts l high
    ∃ t : State, exec (.chassisLineEdge l high) s = .next t ∧ t.mem = s.mem ∧ t.dev.fab.ext.testBit n = on ∧
      (∀ k : Nat, k ≠ n → t.dev.fab.ext.testBit k = s.dev.fab.ext.testBit k) ∧
      (on = false → t.dev.drivesLine n = false → t.dev.fab.stuck.testBit n = false ∧ t.dev.fab.held.testBit n = false) ∧
      (on = true → s.dev.fab.ext.testBit n = false → tblGet (fun _ => 0) t.dev.fab.since n = s.dev.now)) ∧
  (∀ (k : TimerId) (s : State), (s.dev.timer k.val).enable = true → s.dev.sys.power ≠ 3 →
    ∃ t : State, exec (.timerPulse k) s = .next t ∧ t.mem = s.mem ∧ t.dev.now = max s.dev.now (s.dev.timer k.val).next ∧
      t.dev.timer k.val = { s.dev.timer k.val with next := (s.dev.timer k.val).next + (s.dev.timer k.val).period * tickPs } ∧
      ∀ i : Nat, i ≠ k.val → t.dev.timer i = s.dev.timer i) ∧
  (∀ (fn : FnId) (r : RouteId) (s : State) (e : Nat × Nat × Nat), s.dev.routeHolder r.val = fn.val →
    s.dev.fab.edges.find? (fun e => e.1 == 13 && e.2.1 == r.val) = some e →
    let f := s.dev.fn fn.val
    let at_ := fun (t0 fl : Nat) =>
      ({ timeNs := s.dev.nsAt t0, frac := s.dev.timeAt t0 % 256, epoch := s.dev.epochAt t0, route := r.val, flags := fl } : EvtEntry)
    (f.events.length < 32 → s.dev.sys.power ≠ 3 → ∃ t : State, exec (.host fn r) s = .next t ∧ t.mem = s.mem ∧
      t.dev.fab.edges = s.dev.fab.edges.erase e ∧ (t.dev.fn fn.val).events = f.events ++ [at_ e.2.2 0] ∧
      (t.dev.fn (s.dev.irqTarget fn.val)).irqCause.testBit 1 = true) ∧
    (f.events.length < 32 → s.dev.sys.power = 3 → exec (.host fn r) s = .next (s.on (fun d =>
      (d.modFab (fun x => { x with edges := x.edges.erase e })).modFn fn.val (fun x =>
        { x with events := x.events ++ [at_ (e.2.2 / 40000 * 40000) 1], evtDeep := x.evtDeep + 1 })))) ∧
    (32 ≤ f.events.length → exec (.host fn r) s = .next (s.on (fun d =>
      (d.modFab (fun x => { x with edges := x.edges.erase e })).modFn fn.val (fun x =>
        { x with evtLost := sat32n (x.evtLost + 1), overrunHost := 1 }))))) ∧
  (∀ (v : Fin 32) (s : State), s.dev.sys.power ≠ 3 → s.dev.hasEdge (16 + v.val) = true →
    let f := s.dev.fn 0
    ∃ t : State, exec (.pfVec v) s = .next t ∧ t.mem = s.mem ∧ t.dev.fab.edges = (s.dev.takeEdge (16 + v.val)).fab.edges ∧
      (f.msixEnable = true → f.flr = .idle → f.funcMask = false → (f.vec (32 + v.val)).mask = false →
        t.dev.msgs = (0, 32 + v.val) :: s.dev.msgs) ∧
      (f.msixEnable = true → f.flr = .idle → (f.funcMask = true ∨ (f.vec (32 + v.val)).mask = true) →
        t.dev.msgs = s.dev.msgs ∧ ((t.dev.fn 0).vec (32 + v.val)).pba = true)) ∧
  (∀ (ch : ChanId) (s : State), s.dev.hasEdge (640 + ch.val) = true → s.dev.leader ch.val = ch.val →
    ((s.dev.chan ch.val).state ≠ 0 ∨ (s.dev.chan ch.val).trans.isSome = true) →
    exec (.chanOff ch) s = .next (s.on (fun d => d.observed (fun d =>
      let d0 := d.takeEdge (640 + ch.val)
      let d1 := d0.forAll (d0.team ch.val) (fun d m => d.seqHaltAt m (d.edgeAt d.now) 6)
      ((d1.rcDrop ch.val stState).transEnd ch.val stState).transBegin ch.val 0 true none)))) ∧
  (∀ (r : RouteId) (s : State), (s.dev.route r.val).fault = false →
    ∃ t : State, exec (.routeFault r) s = .next t ∧ t.mem = s.mem ∧ (t.dev.route r.val).fault = true ∧
      (t.dev.route r.val).consumers = (s.dev.route r.val).consumers ∧ (t.dev.route r.val).source = (s.dev.route r.val).source) ∧
  (∀ (l : LineId) (s : State),
    let n := LineId.num l
    s.dev.fab.ext.testBit n = true → s.dev.fab.stuck.testBit n = false → ¬(n < 8 ∧ s.dev.levelOut n = true) →
    ¬(9 ≤ n ∧ n < 13 ∧ s.dev.fab.fpDir.testBit (n - 9) = true) →
    ∃ t : State, exec (.lineStuck l) s = .next t ∧ t.mem = s.mem ∧ t.dev.fab.stuck = s.dev.fab.stuck ||| 2 ^ n ∧
      t.dev.now = max s.dev.now (max (tblGet (fun _ => 0) s.dev.fab.since n) (tblGet (fun _ => 0) s.dev.fab.drove n)
        + s.dev.fab.stuckMs * 1000000000) ∧
      t.dev.fab.ext = s.dev.fab.ext)

/-- What the time commands answer and change. Each command that may run at once completes. TIME_STATUS answers the
timebase. TIME_REF_CONFIG selects a reference, acquired where present. TIME_SET_RATE holds the new D for the rate
instant at least 10 µs on, and goes on. TIME_SYNC_CONFIG sets MODE and lets a new SKEW wait for the next realignment.
TIME_SET arms the value for t_A of the next SYNC_IN edge or for 10 µs on, and goes on. TIME_SKEW_MEASURE goes on with
TRIG_STAR and no edge counted yet. TIME_PAIR through the doorbell answers the host's time beside the device time of
the request's arrival. (R473, R474, R477, R478, R480, R482, R483, R485, R486, R487, R489) -/
def Obligations.TimeCommands : Prop :=
  (∀ (q : Req) (s : State), s.dev.runsNow cmdTimeStatus q = true →
    exec (.timeStatus q) s = .next (s.on (fun d =>
      let b := d.tb
      d.answer 0x0A01 q id stOk (w8 b.refSel ++ w8 b.tstate.code
        ++ w16 (bitAt b.aligned 0 + bitAt b.timeSet.isSome 1 + bitAt b.refIn 2 + bitAt b.refPcie 3 + bitAt b.skewPending.isSome 4)
        ++ w32 b.d ++ w64 d.timeNs ++ w8 d.timeFrac ++ w8 b.syncMode ++ w16 b.epoch ++ w16 b.skew ++ w16 b.syncIgnored
        ++ w64 d.monoNs ++ w64 b.lastAlignNs ++ w32 b.lastShift ++ w32 b.syncCount)))) ∧
  (∀ (q : Req) (s : State), s.dev.runsNow cmdTimeRefConfig q = true →
    let sel := u8 (s.dev.job 0x0A02 q).p 0
    ∃ t : State, exec (.timeRefConfig q) s = .next t ∧ t.mem = s.mem ∧ t.dev.tb.refSel = sel ∧
      (sel = s.dev.tb.refSel → t.dev.tb = s.dev.tb) ∧
      (sel ≠ s.dev.tb.refSel → t.dev.tb.hasRef sel = true → t.dev.tb.tstate = .locking) ∧
      (sel ≠ s.dev.tb.refSel → t.dev.tb.hasRef sel = false →
        t.dev.tb.tstate = (if s.dev.tb.wasLocked then .holdover else .free))) ∧
  (∀ (q : Req) (s : State), s.dev.runsNow cmdTimeSetRate q = true →
    let j := s.dev.job 0x0A03 q
    exec (.timeSetRate q) s = .next (s.on (fun d => d.goesOn 0x0A03 q (fun d => d.modTb (fun b =>
      { b with rateD := some (u32 j.p 0), rateAt := d.now + 10000000, rateId := j.id })) [Res.time] []))) ∧
  (∀ (q : Req) (s : State), s.dev.runsNow cmdTimeSyncConfig q = true →
    let p := (s.dev.job 0x0A04 q).p
    let b := s.dev.tb
    let b1 := if (u8 p 0).testBit 0 then { b with syncMode := u8 p 1 } else b
    ((u8 p 0).testBit 1 = false → exec (.timeSyncConfig q) s = .next (s.on (fun d => d.answer 0x0A04 q (fun d =>
      d.modTb (fun _ => b1)) stOk []))) ∧
    ((u8 p 0).testBit 1 = true → u16 p 2 = b.skewPending.getD b.skew → exec (.timeSyncConfig q) s = .next (s.on (fun d =>
      d.answer 0x0A04 q (fun d => d.modTb (fun _ => b1)) stOk []))) ∧
    ((u8 p 0).testBit 1 = true → u16 p 2 ≠ b.skewPending.getD b.skew → exec (.timeSyncConfig q) s = .next (s.on (fun d =>
      d.answer 0x0A04 q (fun d => d.modTb (fun _ =>
        { b1 with skewPending := if u16 p 2 = b.skew then none else some (u16 p 2), aligned := false })) stOk [])))) ∧
  (∀ (q : Req) (s : State), s.dev.runsNow cmdTimeSet q = true →
    let j := s.dev.job 0x0A05 q
    exec (.timeSet q) s = .next (s.on (fun d => d.goesOn 0x0A05 q (fun d => d.modTb (fun b =>
      { b with timeSet := some { id := j.id, bySync := u8 j.p 0 == 0, value := 256 * u64 j.p 8 + u8 j.p 1,
                                 dueAt := if u8 j.p 0 == 0 then none else some (d.now + 10000000) } })) [] []))) ∧
  (∀ (q : Req) (s : State), s.dev.runsNow cmdTimeSkewMeasure q = true →
    exec (.timeSkewMeasure q) s = .next (s.on (fun d => d.goesOn 0x0A06 q id [Res.line 8] [0, 0, 0]))) ∧
  (∀ (q : Req) (s : State), s.dev.runsNow cmdTimePair q = true →
    exec (.timePair q) s = .next (s.on (fun d => d.answer 0x0A07 q id stOk (w64 (u64 (d.job 0x0A07 q).p 0) ++ w64 d.timeNs
      ++ w8 d.timeFrac ++ zeros 1 ++ w16 d.tb.epoch ++ zeros 4))))

/-- References and lock, SYNC_IN, realignment, the rate instant, time loads and scheduled starts. Loss of the selected
reference leaves LOCKED for HOLDOVER (FREE before lock), its return begins LOCKING, and LOCK_ACQUIRED then locks.
While the pin has its supply, SYNC_IN_EDGE is sampled at the next edge of the phase clock and counts; within 1 µs of
the last t_A it is ignored and counted so, else it defines t_A. REALIGNMENT at t_A puts a sample instant of the grid
and a conversion-clock edge on t_A: the period in progress is lengthened by less than one period. RATE_INSTANT makes
the new D hold from it and ends its command. TIME_LOAD sets device time to the value at t_S, leaves MONO, and a
backward step counts in EPOCH. SCHEDULED_START of a swap takes it at its boundary, of a pattern comes to its start
edge, of a timer is its pulse. (R208, R474, R475, R478, R480, R481, R482, R485, R486, R487, R488) -/
def Obligations.TimebaseRows : Prop :=
  (∀ s : State, s.dev.tb.refSel ≠ 2 →
    (s.dev.tb.refIn = true → ∃ t : State, exec (.referenceLoss false) s = .next t ∧ t.mem = s.mem ∧ t.dev.tb.refIn = false ∧
      t.dev.tb.tstate = (if s.dev.tb.wasLocked then .holdover else .free)) ∧
    (s.dev.tb.refIn = false → ∃ t : State, exec (.referencePresent false) s = .next t ∧ t.mem = s.mem ∧ t.dev.tb.refIn = true ∧
      t.dev.tb.tstate = .locking)) ∧
  (∀ s : State, s.dev.tb.tstate = .locking → ∃ t : State, exec .lockAcquired s = .next t ∧ t.mem = s.mem ∧
    t.dev.tb = { s.dev.tb with tstate := .locked, wasLocked := true }) ∧
  (∀ (tR : Nat) (s : State),
    let b := s.dev.tb
    let t0 := phaseEdge (max s.dev.now tR)
    let skew := if b.syncMode = 0 then b.skew else b.skewPending.getD b.skew
    (s.dev.sys.denrixGood = false → exec (.syncInEdge tR) s = .next s) ∧
    (s.dev.sys.denrixGood = true → (∃ a : Nat, b.lastTA = some a ∧ t0 < a + 1000000) → exec (.syncInEdge tR) s = .next (s.on (fun d =>
      (d.advance t0).modTb (fun b => { b with syncCount := (b.syncCount + 1) % 2 ^ 32, syncIgnored := min (b.syncIgnored + 1) 0xFFFF })))) ∧
    (s.dev.sys.denrixGood = true → (∀ a : Nat, b.lastTA = some a → a + 1000000 ≤ t0) → ∃ t : State,
      exec (.syncInEdge tR) s = .next t ∧ t.mem = s.mem ∧
      t.dev.now = t0 ∧ t.dev.tb.lastTA = some (t0 + 200000 + 10 * skew) ∧ t.dev.tb.syncCount = (b.syncCount + 1) % 2 ^ 32 ∧
      t.dev.tb.nextTA = (if b.syncMode = 0 then none else some (t0 + 200000 + 10 * skew)) ∧
      t.dev.tb.syncMode = (if b.syncMode = 1 then 0 else b.syncMode) ∧ t.dev.tb.syncIgnored = b.syncIgnored)) ∧
  (∀ (s : State) (tA : Nat), s.dev.tb.nextTA = some tA → s.dev.tb.rateD = none → s.dev.tb.d ≠ 0 →
    ∃ (t : State) (n : Nat), exec .realignment s = .next t ∧ t.mem = s.mem ∧ t.dev.now = max s.dev.now tA ∧
      t.dev.tb.stretched = some n ∧ t.dev.tb.nextTA = none ∧ t.dev.tb.aligned = true ∧ t.dev.tb.edgeBase = tA ∧
      (∃ k : Nat, n = tA + k * s.dev.periodPs) ∧
      (tA ≤ s.dev.tb.lastSample + s.dev.periodPs →
        s.dev.tb.lastSample + s.dev.periodPs ≤ n ∧ n < s.dev.tb.lastSample + 2 * s.dev.periodPs) ∧
      t.dev.tb.lastShift = n - (s.dev.tb.lastSample + s.dev.periodPs) ∧
      t.dev.tb.skew = s.dev.tb.skewPending.getD s.dev.tb.skew) ∧
  (∀ (s : State) (n : Nat), s.dev.tb.rateD = some n → ∃ t : State, exec .rateInstant s = .next t ∧ t.mem = s.mem ∧
    t.dev.now = max s.dev.now (s.dev.instantAt s.dev.tb.rateAt) ∧ t.dev.tb.d = n ∧ t.dev.tb.rateD = none ∧
    t.dev.tb.aligned = false ∧ t.dev.tb.lastSample = s.dev.tb.lastSample) ∧
  (∀ (s : State) (x : TimeSetArm) (t0 : Nat), s.dev.tb.timeSet = some x → s.dev.setInstant x = some t0 →
    s.dev.tb.nextTA ≠ some t0 → (∀ e ∈ s.dev.tb.steps, e.1 ≤ max s.dev.now t0) →
    ∃ t : State, exec .timeLoad s = .next t ∧ t.mem = s.mem ∧ t.dev.now = max s.dev.now t0 ∧ t.dev.tb.timeSet = none ∧
      t.dev.tb.monoZero = s.dev.tb.monoZero ∧
      t.dev.tb.stepOff = s.dev.tb.stepOff + ((x.value : Int) - (s.dev.timeAt (max s.dev.now t0) : Int)) ∧
      ((0 : Int) ≤ (s.dev.monoAt (max s.dev.now t0) : Int) + s.dev.tb.stepOff → t.dev.timeAt t.dev.now = x.value) ∧
      t.dev.tb.epoch = (if x.value < s.dev.timeAt (max s.dev.now t0) % 2 ^ 72 then (s.dev.tb.epoch + 1) % 65536 else s.dev.tb.epoch)) ∧
  (∀ (s : State) (id : Nat) (w : Swap), s.dev.swapOf id = some w → w.kind = 1 →
    exec (.scheduledStart (.swap id)) s = .next (s.on (fun d => d.swapTake id))) ∧
  (∀ (s : State) (t0 : Nat), s.dev.vec.player.startAt = some t0 → s.dev.vec.player.state = .armed → s.dev.vec.player.kind = 1 →
    exec (.scheduledStart .vector) s = .next (s.on (fun d => d.advance (d.vEdgeAt t0)))) ∧
  (∀ (s : State) (k : TimerId), (s.dev.timer k.val).enable = true → s.dev.sys.power ≠ 3 →
    ∃ t : State, exec (.scheduledStart (.timer k)) s = .next t ∧ t.mem = s.mem ∧ t.dev.now = max s.dev.now (s.dev.timer k.val).next ∧
      (t.dev.timer k.val).next = (s.dev.timer k.val).next + (s.dev.timer k.val).period * tickPs)

/-- What the matrix commands answer and change. Each matrix command that may run at once completes. MX_CHAIN_STATUS,
MX_READ and MX_WEAR_READ answer their tables and change nothing. MX_SET_MEMBERS replaces, adds or removes members at
one position, and a member that stays keeps its target. MX_STAGE stages a target. MX_APPLY WHEN 0 makes the targets of
the sets with members due and queues on their chains; WHEN 2 arms and WHEN 3 disarms. MX_LOCK takes or releases the
lock. MX_CHAIN_CTL goes on until a write-back or a rediscovery ends; a rediscovery opens the chain at once unless an
update runs or counts have to be written back first. (R499, R501, R502, R504, R507, R508, R509, R510, R511, R534,
R107, R111) -/
def Obligations.MatrixCommands : Prop :=
  (∀ (q : Req) (s : State), s.dev.runsNow cmdMxChainStatus q = true →
    exec (.mxChainStatus q) s = .next (s.on (fun d =>
      let c := d.chain (u8 (d.job 0x0B01 q).p 0)
      d.answer 0x0B01 q id stOk (w8 c.state.code ++ w8 c.reason ++ w8 c.mods.length
        ++ w8 (bit c.wbFail + 2 * min c.waiting 16) ++ w32 c.shiftBits ++ w32 c.conflicts ++ w32 c.echoErr ++ w64 c.lastWbNs)))) ∧
  (∀ (q : Req) (s : State), s.dev.runsNow cmdMxSetMembers q = true →
    let j := s.dev.job 0x0B02 q
    let pos := u8 j.p 2
    let old := (s.dev.xset j.set).mem pos
    let mask := leN j.p 8 64
    ∃ t : State, exec (.mxSetMembers q) s = .next t ∧ t.mem = s.mem ∧ (t.dev.xset j.set).chain = u8 j.p 1 ∧
      (u8 j.p 3 = 0 → (t.dev.xset j.set).mem pos = mask) ∧
      (u8 j.p 3 = 1 → (t.dev.xset j.set).mem pos = old ||| mask) ∧
      (u8 j.p 3 = 2 → ∀ i : Nat, ((t.dev.xset j.set).mem pos).testBit i = (old.testBit i && !mask.testBit i)) ∧
      (∀ n : Nat, n ≠ pos → (t.dev.xset j.set).mem n = (s.dev.xset j.set).mem n) ∧
      (∀ i : Nat, old.testBit i = true → ((t.dev.xset j.set).mem pos).testBit i = true →
        ((t.dev.xset j.set).target pos).testBit i = ((s.dev.xset j.set).target pos).testBit i) ∧
      (t.dev.xset j.set).keepOnLoss = (if u8 j.p 4 = 0xFF then (s.dev.xset j.set).keepOnLoss else u8 j.p 4 == 1) ∧
      (∀ r : Nat, r ≠ j.set → t.dev.xset r = s.dev.xset r) ∧ t.dev.mxChains = s.dev.mxChains) ∧
  (∀ (q : Req) (s : State), s.dev.runsNow cmdMxStage q = true →
    let j := s.dev.job 0x0B03 q
    exec (.mxStage q) s = .next (s.on (fun d => d.answer 0x0B03 q (fun d => d.modSet j.set (fun x =>
      { x with staged := tblSet (fun _ => 0) x.staged (u8 j.p 1) (leN j.p 4 64) })) stOk []))) ∧
  (∀ (q : Req) (s : State), s.dev.runsNow cmdMxApply q = true →
    let j := s.dev.job 0x0B04 q
    let ks := s.dev.chainsOfSets j.sets
    (u8 j.p 32 = 0 → ks ≠ [] → exec (.mxApply q) s = .next (s.on (fun d => d.goesOn 0x0B04 q (fun d =>
      (d.forAll j.sets (fun d n => d.modSet n (fun x =>
        if x.members.isEmpty then x else { x with due := true, byEdge := x.due && x.byEdge }))).forAll ks (fun d k =>
        d.modChain k (fun c => { c with queue := c.queue ++ [some j.id] }))) (j.sets.map Res.set) (ks.map Int.ofNat)))) ∧
    (u8 j.p 32 = 0 → ks = [] → exec (.mxApply q) s = .next (s.on (fun d => d.answer 0x0B04 q id stOk (w64 0)))) ∧
    (u8 j.p 32 ≠ 0 → exec (.mxApply q) s = .next (s.on (fun d => d.answer 0x0B04 q (fun d =>
      d.forAll j.sets (fun d n => d.modSet n (fun x => { x with armed := u8 j.p 32 == 2 }))) stOk (w64 0))))) ∧
  (∀ (q : Req) (s : State), s.dev.runsNow cmdMxRead q = true →
    exec (.mxRead q) s = .next (s.on (fun d =>
      let j := d.job 0x0B05 q
      let x := d.xset j.set
      let m := d.rmod x.chain (u8 j.p 1)
      let mem := x.mem (u8 j.p 1)
      d.answer 0x0B05 q id stOk (toLe 64 (m.closed &&& mem) ++ toLe 64 (bitMap (fun i => m.warn.testBit (m.phys i)) 512 &&& mem)
        ++ toLe 64 (m.gone &&& mem) ++ w16 m.darns.length
        ++ w16 ((bitsSet m.spareMask m.nxp).filter (fun p => !m.darns.any (fun e => e.1 == p) && !m.worn p)).length
        ++ w8 (bitAt x.locked 0 + bitAt (d.lockedBeside j.f j.set) 1 + bitAt x.armed 2) ++ zeros 3)))) ∧
  (∀ (q : Req) (s : State), s.dev.runsNow cmdMxWearRead q = true →
    exec (.mxWearRead q) s = .next (s.on (fun d =>
      let j := d.job 0x0B06 q
      let m := d.rmod (d.xset j.set).chain (u8 j.p 1)
      d.answer 0x0B06 q id stOk (w32 m.rated ++ w8 (u8 j.p 4) ++ zeros 3
        ++ (List.range (u8 j.p 4)).flatMap (fun n => w32 (m.ops (m.phys (u16 j.p 2 + n)))))))) ∧
  (∀ (q : Req) (s : State), s.dev.runsNow cmdMxLock q = true →
    let j := s.dev.job 0x0B07 q
    exec (.mxLock q) s = .next (s.on (fun d => d.answer 0x0B07 q (fun d =>
      d.modSet j.set (fun x => { x with locked := u8 j.p 1 == 1 })) stOk []))) ∧
  (∀ (q : Req) (s : State), s.dev.runsNow cmdMxChainCtl q = true →
    let j := s.dev.job 0x0B08 q
    let k := u8 j.p 0
    (u8 j.p 1 = 0 → exec (.mxChainCtl q) s = .next (s.on (fun d => d.goesOn 0x0B08 q (fun d =>
      d.modChain k (fun c => { c with wbCmd := some j.id })) [Res.chain k] []))) ∧
    (u8 j.p 1 ≠ 0 → ∃ t : State, exec (.mxChainCtl q) s = .next t ∧ t.mem = s.mem ∧
      (t.dev.chain k).discCmd = some j.id ∧
      let c := s.dev.chain k
      let back := c.wbWant || (c.up && c.mods.any RelayMod.dirty)
      (c.update ≠ none ∨ back = true → (t.dev.chain k).state = c.state ∧ (t.dev.chain k).mods = c.mods ∧ (t.dev.chain k).wbWant = back) ∧
      (c.update = none → back = false → (t.dev.chain k).state = .discovering ∧ ∀ m ∈ (t.dev.chain k).mods, m.drive = 0)))

/-- An update breaks before it makes, and how its steps, echoes and confirms end. An MX_APPLY edge makes every armed set
of its chain due and queues an update. A break-only update of sets that left goes first and only opens what they held.
An update takes the whole queue; its break image only opens crosspoints of the present image, and its make image only
closes more. Each latch follows a good echo; the break settles for the largest t_rel and the make counts one operation
of each crosspoint that closes. A first mismatch repeats the latch, and a second releases every drive and fails the
chain. At MX_DONE the chain is READY. A good confirm leaves the chain as it is. (R501, R502, R503, R504, R505, R507,
R508, R509, R512) -/
def Obligations.MatrixUpdates : Prop :=
  (∀ (k : ChainId) (s : State), s.dev.hasEdge (58 + k.val) = true →
    let l := (s.dev.setsOn k.val).filter (fun q => (s.dev.xset q).armed)
    (l = [] → exec (.mxApplyEvent k) s = .next (s.on (fun d => d.takeEdge (58 + k.val)))) ∧
    (l ≠ [] → ((s.dev.dueSets k.val).any (fun q => (s.dev.xset q).byEdge) = true ∨ 16 ≤ (s.dev.chain k.val).waiting) →
      exec (.mxApplyEvent k) s = .next (s.on (fun d => (d.takeEdge (58 + k.val)).setOverrun (58 + k.val)))) ∧
    (l ≠ [] → (s.dev.dueSets k.val).any (fun q => (s.dev.xset q).byEdge) = false → (s.dev.chain k.val).waiting < 16 →
      ∃ t : State, exec (.mxApplyEvent k) s = .next t ∧ t.mem = s.mem ∧ t.dev.fab.edges = (s.dev.takeEdge (58 + k.val)).fab.edges ∧
        (t.dev.chain k.val).queue = (s.dev.chain k.val).queue ++ [none] ∧
        (∀ q ∈ l, (t.dev.xset q).due = true ∧ (t.dev.xset q).byEdge = true ∧ (t.dev.xset q).armed = true) ∧
        ∀ q : Nat, q ∉ l → t.dev.xset q = s.dev.xset q)) ∧
  (∀ (k : ChainId) (s : State), s.dev.mxMay k.val = true → (s.dev.chain k.val).opening ≠ [] →
    ∃ t : State, exec (.mxUpdateStart k) s = .next t ∧ t.mem = s.mem ∧ t.dev.mxSets = s.dev.mxSets ∧ (t.dev.chain k.val).opening = [] ∧
      (t.dev.chain k.val).queue = (s.dev.chain k.val).queue ∧ (t.dev.chain k.val).mods = (s.dev.chain k.val).mods ∧
      ((t.dev.chain k.val).state = .ready ∨ ∃ u : Update, (t.dev.chain k.val).state = .updating ∧ (t.dev.chain k.val).update = some u ∧
        u.phase = .brk ∧ u.due = s.dev.now + (s.dev.chain k.val).shiftPs + 500000 ∧ u.cmds = [] ∧ u.mkImg = u.brkImg ∧
        ∀ pos : Nat, pos < (s.dev.chain k.val).mods.length → ∀ p : Nat,
          ((u.brkImg.getD pos 0).testBit p = true → ((s.dev.rmod k.val pos).drive).testBit p = true) ∧
          (((s.dev.rmod k.val pos).physMap (tblGet (fun _ => 0) (s.dev.chain k.val).opening pos)).testBit p = true →
            (u.brkImg.getD pos 0).testBit p = false))) ∧
  (∀ (k : ChainId) (s : State), s.dev.mxMay k.val = true → (s.dev.chain k.val).opening = [] → (s.dev.chain k.val).queue ≠ [] →
    s.dev.mxWorn k.val = [] →
    ∃ t : State, exec (.mxUpdateStart k) s = .next t ∧ t.mem = s.mem ∧ (t.dev.chain k.val).queue = [] ∧
      (t.dev.chain k.val).opening = [] ∧ (t.dev.chain k.val).mods = (s.dev.chain k.val).mods ∧
      (∀ q ∈ s.dev.dueSets k.val, (t.dev.xset q).due = false ∧ (t.dev.xset q).armed = (s.dev.xset q).armed) ∧
      ((t.dev.chain k.val).state = .ready ∨ ∃ u : Update, (t.dev.chain k.val).state = .updating ∧ (t.dev.chain k.val).update = some u ∧
        u.due = s.dev.now + (s.dev.chain k.val).shiftPs + 500000 ∧ u.cmds = (s.dev.chain k.val).queue.filterMap id ∧
        (u.phase = .brk ∨ u.phase = .mk) ∧
        ∀ pos : Nat, pos < (s.dev.chain k.val).mods.length → ∀ p : Nat,
          ((u.brkImg.getD pos 0).testBit p = true → ((s.dev.rmod k.val pos).drive).testBit p = true) ∧
          ((u.brkImg.getD pos 0).testBit p = true → (u.mkImg.getD pos 0).testBit p = true) ∧
          ((u.mkImg.getD pos 0).testBit p = true → (s.dev.rmod k.val pos).drive.testBit p = true ∨
            ((s.dev.rmod k.val pos).physMap (s.dev.wanted k.val pos).2.1).testBit p = true) ∧
          (((s.dev.rmod k.val pos).physMap (s.dev.wanted k.val pos).1).testBit p = true → (u.brkImg.getD pos 0).testBit p = false))) ∧
  (∀ (k : ChainId) (echo : List Nat) (s : State) (u : Update), (s.dev.chain k.val).update = some u →
    (s.dev.chain k.val).echoBad echo = none →
    (u.phase = .brk → ∃ t : State, exec (.mxEchoCompare k echo) s = .next t ∧ t.mem = s.mem ∧ t.dev.now = max s.dev.now u.due ∧
      (t.dev.chain k.val).update = some { u with phase := .settle, due := t.dev.now + u.tRelNs * 1000 } ∧
      (t.dev.chain k.val).retried = false ∧
      ∀ pos : Nat, pos < (s.dev.chain k.val).mods.length → (t.dev.rmod k.val pos).drive = u.brkImg.getD pos 0 ∧
        (t.dev.rmod k.val pos).wear = (s.dev.rmod k.val pos).wear) ∧
    (u.phase = .settle → exec (.mxReleaseSettleEnd k) s = .next (s.on (fun d => (d.advance u.due).modUpdate k.val
      { u with phase := .mk, due := max d.now u.due + (d.chain k.val).shiftPs + 500000 }))) ∧
    (u.phase = .mk → ∃ t : State, exec (.mxEchoCompare k echo) s = .next t ∧ t.mem = s.mem ∧ t.dev.now = max s.dev.now u.due ∧
      (∃ e : Nat, (t.dev.chain k.val).update = some { u with phase := .confirm, made := t.dev.now, due := e }) ∧
      ∀ pos : Nat, pos < (s.dev.chain k.val).mods.length → (t.dev.rmod k.val pos).drive = u.mkImg.getD pos 0 ∧
        ∀ p : Nat, p < 512 → (t.dev.rmod k.val pos).ops p =
          (if (u.mkImg.getD pos 0).testBit p && !(s.dev.rmod k.val pos).drive.testBit p then sat32n ((s.dev.rmod k.val pos).ops p + 1)
            else (s.dev.rmod k.val pos).ops p)) ∧
    (u.phase = .confirm → exec (.mxEchoCompare k echo) s = .next (s.on (fun d =>
      ((d.advance u.due).modChain k.val (fun c => { c with retried := false })).modUpdate k.val
        { u with phase := .operate, due := max (max d.now u.due) (u.made + u.tOpNs * 1000) }))) ∧
    (u.phase = .operate → (s.dev.chain k.val).discCmd = none → ∃ t : State, exec (.mxDone k) s = .next t ∧ t.mem = s.mem ∧
      t.dev.now = max s.dev.now u.due ∧ (t.dev.chain k.val).state = .ready ∧ (t.dev.chain k.val).update = none ∧
      (t.dev.chain k.val).mods = (s.dev.chain k.val).mods)) ∧
  (∀ (k : ChainId) (echo : List Nat) (s : State) (u : Update) (p : Nat), (s.dev.chain k.val).update = some u →
    (s.dev.chain k.val).echoBad echo = some p → u.phase ≠ .settle → u.phase ≠ .operate →
    ((s.dev.chain k.val).retried = false → ∃ t : State, exec (.mxEchoCompare k echo) s = .next t ∧ t.mem = s.mem ∧
      (t.dev.chain k.val).retried = true ∧ (t.dev.chain k.val).echoErr = sat32n ((s.dev.chain k.val).echoErr + 1) ∧
      (t.dev.chain k.val).mods = (s.dev.chain k.val).mods ∧
      (t.dev.chain k.val).update = some { u with due := max s.dev.now u.due + (s.dev.chain k.val).shiftPs + 1500000 }) ∧
    ((s.dev.chain k.val).retried = true → (s.dev.chain k.val).discCmd = none →
      ∃ t : State, exec (.mxEchoCompare k echo) s = .next t ∧ t.mem = s.mem ∧ (t.dev.chain k.val).state = .failed ∧
        (t.dev.chain k.val).reason = 3 ∧ (t.dev.chain k.val).update = none ∧ (t.dev.chain k.val).queue = [] ∧
        ∀ m ∈ (t.dev.chain k.val).mods, m.drive = 0)) ∧
  (∀ (k : ChainId) (echo : List Nat) (s : State), (s.dev.chain k.val).state = .ready →
    ((s.dev.chain k.val).echoBad echo = none → exec (.mxPeriodicConfirm k echo) s = .next (s.on (fun d => d.modChain k.val (fun c => { c with retried := false })))) ∧
    (∀ p : Nat, (s.dev.chain k.val).echoBad echo = some p → (s.dev.chain k.val).retried = true → (s.dev.chain k.val).discCmd = none →
      ∃ t : State, exec (.mxPeriodicConfirm k echo) s = .next t ∧ t.mem = s.mem ∧ (t.dev.chain k.val).state = .failed ∧
        ∀ m ∈ (t.dev.chain k.val).mods, m.drive = 0))

/-- Wear write-back, darn records and chain discovery. A write-back whose results all show and read back what was written
clears WB_FAIL, records its time and completes MX_CHAIN_CTL; one that fails in a module sets WB_FAIL and keeps that
module's part for the next; a rediscovery that waited for it begins; one that nothing asked for comes at the end of
its interval. A darn record that reads back makes the spare the physical crosspoint of its logical one; one that does
not retires the logical crosspoint. A discovery that has started and finds no module makes the chain EMPTY, more than
32 or none trained FAILED with reason 1 or 4, a bad record FAILED with reason 2, a bad echo FAILED with reason 3, and
otherwise READY with the modules found, in order. (R494, R500, R504, R507, R509, R520, R524, R525, R528) -/
def Obligations.WearDarningAndDiscovery : Prop :=
  (∀ (k : ChainId) (res : List (List (W64 × W64))) (s : State),
    let c := s.dev.chain k.val
    let good := fun (pos : Nat) => (s.dev.rmod k.val pos).backOk (res.getD pos []) = true
    (c.up = false → exec (.wearWriteback k res) s = .next s) ∧
    (c.up = true → c.wbCmd ≠ none ∨ c.wbWant = true → c.discCmd = none → (∀ pos : Nat, pos < c.mods.length → good pos) →
      exec (.wearWriteback k res) s = .next (s.on (fun d => (d.modChain k.val (fun c =>
        { c with wbFail := false, lastWbNs := d.timeNs, wbCmd := none, wbWant := false, mods := c.mods.map RelayMod.backed })).finish?
          (d.chain k.val).wbCmd stOk []))) ∧
    (c.up = true → c.discCmd = none → (∃ pos : Nat, pos < c.mods.length ∧ ¬good pos) →
      ∃ t : State, exec (.wearWriteback k res) s = .next t ∧ t.mem = s.mem ∧ (t.dev.chain k.val).wbFail = true ∧
        (t.dev.chain k.val).wbCmd = none ∧ (t.dev.chain k.val).wbWant = false ∧ (t.dev.chain k.val).lastWbNs = c.lastWbNs ∧
        (t.dev.chain k.val).mods.length = c.mods.length ∧
        ∀ pos : Nat, pos < c.mods.length → (good pos → t.dev.rmod k.val pos = (s.dev.rmod k.val pos).backed) ∧
          (¬good pos → t.dev.rmod k.val pos = s.dev.rmod k.val pos)) ∧
    (c.up = true → c.discCmd ≠ none → c.update = none →
      ∃ t : State, exec (.wearWriteback k res) s = .next t ∧ t.mem = s.mem ∧ (t.dev.chain k.val).state = .discovering ∧
        (t.dev.chain k.val).begun = true ∧ ∀ m ∈ (t.dev.chain k.val).mods, m.drive = 0) ∧
    (c.up = true → c.wbCmd = none → c.wbWant = false → c.discCmd = none →
      ∃ t : State, exec (.wearWriteback k res) s = .next t ∧ t.mem = s.mem ∧ t.dev.now = max s.dev.now c.wbNext ∧
        (t.dev.chain k.val).wbNext = max s.dev.now c.wbNext + s.dev.sys.opt.wearWbMin * 60000000000000)) ∧
  (∀ (k : ChainId) (pos : Fin 32) (p i : Nat) (res : W64 × W64) (s : State),
    (s.dev.rmod k.val pos.val).darning.find? (fun e => e.2 == p) = some (i, p) →
    (mxWriteOk ((s.dev.rmod k.val pos.val).darnWrite p i) res = true →
      ∃ t : State, exec (.darnVerify k pos p res) s = .next t ∧ t.mem = s.mem ∧ (t.dev.rmod k.val pos.val).phys i = p ∧
        (t.dev.rmod k.val pos.val).darning = (s.dev.rmod k.val pos.val).darning.filter (fun e => e != (i, p)) ∧
        (t.dev.rmod k.val pos.val).retired = (s.dev.rmod k.val pos.val).retired) ∧
    (mxWriteOk ((s.dev.rmod k.val pos.val).darnWrite p i) res = false →
      ∃ t : State, exec (.darnVerify k pos p res) s = .next t ∧ t.mem = s.mem ∧
        (t.dev.rmod k.val pos.val).retired.testBit i = true ∧ (t.dev.rmod k.val pos.val).gone.testBit i = true ∧
        (t.dev.rmod k.val pos.val).darns = (s.dev.rmod k.val pos.val).darns)) ∧
  (∀ (k : ChainId) (f : ChainFound) (s : State),
    s.dev.optM = true → (s.dev.chain k.val).state = .discovering → (s.dev.chain k.val).begun = true →
    let echo := ({ s.dev.chain k.val with mods := (f.modules.take f.count).map relayOf } : Chain).echoBad f.echo
    ∃ t : State, exec (.chainDiscovery k f) s = .next t ∧ t.mem = s.mem ∧ (t.dev.chain k.val).discCmd = none ∧
      (f.count = 0 → (t.dev.chain k.val).state = .empty ∧ (t.dev.chain k.val).mods = []) ∧
      (32 < f.count → (t.dev.chain k.val).state = .failed ∧ (t.dev.chain k.val).reason = 1) ∧
      (0 < f.count → f.count ≤ 32 → f.trained = false → (t.dev.chain k.val).state = .failed ∧ (t.dev.chain k.val).reason = 4) ∧
      (∀ b : Nat × MState, 0 < f.count → f.count ≤ 32 → f.trained = true → s.dev.relayBad f.count f.modules = some b →
        (t.dev.chain k.val).state = .failed ∧ (t.dev.chain k.val).reason = 2 ∧ (t.dev.chain k.val).badPos = b.1 ∧
        (t.dev.chain k.val).badState = b.2) ∧
      (0 < f.count → f.count ≤ 32 → f.trained = true → s.dev.relayBad f.count f.modules = none → echo ≠ none →
        (t.dev.chain k.val).state = .failed ∧ (t.dev.chain k.val).reason = 3) ∧
      (0 < f.count → f.count ≤ 32 → f.trained = true → s.dev.relayBad f.count f.modules = none → echo = none →
        (t.dev.chain k.val).state = .ready ∧ (t.dev.chain k.val).mods.length = f.count ∧
        ∀ pos : Nat, pos < f.count → ∀ m : RelayFound, f.modules[pos]? = some m →
          (t.dev.rmod k.val pos).serial = slice (relayBytes m).1 16 16 ∧ (t.dev.rmod k.val pos).nxp = u16 (relayBytes m).1 64 ∧
          (t.dev.rmod k.val pos).rated = u32 (relayBytes m).1 68 ∧ (t.dev.rmod k.val pos).drive = 0))

/-- What the module and administration commands answer and change. Each command that may run at once completes. MOD_INFO
answers a module's state and, where valid, its identity. MOD_READ goes on. MOD_RESCAN goes on with the module under
discovery and its engines' libraries empty. ADM_ASSIGN and ADM_RELEASE go on: the first gives exactly the named
resources to the VF and adds to its view, the second returns exactly them to the owner. ADM_FUNC_CONFIG,
ADM_CHAN_POLICY, ADM_TOLLGATE and ADM_HOLD set what they name; ADM_QUERY changes nothing; ADM_SESSION_RESET starts the
reset and goes on. (R518, R519, R526, R528, R529, R530, R532, R533, R534, R541, R107, R111) -/
def Obligations.ModuleAndAdminCommands : Prop :=
  (∀ (q : Req) (s : State), s.dev.runsNow cmdModInfo q = true →
    let n := u16 (s.dev.job 0x0C01 q).p 0
    exec (.modInfo q) s = .next (s.on (fun d => d.answer 0x0C01 q id stOk (modReply d n))) ∧
    (s.dev.targetState n ≠ .valid → modReply s.dev n = w8 (s.dev.targetState n).code ++ zeros 47) ∧
    (∀ i : StageId, n < 16 → (s.dev.stage n).mstate = .valid → (s.dev.stage n).ident = some i → modReply s.dev n =
      w8 5 ++ w8 1 ++ w16 i.hwRev ++ padTo 16 i.serial ++ padTo 16 i.model ++ w8 i.volts.length ++ w8 i.amps.length
        ++ w16 i.chPresent ++ zeros 8)) ∧
  (∀ (q : Req) (s : State), s.dev.runsNow cmdModRead q = true →
    exec (.modRead q) s = .next (s.on (fun d => d.goesOn 0x0C02 q id (targetNames (u16 (d.job 0x0C02 q).p 0)) [(u8 (d.job 0x0C02 q).p 2 : Int)]))) ∧
  (∀ (q : Req) (s : State), s.dev.runsNow cmdModRescan q = true →
    let j := s.dev.job 0x0C03 q
    let m := u16 j.p 0
    ∃ t : State, exec (.modRescan q) s = .next t ∧ t.mem = s.mem ∧ (t.dev.stage m).mstate = .discovering ∧
      (t.dev.stage m).rescan = some j.id ∧ (∀ e : Nat, 16 * m ≤ e → e < 16 * m + 16 → (t.dev.eng e).lib = []) ∧
      (∀ n : Nat, n ≠ m → t.dev.stage n = s.dev.stage n)) ∧
  (∀ (q : Req) (s : State), s.dev.runsNow cmdAdmAssign q = true →
    let j := s.dev.job 0x0D01 q
    let m := s.dev.layout j.p 4
    exec (.admAssign q) s = .next (s.on (fun d => d.observed (fun d => d.goesOn 0x0D01 q
      (fun d => (d.move 0 j.vf m).modFn j.vf (fun r => { r with view := r.view ||| m.view })) (movedNames j.vf m) []))) ∧
    ∃ t : State, exec (.admAssign q) s = .next t ∧ t.mem = s.mem ∧
      (∀ c : Nat, t.dev.chanHolder c = if c ∈ m.chans then j.vf else s.dev.chanHolder c) ∧
      (∀ r : Nat, t.dev.routeHolder r = if r ∈ m.routes then j.vf else s.dev.routeHolder r) ∧
      (∀ p : Nat, t.dev.pinHolder p = if p ∈ m.pins then j.vf else s.dev.pinHolder p) ∧
      (∀ i : Nat, t.dev.segHolder i = if i ∈ m.segs then j.vf else s.dev.segHolder i) ∧
      (∀ l : Nat, t.dev.lineHolder l = if l ∈ m.lines then j.vf else s.dev.lineHolder l) ∧
      (∀ x : Nat, t.dev.setHolder x = if x ∈ m.sets then j.vf else s.dev.setHolder x) ∧
      (t.dev.fn j.vf).view = (s.dev.fn j.vf).view ||| m.view) ∧
  (∀ (q : Req) (s : State), s.dev.runsNow cmdAdmRelease q = true →
    let j := s.dev.job 0x0D02 q
    let m := s.dev.layout j.p 4
    exec (.admRelease q) s = .next (s.on (fun d => d.observed (fun d => d.goesOn 0x0D02 q
      (fun d => ((d.forAll m.chans Dev.lossBegins).move j.vf 0 m).viewLeaves j.vf m.view) (movedNames j.vf m) []))) ∧
    ∃ t : State, exec (.admRelease q) s = .next t ∧ t.mem = s.mem ∧
      (∀ c : Nat, t.dev.chanHolder c = if c ∈ m.chans then 0 else s.dev.chanHolder c) ∧
      (∀ r : Nat, t.dev.routeHolder r = if r ∈ m.routes then 0 else s.dev.routeHolder r) ∧
      (∀ p : Nat, t.dev.pinHolder p = if p ∈ m.pins then 0 else s.dev.pinHolder p) ∧
      (∀ i : Nat, t.dev.segHolder i = if i ∈ m.segs then 0 else s.dev.segHolder i) ∧
      (∀ l : Nat, t.dev.lineHolder l = if l ∈ m.lines then 0 else s.dev.lineHolder l) ∧
      (∀ x : Nat, t.dev.setHolder x = if x ∈ m.sets then 0 else s.dev.setHolder x) ∧
      (∀ c ∈ m.chans, tblGet leavingInit t.dev.assign.leaving c ≠ 0)) ∧
  (∀ (q : Req) (s : State), s.dev.runsNow cmdAdmFuncConfig q = true →
    let j := s.dev.job 0x0D03 q
    exec (.admFuncConfig q) s = .next (s.on (fun d => d.answer 0x0D03 q (fun d => d.modFn j.vf (fun r =>
      { r with cls := if (u8 j.p 2).testBit 0 then u8 j.p 3 else r.cls, weight := if (u8 j.p 2).testBit 0 then u16 j.p 4 else r.weight,
               ringCount := if (u8 j.p 2).testBit 1 then u8 j.p 6 else r.ringCount,
               quota := if (u8 j.p 2).testBit 1 then u64 j.p 8 else r.quota })) stOk []))) ∧
  (∀ (q : Req) (s : State), s.dev.runsNow cmdAdmChanPolicy q = true →
    let j := s.dev.job 0x0D04 q
    exec (.admChanPolicy q) s = .next (s.on (fun d => d.answer 0x0D04 q (fun d =>
      { d with assign := { d.assign with policy := j.chans.foldl (fun t c => tblSet policyInit t c (u8 j.p 8)) d.assign.policy } })
      stOk []))) ∧
  (∀ (q : Req) (s : State), s.dev.runsNow cmdAdmTollgate q = true →
    let j := s.dev.job 0x0D05 q
    exec (.admTollgate q) s = .next (s.on (fun d => d.answer 0x0D05 q (fun d =>
      d.modTg (fun t => { t with ages := (List.range 7).map (fun c => u16 j.p (2 * c)) })) stOk []))) ∧
  (∀ (q : Req) (s : State), s.dev.runsNow cmdAdmHold q = true →
    let j := s.dev.job 0x0D06 q
    ∃ t : State, exec (.admHold q) s = .next t ∧ t.mem = s.mem ∧
      ∀ n : Nat, t.dev.assign.holdChan.testBit n = (if (u64 j.p 4).testBit n then u8 j.p 2 == 1 else s.dev.assign.holdChan.testBit n) ∧
        t.dev.assign.holdRoute.testBit n = (if (leN j.p 12 32).testBit n then u8 j.p 2 == 1 else s.dev.assign.holdRoute.testBit n) ∧
        t.dev.assign.holdSet.testBit n = (if (leN j.p 44 32).testBit n then u8 j.p 2 == 1 else s.dev.assign.holdSet.testBit n)) ∧
  (∀ (q : Req) (s : State), s.dev.runsNow cmdAdmQuery q = true →
    exec (.admQuery q) s = .next (s.on (fun d =>
      let f := (d.job 0x0D07 q).vf
      d.answer 0x0D07 q id stOk (resourcesReply d f
        ++ toLe 16 ((List.range 64).foldl (fun a c => a + tblGet policyInit d.assign.policy c * 4 ^ c) 0)
        ++ w8 (d.fstate f) ++ zeros 1 ++ w16 (min (d.fn f).lateCpl 0xFFFF))))) ∧
  (∀ (q : Req) (s : State), s.dev.runsNow cmdAdmSessionReset q = true →
    let j := s.dev.job 0x0D08 q
    exec (.admSessionReset q) s = .next (s.on (fun d => d.observed (fun d =>
      d.goesOn 0x0D08 q (fun d => d.flrStart j.vf true (some j.id)) [Res.func j.vf] []))))

/-- Stage discovery, loss policies and the steps of a function-level reset. STAGE_DISCOVERY gives a driven module of
enabled channels the state of the first step that fails, or VALID with its identity and the highest range codes on its
channels. LOSS_POLICY acts once, on a channel that leads. A function-level reset of an enabled function in no reset
begins at step 1: READY falls, the mailbox is reset, its vectors are masked, MSI-X is disabled; for PF0 VF Enable is
cleared, and its own step 1 waits for the resets of the VFs. The later steps are taken when it is the function's turn:
the VFs before PF0, and one step for all before the next after VF Enable is cleared. Step 2 disables the rings, step 3
ends the wait and abandons the loads that still wait for completions, steps 4 to 6 return a VF's resources and view
(PF0 keeps its own), step 7 ends the reset, and READY returns (to a VF not in recovery). LATE_CPL counts. (R526, R527,
R533, R536, R537, R538, R540, R57, R80, R115) -/
def Obligations.DiscoveryPolicyAndFunctionReset : Prop :=
  (∀ (m : ModId) (f : StageFound) (s : State), (s.dev.stage m.val).mstate = .discovering → (s.dev.stage m.val).driven = true →
    4 * m.val < s.dev.nChan → ∃ t : State, exec (.stageDiscovery m f) s = .next t ∧ t.mem = s.mem ∧ (t.dev.stage m.val).rescan = none ∧
      (f = .absent → (t.dev.stage m.val).mstate = .absent ∧ (t.dev.stage m.val).ident = none) ∧
      (f = .busFault → (t.dev.stage m.val).mstate = .busFault ∧ (t.dev.stage m.val).ident = none) ∧
      (∀ b : List Byte, f = .record b → recordOk b = false → (t.dev.stage m.val).mstate = .corrupt) ∧
      (∀ b : List Byte, f = .record b → recordOk b = true → s.dev.recordKind b 1 = false → (t.dev.stage m.val).mstate = .unsupported) ∧
      (∀ b : List Byte, f = .record b → recordOk b = true → s.dev.recordKind b 1 = true → stageBlockOk b = false →
        (t.dev.stage m.val).mstate = .corrupt) ∧
      (∀ b : List Byte, f = .record b → recordOk b = true → s.dev.recordKind b 1 = true → stageBlockOk b = true →
        (t.dev.stage m.val).mstate = .valid ∧ (t.dev.stage m.val).ident = some (stageOf b) ∧
        ∀ k : Nat, k < 4 → (t.dev.chan (4 * m.val + k)).vr = (stageOf b).volts.length - 1 ∧
          (t.dev.chan (4 * m.val + k)).ir = (stageOf b).amps.length - 1)) ∧
  (∀ (ch : ChanId) (s : State) (t0 : Nat), tblGet leavingInit s.dev.assign.leaving ch.val = t0 + 1 →
    let b := s.dev.boundaryAt (t0 + 1000000)
    let d1 : Dev := { s.dev.advance (b - 1) with assign := { s.dev.assign with leaving := tblSet leavingInit s.dev.assign.leaving ch.val 0 } }
    let d2 := d1.chanHalts ch.val
    let p := tblGet policyInit s.dev.assign.policy ch.val
    (s.dev.follower ch.val = true → exec (.lossPolicy ch) s = .next (s.on (fun d => d.observed (fun _ => d1)))) ∧
    (s.dev.follower ch.val = false → p = 0 → exec (.lossPolicy ch) s = .next (s.on (fun d => d.observed (fun _ => d2)))) ∧
    (s.dev.follower ch.val = false → p = 1 → exec (.lossPolicy ch) s = .next (s.on (fun d => d.observed (fun _ =>
      if (d2.chan ch.val).state = 3 then d2.transBegin ch.val 2 true none else d2)))) ∧
    (s.dev.follower ch.val = false → 2 ≤ p → exec (.lossPolicy ch) s = .next (s.on (fun d => d.observed (fun _ =>
      if (d2.chan ch.val).state = 0 then d2 else d2.transBegin ch.val 0 true none))))) ∧
  (∀ (fn : FnId) (s : State), (s.dev.fn fn.val).enabled = true → (s.dev.fn fn.val).flr = .idle →
    ∃ t : State, exec (.initiateFunctionLevelReset fn) s = .next t ∧ t.mem = s.mem ∧
      (t.dev.fn fn.val).flrAt = s.dev.now ∧ (t.dev.fn fn.val).ready = false ∧ (t.dev.fn fn.val).reply = false ∧
      let vfsDone := t.dev.fns.all (fun p => p.1 == 0 || p.2.flr == .idle)
      (fn.val ≠ 0 ∨ vfsDone = true → (t.dev.fn fn.val).flr = .drain ∧ (t.dev.fn fn.val).msixEnable = false ∧
        ∀ v : Nat, ((t.dev.fn fn.val).vec v).mask = true) ∧
      (fn.val = 0 → vfsDone = false → (t.dev.fn 0).flr = .vfs) ∧
      (fn.val = 0 → t.dev.link.vfEnable = false) ∧ (fn.val ≠ 0 → t.dev.link.vfEnable = s.dev.link.vfEnable)) ∧
  (∀ (fn : FnId) (s : State), (s.dev.fn fn.val).flr = .drain →
    s.dev.flrTurn fn.val = true →
    ∃ t : State, exec (.flrRingDrainDone fn) s = .next t ∧ t.mem = s.mem ∧ (t.dev.fn fn.val).flr = .completions ∧
      ∀ r : Nat, r < 8 → ((t.dev.fn fn.val).ring r).enabled = false) ∧
  (∀ (fn : FnId) (s : State), (s.dev.fn fn.val).flr = .completions → s.dev.flrTurn fn.val = true →
    let load := fun (r : Running) => r.job.f == fn.val && r.silent && (r.job.op == 0x0805 || r.job.op == 0x0E06)
    (s.dev.tg.running.any load = false → exec (.flrCompletionsDone fn) s = .next (s.on (fun d =>
      d.modFn fn.val (fun r => { r with flr := .resources, outstanding := 0 })))) ∧
    ∃ t : State, exec (.flrCompletionsDone fn) s = .next t ∧ t.mem = s.mem ∧ (t.dev.fn fn.val).flr = .resources ∧
      (t.dev.fn fn.val).outstanding = 0 ∧ t.dev.tg.running.any load = false) ∧
  (∀ (fn : FnId) (s : State), (s.dev.fn fn.val).flr = .resources → s.dev.flrTurn fn.val = true →
    ∃ t : State, exec (.flrResourcesReturn fn) s = .next t ∧ t.mem = s.mem ∧ (t.dev.fn fn.val).flr = .finishing ∧
      (fn.val = 0 → t.dev.assign.chan = s.dev.assign.chan ∧ t.dev.assign.set = s.dev.assign.set) ∧
      (fn.val ≠ 0 → (t.dev.fn fn.val).view = 0 ∧ (t.dev.fn fn.val).rings = [] ∧ (t.dev.fn fn.val).ringCount = 0 ∧
        (∀ c : Nat, (s.dev.chanHolder c = fn.val → t.dev.chanHolder c = 0) ∧
          (t.dev.chanHolder c = 0 ∨ t.dev.chanHolder c = s.dev.chanHolder c)) ∧
        (∀ x : Nat, (s.dev.setHolder x = fn.val → t.dev.setHolder x = 0) ∧
          (t.dev.setHolder x = 0 ∨ t.dev.setHolder x = s.dev.setHolder x)) ∧
        (∀ r : Nat, (s.dev.routeHolder r = fn.val → t.dev.routeHolder r = 0) ∧
          (t.dev.routeHolder r = 0 ∨ t.dev.routeHolder r = s.dev.routeHolder r)) ∧
        (t.dev.fn fn.val).lateCpl = (s.dev.fn fn.val).lateCpl)) ∧
  (∀ (fn : FnId) (s : State), (s.dev.fn fn.val).flr = .finishing → s.dev.flrTurn fn.val = true →
    ∃ t : State, exec (.flrComplete fn) s = .next t ∧ t.mem = s.mem ∧ (t.dev.fn fn.val).flr = .idle ∧
      (t.dev.fn fn.val).ready = ((s.dev.fn fn.val).enabled && (fn.val == 0 || ((s.dev.fn 0).ready && !s.dev.store.recovery))
        && (s.dev.sys.phase == .ready || decide (3 ≤ s.dev.sys.scope)))) ∧
  (∀ (fn : FnId) (s : State), exec (.lateCpl fn) s = .next (s.on (fun d => d.modFn fn.val (fun r =>
    { r with lateCpl := min (r.lateCpl + 1) 0xFFFF }))))

/-- What the system commands answer and change. Each command that may run at once completes. SYS_RESET is accepted and the
reset follows, after a write-back of wear unless NO_WB is set. SYS_BLOCK_RESET sends the idle request and goes on with
its block named. SYS_POWER below DEEP takes effect and goes on with the time of its effect; DEEP goes on and asks for
a write-back of wear. SYS_OPT_READ answers the half asked for of the record in force or of a copy, or ST_INTEGRITY
where the read of a copy is uncorrectable (whether it is stays open, log entry 154), and SYS_STORE_STATUS the store's
state. SYS_OPT_WRITE, SYS_FW_LOAD and SYS_FW_COMMIT go on, and a load leaves its bank unverified from its start.
(R547, R558, R567, R568, R570, R571, R576, R580, R582, R585, R107, R111) -/
def Obligations.SystemCommands : Prop :=
  (∀ (q : Req) (s : State), s.dev.runsNow cmdSysReset q = true →
    exec (.sysReset q) s = .next (s.on (fun d => d.answer 0x0E01 q (fun d =>
      (if u8 (s.dev.job 0x0E01 q).p 1 = 1 then d else d.wbAskAll).modSys (fun y =>
      { y with sysReset := some (u8 (s.dev.job 0x0E01 q).p 0), sysResetAt := d.now })) stOk []))) ∧
  (∀ (q : Req) (s : State), s.dev.runsNow cmdSysBlockReset q = true →
    let j := s.dev.job 0x0E02 q
    let b := u8 j.p 0
    let i := u8 j.p 1
    exec (.sysBlockReset q) s = .next (s.on (fun d => d.observed (fun d => d.goesOn 0x0E02 q (fun d =>
      (d.modSys (fun y => { y with blockReset := tblSet (fun _ => 0) y.blockReset (16 * b + i) (j.id + 1) })).blockRequest b i)
      (blockNames b i) [(d.now : Int)])))) ∧
  (∀ (q : Req) (s : State), s.dev.runsNow cmdSysPower q = true →
    let n := u8 (s.dev.job 0x0E03 q).p 0
    (n = 3 → exec (.sysPower q) s = .next (s.on (fun d => d.observed (fun d => d.goesOn 0x0E03 q (fun d =>
      (((d.vAbort 6).modSys (fun y => { y with deepEntering := true })).svyPause d.svy.pausedCal true).wbAskAll) [] [])))) ∧
    (n ≠ 3 → exec (.sysPower q) s = .next (s.on (fun d => d.observed (fun d => d.goesOn 0x0E03 q (fun d => d.powerTo n) []
      [(d.nsAt d.now : Int)])))) ∧
    (n ≠ 3 → ∃ t : State, exec (.sysPower q) s = .next t ∧ t.mem = s.mem ∧ t.dev.sys.power = n)) ∧
  (∀ (q : Req) (s : State), s.dev.runsNow cmdSysOptRead q = true →
    let p := (s.dev.job 0x0E04 q).p
    let bad := s.dev.store.unread.testBit (u8 p 0 - 1) || Config.freeFlag s.dev.freeCtr
    (u8 p 0 ≠ 0 → bad = true → exec (.sysOptRead q) s = .next (s.on (fun d => d.answer 0x0E04 q (fun d =>
      ((d.freeNext.modStore (fun t => { t with unread := putBit t.unread (u8 p 0 - 1) true })).rowFail (copyOffset 2 (u8 p 0 - 1))).1)
      stIntegrity []))) ∧
    (u8 p 0 ≠ 0 → bad = false → exec (.sysOptRead q) s = .next (s.on (fun d => d.answer 0x0E04 q Dev.freeNext stOk
      (w8 (bit (optOk (d.store.optCopy (u8 p 0 - 1)))) ++ zeros 3 ++ slice (d.store.optCopy (u8 p 0 - 1)) (128 * u8 p 1) 128)))) ∧
    (u8 p 0 = 0 → s.dev.sys.optDefaults = false → exec (.sysOptRead q) s = .next (s.on (fun d => d.answer 0x0E04 q Dev.freeNext stOk
      (w8 1 ++ zeros 3 ++ slice (optBytes d.sys.opt) (128 * u8 p 1) 128)))) ∧
    (u8 p 0 = 0 → s.dev.sys.optDefaults = true → exec (.sysOptRead q) s = .next (s.on (fun d => d.answer 0x0E04 q Dev.freeNext stOk
      (w8 0 ++ zeros 3 ++ slice ((optBytes d.sys.opt).take 252 ++ w32 d.freeVal) (128 * u8 p 1) 128))))) ∧
  (∀ (q : Req) (s : State), s.dev.runsNow cmdSysOptWrite q = true →
    exec (.sysOptWrite q) s = .next (s.on (fun d => d.goesOn 0x0E05 q (fun d => d.modStore (fun t => { t with optBusy := true })) [] []))) ∧
  (∀ (q : Req) (s : State), s.dev.runsNow cmdSysFwLoad q = true →
    let n := u8 (s.dev.job 0x0E06 q).p 0
    ∃ t : State, exec (.sysFwLoad q) s = .next t ∧ t.mem = s.mem ∧ t.dev.store.loadBusy = true ∧
      (t.dev.store.bank n).verified = false ∧ (t.dev.store.bank n).crcOk = false ∧
      (t.dev.store.bank n).version = (s.dev.store.bank n).version ∧ t.dev.store.bank (1 - n) = s.dev.store.bank (1 - n) ∧
      t.dev.store.copy0 = s.dev.store.copy0 ∧ t.dev.store.copy1 = s.dev.store.copy1) ∧
  (∀ (q : Req) (s : State), s.dev.runsNow cmdSysFwCommit q = true →
    exec (.sysFwCommit q) s = .next (s.on (fun d => d.goesOn 0x0E07 q (fun d => d.modStore (fun t =>
      { t with loadBusy := true, optBusy := u8 (s.dev.job 0x0E07 q).p 1 == 1 })) [] []))) ∧
  (∀ (q : Req) (s : State), s.dev.runsNow cmdSysStoreStatus q = true →
    exec (.sysStoreStatus q) s = .next (s.on (fun d =>
      let t := d.store
      d.answer 0x0E08 q (fun d => d.freeNext.freeNext) stOk (w32 (d.bankVersion 0) ++ w32 (d.bankVersion 1)
        ++ w8 (bitAt t.bankA.verified 0 + bitAt t.bankB.verified 1 + bitAt (!t.bankA.verified) 2 + bitAt (!t.bankB.verified) 3
          + bitAt (t.executing == 1) 4 + bitAt t.fallback 5 + bitAt t.recovery 6 + bitAt t.loadBusy 7)
        ++ w8 t.degraded ++ zeros 2 ++ (List.range 5).flatMap (fun r => w16 (tblGet (fun _ => 0) t.rowsUsed r)) ++ zeros 2
        ++ w32 (match t.newestOpt with | some n => (optOf (t.optCopy n)).seq | none => d.freeVal)
        ++ w32 (match d.calNewest with | some c => c.seq | none => d.freeNext.freeVal)))))

/-- Reset sources, power states, block resets and supply rails. Every source of scope COLD, PACKAGE or DENRIX holds the
device in reset with its cause recorded and the widest scope, clears functions, commands and channels, and keeps the
firmware banks; COLD clears BKUP and the log. A narrower source in a wider sequence is only recorded, and a HELON or
SEAM one from READY keeps Denrix. A firmware fault leaves a crash record and resets. DEEP entry and SYS_RESET wait for
the write-back of wear that they asked for. DEEP entry, wake causes and wakes change power; a block reset resets its
block and ends its command (that of a chain begins its rediscovery, after a write-back that is wanted); a rail that
falls clears its die. (R545, R547, R548, R552, R553, R557, R566, R567, R571, R573, R592, R620) -/
def Obligations.ResetsAndPower : Prop :=
  (∀ e ∈ ([(.vaonPowerOn, 0, 0), (.denrixPowerOn, 1, 2), (.resetN, 3, 1), (.perstN, 4, 2), (.hotReset, 5, 2), (.thermal, 9, 1),
      (.smbMgmtResetPackage, 11, 1), (.smbMgmtResetDenrix, 11, 2)] : List (Instr × Nat × Nat)), ∀ s : State,
    (e.2.1 = 11 → s.dev.smbOn = true) →
    let y := s.dev.sys
    ∃ t : State, exec e.1 s = .next t ∧ t.mem = s.mem ∧ t.dev.now = s.dev.now ∧ t.dev.sys.phase = .held ∧
      t.dev.sys.scope = (if y.phase = .ready then e.2.2 else min e.2.2 y.scope) ∧
      t.dev.sys.causes = (if y.phase = .ready then 0 else y.causes) ||| 2 ^ e.2.1 ||| (if y.phase = .loading then 4096 else 0) ∧
      (∀ f : Nat, t.dev.fn f = fnInit f) ∧ t.dev.tg.running = [] ∧ t.dev.tg.waiting = [] ∧
      (∀ c : Nat, t.dev.chan c = Dev.reset.chan c) ∧ t.dev.seam.up = false ∧ t.dev.assign = assignInit ∧
      t.dev.store.bankA = s.dev.store.bankA ∧ t.dev.store.bankB = s.dev.store.bankB ∧
      (e.2.2 ≠ 0 → t.dev.sys.resets = y.resets + 1 ∧ t.dev.sys.bkup = y.bkup ∧ t.dev.log.head = s.dev.log.head ∧
        t.dev.log.pos = s.dev.log.pos) ∧
      (e.2.2 = 0 → t.dev.sys.bkup = [] ∧ t.dev.log.fifo = [] ∧ t.dev.log.archive = s.dev.log.archive)) ∧
  (∀ s : State,
    (s.dev.sys.phase = .ready → ∃ t : State, exec .helonPowerOn s = .next t ∧ t.mem = s.mem ∧ t.dev.sys.phase = .held ∧
      t.dev.sys.scope = 3 ∧ t.dev.sys.causes = 4 ∧ t.dev.hel = [] ∧ t.dev.seam.up = false ∧ t.dev.sys.helonGood = true ∧
      ∀ f : Nat, (t.dev.fn f).ready = (s.dev.fn f).ready) ∧
    (s.dev.sys.phase ≠ .ready → s.dev.sys.scope < 3 → exec .helonPowerOn s = .next (s.on (fun d =>
      ((d.modSys (fun y => { y with helonGood := true })).modSeam (fun m => { m with powered := true })).modSys (fun y =>
        { y with causes := y.causes ||| 4 })))) ∧
    (∀ t0 : Nat, s.dev.seam.lossAt = some t0 → s.dev.seam.up = false → s.dev.sys.phase = .ready →
      ∃ t : State, exec .seamLossEscalation s = .next t ∧ t.mem = s.mem ∧ t.dev.sys.phase = .held ∧ t.dev.sys.scope = 4 ∧
        t.dev.sys.causes = 256 ∧ (∀ f : Nat, (t.dev.fn f).ready = (s.dev.fn f).ready) ∧
        (s.dev.sys.seamLossAt = none → t.dev.now = max s.dev.now (t0 + 10000000000)) ∧
        (∀ e : Nat, s.dev.sys.seamLossAt = some e → t0 ≤ e → t.dev.now = max s.dev.now (e + 100000000000)))) ∧
  (∀ (dump : List Byte) (pair : Byte) (addr : W32), ∀ e ∈ ([(.watchdog dump, 6, 1, 0xFF), (.lockstep pair dump, 7, 2, pair.toNat),
      (.fwFatal pair addr dump, 7, 3, pair.toNat)] : List (Instr × Nat × Nat × Nat)), ∀ s : State,
    (s.dev.mgmtUp = false → exec e.1 s = .next s) ∧
    (s.dev.mgmtUp = true → ∃ t : State, exec e.1 s = .next t ∧ t.mem = s.mem ∧ t.dev.sys.phase = .held ∧
      t.dev.sys.causes.testBit e.2.1 = true ∧ (s.dev.sys.phase = .ready → t.dev.sys.scope = 2) ∧
      t.dev.sys.wdogResets = s.dev.sys.wdogResets + 1 ∧ bkup t.dev 30 = 1 ∧ u16 t.dev.log.crash 0 = 1 ∧
      u8 t.dev.log.crash 2 = e.2.2.1 ∧ u8 t.dev.log.crash 3 = e.2.2.2 ∧ ∀ f : Nat, t.dev.fn f = fnInit f)) ∧
  (∀ (s : State) (l : Nat), s.dev.sys.sysReset = some l → (l = 1 ∨ l = 2) →
    (s.dev.wbWaits = true → exec .sysResetAssertion s = .next s) ∧
    (s.dev.wbWaits = false → ∃ t : State, exec .sysResetAssertion s = .next t ∧ t.mem = s.mem ∧ t.dev.sys.phase = .held ∧
      t.dev.sys.sysReset = none ∧
      t.dev.sys.causes.testBit 10 = true ∧ (s.dev.sys.phase = .ready → t.dev.sys.scope = l) ∧
      s.dev.sys.sysResetAt + 100000000 ≤ t.dev.now ∧ t.dev.now ≤ max s.dev.now (s.dev.sys.sysResetAt + 60000000000))) ∧
  (∀ (hot : Bool) (s : State), exec (.thermalWarn hot) s = .next (s.on (fun d => d.observed (fun d =>
    d.modSys (fun y => { y with thermalWarn := hot }))))) ∧
  (∀ (code : Byte) (data : W16) (ok : Bool) (s : State), exec (.smbMgmtInvalid code data ok) s = .next s) ∧
  (∀ s : State, s.dev.smbOn = true → ∃ t : State, exec .smbMgmtReadStatus s = .next t ∧ t.mem = s.mem ∧
    t.dev.sys.smbData = BitVec.ofNat 16 (bitAt (s.dev.fn 0).ready 0 + 2 * s.dev.sys.power + bitAt s.dev.sys.thermalWarn 3
      + bitAt s.dev.sys.optDefaults 4)) ∧
  (∀ s : State, s.dev.sys.deepEntering = true → s.dev.wbWaits = true →
    exec .deepEntryDone s = .next (s.on (fun d => d.observed id))) ∧
  (∀ s : State, s.dev.sys.deepEntering = true → s.dev.wbWaits = false → ∃ t : State, exec .deepEntryDone s = .next t ∧ t.mem = s.mem ∧
    t.dev.sys.power = 3 ∧ t.dev.sys.deepEntering = false ∧ t.dev.seam.up = false ∧
    (s.dev.sys.wakeLatched ≠ none ∨ s.dev.fab.routes = [] → t.dev.sys.waking = s.dev.sys.wakeLatched) ∧
    t.dev.sys.wakeLatched = none ∧ t.dev.link.ltrUs = 3000) ∧
  (∀ (c : Fin 5) (s : State), c.val ≠ 0 →
    (s.dev.sys.deepEntering = true → exec (.wake c) s = .next (s.on (fun d => d.modSys (fun y =>
      { y with wakeLatched := some (y.wakeLatched.getD c.val) })))) ∧
    (s.dev.sys.deepEntering = false → s.dev.sys.power = 3 → s.dev.sys.waking = none →
      exec (.wake c) s = .next (s.on (fun d => d.modSys (fun y => { y with waking := some c.val, wakeCause := c.val }))))) ∧
  (∀ s : State, s.dev.sys.power = 3 → s.dev.sys.waking ≠ none → s.dev.seam.up = true →
    ∃ t : State, exec .wakeDone s = .next t ∧ t.mem = s.mem ∧ t.dev.sys.power = 2 ∧ t.dev.sys.waking = none ∧
      t.dev.sys.wakes = s.dev.sys.wakes + 1 ∧ t.dev.link.ltrUs = 20) ∧
  (∀ (b : Fin 6) (i : Fin 16) (forced : Bool) (s : State) (id : Nat) (r : Running),
    s.dev.sys.blockReset.find? (fun p => p.1 == 16 * b.val + i.val) = some (16 * b.val + i.val, id + 1) → s.dev.running? id = some r →
    (s.dev.blockIdle b.val i.val = true ∨ (forced = true ∧ b.val ≠ 5)) →
    ∃ t : State, exec (.blockIdleOrTimeout b i forced) s = .next t ∧ t.mem = s.mem ∧
      (forced = true → b.val ≠ 5 → t.dev.now = max s.dev.now ((r.data.getD 0 0).toNat + u32 r.job.p 4 * 1000000)) ∧
      (b.val = 4 →
        let c := s.dev.chain i.val
        let back := c.wbWant || ((c.up || c.update.isSome) && c.mods.any RelayMod.dirty)
        (t.dev.chain i.val).discCmd = some id ∧ (t.dev.chain i.val).queue = [] ∧ (t.dev.chain i.val).update = none ∧
        (back = false → (t.dev.chain i.val).state = .discovering ∧ ∀ m ∈ (t.dev.chain i.val).mods, m.drive = 0) ∧
        (back = true → (t.dev.chain i.val).wbWant = true ∧ (t.dev.chain i.val).mods = c.mods)) ∧
      (b.val ≠ 4 → t.dev.sys.blockReset.any (fun p => p.1 == 16 * b.val + i.val) = false ∧
        ∃ r' : Running, t.dev.running? id = some r' ∧ r'.result.isSome = true) ∧
      (b.val = 3 → t.dev.vec.player = { playerInit with lastEnd := t.dev.vec.player.lastEnd }) ∧
      (b.val = 5 → ∀ e : Nat, 16 * i.val ≤ e → e < 16 * i.val + 16 → t.dev.eng e = engInit e)) ∧
  (∀ s : State, (∃ t : State, exec .helonRailFall s = .next t ∧ t.mem = s.mem ∧ t.dev.sys.helonGood = false ∧ t.dev.hel = [] ∧
      t.dev.seam.powered = false ∧ t.dev.seam.lossAt = some (s.dev.seam.lossAt.getD s.dev.now)) ∧
    ∃ t : State, exec .denrixRailFall s = .next t ∧ t.mem = s.mem ∧ t.dev.sys.phase = .held ∧ t.dev.sys.denrixGood = false ∧
      (∀ f : Nat, t.dev.fn f = fnInit f) ∧ t.dev.store.bankA = s.dev.store.bankA)

/-- The steps of the start-up sequence, from the negation of the last source to READY. RESET_NEGATION with Denrix powered
starts option loading after a scope of DENRIX or wider and the release of the domains after a narrower one.
OPTION_LOAD_DONE takes the valid record with the higher SEQ, or the ROM defaults; a copy whose read is uncorrectable
is not valid (whether one is stays open, log entry 154, as for a bank). DOMAIN_RELEASE releases the next domain 1,024
oscillator cycles after the last; the third starts the timebase at an edge that both clocks share, and the fifth waits
for ECC initialisation. FIRMWARE_BANK_CHECK executes the named bank, the other one with FALLBACK, or neither
(RECOVERY). READY records the causes in BKUP[24], serves PF0 with its first resources and ends the sequence. (R413,
R532, R545, R548, R558, R560, R562, R565, R581, R582, R583, R584) -/
def Obligations.StartUpSteps : Prop :=
  (∀ s : State, s.dev.sys.phase = .held → s.dev.sys.denrixGood = true → ∃ t : State, exec .resetNegation s = .next t ∧ t.mem = s.mem ∧
    (s.dev.sys.scope ≤ 2 → t.dev.sys.phase = .loading) ∧ (3 ≤ s.dev.sys.scope → t.dev.sys.phase = .releasing 1) ∧
    t.dev.sys.perst = false ∧ t.dev.sys.relAt = s.dev.now ∧ t.dev.sys.causes = s.dev.sys.causes ∧ t.dev.now = s.dev.now) ∧
  (∀ s : State, s.dev.sys.phase = .loading → ∃ t : State, exec .optionLoadDone s = .next t ∧ t.mem = s.mem ∧
    t.dev.sys.phase = .releasing 1 ∧ s.dev.now ≤ t.dev.now ∧ t.dev.now ≤ max s.dev.now (s.dev.sys.relAt + 1500000000) ∧
    t.dev.seam.hbRunning = true ∧
    let good := fun (n : Nat) => optOk (s.dev.store.optCopy n) && !Config.freeFlag (s.dev.freeCtr + 1 + n)
    let seq := fun (n : Nat) => (optOf (s.dev.store.optCopy n)).seq
    (good 0 = false → good 1 = false → t.dev.sys.opt = optRom ∧ t.dev.sys.optDefaults = true) ∧
    (good 0 = true → (good 1 = true → seq 1 ≤ seq 0) → t.dev.sys.opt = optOf (s.dev.store.optCopy 0) ∧ t.dev.sys.optDefaults = false) ∧
    (good 1 = true → (good 0 = true → seq 0 < seq 1) → t.dev.sys.opt = optOf (s.dev.store.optCopy 1) ∧ t.dev.sys.optDefaults = false)) ∧
  (∀ (s : State) (n : Nat), s.dev.sys.phase = .releasing n →
    (n = 4 → s.dev.sys.eccDone = false → exec .domainRelease s = .next s) ∧
    ((n ≠ 4 ∨ s.dev.sys.eccDone = true) → ∃ t : State, exec .domainRelease s = .next t ∧ t.mem = s.mem ∧
      t.dev.sys.relAt = max s.dev.now (s.dev.sys.relAt + 40960000) ∧
      (n = 2 → s.dev.sys.scope ≤ 2 → t.dev.now = gridEdge 0 t.dev.sys.relAt 50000 ∧ t.dev.tb.lastSample = t.dev.now ∧
        t.dev.tb.monoZero = t.dev.now ∧ t.dev.tb.edgeBase = t.dev.now) ∧
      (n ≠ 2 ∨ 3 ≤ s.dev.sys.scope → t.dev.now = t.dev.sys.relAt) ∧
      (n < 5 → t.dev.sys.phase = .releasing (n + 1)) ∧ (5 ≤ n → s.dev.sys.scope ≤ 2 → t.dev.sys.phase = .firmware) ∧
      (5 ≤ n → 3 ≤ s.dev.sys.scope → t.dev.sys.phase = .starting)) ∧
    (n = 4 → s.dev.sys.eccDone = false → ∃ t : State, exec .eccInitDone s = .next t ∧ t.mem = s.mem ∧ t.dev.sys.eccDone = true ∧
      t.dev.sys.phase = .releasing 4 ∧ t.dev.now ≤ max s.dev.now (s.dev.sys.relAt + 2200000000))) ∧
  (∀ s : State, s.dev.sys.phase = .firmware → ∃ t : State, exec .firmwareBankCheck s = .next t ∧ t.mem = s.mem ∧
    t.dev.sys.phase = .starting ∧
    let n := s.dev.sys.opt.fwBank
    (s.dev.bankSeen n = true → t.dev.store.executing = n ∧ t.dev.store.fallback = false ∧ t.dev.store.recovery = s.dev.store.recovery ∧
      t.dev.sys.fwVersion = (s.dev.store.bank n).version ∧ t.dev.fab.configured = true ∧
      (s.dev.fab.ext < 2 ^ 14 → s.dev.fab.fpDir = 0 → t.dev.fab.held = s.dev.fab.ext + bitAt s.dev.seam.intlk 14)) ∧
    (s.dev.bankSeen n = false → s.dev.bankSeen (1 - n) = true → t.dev.store.executing = 1 - n ∧ t.dev.store.fallback = true ∧
      t.dev.sys.fwVersion = (s.dev.store.bank (1 - n)).version) ∧
    (s.dev.bankSeen n = false → s.dev.bankSeen (1 - n) = false → t.dev.store.recovery = true ∧
      t.dev.store.executing = s.dev.store.executing)) ∧
  (∀ s : State, s.dev.sys.phase = .starting → s.dev.cal.runs.any (fun r => r.cmd.isNone) = false →
    ∃ t : State, exec .ready s = .next t ∧ t.mem = s.mem ∧ t.dev.sys.phase = .ready ∧ t.dev.sys.causes = 0 ∧
      bkup t.dev 24 = (s.dev.sys.causes % 8192 + 65536 * s.dev.sys.scope) % 2 ^ 32 ∧ bkup t.dev 25 = bkup s.dev 24 ∧
      bkup t.dev 30 = bkup s.dev 30 ∧
      (s.dev.sys.scope ≤ 2 → (t.dev.fn 0).ready = ((s.dev.fn 0).flr == .idle) ∧ (t.dev.fn 0).ringCount = 8 ∧
        (t.dev.fn 0).quota = 2 ^ 35 ∧ (t.dev.fn 0).cls = 7 ∧ (t.dev.fn 0).weight = 16 ∧ t.dev.sys.work.failedStarts = 0) ∧
      (3 ≤ s.dev.sys.scope → ∀ f : Nat, (t.dev.fn f).ready = (s.dev.fn f).ready))

/-- The error log, memory and clock faults, the link, configuration writes and the test port. An occurrence coalesces with
an open entry of its kind, makes one entry in a FIFO with room, or counts in LOST; the FIFO never passes 64 entries.
The drain moves its oldest entry to the ring, an entry becomes final 1 ms after it began, and a row of entries enters
the persistent log in order, with its header. Memory and clock faults have the responses of their partition or clock.
The link comes up once released; a configuration write sets its field of an enabled function; the test port takes only
the instructions that are allowed, while its supply is up. (R595, R596, R600, R603, R605, R606, R607, R608, R561, R58,
R86, R636) -/
def Obligations.IntegrityLogAndLink : Prop :=
  (∀ (a : W32) (s : State),
    let same := fun (e : LogEntry) => e.same kSramCorrected s.dev.now
    ∃ t : State, exec (.sramCorrected a) s = .next t ∧ t.mem = s.mem ∧
      (s.dev.log.fifo.length ≤ 64 → t.dev.log.fifo.length ≤ 64) ∧
      (s.dev.log.fifo.any same = true → t.dev.log.lost = s.dev.log.lost ∧ t.dev.log.ring = s.dev.log.ring ∧
        t.dev.log.fifo.length = s.dev.log.fifo.length ∧ ∃ e ∈ s.dev.log.fifo, same e = true ∧ e.bump s.dev.now ∈ t.dev.log.fifo) ∧
      (s.dev.log.fifo.any same = false → (∀ p ∈ s.dev.log.ring, ∀ e : LogEntry, p.2 = some e → same e = false) →
        (s.dev.log.fifo.length < 64 → t.dev.log.lost = s.dev.log.lost ∧ ∃ e : LogEntry, t.dev.log.fifo = s.dev.log.fifo ++ [e] ∧
          e.code = 0x0101 ∧ e.subsys = 20 ∧ e.severity = 0 ∧ e.count = 1 ∧ e.detail = a.toNat ∧
          e.timeNs = s.dev.nsAt s.dev.logInstant ∧ e.eflags = bitAt (s.dev.sys.power == 3) 2) ∧
        (64 ≤ s.dev.log.fifo.length → t.dev.log.fifo = s.dev.log.fifo ∧ t.dev.log.lost = min (s.dev.log.lost + 1) 0xFFFFFFFF))) ∧
  (∀ (s : State) (e : LogEntry) (rest : List LogEntry), s.dev.log.fifo = e :: rest →
    ∃ t : State, exec .logFifoDrain s = .next t ∧ t.mem = s.mem ∧ t.dev.log.fifo = rest ∧
      tblGet (fun _ => none) t.dev.log.ring s.dev.log.head = some e ∧ t.dev.log.head = (s.dev.log.head + 1) % 512 ∧
      t.dev.log.pos = s.dev.log.pos + 1 ∧
      t.dev.log.tail = (if (s.dev.log.head + 1) % 512 = s.dev.log.tail then (s.dev.log.tail + 1) % 512 else s.dev.log.tail)) ∧
  (∀ (s : State) (k : Nat) (e : LogEntry), openEntry s.dev.ringOrder = some (k, e) →
    ∃ t : State, exec .logEntryFinal s = .next t ∧ t.mem = s.mem ∧ t.dev.now = max s.dev.now (e.firstPs + 1000000000) ∧
      tblGet (fun _ => none) t.dev.log.ring k = some { e with final_ := true } ∧
      t.dev.log.row = (if s.dev.sys.opt.integ.testBit 2 = true ∧ 2 ≤ e.severity then s.dev.log.row ++ [{ e with final_ := true }]
        else s.dev.log.row)) ∧
  (∀ (s : State) (t0 : Nat), s.dev.log.rowAt = some t0 → s.dev.log.row ≠ [] → s.dev.log.row.length ≤ 32 →
    ∃ t : State, exec (.persistentLogWrite []) s = .next t ∧ t.mem = s.mem ∧ t.dev.log.row = [] ∧ t.dev.log.rowAt = none ∧
      t.dev.log.archived = s.dev.log.archived + s.dev.log.row.length ∧ t.dev.log.header = logHeader t.dev.log.archived ∧
      t.dev.now = (if 32 ≤ s.dev.log.row.length then s.dev.now else max s.dev.now (t0 + 1000000000000)) ∧
      ∀ (i : Nat) (e : LogEntry), s.dev.log.row[i]? = some e →
        tblGet (fun _ => none) t.dev.log.archive ((s.dev.log.archived + i) % 32736) = some e.persisted) ∧
  (∀ s : State, exec .scrub s = .next (s.on (fun d =>
    if d.sys.opt.integ.testBit 0 then d.modSys (fun y => { y with scrubs := y.scrubs + 1 }) else d))) ∧
  (∀ (e : SramErr) (a : W32) (s : State), (∀ p x b, e ≠ .mgmt p x b) → (∀ (f : FnId) (b : List Byte), e = .session f b → f.val ≠ 0) →
    (e = .vector → s.dev.vFetched a.toNat = false) →
    exec (.sramUncorrectable e a) s = .next (s.on (fun d => d.observed (fun d =>
      (d.logIt (kSramUncorrectable (sramName e).2.1 (sramName e).2.2) (a.toNat + 2 ^ 32 * (sramName e).1)).sramResponse e a.toNat)))) ∧
  (∀ (a : W32) (s : State), s.dev.vFetched a.toNat = true → ∃ t : State, exec (.sramUncorrectable .vector a) s = .next t ∧
    t.mem = s.mem ∧ t.dev.vec.player = { s.dev.vec.player with ecc := a.toNat :: s.dev.vec.player.ecc } ∧ t.dev.log = s.dev.log) ∧
  (∀ (f : FnId) (r : RingId) (k : ChainId) (g : EngId) (a : W32) (b : List Byte) (s : State),
    (∃ t : State, exec (.sramUncorrectable (.caravan f r) a) s = .next t ∧ t.mem = s.mem ∧
      ((t.dev.fn f.val).ring r.val).enabled = false) ∧
    ((s.dev.eng g.val).next.isSome = true → ∃ t : State, exec (.sramUncorrectable (.engine g) a) s = .next t ∧ t.mem = s.mem ∧
      (t.dev.eng g.val).lateFail = some 2) ∧
    ((s.dev.chain k.val).state = .ready → (s.dev.chain k.val).discCmd = none →
      ∃ t : State, exec (.sramUncorrectable (.matrix k) a) s = .next t ∧ t.mem = s.mem ∧ (t.dev.chain k.val).state = .failed) ∧
    (f.val ≠ 0 → (s.dev.fn f.val).enabled = true → (s.dev.fn f.val).flr = .idle →
      ∃ t : State, exec (.sramUncorrectable (.session f b) a) s = .next t ∧ t.mem = s.mem ∧ (t.dev.fn f.val).flr = .drain) ∧
    ∃ t : State, exec (.sramUncorrectable .crash a) s = .next t ∧ t.mem = s.mem ∧ bkup t.dev 30 = 0) ∧
  (∀ s : State,
    (∀ k ∈ ([.mgmt, .alwaysOn] : List ClockId), ∃ t : State, exec (.clockFault k) s = .next t ∧ t.mem = s.mem ∧
      t.dev.sys.phase = .held ∧ t.dev.sys.causes.testBit 7 = true ∧ (s.dev.sys.phase = .ready → t.dev.sys.scope = 2)) ∧
    (∃ t : State, exec (.clockFault .sequencer) s = .next t ∧ t.mem = s.mem ∧
      ∀ c : Nat, c < s.dev.nChan → (t.dev.res c).stream = 0 ∧ (t.dev.res c).cap = .idle ∧ (t.dev.res c).meas = none) ∧
    (∃ t : State, exec (.clockFault .vector) s = .next t ∧ t.mem = s.mem ∧
      t.dev.vec.player = { playerInit with lastEnd := t.dev.vec.player.lastEnd }) ∧
    (∃ t : State, exec (.clockFault .matrix) s = .next t ∧ t.mem = s.mem ∧ ∀ k : Nat, k < 8 → (s.dev.chain k).discCmd = none →
      (s.dev.chain k).state = .ready ∨ (s.dev.chain k).state = .updating → (t.dev.chain k).state = .failed) ∧
    (∀ k ∈ ([.hostLink, .caravan] : List ClockId), exec (.clockFault k) s = .next (s.on (fun d => d.observed (fun d =>
      (d.logIt (kClock 1 1 0 0) 5).irq 0 irqError)))) ∧
    (∀ i : Fin 16, exec (.clockFault (.island i)) s = .next (s.on (fun d => d.observed (fun d =>
      (d.logIt (kClock 5 2 12 i.val) 0).forAll ((islandChans i.val).filter d.chanOk) (fun d c => d.chanResponse c 6 5)))))) ∧
  (∀ (w : LinkWidth) (r : LinkRate) (s : State),
    ((s.dev.sys.phase = .ready ∨ s.dev.sys.phase = .starting ∨ s.dev.sys.phase = .firmware ∨ 3 ≤ s.dev.sys.scope) →
      exec (.linkUp w r) s = .next (s.on (fun d => { d with link := { d.link with up := true, width := w, rate := r } }))) ∧
    (s.dev.sys.scope ≤ 2 → (s.dev.sys.phase = .held ∨ s.dev.sys.phase = .loading ∨ ∃ n : Nat, s.dev.sys.phase = .releasing n) →
      exec (.linkUp w r) s = .next s)) ∧
  (∀ (f : FnId) (w : CfgWrite) (s : State), (s.dev.link.up && (s.dev.fn f.val).enabled && s.dev.routed f.val) = false →
    exec (.configurationWrite f w) s = .next (s.on (fun d => d.observed id))) ∧
  (∀ (f : FnId) (s : State), s.dev.link.up = true → (s.dev.fn f.val).enabled = true → s.dev.routed f.val = true →
    (∀ (on two : Bool) (n : Fin 16) (c : Fin 6) (d : W32) (x : W64) (v : Fin 64),
      ∀ e ∈ ([(.busMaster on, fun r => { r with busMaster := on }),
      (.cplTimeout on n, fun r => { r with cplDisable := on, cplValue := if cplValueOk n.val then n.val else r.cplValue }),
        (.maxReadRequest c, fun r => { r with maxReadReq := c.val }),
      (.relaxedOrdering on, fun r => { r with relaxed := on }), (.ecrc on two, fun r => { r with ecrcCheck := on, ecrcGen := two }),
      (.tag10 on, fun r => { r with tag10 := on }), (.powerState on, fun r => { r with d3hot := on }),
      (.aerClear on two, fun r => { r with aerEcrc := r.aerEcrc && !on, aerPoison := r.aerPoison && !two }),
      (.vectorMessage v x d, fun r => if vecCount f.val ≤ v.val then r else r.modVec v.val (fun y => { y with addr := x, data := d }))] :
        List (CfgWrite × (Fn → Fn))),
      ∃ t : State, exec (.configurationWrite f e.1) s = .next t ∧ t.mem = s.mem ∧ t.dev.fn f.val = e.2 (s.dev.fn f.val)) ∧
    (∀ (on two : Bool) (m : W32) (x : W64) (n : W16), ∀ e ∈ ([(.bar false x, fun l => { l with bar0 := barBase x 65536 }),
      (.bar true x, fun l => { l with bar2 := barBase x 4096 }), (.vfBar false x, fun l => { l with vfBar0 := barBase x 65536 }),
      (.vfBar true x, fun l => { l with vfBar2 := barBase x (4096 * l.pageSize.toNat) }),
      (.systemPageSize m, fun l => if pageSizeOk m then { l with pageSize := m } else l), (.ltr on, fun l => { l with ltrOn := on }),
      (.aspmL1 on, fun l => { l with aspmL1 := on }), (.l1Substates on two, fun l => { l with l11 := on, l12 := two }),
      (.numVfs n, fun l => if l.vfEnable then l else { l with numVfs := n.toNat })] : List (CfgWrite × (Link → Link))),
      ∃ t : State, exec (.configurationWrite f e.1) s = .next t ∧ t.mem = s.mem ∧
        t.dev.link = (if f.val = 0 then e.2 s.dev.link else s.dev.link)) ∧
    (∃ t : State, exec (.configurationWrite f .initiateFlr) s = .next t ∧ t.mem = s.mem ∧
      ((s.dev.fn f.val).flr = .idle → (t.dev.fn f.val).flr = .drain ∨ (f.val = 0 ∧ (t.dev.fn 0).flr = .vfs))) ∧
    (f.val = 0 → ∃ t : State, exec (.configurationWrite f (.vfEnable false)) s = .next t ∧ t.mem = s.mem ∧ t.dev.link.vfEnable = false) ∧
    (∀ on : Bool, ∃ t : State, exec (.configurationWrite f (.msixEnable on)) s = .next t ∧ t.mem = s.mem ∧
      (t.dev.fn f.val).msixEnable = on) ∧
    (∀ on : Bool, ∃ t : State, exec (.configurationWrite f (.functionMask on)) s = .next t ∧ t.mem = s.mem ∧
      (t.dev.fn f.val).funcMask = on) ∧
    (∀ (v : Fin 64) (on : Bool), v.val < vecCount f.val → ∃ t : State, exec (.configurationWrite f (.vectorMask v on)) s = .next t ∧
      t.mem = s.mem ∧ ((t.dev.fn f.val).vec v.val).mask = on) ∧
    (∀ c : Fin 3, ∃ t : State, exec (.configurationWrite f (.maxPayload c)) s = .next t ∧ t.mem = s.mem ∧
      (t.dev.fn f.val).maxPayload = c.val) ∧
    (f.val = 0 → ∀ b l : Byte, ∃ t : State, exec (.configurationWrite f (.bus b l)) s = .next t ∧ t.mem = s.mem ∧ t.dev.link.bus = b ∧
      t.dev.link.last = l) ∧
    (f.val = 0 → s.dev.link.vfEnable = false → ∃ t : State, exec (.configurationWrite f (.vfEnable true)) s = .next t ∧
      t.mem = s.mem ∧ t.dev.link.vfEnable = true ∧
      ∀ i : Nat, 1 ≤ i → i ≤ min s.dev.link.numVfs s.dev.totalVfs → (t.dev.fn i).enabled = true)) ∧
  (∀ (i : JtagInstr) (s : State), s.dev.sys.denrixGood = false → exec (.jtagInstructionLoad i) s = .next s) ∧
  (∀ (i : JtagInstr) (s : State), s.dev.sys.denrixGood = true → ∃ t : State, exec (.jtagInstructionLoad i) s = .next t ∧ t.mem = s.mem ∧
    (s.dev.sys.opt.jtag = 0 → t.dev.sys.tap = .bypass) ∧
    (s.dev.sys.opt.jtag ≠ 0 → i = .sample → t.dev.sys.tap = .sample) ∧ (i = .bypass ∨ i = .idcode → t.dev.sys.tap = .bypass) ∧
    (∀ c : Nat, i = .other c → t.dev.sys.tap = if s.dev.sys.opt.jtag = 2 then .other c else .bypass) ∧
    (s.dev.sys.perst = false → (i = .extest ∨ i = .clamp ∨ i = .highz) → t.dev.sys.tap = .bypass) ∧
    (s.dev.sys.opt.jtag ≠ 0 → s.dev.sys.perst = true → (i = .extest ∨ i = .clamp ∨ i = .highz) → t.dev.sys.tap = i))
end

