-- ==== Sys2Proof/Laws/State.lean ====
section
/-! SUPPORT. What each update of the device leaves and sets: one lemma per field and per update, true by definition, and the
same for the reads of the register groups. -/

namespace Sys2Proof.Machine

/-! `Dev.modFn` changes `fns` only. -/
@[simp] theorem Dev.modFn_now (s : Dev) (f : Nat) (g : Fn → Fn) : (s.modFn f g).now = s.now := rfl
@[simp] theorem Dev.modFn_freeCtr (s : Dev) (f : Nat) (g : Fn → Fn) : (s.modFn f g).freeCtr = s.freeCtr := rfl
@[simp] theorem Dev.modFn_readData (s : Dev) (f : Nat) (g : Fn → Fn) : (s.modFn f g).readData = s.readData := rfl
@[simp] theorem Dev.modFn_msgs (s : Dev) (f : Nat) (g : Fn → Fn) : (s.modFn f g).msgs = s.msgs := rfl
@[simp] theorem Dev.modFn_tg (s : Dev) (f : Nat) (g : Fn → Fn) : (s.modFn f g).tg = s.tg := rfl
@[simp] theorem Dev.modFn_assign (s : Dev) (f : Nat) (g : Fn → Fn) : (s.modFn f g).assign = s.assign := rfl
@[simp] theorem Dev.modFn_link (s : Dev) (f : Nat) (g : Fn → Fn) : (s.modFn f g).link = s.link := rfl
@[simp] theorem Dev.modFn_log (s : Dev) (f : Nat) (g : Fn → Fn) : (s.modFn f g).log = s.log := rfl
@[simp] theorem Dev.modFn_sys (s : Dev) (f : Nat) (g : Fn → Fn) : (s.modFn f g).sys = s.sys := rfl
@[simp] theorem Dev.modFn_store (s : Dev) (f : Nat) (g : Fn → Fn) : (s.modFn f g).store = s.store := rfl
@[simp] theorem Dev.modFn_tb (s : Dev) (f : Nat) (g : Fn → Fn) : (s.modFn f g).tb = s.tb := rfl
@[simp] theorem Dev.modFn_stages (s : Dev) (f : Nat) (g : Fn → Fn) : (s.modFn f g).stages = s.stages := rfl
@[simp] theorem Dev.modFn_engines (s : Dev) (f : Nat) (g : Fn → Fn) : (s.modFn f g).engines = s.engines := rfl
@[simp] theorem Dev.modFn_chans (s : Dev) (f : Nat) (g : Fn → Fn) : (s.modFn f g).chans = s.chans := rfl
@[simp] theorem Dev.modFn_gangs (s : Dev) (f : Nat) (g : Fn → Fn) : (s.modFn f g).gangs = s.gangs := rfl
@[simp] theorem Dev.modFn_swapGroups (s : Dev) (f : Nat) (g : Fn → Fn) : (s.modFn f g).swapGroups = s.swapGroups := rfl
@[simp] theorem Dev.modFn_swaps (s : Dev) (f : Nat) (g : Fn → Fn) : (s.modFn f g).swaps = s.swaps := rfl
@[simp] theorem Dev.modFn_hel (s : Dev) (f : Nat) (g : Fn → Fn) : (s.modFn f g).hel = s.hel := rfl
@[simp] theorem Dev.modFn_seam (s : Dev) (f : Nat) (g : Fn → Fn) : (s.modFn f g).seam = s.seam := rfl
@[simp] theorem Dev.modFn_mxChains (s : Dev) (f : Nat) (g : Fn → Fn) : (s.modFn f g).mxChains = s.mxChains := rfl
@[simp] theorem Dev.modFn_mxSets (s : Dev) (f : Nat) (g : Fn → Fn) : (s.modFn f g).mxSets = s.mxSets := rfl
@[simp] theorem Dev.modFn_fab (s : Dev) (f : Nat) (g : Fn → Fn) : (s.modFn f g).fab = s.fab := rfl
@[simp] theorem Dev.modFn_seqMem (s : Dev) (f : Nat) (g : Fn → Fn) : (s.modFn f g).seqMem = s.seqMem := rfl
@[simp] theorem Dev.modFn_seqs (s : Dev) (f : Nat) (g : Fn → Fn) : (s.modFn f g).seqs = s.seqs := rfl
@[simp] theorem Dev.modFn_handlers (s : Dev) (f : Nat) (g : Fn → Fn) : (s.modFn f g).handlers = s.handlers := rfl
@[simp] theorem Dev.modFn_results (s : Dev) (f : Nat) (g : Fn → Fn) : (s.modFn f g).results = s.results := rfl
@[simp] theorem Dev.modFn_svy (s : Dev) (f : Nat) (g : Fn → Fn) : (s.modFn f g).svy = s.svy := rfl
@[simp] theorem Dev.modFn_cal (s : Dev) (f : Nat) (g : Fn → Fn) : (s.modFn f g).cal = s.cal := rfl
@[simp] theorem Dev.modFn_vec (s : Dev) (f : Nat) (g : Fn → Fn) : (s.modFn f g).vec = s.vec := rfl
@[simp] theorem Dev.modFn_chan (s : Dev) (f : Nat) (g : Fn → Fn) (i : Nat) : (s.modFn f g).chan i = s.chan i := rfl
@[simp] theorem Dev.modFn_eng (s : Dev) (f : Nat) (g : Fn → Fn) (i : Nat) : (s.modFn f g).eng i = s.eng i := rfl
@[simp] theorem Dev.modFn_stage (s : Dev) (f : Nat) (g : Fn → Fn) (i : Nat) : (s.modFn f g).stage i = s.stage i := rfl
@[simp] theorem Dev.modFn_helon (s : Dev) (f : Nat) (g : Fn → Fn) (i : Nat) : (s.modFn f g).helon i = s.helon i := rfl
@[simp] theorem Dev.modFn_gang (s : Dev) (f : Nat) (g : Fn → Fn) (i : Nat) : (s.modFn f g).gang i = s.gang i := rfl
@[simp] theorem Dev.modFn_chain (s : Dev) (f : Nat) (g : Fn → Fn) (i : Nat) : (s.modFn f g).chain i = s.chain i := rfl
@[simp] theorem Dev.modFn_xset (s : Dev) (f : Nat) (g : Fn → Fn) (i : Nat) : (s.modFn f g).xset i = s.xset i := rfl
@[simp] theorem Dev.modFn_route (s : Dev) (f : Nat) (g : Fn → Fn) (i : Nat) : (s.modFn f g).route i = s.route i := rfl
@[simp] theorem Dev.modFn_seq (s : Dev) (f : Nat) (g : Fn → Fn) (i : Nat) : (s.modFn f g).seq i = s.seq i := rfl
@[simp] theorem Dev.modFn_listEntry (s : Dev) (f : Nat) (g : Fn → Fn) (i : Nat) : (s.modFn f g).listEntry i = s.listEntry i := rfl
@[simp] theorem Dev.modFn_handler (s : Dev) (f : Nat) (g : Fn → Fn) (i : Nat) : (s.modFn f g).handler i = s.handler i := rfl
@[simp] theorem Dev.modFn_res (s : Dev) (f : Nat) (g : Fn → Fn) (i : Nat) : (s.modFn f g).res i = s.res i := rfl
@[simp] theorem Dev.modFn_vbank (s : Dev) (f : Nat) (g : Fn → Fn) (i : Nat) : (s.modFn f g).vbank i = s.vbank i := rfl
@[simp] theorem Dev.modFn_vstat (s : Dev) (f : Nat) (g : Fn → Fn) (i : Nat) : (s.modFn f g).vstat i = s.vstat i := rfl

/-! `Dev.modChan` changes `chans` only. -/
@[simp] theorem Dev.modChan_now (s : Dev) (c : Nat) (g : Chan → Chan) : (s.modChan c g).now = s.now := rfl
@[simp] theorem Dev.modChan_freeCtr (s : Dev) (c : Nat) (g : Chan → Chan) : (s.modChan c g).freeCtr = s.freeCtr := rfl
@[simp] theorem Dev.modChan_readData (s : Dev) (c : Nat) (g : Chan → Chan) : (s.modChan c g).readData = s.readData := rfl
@[simp] theorem Dev.modChan_msgs (s : Dev) (c : Nat) (g : Chan → Chan) : (s.modChan c g).msgs = s.msgs := rfl
@[simp] theorem Dev.modChan_fns (s : Dev) (c : Nat) (g : Chan → Chan) : (s.modChan c g).fns = s.fns := rfl
@[simp] theorem Dev.modChan_tg (s : Dev) (c : Nat) (g : Chan → Chan) : (s.modChan c g).tg = s.tg := rfl
@[simp] theorem Dev.modChan_assign (s : Dev) (c : Nat) (g : Chan → Chan) : (s.modChan c g).assign = s.assign := rfl
@[simp] theorem Dev.modChan_link (s : Dev) (c : Nat) (g : Chan → Chan) : (s.modChan c g).link = s.link := rfl
@[simp] theorem Dev.modChan_log (s : Dev) (c : Nat) (g : Chan → Chan) : (s.modChan c g).log = s.log := rfl
@[simp] theorem Dev.modChan_sys (s : Dev) (c : Nat) (g : Chan → Chan) : (s.modChan c g).sys = s.sys := rfl
@[simp] theorem Dev.modChan_store (s : Dev) (c : Nat) (g : Chan → Chan) : (s.modChan c g).store = s.store := rfl
@[simp] theorem Dev.modChan_tb (s : Dev) (c : Nat) (g : Chan → Chan) : (s.modChan c g).tb = s.tb := rfl
@[simp] theorem Dev.modChan_stages (s : Dev) (c : Nat) (g : Chan → Chan) : (s.modChan c g).stages = s.stages := rfl
@[simp] theorem Dev.modChan_engines (s : Dev) (c : Nat) (g : Chan → Chan) : (s.modChan c g).engines = s.engines := rfl
@[simp] theorem Dev.modChan_gangs (s : Dev) (c : Nat) (g : Chan → Chan) : (s.modChan c g).gangs = s.gangs := rfl
@[simp] theorem Dev.modChan_swapGroups (s : Dev) (c : Nat) (g : Chan → Chan) : (s.modChan c g).swapGroups = s.swapGroups := rfl
@[simp] theorem Dev.modChan_swaps (s : Dev) (c : Nat) (g : Chan → Chan) : (s.modChan c g).swaps = s.swaps := rfl
@[simp] theorem Dev.modChan_hel (s : Dev) (c : Nat) (g : Chan → Chan) : (s.modChan c g).hel = s.hel := rfl
@[simp] theorem Dev.modChan_seam (s : Dev) (c : Nat) (g : Chan → Chan) : (s.modChan c g).seam = s.seam := rfl
@[simp] theorem Dev.modChan_mxChains (s : Dev) (c : Nat) (g : Chan → Chan) : (s.modChan c g).mxChains = s.mxChains := rfl
@[simp] theorem Dev.modChan_mxSets (s : Dev) (c : Nat) (g : Chan → Chan) : (s.modChan c g).mxSets = s.mxSets := rfl
@[simp] theorem Dev.modChan_fab (s : Dev) (c : Nat) (g : Chan → Chan) : (s.modChan c g).fab = s.fab := rfl
@[simp] theorem Dev.modChan_seqMem (s : Dev) (c : Nat) (g : Chan → Chan) : (s.modChan c g).seqMem = s.seqMem := rfl
@[simp] theorem Dev.modChan_seqs (s : Dev) (c : Nat) (g : Chan → Chan) : (s.modChan c g).seqs = s.seqs := rfl
@[simp] theorem Dev.modChan_handlers (s : Dev) (c : Nat) (g : Chan → Chan) : (s.modChan c g).handlers = s.handlers := rfl
@[simp] theorem Dev.modChan_results (s : Dev) (c : Nat) (g : Chan → Chan) : (s.modChan c g).results = s.results := rfl
@[simp] theorem Dev.modChan_svy (s : Dev) (c : Nat) (g : Chan → Chan) : (s.modChan c g).svy = s.svy := rfl
@[simp] theorem Dev.modChan_cal (s : Dev) (c : Nat) (g : Chan → Chan) : (s.modChan c g).cal = s.cal := rfl
@[simp] theorem Dev.modChan_vec (s : Dev) (c : Nat) (g : Chan → Chan) : (s.modChan c g).vec = s.vec := rfl
@[simp] theorem Dev.modChan_fn (s : Dev) (c : Nat) (g : Chan → Chan) (i : Nat) : (s.modChan c g).fn i = s.fn i := rfl
@[simp] theorem Dev.modChan_eng (s : Dev) (c : Nat) (g : Chan → Chan) (i : Nat) : (s.modChan c g).eng i = s.eng i := rfl
@[simp] theorem Dev.modChan_stage (s : Dev) (c : Nat) (g : Chan → Chan) (i : Nat) : (s.modChan c g).stage i = s.stage i := rfl
@[simp] theorem Dev.modChan_helon (s : Dev) (c : Nat) (g : Chan → Chan) (i : Nat) : (s.modChan c g).helon i = s.helon i := rfl
@[simp] theorem Dev.modChan_gang (s : Dev) (c : Nat) (g : Chan → Chan) (i : Nat) : (s.modChan c g).gang i = s.gang i := rfl
@[simp] theorem Dev.modChan_chain (s : Dev) (c : Nat) (g : Chan → Chan) (i : Nat) : (s.modChan c g).chain i = s.chain i := rfl
@[simp] theorem Dev.modChan_xset (s : Dev) (c : Nat) (g : Chan → Chan) (i : Nat) : (s.modChan c g).xset i = s.xset i := rfl
@[simp] theorem Dev.modChan_route (s : Dev) (c : Nat) (g : Chan → Chan) (i : Nat) : (s.modChan c g).route i = s.route i := rfl
@[simp] theorem Dev.modChan_seq (s : Dev) (c : Nat) (g : Chan → Chan) (i : Nat) : (s.modChan c g).seq i = s.seq i := rfl
@[simp] theorem Dev.modChan_listEntry (s : Dev) (c : Nat) (g : Chan → Chan) (i : Nat) : (s.modChan c g).listEntry i = s.listEntry i := rfl
@[simp] theorem Dev.modChan_handler (s : Dev) (c : Nat) (g : Chan → Chan) (i : Nat) : (s.modChan c g).handler i = s.handler i := rfl
@[simp] theorem Dev.modChan_res (s : Dev) (c : Nat) (g : Chan → Chan) (i : Nat) : (s.modChan c g).res i = s.res i := rfl
@[simp] theorem Dev.modChan_vbank (s : Dev) (c : Nat) (g : Chan → Chan) (i : Nat) : (s.modChan c g).vbank i = s.vbank i := rfl
@[simp] theorem Dev.modChan_vstat (s : Dev) (c : Nat) (g : Chan → Chan) (i : Nat) : (s.modChan c g).vstat i = s.vstat i := rfl

/-! `Dev.modEng` changes `engines` only. -/
@[simp] theorem Dev.modEng_now (s : Dev) (e : Nat) (g : Engine → Engine) : (s.modEng e g).now = s.now := rfl
@[simp] theorem Dev.modEng_freeCtr (s : Dev) (e : Nat) (g : Engine → Engine) : (s.modEng e g).freeCtr = s.freeCtr := rfl
@[simp] theorem Dev.modEng_readData (s : Dev) (e : Nat) (g : Engine → Engine) : (s.modEng e g).readData = s.readData := rfl
@[simp] theorem Dev.modEng_msgs (s : Dev) (e : Nat) (g : Engine → Engine) : (s.modEng e g).msgs = s.msgs := rfl
@[simp] theorem Dev.modEng_fns (s : Dev) (e : Nat) (g : Engine → Engine) : (s.modEng e g).fns = s.fns := rfl
@[simp] theorem Dev.modEng_tg (s : Dev) (e : Nat) (g : Engine → Engine) : (s.modEng e g).tg = s.tg := rfl
@[simp] theorem Dev.modEng_assign (s : Dev) (e : Nat) (g : Engine → Engine) : (s.modEng e g).assign = s.assign := rfl
@[simp] theorem Dev.modEng_link (s : Dev) (e : Nat) (g : Engine → Engine) : (s.modEng e g).link = s.link := rfl
@[simp] theorem Dev.modEng_log (s : Dev) (e : Nat) (g : Engine → Engine) : (s.modEng e g).log = s.log := rfl
@[simp] theorem Dev.modEng_sys (s : Dev) (e : Nat) (g : Engine → Engine) : (s.modEng e g).sys = s.sys := rfl
@[simp] theorem Dev.modEng_store (s : Dev) (e : Nat) (g : Engine → Engine) : (s.modEng e g).store = s.store := rfl
@[simp] theorem Dev.modEng_tb (s : Dev) (e : Nat) (g : Engine → Engine) : (s.modEng e g).tb = s.tb := rfl
@[simp] theorem Dev.modEng_stages (s : Dev) (e : Nat) (g : Engine → Engine) : (s.modEng e g).stages = s.stages := rfl
@[simp] theorem Dev.modEng_chans (s : Dev) (e : Nat) (g : Engine → Engine) : (s.modEng e g).chans = s.chans := rfl
@[simp] theorem Dev.modEng_gangs (s : Dev) (e : Nat) (g : Engine → Engine) : (s.modEng e g).gangs = s.gangs := rfl
@[simp] theorem Dev.modEng_swapGroups (s : Dev) (e : Nat) (g : Engine → Engine) : (s.modEng e g).swapGroups = s.swapGroups := rfl
@[simp] theorem Dev.modEng_swaps (s : Dev) (e : Nat) (g : Engine → Engine) : (s.modEng e g).swaps = s.swaps := rfl
@[simp] theorem Dev.modEng_hel (s : Dev) (e : Nat) (g : Engine → Engine) : (s.modEng e g).hel = s.hel := rfl
@[simp] theorem Dev.modEng_seam (s : Dev) (e : Nat) (g : Engine → Engine) : (s.modEng e g).seam = s.seam := rfl
@[simp] theorem Dev.modEng_mxChains (s : Dev) (e : Nat) (g : Engine → Engine) : (s.modEng e g).mxChains = s.mxChains := rfl
@[simp] theorem Dev.modEng_mxSets (s : Dev) (e : Nat) (g : Engine → Engine) : (s.modEng e g).mxSets = s.mxSets := rfl
@[simp] theorem Dev.modEng_fab (s : Dev) (e : Nat) (g : Engine → Engine) : (s.modEng e g).fab = s.fab := rfl
@[simp] theorem Dev.modEng_seqMem (s : Dev) (e : Nat) (g : Engine → Engine) : (s.modEng e g).seqMem = s.seqMem := rfl
@[simp] theorem Dev.modEng_seqs (s : Dev) (e : Nat) (g : Engine → Engine) : (s.modEng e g).seqs = s.seqs := rfl
@[simp] theorem Dev.modEng_handlers (s : Dev) (e : Nat) (g : Engine → Engine) : (s.modEng e g).handlers = s.handlers := rfl
@[simp] theorem Dev.modEng_results (s : Dev) (e : Nat) (g : Engine → Engine) : (s.modEng e g).results = s.results := rfl
@[simp] theorem Dev.modEng_svy (s : Dev) (e : Nat) (g : Engine → Engine) : (s.modEng e g).svy = s.svy := rfl
@[simp] theorem Dev.modEng_cal (s : Dev) (e : Nat) (g : Engine → Engine) : (s.modEng e g).cal = s.cal := rfl
@[simp] theorem Dev.modEng_vec (s : Dev) (e : Nat) (g : Engine → Engine) : (s.modEng e g).vec = s.vec := rfl
@[simp] theorem Dev.modEng_fn (s : Dev) (e : Nat) (g : Engine → Engine) (i : Nat) : (s.modEng e g).fn i = s.fn i := rfl
@[simp] theorem Dev.modEng_chan (s : Dev) (e : Nat) (g : Engine → Engine) (i : Nat) : (s.modEng e g).chan i = s.chan i := rfl
@[simp] theorem Dev.modEng_stage (s : Dev) (e : Nat) (g : Engine → Engine) (i : Nat) : (s.modEng e g).stage i = s.stage i := rfl
@[simp] theorem Dev.modEng_helon (s : Dev) (e : Nat) (g : Engine → Engine) (i : Nat) : (s.modEng e g).helon i = s.helon i := rfl
@[simp] theorem Dev.modEng_gang (s : Dev) (e : Nat) (g : Engine → Engine) (i : Nat) : (s.modEng e g).gang i = s.gang i := rfl
@[simp] theorem Dev.modEng_chain (s : Dev) (e : Nat) (g : Engine → Engine) (i : Nat) : (s.modEng e g).chain i = s.chain i := rfl
@[simp] theorem Dev.modEng_xset (s : Dev) (e : Nat) (g : Engine → Engine) (i : Nat) : (s.modEng e g).xset i = s.xset i := rfl
@[simp] theorem Dev.modEng_route (s : Dev) (e : Nat) (g : Engine → Engine) (i : Nat) : (s.modEng e g).route i = s.route i := rfl
@[simp] theorem Dev.modEng_seq (s : Dev) (e : Nat) (g : Engine → Engine) (i : Nat) : (s.modEng e g).seq i = s.seq i := rfl
@[simp] theorem Dev.modEng_listEntry (s : Dev) (e : Nat) (g : Engine → Engine) (i : Nat) : (s.modEng e g).listEntry i = s.listEntry i := rfl
@[simp] theorem Dev.modEng_handler (s : Dev) (e : Nat) (g : Engine → Engine) (i : Nat) : (s.modEng e g).handler i = s.handler i := rfl
@[simp] theorem Dev.modEng_res (s : Dev) (e : Nat) (g : Engine → Engine) (i : Nat) : (s.modEng e g).res i = s.res i := rfl
@[simp] theorem Dev.modEng_vbank (s : Dev) (e : Nat) (g : Engine → Engine) (i : Nat) : (s.modEng e g).vbank i = s.vbank i := rfl
@[simp] theorem Dev.modEng_vstat (s : Dev) (e : Nat) (g : Engine → Engine) (i : Nat) : (s.modEng e g).vstat i = s.vstat i := rfl

/-! `Dev.modStage` changes `stages` only. -/
@[simp] theorem Dev.modStage_now (s : Dev) (m : Nat) (g : Stage → Stage) : (s.modStage m g).now = s.now := rfl
@[simp] theorem Dev.modStage_freeCtr (s : Dev) (m : Nat) (g : Stage → Stage) : (s.modStage m g).freeCtr = s.freeCtr := rfl
@[simp] theorem Dev.modStage_readData (s : Dev) (m : Nat) (g : Stage → Stage) : (s.modStage m g).readData = s.readData := rfl
@[simp] theorem Dev.modStage_msgs (s : Dev) (m : Nat) (g : Stage → Stage) : (s.modStage m g).msgs = s.msgs := rfl
@[simp] theorem Dev.modStage_fns (s : Dev) (m : Nat) (g : Stage → Stage) : (s.modStage m g).fns = s.fns := rfl
@[simp] theorem Dev.modStage_tg (s : Dev) (m : Nat) (g : Stage → Stage) : (s.modStage m g).tg = s.tg := rfl
@[simp] theorem Dev.modStage_assign (s : Dev) (m : Nat) (g : Stage → Stage) : (s.modStage m g).assign = s.assign := rfl
@[simp] theorem Dev.modStage_link (s : Dev) (m : Nat) (g : Stage → Stage) : (s.modStage m g).link = s.link := rfl
@[simp] theorem Dev.modStage_log (s : Dev) (m : Nat) (g : Stage → Stage) : (s.modStage m g).log = s.log := rfl
@[simp] theorem Dev.modStage_sys (s : Dev) (m : Nat) (g : Stage → Stage) : (s.modStage m g).sys = s.sys := rfl
@[simp] theorem Dev.modStage_store (s : Dev) (m : Nat) (g : Stage → Stage) : (s.modStage m g).store = s.store := rfl
@[simp] theorem Dev.modStage_tb (s : Dev) (m : Nat) (g : Stage → Stage) : (s.modStage m g).tb = s.tb := rfl
@[simp] theorem Dev.modStage_engines (s : Dev) (m : Nat) (g : Stage → Stage) : (s.modStage m g).engines = s.engines := rfl
@[simp] theorem Dev.modStage_chans (s : Dev) (m : Nat) (g : Stage → Stage) : (s.modStage m g).chans = s.chans := rfl
@[simp] theorem Dev.modStage_gangs (s : Dev) (m : Nat) (g : Stage → Stage) : (s.modStage m g).gangs = s.gangs := rfl
@[simp] theorem Dev.modStage_swapGroups (s : Dev) (m : Nat) (g : Stage → Stage) : (s.modStage m g).swapGroups = s.swapGroups := rfl
@[simp] theorem Dev.modStage_swaps (s : Dev) (m : Nat) (g : Stage → Stage) : (s.modStage m g).swaps = s.swaps := rfl
@[simp] theorem Dev.modStage_hel (s : Dev) (m : Nat) (g : Stage → Stage) : (s.modStage m g).hel = s.hel := rfl
@[simp] theorem Dev.modStage_seam (s : Dev) (m : Nat) (g : Stage → Stage) : (s.modStage m g).seam = s.seam := rfl
@[simp] theorem Dev.modStage_mxChains (s : Dev) (m : Nat) (g : Stage → Stage) : (s.modStage m g).mxChains = s.mxChains := rfl
@[simp] theorem Dev.modStage_mxSets (s : Dev) (m : Nat) (g : Stage → Stage) : (s.modStage m g).mxSets = s.mxSets := rfl
@[simp] theorem Dev.modStage_fab (s : Dev) (m : Nat) (g : Stage → Stage) : (s.modStage m g).fab = s.fab := rfl
@[simp] theorem Dev.modStage_seqMem (s : Dev) (m : Nat) (g : Stage → Stage) : (s.modStage m g).seqMem = s.seqMem := rfl
@[simp] theorem Dev.modStage_seqs (s : Dev) (m : Nat) (g : Stage → Stage) : (s.modStage m g).seqs = s.seqs := rfl
@[simp] theorem Dev.modStage_handlers (s : Dev) (m : Nat) (g : Stage → Stage) : (s.modStage m g).handlers = s.handlers := rfl
@[simp] theorem Dev.modStage_results (s : Dev) (m : Nat) (g : Stage → Stage) : (s.modStage m g).results = s.results := rfl
@[simp] theorem Dev.modStage_svy (s : Dev) (m : Nat) (g : Stage → Stage) : (s.modStage m g).svy = s.svy := rfl
@[simp] theorem Dev.modStage_cal (s : Dev) (m : Nat) (g : Stage → Stage) : (s.modStage m g).cal = s.cal := rfl
@[simp] theorem Dev.modStage_vec (s : Dev) (m : Nat) (g : Stage → Stage) : (s.modStage m g).vec = s.vec := rfl
@[simp] theorem Dev.modStage_fn (s : Dev) (m : Nat) (g : Stage → Stage) (i : Nat) : (s.modStage m g).fn i = s.fn i := rfl
@[simp] theorem Dev.modStage_chan (s : Dev) (m : Nat) (g : Stage → Stage) (i : Nat) : (s.modStage m g).chan i = s.chan i := rfl
@[simp] theorem Dev.modStage_eng (s : Dev) (m : Nat) (g : Stage → Stage) (i : Nat) : (s.modStage m g).eng i = s.eng i := rfl
@[simp] theorem Dev.modStage_helon (s : Dev) (m : Nat) (g : Stage → Stage) (i : Nat) : (s.modStage m g).helon i = s.helon i := rfl
@[simp] theorem Dev.modStage_gang (s : Dev) (m : Nat) (g : Stage → Stage) (i : Nat) : (s.modStage m g).gang i = s.gang i := rfl
@[simp] theorem Dev.modStage_chain (s : Dev) (m : Nat) (g : Stage → Stage) (i : Nat) : (s.modStage m g).chain i = s.chain i := rfl
@[simp] theorem Dev.modStage_xset (s : Dev) (m : Nat) (g : Stage → Stage) (i : Nat) : (s.modStage m g).xset i = s.xset i := rfl
@[simp] theorem Dev.modStage_route (s : Dev) (m : Nat) (g : Stage → Stage) (i : Nat) : (s.modStage m g).route i = s.route i := rfl
@[simp] theorem Dev.modStage_seq (s : Dev) (m : Nat) (g : Stage → Stage) (i : Nat) : (s.modStage m g).seq i = s.seq i := rfl
@[simp] theorem Dev.modStage_listEntry (s : Dev) (m : Nat) (g : Stage → Stage) (i : Nat) : (s.modStage m g).listEntry i = s.listEntry i := rfl
@[simp] theorem Dev.modStage_handler (s : Dev) (m : Nat) (g : Stage → Stage) (i : Nat) : (s.modStage m g).handler i = s.handler i := rfl
@[simp] theorem Dev.modStage_res (s : Dev) (m : Nat) (g : Stage → Stage) (i : Nat) : (s.modStage m g).res i = s.res i := rfl
@[simp] theorem Dev.modStage_vbank (s : Dev) (m : Nat) (g : Stage → Stage) (i : Nat) : (s.modStage m g).vbank i = s.vbank i := rfl
@[simp] theorem Dev.modStage_vstat (s : Dev) (m : Nat) (g : Stage → Stage) (i : Nat) : (s.modStage m g).vstat i = s.vstat i := rfl

/-! `Dev.modHelon` changes `hel` only. -/
@[simp] theorem Dev.modHelon_now (s : Dev) (c : Nat) (g : Helon → Helon) : (s.modHelon c g).now = s.now := rfl
@[simp] theorem Dev.modHelon_freeCtr (s : Dev) (c : Nat) (g : Helon → Helon) : (s.modHelon c g).freeCtr = s.freeCtr := rfl
@[simp] theorem Dev.modHelon_readData (s : Dev) (c : Nat) (g : Helon → Helon) : (s.modHelon c g).readData = s.readData := rfl
@[simp] theorem Dev.modHelon_msgs (s : Dev) (c : Nat) (g : Helon → Helon) : (s.modHelon c g).msgs = s.msgs := rfl
@[simp] theorem Dev.modHelon_fns (s : Dev) (c : Nat) (g : Helon → Helon) : (s.modHelon c g).fns = s.fns := rfl
@[simp] theorem Dev.modHelon_tg (s : Dev) (c : Nat) (g : Helon → Helon) : (s.modHelon c g).tg = s.tg := rfl
@[simp] theorem Dev.modHelon_assign (s : Dev) (c : Nat) (g : Helon → Helon) : (s.modHelon c g).assign = s.assign := rfl
@[simp] theorem Dev.modHelon_link (s : Dev) (c : Nat) (g : Helon → Helon) : (s.modHelon c g).link = s.link := rfl
@[simp] theorem Dev.modHelon_log (s : Dev) (c : Nat) (g : Helon → Helon) : (s.modHelon c g).log = s.log := rfl
@[simp] theorem Dev.modHelon_sys (s : Dev) (c : Nat) (g : Helon → Helon) : (s.modHelon c g).sys = s.sys := rfl
@[simp] theorem Dev.modHelon_store (s : Dev) (c : Nat) (g : Helon → Helon) : (s.modHelon c g).store = s.store := rfl
@[simp] theorem Dev.modHelon_tb (s : Dev) (c : Nat) (g : Helon → Helon) : (s.modHelon c g).tb = s.tb := rfl
@[simp] theorem Dev.modHelon_stages (s : Dev) (c : Nat) (g : Helon → Helon) : (s.modHelon c g).stages = s.stages := rfl
@[simp] theorem Dev.modHelon_engines (s : Dev) (c : Nat) (g : Helon → Helon) : (s.modHelon c g).engines = s.engines := rfl
@[simp] theorem Dev.modHelon_chans (s : Dev) (c : Nat) (g : Helon → Helon) : (s.modHelon c g).chans = s.chans := rfl
@[simp] theorem Dev.modHelon_gangs (s : Dev) (c : Nat) (g : Helon → Helon) : (s.modHelon c g).gangs = s.gangs := rfl
@[simp] theorem Dev.modHelon_swapGroups (s : Dev) (c : Nat) (g : Helon → Helon) : (s.modHelon c g).swapGroups = s.swapGroups := rfl
@[simp] theorem Dev.modHelon_swaps (s : Dev) (c : Nat) (g : Helon → Helon) : (s.modHelon c g).swaps = s.swaps := rfl
@[simp] theorem Dev.modHelon_seam (s : Dev) (c : Nat) (g : Helon → Helon) : (s.modHelon c g).seam = s.seam := rfl
@[simp] theorem Dev.modHelon_mxChains (s : Dev) (c : Nat) (g : Helon → Helon) : (s.modHelon c g).mxChains = s.mxChains := rfl
@[simp] theorem Dev.modHelon_mxSets (s : Dev) (c : Nat) (g : Helon → Helon) : (s.modHelon c g).mxSets = s.mxSets := rfl
@[simp] theorem Dev.modHelon_fab (s : Dev) (c : Nat) (g : Helon → Helon) : (s.modHelon c g).fab = s.fab := rfl
@[simp] theorem Dev.modHelon_seqMem (s : Dev) (c : Nat) (g : Helon → Helon) : (s.modHelon c g).seqMem = s.seqMem := rfl
@[simp] theorem Dev.modHelon_seqs (s : Dev) (c : Nat) (g : Helon → Helon) : (s.modHelon c g).seqs = s.seqs := rfl
@[simp] theorem Dev.modHelon_handlers (s : Dev) (c : Nat) (g : Helon → Helon) : (s.modHelon c g).handlers = s.handlers := rfl
@[simp] theorem Dev.modHelon_results (s : Dev) (c : Nat) (g : Helon → Helon) : (s.modHelon c g).results = s.results := rfl
@[simp] theorem Dev.modHelon_svy (s : Dev) (c : Nat) (g : Helon → Helon) : (s.modHelon c g).svy = s.svy := rfl
@[simp] theorem Dev.modHelon_cal (s : Dev) (c : Nat) (g : Helon → Helon) : (s.modHelon c g).cal = s.cal := rfl
@[simp] theorem Dev.modHelon_vec (s : Dev) (c : Nat) (g : Helon → Helon) : (s.modHelon c g).vec = s.vec := rfl
@[simp] theorem Dev.modHelon_fn (s : Dev) (c : Nat) (g : Helon → Helon) (i : Nat) : (s.modHelon c g).fn i = s.fn i := rfl
@[simp] theorem Dev.modHelon_chan (s : Dev) (c : Nat) (g : Helon → Helon) (i : Nat) : (s.modHelon c g).chan i = s.chan i := rfl
@[simp] theorem Dev.modHelon_eng (s : Dev) (c : Nat) (g : Helon → Helon) (i : Nat) : (s.modHelon c g).eng i = s.eng i := rfl
@[simp] theorem Dev.modHelon_stage (s : Dev) (c : Nat) (g : Helon → Helon) (i : Nat) : (s.modHelon c g).stage i = s.stage i := rfl
@[simp] theorem Dev.modHelon_gang (s : Dev) (c : Nat) (g : Helon → Helon) (i : Nat) : (s.modHelon c g).gang i = s.gang i := rfl
@[simp] theorem Dev.modHelon_chain (s : Dev) (c : Nat) (g : Helon → Helon) (i : Nat) : (s.modHelon c g).chain i = s.chain i := rfl
@[simp] theorem Dev.modHelon_xset (s : Dev) (c : Nat) (g : Helon → Helon) (i : Nat) : (s.modHelon c g).xset i = s.xset i := rfl
@[simp] theorem Dev.modHelon_route (s : Dev) (c : Nat) (g : Helon → Helon) (i : Nat) : (s.modHelon c g).route i = s.route i := rfl
@[simp] theorem Dev.modHelon_seq (s : Dev) (c : Nat) (g : Helon → Helon) (i : Nat) : (s.modHelon c g).seq i = s.seq i := rfl
@[simp] theorem Dev.modHelon_listEntry (s : Dev) (c : Nat) (g : Helon → Helon) (i : Nat) : (s.modHelon c g).listEntry i = s.listEntry i := rfl
@[simp] theorem Dev.modHelon_handler (s : Dev) (c : Nat) (g : Helon → Helon) (i : Nat) : (s.modHelon c g).handler i = s.handler i := rfl
@[simp] theorem Dev.modHelon_res (s : Dev) (c : Nat) (g : Helon → Helon) (i : Nat) : (s.modHelon c g).res i = s.res i := rfl
@[simp] theorem Dev.modHelon_vbank (s : Dev) (c : Nat) (g : Helon → Helon) (i : Nat) : (s.modHelon c g).vbank i = s.vbank i := rfl
@[simp] theorem Dev.modHelon_vstat (s : Dev) (c : Nat) (g : Helon → Helon) (i : Nat) : (s.modHelon c g).vstat i = s.vstat i := rfl

/-! `Dev.setGang` changes `gangs` only. -/
@[simp] theorem Dev.setGang_now (s : Dev) (k : Nat) (v : Option Gang) : (s.setGang k v).now = s.now := rfl
@[simp] theorem Dev.setGang_freeCtr (s : Dev) (k : Nat) (v : Option Gang) : (s.setGang k v).freeCtr = s.freeCtr := rfl
@[simp] theorem Dev.setGang_readData (s : Dev) (k : Nat) (v : Option Gang) : (s.setGang k v).readData = s.readData := rfl
@[simp] theorem Dev.setGang_msgs (s : Dev) (k : Nat) (v : Option Gang) : (s.setGang k v).msgs = s.msgs := rfl
@[simp] theorem Dev.setGang_fns (s : Dev) (k : Nat) (v : Option Gang) : (s.setGang k v).fns = s.fns := rfl
@[simp] theorem Dev.setGang_tg (s : Dev) (k : Nat) (v : Option Gang) : (s.setGang k v).tg = s.tg := rfl
@[simp] theorem Dev.setGang_assign (s : Dev) (k : Nat) (v : Option Gang) : (s.setGang k v).assign = s.assign := rfl
@[simp] theorem Dev.setGang_link (s : Dev) (k : Nat) (v : Option Gang) : (s.setGang k v).link = s.link := rfl
@[simp] theorem Dev.setGang_log (s : Dev) (k : Nat) (v : Option Gang) : (s.setGang k v).log = s.log := rfl
@[simp] theorem Dev.setGang_sys (s : Dev) (k : Nat) (v : Option Gang) : (s.setGang k v).sys = s.sys := rfl
@[simp] theorem Dev.setGang_store (s : Dev) (k : Nat) (v : Option Gang) : (s.setGang k v).store = s.store := rfl
@[simp] theorem Dev.setGang_tb (s : Dev) (k : Nat) (v : Option Gang) : (s.setGang k v).tb = s.tb := rfl
@[simp] theorem Dev.setGang_stages (s : Dev) (k : Nat) (v : Option Gang) : (s.setGang k v).stages = s.stages := rfl
@[simp] theorem Dev.setGang_engines (s : Dev) (k : Nat) (v : Option Gang) : (s.setGang k v).engines = s.engines := rfl
@[simp] theorem Dev.setGang_chans (s : Dev) (k : Nat) (v : Option Gang) : (s.setGang k v).chans = s.chans := rfl
@[simp] theorem Dev.setGang_swapGroups (s : Dev) (k : Nat) (v : Option Gang) : (s.setGang k v).swapGroups = s.swapGroups := rfl
@[simp] theorem Dev.setGang_swaps (s : Dev) (k : Nat) (v : Option Gang) : (s.setGang k v).swaps = s.swaps := rfl
@[simp] theorem Dev.setGang_hel (s : Dev) (k : Nat) (v : Option Gang) : (s.setGang k v).hel = s.hel := rfl
@[simp] theorem Dev.setGang_seam (s : Dev) (k : Nat) (v : Option Gang) : (s.setGang k v).seam = s.seam := rfl
@[simp] theorem Dev.setGang_mxChains (s : Dev) (k : Nat) (v : Option Gang) : (s.setGang k v).mxChains = s.mxChains := rfl
@[simp] theorem Dev.setGang_mxSets (s : Dev) (k : Nat) (v : Option Gang) : (s.setGang k v).mxSets = s.mxSets := rfl
@[simp] theorem Dev.setGang_fab (s : Dev) (k : Nat) (v : Option Gang) : (s.setGang k v).fab = s.fab := rfl
@[simp] theorem Dev.setGang_seqMem (s : Dev) (k : Nat) (v : Option Gang) : (s.setGang k v).seqMem = s.seqMem := rfl
@[simp] theorem Dev.setGang_seqs (s : Dev) (k : Nat) (v : Option Gang) : (s.setGang k v).seqs = s.seqs := rfl
@[simp] theorem Dev.setGang_handlers (s : Dev) (k : Nat) (v : Option Gang) : (s.setGang k v).handlers = s.handlers := rfl
@[simp] theorem Dev.setGang_results (s : Dev) (k : Nat) (v : Option Gang) : (s.setGang k v).results = s.results := rfl
@[simp] theorem Dev.setGang_svy (s : Dev) (k : Nat) (v : Option Gang) : (s.setGang k v).svy = s.svy := rfl
@[simp] theorem Dev.setGang_cal (s : Dev) (k : Nat) (v : Option Gang) : (s.setGang k v).cal = s.cal := rfl
@[simp] theorem Dev.setGang_vec (s : Dev) (k : Nat) (v : Option Gang) : (s.setGang k v).vec = s.vec := rfl
@[simp] theorem Dev.setGang_fn (s : Dev) (k : Nat) (v : Option Gang) (i : Nat) : (s.setGang k v).fn i = s.fn i := rfl
@[simp] theorem Dev.setGang_chan (s : Dev) (k : Nat) (v : Option Gang) (i : Nat) : (s.setGang k v).chan i = s.chan i := rfl
@[simp] theorem Dev.setGang_eng (s : Dev) (k : Nat) (v : Option Gang) (i : Nat) : (s.setGang k v).eng i = s.eng i := rfl
@[simp] theorem Dev.setGang_stage (s : Dev) (k : Nat) (v : Option Gang) (i : Nat) : (s.setGang k v).stage i = s.stage i := rfl
@[simp] theorem Dev.setGang_helon (s : Dev) (k : Nat) (v : Option Gang) (i : Nat) : (s.setGang k v).helon i = s.helon i := rfl
@[simp] theorem Dev.setGang_chain (s : Dev) (k : Nat) (v : Option Gang) (i : Nat) : (s.setGang k v).chain i = s.chain i := rfl
@[simp] theorem Dev.setGang_xset (s : Dev) (k : Nat) (v : Option Gang) (i : Nat) : (s.setGang k v).xset i = s.xset i := rfl
@[simp] theorem Dev.setGang_route (s : Dev) (k : Nat) (v : Option Gang) (i : Nat) : (s.setGang k v).route i = s.route i := rfl
@[simp] theorem Dev.setGang_seq (s : Dev) (k : Nat) (v : Option Gang) (i : Nat) : (s.setGang k v).seq i = s.seq i := rfl
@[simp] theorem Dev.setGang_listEntry (s : Dev) (k : Nat) (v : Option Gang) (i : Nat) : (s.setGang k v).listEntry i = s.listEntry i := rfl
@[simp] theorem Dev.setGang_handler (s : Dev) (k : Nat) (v : Option Gang) (i : Nat) : (s.setGang k v).handler i = s.handler i := rfl
@[simp] theorem Dev.setGang_res (s : Dev) (k : Nat) (v : Option Gang) (i : Nat) : (s.setGang k v).res i = s.res i := rfl
@[simp] theorem Dev.setGang_vbank (s : Dev) (k : Nat) (v : Option Gang) (i : Nat) : (s.setGang k v).vbank i = s.vbank i := rfl
@[simp] theorem Dev.setGang_vstat (s : Dev) (k : Nat) (v : Option Gang) (i : Nat) : (s.setGang k v).vstat i = s.vstat i := rfl

/-! `Dev.modChain` changes `mxChains` only. -/
@[simp] theorem Dev.modChain_now (s : Dev) (k : Nat) (g : Chain → Chain) : (s.modChain k g).now = s.now := rfl
@[simp] theorem Dev.modChain_freeCtr (s : Dev) (k : Nat) (g : Chain → Chain) : (s.modChain k g).freeCtr = s.freeCtr := rfl
@[simp] theorem Dev.modChain_readData (s : Dev) (k : Nat) (g : Chain → Chain) : (s.modChain k g).readData = s.readData := rfl
@[simp] theorem Dev.modChain_msgs (s : Dev) (k : Nat) (g : Chain → Chain) : (s.modChain k g).msgs = s.msgs := rfl
@[simp] theorem Dev.modChain_fns (s : Dev) (k : Nat) (g : Chain → Chain) : (s.modChain k g).fns = s.fns := rfl
@[simp] theorem Dev.modChain_tg (s : Dev) (k : Nat) (g : Chain → Chain) : (s.modChain k g).tg = s.tg := rfl
@[simp] theorem Dev.modChain_assign (s : Dev) (k : Nat) (g : Chain → Chain) : (s.modChain k g).assign = s.assign := rfl
@[simp] theorem Dev.modChain_link (s : Dev) (k : Nat) (g : Chain → Chain) : (s.modChain k g).link = s.link := rfl
@[simp] theorem Dev.modChain_log (s : Dev) (k : Nat) (g : Chain → Chain) : (s.modChain k g).log = s.log := rfl
@[simp] theorem Dev.modChain_sys (s : Dev) (k : Nat) (g : Chain → Chain) : (s.modChain k g).sys = s.sys := rfl
@[simp] theorem Dev.modChain_store (s : Dev) (k : Nat) (g : Chain → Chain) : (s.modChain k g).store = s.store := rfl
@[simp] theorem Dev.modChain_tb (s : Dev) (k : Nat) (g : Chain → Chain) : (s.modChain k g).tb = s.tb := rfl
@[simp] theorem Dev.modChain_stages (s : Dev) (k : Nat) (g : Chain → Chain) : (s.modChain k g).stages = s.stages := rfl
@[simp] theorem Dev.modChain_engines (s : Dev) (k : Nat) (g : Chain → Chain) : (s.modChain k g).engines = s.engines := rfl
@[simp] theorem Dev.modChain_chans (s : Dev) (k : Nat) (g : Chain → Chain) : (s.modChain k g).chans = s.chans := rfl
@[simp] theorem Dev.modChain_gangs (s : Dev) (k : Nat) (g : Chain → Chain) : (s.modChain k g).gangs = s.gangs := rfl
@[simp] theorem Dev.modChain_swapGroups (s : Dev) (k : Nat) (g : Chain → Chain) : (s.modChain k g).swapGroups = s.swapGroups := rfl
@[simp] theorem Dev.modChain_swaps (s : Dev) (k : Nat) (g : Chain → Chain) : (s.modChain k g).swaps = s.swaps := rfl
@[simp] theorem Dev.modChain_hel (s : Dev) (k : Nat) (g : Chain → Chain) : (s.modChain k g).hel = s.hel := rfl
@[simp] theorem Dev.modChain_seam (s : Dev) (k : Nat) (g : Chain → Chain) : (s.modChain k g).seam = s.seam := rfl
@[simp] theorem Dev.modChain_mxSets (s : Dev) (k : Nat) (g : Chain → Chain) : (s.modChain k g).mxSets = s.mxSets := rfl
@[simp] theorem Dev.modChain_fab (s : Dev) (k : Nat) (g : Chain → Chain) : (s.modChain k g).fab = s.fab := rfl
@[simp] theorem Dev.modChain_seqMem (s : Dev) (k : Nat) (g : Chain → Chain) : (s.modChain k g).seqMem = s.seqMem := rfl
@[simp] theorem Dev.modChain_seqs (s : Dev) (k : Nat) (g : Chain → Chain) : (s.modChain k g).seqs = s.seqs := rfl
@[simp] theorem Dev.modChain_handlers (s : Dev) (k : Nat) (g : Chain → Chain) : (s.modChain k g).handlers = s.handlers := rfl
@[simp] theorem Dev.modChain_results (s : Dev) (k : Nat) (g : Chain → Chain) : (s.modChain k g).results = s.results := rfl
@[simp] theorem Dev.modChain_svy (s : Dev) (k : Nat) (g : Chain → Chain) : (s.modChain k g).svy = s.svy := rfl
@[simp] theorem Dev.modChain_cal (s : Dev) (k : Nat) (g : Chain → Chain) : (s.modChain k g).cal = s.cal := rfl
@[simp] theorem Dev.modChain_vec (s : Dev) (k : Nat) (g : Chain → Chain) : (s.modChain k g).vec = s.vec := rfl
@[simp] theorem Dev.modChain_fn (s : Dev) (k : Nat) (g : Chain → Chain) (i : Nat) : (s.modChain k g).fn i = s.fn i := rfl
@[simp] theorem Dev.modChain_chan (s : Dev) (k : Nat) (g : Chain → Chain) (i : Nat) : (s.modChain k g).chan i = s.chan i := rfl
@[simp] theorem Dev.modChain_eng (s : Dev) (k : Nat) (g : Chain → Chain) (i : Nat) : (s.modChain k g).eng i = s.eng i := rfl
@[simp] theorem Dev.modChain_stage (s : Dev) (k : Nat) (g : Chain → Chain) (i : Nat) : (s.modChain k g).stage i = s.stage i := rfl
@[simp] theorem Dev.modChain_helon (s : Dev) (k : Nat) (g : Chain → Chain) (i : Nat) : (s.modChain k g).helon i = s.helon i := rfl
@[simp] theorem Dev.modChain_gang (s : Dev) (k : Nat) (g : Chain → Chain) (i : Nat) : (s.modChain k g).gang i = s.gang i := rfl
@[simp] theorem Dev.modChain_xset (s : Dev) (k : Nat) (g : Chain → Chain) (i : Nat) : (s.modChain k g).xset i = s.xset i := rfl
@[simp] theorem Dev.modChain_route (s : Dev) (k : Nat) (g : Chain → Chain) (i : Nat) : (s.modChain k g).route i = s.route i := rfl
@[simp] theorem Dev.modChain_seq (s : Dev) (k : Nat) (g : Chain → Chain) (i : Nat) : (s.modChain k g).seq i = s.seq i := rfl
@[simp] theorem Dev.modChain_listEntry (s : Dev) (k : Nat) (g : Chain → Chain) (i : Nat) : (s.modChain k g).listEntry i = s.listEntry i := rfl
@[simp] theorem Dev.modChain_handler (s : Dev) (k : Nat) (g : Chain → Chain) (i : Nat) : (s.modChain k g).handler i = s.handler i := rfl
@[simp] theorem Dev.modChain_res (s : Dev) (k : Nat) (g : Chain → Chain) (i : Nat) : (s.modChain k g).res i = s.res i := rfl
@[simp] theorem Dev.modChain_vbank (s : Dev) (k : Nat) (g : Chain → Chain) (i : Nat) : (s.modChain k g).vbank i = s.vbank i := rfl
@[simp] theorem Dev.modChain_vstat (s : Dev) (k : Nat) (g : Chain → Chain) (i : Nat) : (s.modChain k g).vstat i = s.vstat i := rfl

/-! `Dev.modSet` changes `mxSets` only. -/
@[simp] theorem Dev.modSet_now (s : Dev) (k : Nat) (g : XSet → XSet) : (s.modSet k g).now = s.now := rfl
@[simp] theorem Dev.modSet_freeCtr (s : Dev) (k : Nat) (g : XSet → XSet) : (s.modSet k g).freeCtr = s.freeCtr := rfl
@[simp] theorem Dev.modSet_readData (s : Dev) (k : Nat) (g : XSet → XSet) : (s.modSet k g).readData = s.readData := rfl
@[simp] theorem Dev.modSet_msgs (s : Dev) (k : Nat) (g : XSet → XSet) : (s.modSet k g).msgs = s.msgs := rfl
@[simp] theorem Dev.modSet_fns (s : Dev) (k : Nat) (g : XSet → XSet) : (s.modSet k g).fns = s.fns := rfl
@[simp] theorem Dev.modSet_tg (s : Dev) (k : Nat) (g : XSet → XSet) : (s.modSet k g).tg = s.tg := rfl
@[simp] theorem Dev.modSet_assign (s : Dev) (k : Nat) (g : XSet → XSet) : (s.modSet k g).assign = s.assign := rfl
@[simp] theorem Dev.modSet_link (s : Dev) (k : Nat) (g : XSet → XSet) : (s.modSet k g).link = s.link := rfl
@[simp] theorem Dev.modSet_log (s : Dev) (k : Nat) (g : XSet → XSet) : (s.modSet k g).log = s.log := rfl
@[simp] theorem Dev.modSet_sys (s : Dev) (k : Nat) (g : XSet → XSet) : (s.modSet k g).sys = s.sys := rfl
@[simp] theorem Dev.modSet_store (s : Dev) (k : Nat) (g : XSet → XSet) : (s.modSet k g).store = s.store := rfl
@[simp] theorem Dev.modSet_tb (s : Dev) (k : Nat) (g : XSet → XSet) : (s.modSet k g).tb = s.tb := rfl
@[simp] theorem Dev.modSet_stages (s : Dev) (k : Nat) (g : XSet → XSet) : (s.modSet k g).stages = s.stages := rfl
@[simp] theorem Dev.modSet_engines (s : Dev) (k : Nat) (g : XSet → XSet) : (s.modSet k g).engines = s.engines := rfl
@[simp] theorem Dev.modSet_chans (s : Dev) (k : Nat) (g : XSet → XSet) : (s.modSet k g).chans = s.chans := rfl
@[simp] theorem Dev.modSet_gangs (s : Dev) (k : Nat) (g : XSet → XSet) : (s.modSet k g).gangs = s.gangs := rfl
@[simp] theorem Dev.modSet_swapGroups (s : Dev) (k : Nat) (g : XSet → XSet) : (s.modSet k g).swapGroups = s.swapGroups := rfl
@[simp] theorem Dev.modSet_swaps (s : Dev) (k : Nat) (g : XSet → XSet) : (s.modSet k g).swaps = s.swaps := rfl
@[simp] theorem Dev.modSet_hel (s : Dev) (k : Nat) (g : XSet → XSet) : (s.modSet k g).hel = s.hel := rfl
@[simp] theorem Dev.modSet_seam (s : Dev) (k : Nat) (g : XSet → XSet) : (s.modSet k g).seam = s.seam := rfl
@[simp] theorem Dev.modSet_mxChains (s : Dev) (k : Nat) (g : XSet → XSet) : (s.modSet k g).mxChains = s.mxChains := rfl
@[simp] theorem Dev.modSet_fab (s : Dev) (k : Nat) (g : XSet → XSet) : (s.modSet k g).fab = s.fab := rfl
@[simp] theorem Dev.modSet_seqMem (s : Dev) (k : Nat) (g : XSet → XSet) : (s.modSet k g).seqMem = s.seqMem := rfl
@[simp] theorem Dev.modSet_seqs (s : Dev) (k : Nat) (g : XSet → XSet) : (s.modSet k g).seqs = s.seqs := rfl
@[simp] theorem Dev.modSet_handlers (s : Dev) (k : Nat) (g : XSet → XSet) : (s.modSet k g).handlers = s.handlers := rfl
@[simp] theorem Dev.modSet_results (s : Dev) (k : Nat) (g : XSet → XSet) : (s.modSet k g).results = s.results := rfl
@[simp] theorem Dev.modSet_svy (s : Dev) (k : Nat) (g : XSet → XSet) : (s.modSet k g).svy = s.svy := rfl
@[simp] theorem Dev.modSet_cal (s : Dev) (k : Nat) (g : XSet → XSet) : (s.modSet k g).cal = s.cal := rfl
@[simp] theorem Dev.modSet_vec (s : Dev) (k : Nat) (g : XSet → XSet) : (s.modSet k g).vec = s.vec := rfl
@[simp] theorem Dev.modSet_fn (s : Dev) (k : Nat) (g : XSet → XSet) (i : Nat) : (s.modSet k g).fn i = s.fn i := rfl
@[simp] theorem Dev.modSet_chan (s : Dev) (k : Nat) (g : XSet → XSet) (i : Nat) : (s.modSet k g).chan i = s.chan i := rfl
@[simp] theorem Dev.modSet_eng (s : Dev) (k : Nat) (g : XSet → XSet) (i : Nat) : (s.modSet k g).eng i = s.eng i := rfl
@[simp] theorem Dev.modSet_stage (s : Dev) (k : Nat) (g : XSet → XSet) (i : Nat) : (s.modSet k g).stage i = s.stage i := rfl
@[simp] theorem Dev.modSet_helon (s : Dev) (k : Nat) (g : XSet → XSet) (i : Nat) : (s.modSet k g).helon i = s.helon i := rfl
@[simp] theorem Dev.modSet_gang (s : Dev) (k : Nat) (g : XSet → XSet) (i : Nat) : (s.modSet k g).gang i = s.gang i := rfl
@[simp] theorem Dev.modSet_chain (s : Dev) (k : Nat) (g : XSet → XSet) (i : Nat) : (s.modSet k g).chain i = s.chain i := rfl
@[simp] theorem Dev.modSet_route (s : Dev) (k : Nat) (g : XSet → XSet) (i : Nat) : (s.modSet k g).route i = s.route i := rfl
@[simp] theorem Dev.modSet_seq (s : Dev) (k : Nat) (g : XSet → XSet) (i : Nat) : (s.modSet k g).seq i = s.seq i := rfl
@[simp] theorem Dev.modSet_listEntry (s : Dev) (k : Nat) (g : XSet → XSet) (i : Nat) : (s.modSet k g).listEntry i = s.listEntry i := rfl
@[simp] theorem Dev.modSet_handler (s : Dev) (k : Nat) (g : XSet → XSet) (i : Nat) : (s.modSet k g).handler i = s.handler i := rfl
@[simp] theorem Dev.modSet_res (s : Dev) (k : Nat) (g : XSet → XSet) (i : Nat) : (s.modSet k g).res i = s.res i := rfl
@[simp] theorem Dev.modSet_vbank (s : Dev) (k : Nat) (g : XSet → XSet) (i : Nat) : (s.modSet k g).vbank i = s.vbank i := rfl
@[simp] theorem Dev.modSet_vstat (s : Dev) (k : Nat) (g : XSet → XSet) (i : Nat) : (s.modSet k g).vstat i = s.vstat i := rfl

/-! `Dev.modFab` changes `fab` only. -/
@[simp] theorem Dev.modFab_now (s : Dev) (g : Fabric → Fabric) : (s.modFab g).now = s.now := rfl
@[simp] theorem Dev.modFab_freeCtr (s : Dev) (g : Fabric → Fabric) : (s.modFab g).freeCtr = s.freeCtr := rfl
@[simp] theorem Dev.modFab_readData (s : Dev) (g : Fabric → Fabric) : (s.modFab g).readData = s.readData := rfl
@[simp] theorem Dev.modFab_msgs (s : Dev) (g : Fabric → Fabric) : (s.modFab g).msgs = s.msgs := rfl
@[simp] theorem Dev.modFab_fns (s : Dev) (g : Fabric → Fabric) : (s.modFab g).fns = s.fns := rfl
@[simp] theorem Dev.modFab_tg (s : Dev) (g : Fabric → Fabric) : (s.modFab g).tg = s.tg := rfl
@[simp] theorem Dev.modFab_assign (s : Dev) (g : Fabric → Fabric) : (s.modFab g).assign = s.assign := rfl
@[simp] theorem Dev.modFab_link (s : Dev) (g : Fabric → Fabric) : (s.modFab g).link = s.link := rfl
@[simp] theorem Dev.modFab_log (s : Dev) (g : Fabric → Fabric) : (s.modFab g).log = s.log := rfl
@[simp] theorem Dev.modFab_sys (s : Dev) (g : Fabric → Fabric) : (s.modFab g).sys = s.sys := rfl
@[simp] theorem Dev.modFab_store (s : Dev) (g : Fabric → Fabric) : (s.modFab g).store = s.store := rfl
@[simp] theorem Dev.modFab_tb (s : Dev) (g : Fabric → Fabric) : (s.modFab g).tb = s.tb := rfl
@[simp] theorem Dev.modFab_stages (s : Dev) (g : Fabric → Fabric) : (s.modFab g).stages = s.stages := rfl
@[simp] theorem Dev.modFab_engines (s : Dev) (g : Fabric → Fabric) : (s.modFab g).engines = s.engines := rfl
@[simp] theorem Dev.modFab_chans (s : Dev) (g : Fabric → Fabric) : (s.modFab g).chans = s.chans := rfl
@[simp] theorem Dev.modFab_gangs (s : Dev) (g : Fabric → Fabric) : (s.modFab g).gangs = s.gangs := rfl
@[simp] theorem Dev.modFab_swapGroups (s : Dev) (g : Fabric → Fabric) : (s.modFab g).swapGroups = s.swapGroups := rfl
@[simp] theorem Dev.modFab_swaps (s : Dev) (g : Fabric → Fabric) : (s.modFab g).swaps = s.swaps := rfl
@[simp] theorem Dev.modFab_hel (s : Dev) (g : Fabric → Fabric) : (s.modFab g).hel = s.hel := rfl
@[simp] theorem Dev.modFab_seam (s : Dev) (g : Fabric → Fabric) : (s.modFab g).seam = s.seam := rfl
@[simp] theorem Dev.modFab_mxChains (s : Dev) (g : Fabric → Fabric) : (s.modFab g).mxChains = s.mxChains := rfl
@[simp] theorem Dev.modFab_mxSets (s : Dev) (g : Fabric → Fabric) : (s.modFab g).mxSets = s.mxSets := rfl
@[simp] theorem Dev.modFab_seqMem (s : Dev) (g : Fabric → Fabric) : (s.modFab g).seqMem = s.seqMem := rfl
@[simp] theorem Dev.modFab_seqs (s : Dev) (g : Fabric → Fabric) : (s.modFab g).seqs = s.seqs := rfl
@[simp] theorem Dev.modFab_handlers (s : Dev) (g : Fabric → Fabric) : (s.modFab g).handlers = s.handlers := rfl
@[simp] theorem Dev.modFab_results (s : Dev) (g : Fabric → Fabric) : (s.modFab g).results = s.results := rfl
@[simp] theorem Dev.modFab_svy (s : Dev) (g : Fabric → Fabric) : (s.modFab g).svy = s.svy := rfl
@[simp] theorem Dev.modFab_cal (s : Dev) (g : Fabric → Fabric) : (s.modFab g).cal = s.cal := rfl
@[simp] theorem Dev.modFab_vec (s : Dev) (g : Fabric → Fabric) : (s.modFab g).vec = s.vec := rfl
@[simp] theorem Dev.modFab_fab (s : Dev) (g : Fabric → Fabric) : (s.modFab g).fab = g s.fab := rfl
@[simp] theorem Dev.modFab_fn (s : Dev) (g : Fabric → Fabric) (i : Nat) : (s.modFab g).fn i = s.fn i := rfl
@[simp] theorem Dev.modFab_chan (s : Dev) (g : Fabric → Fabric) (i : Nat) : (s.modFab g).chan i = s.chan i := rfl
@[simp] theorem Dev.modFab_eng (s : Dev) (g : Fabric → Fabric) (i : Nat) : (s.modFab g).eng i = s.eng i := rfl
@[simp] theorem Dev.modFab_stage (s : Dev) (g : Fabric → Fabric) (i : Nat) : (s.modFab g).stage i = s.stage i := rfl
@[simp] theorem Dev.modFab_helon (s : Dev) (g : Fabric → Fabric) (i : Nat) : (s.modFab g).helon i = s.helon i := rfl
@[simp] theorem Dev.modFab_gang (s : Dev) (g : Fabric → Fabric) (i : Nat) : (s.modFab g).gang i = s.gang i := rfl
@[simp] theorem Dev.modFab_chain (s : Dev) (g : Fabric → Fabric) (i : Nat) : (s.modFab g).chain i = s.chain i := rfl
@[simp] theorem Dev.modFab_xset (s : Dev) (g : Fabric → Fabric) (i : Nat) : (s.modFab g).xset i = s.xset i := rfl
@[simp] theorem Dev.modFab_seq (s : Dev) (g : Fabric → Fabric) (i : Nat) : (s.modFab g).seq i = s.seq i := rfl
@[simp] theorem Dev.modFab_listEntry (s : Dev) (g : Fabric → Fabric) (i : Nat) : (s.modFab g).listEntry i = s.listEntry i := rfl
@[simp] theorem Dev.modFab_handler (s : Dev) (g : Fabric → Fabric) (i : Nat) : (s.modFab g).handler i = s.handler i := rfl
@[simp] theorem Dev.modFab_res (s : Dev) (g : Fabric → Fabric) (i : Nat) : (s.modFab g).res i = s.res i := rfl
@[simp] theorem Dev.modFab_vbank (s : Dev) (g : Fabric → Fabric) (i : Nat) : (s.modFab g).vbank i = s.vbank i := rfl
@[simp] theorem Dev.modFab_vstat (s : Dev) (g : Fabric → Fabric) (i : Nat) : (s.modFab g).vstat i = s.vstat i := rfl

/-! `Dev.modRoute` changes `fab` only. -/
@[simp] theorem Dev.modRoute_now (s : Dev) (r : Nat) (g : Route → Route) : (s.modRoute r g).now = s.now := rfl
@[simp] theorem Dev.modRoute_freeCtr (s : Dev) (r : Nat) (g : Route → Route) : (s.modRoute r g).freeCtr = s.freeCtr := rfl
@[simp] theorem Dev.modRoute_readData (s : Dev) (r : Nat) (g : Route → Route) : (s.modRoute r g).readData = s.readData := rfl
@[simp] theorem Dev.modRoute_msgs (s : Dev) (r : Nat) (g : Route → Route) : (s.modRoute r g).msgs = s.msgs := rfl
@[simp] theorem Dev.modRoute_fns (s : Dev) (r : Nat) (g : Route → Route) : (s.modRoute r g).fns = s.fns := rfl
@[simp] theorem Dev.modRoute_tg (s : Dev) (r : Nat) (g : Route → Route) : (s.modRoute r g).tg = s.tg := rfl
@[simp] theorem Dev.modRoute_assign (s : Dev) (r : Nat) (g : Route → Route) : (s.modRoute r g).assign = s.assign := rfl
@[simp] theorem Dev.modRoute_link (s : Dev) (r : Nat) (g : Route → Route) : (s.modRoute r g).link = s.link := rfl
@[simp] theorem Dev.modRoute_log (s : Dev) (r : Nat) (g : Route → Route) : (s.modRoute r g).log = s.log := rfl
@[simp] theorem Dev.modRoute_sys (s : Dev) (r : Nat) (g : Route → Route) : (s.modRoute r g).sys = s.sys := rfl
@[simp] theorem Dev.modRoute_store (s : Dev) (r : Nat) (g : Route → Route) : (s.modRoute r g).store = s.store := rfl
@[simp] theorem Dev.modRoute_tb (s : Dev) (r : Nat) (g : Route → Route) : (s.modRoute r g).tb = s.tb := rfl
@[simp] theorem Dev.modRoute_stages (s : Dev) (r : Nat) (g : Route → Route) : (s.modRoute r g).stages = s.stages := rfl
@[simp] theorem Dev.modRoute_engines (s : Dev) (r : Nat) (g : Route → Route) : (s.modRoute r g).engines = s.engines := rfl
@[simp] theorem Dev.modRoute_chans (s : Dev) (r : Nat) (g : Route → Route) : (s.modRoute r g).chans = s.chans := rfl
@[simp] theorem Dev.modRoute_gangs (s : Dev) (r : Nat) (g : Route → Route) : (s.modRoute r g).gangs = s.gangs := rfl
@[simp] theorem Dev.modRoute_swapGroups (s : Dev) (r : Nat) (g : Route → Route) : (s.modRoute r g).swapGroups = s.swapGroups := rfl
@[simp] theorem Dev.modRoute_swaps (s : Dev) (r : Nat) (g : Route → Route) : (s.modRoute r g).swaps = s.swaps := rfl
@[simp] theorem Dev.modRoute_hel (s : Dev) (r : Nat) (g : Route → Route) : (s.modRoute r g).hel = s.hel := rfl
@[simp] theorem Dev.modRoute_seam (s : Dev) (r : Nat) (g : Route → Route) : (s.modRoute r g).seam = s.seam := rfl
@[simp] theorem Dev.modRoute_mxChains (s : Dev) (r : Nat) (g : Route → Route) : (s.modRoute r g).mxChains = s.mxChains := rfl
@[simp] theorem Dev.modRoute_mxSets (s : Dev) (r : Nat) (g : Route → Route) : (s.modRoute r g).mxSets = s.mxSets := rfl
@[simp] theorem Dev.modRoute_seqMem (s : Dev) (r : Nat) (g : Route → Route) : (s.modRoute r g).seqMem = s.seqMem := rfl
@[simp] theorem Dev.modRoute_seqs (s : Dev) (r : Nat) (g : Route → Route) : (s.modRoute r g).seqs = s.seqs := rfl
@[simp] theorem Dev.modRoute_handlers (s : Dev) (r : Nat) (g : Route → Route) : (s.modRoute r g).handlers = s.handlers := rfl
@[simp] theorem Dev.modRoute_results (s : Dev) (r : Nat) (g : Route → Route) : (s.modRoute r g).results = s.results := rfl
@[simp] theorem Dev.modRoute_svy (s : Dev) (r : Nat) (g : Route → Route) : (s.modRoute r g).svy = s.svy := rfl
@[simp] theorem Dev.modRoute_cal (s : Dev) (r : Nat) (g : Route → Route) : (s.modRoute r g).cal = s.cal := rfl
@[simp] theorem Dev.modRoute_vec (s : Dev) (r : Nat) (g : Route → Route) : (s.modRoute r g).vec = s.vec := rfl
@[simp] theorem Dev.modRoute_fn (s : Dev) (r : Nat) (g : Route → Route) (i : Nat) : (s.modRoute r g).fn i = s.fn i := rfl
@[simp] theorem Dev.modRoute_chan (s : Dev) (r : Nat) (g : Route → Route) (i : Nat) : (s.modRoute r g).chan i = s.chan i := rfl
@[simp] theorem Dev.modRoute_eng (s : Dev) (r : Nat) (g : Route → Route) (i : Nat) : (s.modRoute r g).eng i = s.eng i := rfl
@[simp] theorem Dev.modRoute_stage (s : Dev) (r : Nat) (g : Route → Route) (i : Nat) : (s.modRoute r g).stage i = s.stage i := rfl
@[simp] theorem Dev.modRoute_helon (s : Dev) (r : Nat) (g : Route → Route) (i : Nat) : (s.modRoute r g).helon i = s.helon i := rfl
@[simp] theorem Dev.modRoute_gang (s : Dev) (r : Nat) (g : Route → Route) (i : Nat) : (s.modRoute r g).gang i = s.gang i := rfl
@[simp] theorem Dev.modRoute_chain (s : Dev) (r : Nat) (g : Route → Route) (i : Nat) : (s.modRoute r g).chain i = s.chain i := rfl
@[simp] theorem Dev.modRoute_xset (s : Dev) (r : Nat) (g : Route → Route) (i : Nat) : (s.modRoute r g).xset i = s.xset i := rfl
@[simp] theorem Dev.modRoute_seq (s : Dev) (r : Nat) (g : Route → Route) (i : Nat) : (s.modRoute r g).seq i = s.seq i := rfl
@[simp] theorem Dev.modRoute_listEntry (s : Dev) (r : Nat) (g : Route → Route) (i : Nat) : (s.modRoute r g).listEntry i = s.listEntry i := rfl
@[simp] theorem Dev.modRoute_handler (s : Dev) (r : Nat) (g : Route → Route) (i : Nat) : (s.modRoute r g).handler i = s.handler i := rfl
@[simp] theorem Dev.modRoute_res (s : Dev) (r : Nat) (g : Route → Route) (i : Nat) : (s.modRoute r g).res i = s.res i := rfl
@[simp] theorem Dev.modRoute_vbank (s : Dev) (r : Nat) (g : Route → Route) (i : Nat) : (s.modRoute r g).vbank i = s.vbank i := rfl
@[simp] theorem Dev.modRoute_vstat (s : Dev) (r : Nat) (g : Route → Route) (i : Nat) : (s.modRoute r g).vstat i = s.vstat i := rfl

/-! `Dev.modSeam` changes `seam` only. -/
@[simp] theorem Dev.modSeam_now (s : Dev) (g : Seam → Seam) : (s.modSeam g).now = s.now := rfl
@[simp] theorem Dev.modSeam_freeCtr (s : Dev) (g : Seam → Seam) : (s.modSeam g).freeCtr = s.freeCtr := rfl
@[simp] theorem Dev.modSeam_readData (s : Dev) (g : Seam → Seam) : (s.modSeam g).readData = s.readData := rfl
@[simp] theorem Dev.modSeam_msgs (s : Dev) (g : Seam → Seam) : (s.modSeam g).msgs = s.msgs := rfl
@[simp] theorem Dev.modSeam_fns (s : Dev) (g : Seam → Seam) : (s.modSeam g).fns = s.fns := rfl
@[simp] theorem Dev.modSeam_tg (s : Dev) (g : Seam → Seam) : (s.modSeam g).tg = s.tg := rfl
@[simp] theorem Dev.modSeam_assign (s : Dev) (g : Seam → Seam) : (s.modSeam g).assign = s.assign := rfl
@[simp] theorem Dev.modSeam_link (s : Dev) (g : Seam → Seam) : (s.modSeam g).link = s.link := rfl
@[simp] theorem Dev.modSeam_log (s : Dev) (g : Seam → Seam) : (s.modSeam g).log = s.log := rfl
@[simp] theorem Dev.modSeam_sys (s : Dev) (g : Seam → Seam) : (s.modSeam g).sys = s.sys := rfl
@[simp] theorem Dev.modSeam_store (s : Dev) (g : Seam → Seam) : (s.modSeam g).store = s.store := rfl
@[simp] theorem Dev.modSeam_tb (s : Dev) (g : Seam → Seam) : (s.modSeam g).tb = s.tb := rfl
@[simp] theorem Dev.modSeam_stages (s : Dev) (g : Seam → Seam) : (s.modSeam g).stages = s.stages := rfl
@[simp] theorem Dev.modSeam_engines (s : Dev) (g : Seam → Seam) : (s.modSeam g).engines = s.engines := rfl
@[simp] theorem Dev.modSeam_chans (s : Dev) (g : Seam → Seam) : (s.modSeam g).chans = s.chans := rfl
@[simp] theorem Dev.modSeam_gangs (s : Dev) (g : Seam → Seam) : (s.modSeam g).gangs = s.gangs := rfl
@[simp] theorem Dev.modSeam_swapGroups (s : Dev) (g : Seam → Seam) : (s.modSeam g).swapGroups = s.swapGroups := rfl
@[simp] theorem Dev.modSeam_swaps (s : Dev) (g : Seam → Seam) : (s.modSeam g).swaps = s.swaps := rfl
@[simp] theorem Dev.modSeam_hel (s : Dev) (g : Seam → Seam) : (s.modSeam g).hel = s.hel := rfl
@[simp] theorem Dev.modSeam_mxChains (s : Dev) (g : Seam → Seam) : (s.modSeam g).mxChains = s.mxChains := rfl
@[simp] theorem Dev.modSeam_mxSets (s : Dev) (g : Seam → Seam) : (s.modSeam g).mxSets = s.mxSets := rfl
@[simp] theorem Dev.modSeam_fab (s : Dev) (g : Seam → Seam) : (s.modSeam g).fab = s.fab := rfl
@[simp] theorem Dev.modSeam_seqMem (s : Dev) (g : Seam → Seam) : (s.modSeam g).seqMem = s.seqMem := rfl
@[simp] theorem Dev.modSeam_seqs (s : Dev) (g : Seam → Seam) : (s.modSeam g).seqs = s.seqs := rfl
@[simp] theorem Dev.modSeam_handlers (s : Dev) (g : Seam → Seam) : (s.modSeam g).handlers = s.handlers := rfl
@[simp] theorem Dev.modSeam_results (s : Dev) (g : Seam → Seam) : (s.modSeam g).results = s.results := rfl
@[simp] theorem Dev.modSeam_svy (s : Dev) (g : Seam → Seam) : (s.modSeam g).svy = s.svy := rfl
@[simp] theorem Dev.modSeam_cal (s : Dev) (g : Seam → Seam) : (s.modSeam g).cal = s.cal := rfl
@[simp] theorem Dev.modSeam_vec (s : Dev) (g : Seam → Seam) : (s.modSeam g).vec = s.vec := rfl
@[simp] theorem Dev.modSeam_seam (s : Dev) (g : Seam → Seam) : (s.modSeam g).seam = g s.seam := rfl
@[simp] theorem Dev.modSeam_fn (s : Dev) (g : Seam → Seam) (i : Nat) : (s.modSeam g).fn i = s.fn i := rfl
@[simp] theorem Dev.modSeam_chan (s : Dev) (g : Seam → Seam) (i : Nat) : (s.modSeam g).chan i = s.chan i := rfl
@[simp] theorem Dev.modSeam_eng (s : Dev) (g : Seam → Seam) (i : Nat) : (s.modSeam g).eng i = s.eng i := rfl
@[simp] theorem Dev.modSeam_stage (s : Dev) (g : Seam → Seam) (i : Nat) : (s.modSeam g).stage i = s.stage i := rfl
@[simp] theorem Dev.modSeam_helon (s : Dev) (g : Seam → Seam) (i : Nat) : (s.modSeam g).helon i = s.helon i := rfl
@[simp] theorem Dev.modSeam_gang (s : Dev) (g : Seam → Seam) (i : Nat) : (s.modSeam g).gang i = s.gang i := rfl
@[simp] theorem Dev.modSeam_chain (s : Dev) (g : Seam → Seam) (i : Nat) : (s.modSeam g).chain i = s.chain i := rfl
@[simp] theorem Dev.modSeam_xset (s : Dev) (g : Seam → Seam) (i : Nat) : (s.modSeam g).xset i = s.xset i := rfl
@[simp] theorem Dev.modSeam_route (s : Dev) (g : Seam → Seam) (i : Nat) : (s.modSeam g).route i = s.route i := rfl
@[simp] theorem Dev.modSeam_seq (s : Dev) (g : Seam → Seam) (i : Nat) : (s.modSeam g).seq i = s.seq i := rfl
@[simp] theorem Dev.modSeam_listEntry (s : Dev) (g : Seam → Seam) (i : Nat) : (s.modSeam g).listEntry i = s.listEntry i := rfl
@[simp] theorem Dev.modSeam_handler (s : Dev) (g : Seam → Seam) (i : Nat) : (s.modSeam g).handler i = s.handler i := rfl
@[simp] theorem Dev.modSeam_res (s : Dev) (g : Seam → Seam) (i : Nat) : (s.modSeam g).res i = s.res i := rfl
@[simp] theorem Dev.modSeam_vbank (s : Dev) (g : Seam → Seam) (i : Nat) : (s.modSeam g).vbank i = s.vbank i := rfl
@[simp] theorem Dev.modSeam_vstat (s : Dev) (g : Seam → Seam) (i : Nat) : (s.modSeam g).vstat i = s.vstat i := rfl

/-! `Dev.modSys` changes `sys` only. -/
@[simp] theorem Dev.modSys_now (s : Dev) (g : SysCtl → SysCtl) : (s.modSys g).now = s.now := rfl
@[simp] theorem Dev.modSys_freeCtr (s : Dev) (g : SysCtl → SysCtl) : (s.modSys g).freeCtr = s.freeCtr := rfl
@[simp] theorem Dev.modSys_readData (s : Dev) (g : SysCtl → SysCtl) : (s.modSys g).readData = s.readData := rfl
@[simp] theorem Dev.modSys_msgs (s : Dev) (g : SysCtl → SysCtl) : (s.modSys g).msgs = s.msgs := rfl
@[simp] theorem Dev.modSys_fns (s : Dev) (g : SysCtl → SysCtl) : (s.modSys g).fns = s.fns := rfl
@[simp] theorem Dev.modSys_tg (s : Dev) (g : SysCtl → SysCtl) : (s.modSys g).tg = s.tg := rfl
@[simp] theorem Dev.modSys_assign (s : Dev) (g : SysCtl → SysCtl) : (s.modSys g).assign = s.assign := rfl
@[simp] theorem Dev.modSys_link (s : Dev) (g : SysCtl → SysCtl) : (s.modSys g).link = s.link := rfl
@[simp] theorem Dev.modSys_log (s : Dev) (g : SysCtl → SysCtl) : (s.modSys g).log = s.log := rfl
@[simp] theorem Dev.modSys_store (s : Dev) (g : SysCtl → SysCtl) : (s.modSys g).store = s.store := rfl
@[simp] theorem Dev.modSys_tb (s : Dev) (g : SysCtl → SysCtl) : (s.modSys g).tb = s.tb := rfl
@[simp] theorem Dev.modSys_stages (s : Dev) (g : SysCtl → SysCtl) : (s.modSys g).stages = s.stages := rfl
@[simp] theorem Dev.modSys_engines (s : Dev) (g : SysCtl → SysCtl) : (s.modSys g).engines = s.engines := rfl
@[simp] theorem Dev.modSys_chans (s : Dev) (g : SysCtl → SysCtl) : (s.modSys g).chans = s.chans := rfl
@[simp] theorem Dev.modSys_gangs (s : Dev) (g : SysCtl → SysCtl) : (s.modSys g).gangs = s.gangs := rfl
@[simp] theorem Dev.modSys_swapGroups (s : Dev) (g : SysCtl → SysCtl) : (s.modSys g).swapGroups = s.swapGroups := rfl
@[simp] theorem Dev.modSys_swaps (s : Dev) (g : SysCtl → SysCtl) : (s.modSys g).swaps = s.swaps := rfl
@[simp] theorem Dev.modSys_hel (s : Dev) (g : SysCtl → SysCtl) : (s.modSys g).hel = s.hel := rfl
@[simp] theorem Dev.modSys_seam (s : Dev) (g : SysCtl → SysCtl) : (s.modSys g).seam = s.seam := rfl
@[simp] theorem Dev.modSys_mxChains (s : Dev) (g : SysCtl → SysCtl) : (s.modSys g).mxChains = s.mxChains := rfl
@[simp] theorem Dev.modSys_mxSets (s : Dev) (g : SysCtl → SysCtl) : (s.modSys g).mxSets = s.mxSets := rfl
@[simp] theorem Dev.modSys_fab (s : Dev) (g : SysCtl → SysCtl) : (s.modSys g).fab = s.fab := rfl
@[simp] theorem Dev.modSys_seqMem (s : Dev) (g : SysCtl → SysCtl) : (s.modSys g).seqMem = s.seqMem := rfl
@[simp] theorem Dev.modSys_seqs (s : Dev) (g : SysCtl → SysCtl) : (s.modSys g).seqs = s.seqs := rfl
@[simp] theorem Dev.modSys_handlers (s : Dev) (g : SysCtl → SysCtl) : (s.modSys g).handlers = s.handlers := rfl
@[simp] theorem Dev.modSys_results (s : Dev) (g : SysCtl → SysCtl) : (s.modSys g).results = s.results := rfl
@[simp] theorem Dev.modSys_svy (s : Dev) (g : SysCtl → SysCtl) : (s.modSys g).svy = s.svy := rfl
@[simp] theorem Dev.modSys_cal (s : Dev) (g : SysCtl → SysCtl) : (s.modSys g).cal = s.cal := rfl
@[simp] theorem Dev.modSys_vec (s : Dev) (g : SysCtl → SysCtl) : (s.modSys g).vec = s.vec := rfl
@[simp] theorem Dev.modSys_sys (s : Dev) (g : SysCtl → SysCtl) : (s.modSys g).sys = g s.sys := rfl
@[simp] theorem Dev.modSys_fn (s : Dev) (g : SysCtl → SysCtl) (i : Nat) : (s.modSys g).fn i = s.fn i := rfl
@[simp] theorem Dev.modSys_chan (s : Dev) (g : SysCtl → SysCtl) (i : Nat) : (s.modSys g).chan i = s.chan i := rfl
@[simp] theorem Dev.modSys_eng (s : Dev) (g : SysCtl → SysCtl) (i : Nat) : (s.modSys g).eng i = s.eng i := rfl
@[simp] theorem Dev.modSys_stage (s : Dev) (g : SysCtl → SysCtl) (i : Nat) : (s.modSys g).stage i = s.stage i := rfl
@[simp] theorem Dev.modSys_helon (s : Dev) (g : SysCtl → SysCtl) (i : Nat) : (s.modSys g).helon i = s.helon i := rfl
@[simp] theorem Dev.modSys_gang (s : Dev) (g : SysCtl → SysCtl) (i : Nat) : (s.modSys g).gang i = s.gang i := rfl
@[simp] theorem Dev.modSys_chain (s : Dev) (g : SysCtl → SysCtl) (i : Nat) : (s.modSys g).chain i = s.chain i := rfl
@[simp] theorem Dev.modSys_xset (s : Dev) (g : SysCtl → SysCtl) (i : Nat) : (s.modSys g).xset i = s.xset i := rfl
@[simp] theorem Dev.modSys_route (s : Dev) (g : SysCtl → SysCtl) (i : Nat) : (s.modSys g).route i = s.route i := rfl
@[simp] theorem Dev.modSys_seq (s : Dev) (g : SysCtl → SysCtl) (i : Nat) : (s.modSys g).seq i = s.seq i := rfl
@[simp] theorem Dev.modSys_listEntry (s : Dev) (g : SysCtl → SysCtl) (i : Nat) : (s.modSys g).listEntry i = s.listEntry i := rfl
@[simp] theorem Dev.modSys_handler (s : Dev) (g : SysCtl → SysCtl) (i : Nat) : (s.modSys g).handler i = s.handler i := rfl
@[simp] theorem Dev.modSys_res (s : Dev) (g : SysCtl → SysCtl) (i : Nat) : (s.modSys g).res i = s.res i := rfl
@[simp] theorem Dev.modSys_vbank (s : Dev) (g : SysCtl → SysCtl) (i : Nat) : (s.modSys g).vbank i = s.vbank i := rfl
@[simp] theorem Dev.modSys_vstat (s : Dev) (g : SysCtl → SysCtl) (i : Nat) : (s.modSys g).vstat i = s.vstat i := rfl

/-! `Dev.modTb` changes `tb` only. -/
@[simp] theorem Dev.modTb_now (s : Dev) (g : Timebase → Timebase) : (s.modTb g).now = s.now := rfl
@[simp] theorem Dev.modTb_freeCtr (s : Dev) (g : Timebase → Timebase) : (s.modTb g).freeCtr = s.freeCtr := rfl
@[simp] theorem Dev.modTb_readData (s : Dev) (g : Timebase → Timebase) : (s.modTb g).readData = s.readData := rfl
@[simp] theorem Dev.modTb_msgs (s : Dev) (g : Timebase → Timebase) : (s.modTb g).msgs = s.msgs := rfl
@[simp] theorem Dev.modTb_fns (s : Dev) (g : Timebase → Timebase) : (s.modTb g).fns = s.fns := rfl
@[simp] theorem Dev.modTb_tg (s : Dev) (g : Timebase → Timebase) : (s.modTb g).tg = s.tg := rfl
@[simp] theorem Dev.modTb_assign (s : Dev) (g : Timebase → Timebase) : (s.modTb g).assign = s.assign := rfl
@[simp] theorem Dev.modTb_link (s : Dev) (g : Timebase → Timebase) : (s.modTb g).link = s.link := rfl
@[simp] theorem Dev.modTb_log (s : Dev) (g : Timebase → Timebase) : (s.modTb g).log = s.log := rfl
@[simp] theorem Dev.modTb_sys (s : Dev) (g : Timebase → Timebase) : (s.modTb g).sys = s.sys := rfl
@[simp] theorem Dev.modTb_store (s : Dev) (g : Timebase → Timebase) : (s.modTb g).store = s.store := rfl
@[simp] theorem Dev.modTb_stages (s : Dev) (g : Timebase → Timebase) : (s.modTb g).stages = s.stages := rfl
@[simp] theorem Dev.modTb_engines (s : Dev) (g : Timebase → Timebase) : (s.modTb g).engines = s.engines := rfl
@[simp] theorem Dev.modTb_chans (s : Dev) (g : Timebase → Timebase) : (s.modTb g).chans = s.chans := rfl
@[simp] theorem Dev.modTb_gangs (s : Dev) (g : Timebase → Timebase) : (s.modTb g).gangs = s.gangs := rfl
@[simp] theorem Dev.modTb_swapGroups (s : Dev) (g : Timebase → Timebase) : (s.modTb g).swapGroups = s.swapGroups := rfl
@[simp] theorem Dev.modTb_swaps (s : Dev) (g : Timebase → Timebase) : (s.modTb g).swaps = s.swaps := rfl
@[simp] theorem Dev.modTb_hel (s : Dev) (g : Timebase → Timebase) : (s.modTb g).hel = s.hel := rfl
@[simp] theorem Dev.modTb_seam (s : Dev) (g : Timebase → Timebase) : (s.modTb g).seam = s.seam := rfl
@[simp] theorem Dev.modTb_mxChains (s : Dev) (g : Timebase → Timebase) : (s.modTb g).mxChains = s.mxChains := rfl
@[simp] theorem Dev.modTb_mxSets (s : Dev) (g : Timebase → Timebase) : (s.modTb g).mxSets = s.mxSets := rfl
@[simp] theorem Dev.modTb_fab (s : Dev) (g : Timebase → Timebase) : (s.modTb g).fab = s.fab := rfl
@[simp] theorem Dev.modTb_seqMem (s : Dev) (g : Timebase → Timebase) : (s.modTb g).seqMem = s.seqMem := rfl
@[simp] theorem Dev.modTb_seqs (s : Dev) (g : Timebase → Timebase) : (s.modTb g).seqs = s.seqs := rfl
@[simp] theorem Dev.modTb_handlers (s : Dev) (g : Timebase → Timebase) : (s.modTb g).handlers = s.handlers := rfl
@[simp] theorem Dev.modTb_results (s : Dev) (g : Timebase → Timebase) : (s.modTb g).results = s.results := rfl
@[simp] theorem Dev.modTb_svy (s : Dev) (g : Timebase → Timebase) : (s.modTb g).svy = s.svy := rfl
@[simp] theorem Dev.modTb_cal (s : Dev) (g : Timebase → Timebase) : (s.modTb g).cal = s.cal := rfl
@[simp] theorem Dev.modTb_vec (s : Dev) (g : Timebase → Timebase) : (s.modTb g).vec = s.vec := rfl
@[simp] theorem Dev.modTb_tb (s : Dev) (g : Timebase → Timebase) : (s.modTb g).tb = g s.tb := rfl
@[simp] theorem Dev.modTb_fn (s : Dev) (g : Timebase → Timebase) (i : Nat) : (s.modTb g).fn i = s.fn i := rfl
@[simp] theorem Dev.modTb_chan (s : Dev) (g : Timebase → Timebase) (i : Nat) : (s.modTb g).chan i = s.chan i := rfl
@[simp] theorem Dev.modTb_eng (s : Dev) (g : Timebase → Timebase) (i : Nat) : (s.modTb g).eng i = s.eng i := rfl
@[simp] theorem Dev.modTb_stage (s : Dev) (g : Timebase → Timebase) (i : Nat) : (s.modTb g).stage i = s.stage i := rfl
@[simp] theorem Dev.modTb_helon (s : Dev) (g : Timebase → Timebase) (i : Nat) : (s.modTb g).helon i = s.helon i := rfl
@[simp] theorem Dev.modTb_gang (s : Dev) (g : Timebase → Timebase) (i : Nat) : (s.modTb g).gang i = s.gang i := rfl
@[simp] theorem Dev.modTb_chain (s : Dev) (g : Timebase → Timebase) (i : Nat) : (s.modTb g).chain i = s.chain i := rfl
@[simp] theorem Dev.modTb_xset (s : Dev) (g : Timebase → Timebase) (i : Nat) : (s.modTb g).xset i = s.xset i := rfl
@[simp] theorem Dev.modTb_route (s : Dev) (g : Timebase → Timebase) (i : Nat) : (s.modTb g).route i = s.route i := rfl
@[simp] theorem Dev.modTb_seq (s : Dev) (g : Timebase → Timebase) (i : Nat) : (s.modTb g).seq i = s.seq i := rfl
@[simp] theorem Dev.modTb_listEntry (s : Dev) (g : Timebase → Timebase) (i : Nat) : (s.modTb g).listEntry i = s.listEntry i := rfl
@[simp] theorem Dev.modTb_handler (s : Dev) (g : Timebase → Timebase) (i : Nat) : (s.modTb g).handler i = s.handler i := rfl
@[simp] theorem Dev.modTb_res (s : Dev) (g : Timebase → Timebase) (i : Nat) : (s.modTb g).res i = s.res i := rfl
@[simp] theorem Dev.modTb_vbank (s : Dev) (g : Timebase → Timebase) (i : Nat) : (s.modTb g).vbank i = s.vbank i := rfl
@[simp] theorem Dev.modTb_vstat (s : Dev) (g : Timebase → Timebase) (i : Nat) : (s.modTb g).vstat i = s.vstat i := rfl

/-! `Dev.modTg` changes `tg` only. -/
@[simp] theorem Dev.modTg_now (s : Dev) (g : Tollgate → Tollgate) : (s.modTg g).now = s.now := rfl
@[simp] theorem Dev.modTg_freeCtr (s : Dev) (g : Tollgate → Tollgate) : (s.modTg g).freeCtr = s.freeCtr := rfl
@[simp] theorem Dev.modTg_readData (s : Dev) (g : Tollgate → Tollgate) : (s.modTg g).readData = s.readData := rfl
@[simp] theorem Dev.modTg_msgs (s : Dev) (g : Tollgate → Tollgate) : (s.modTg g).msgs = s.msgs := rfl
@[simp] theorem Dev.modTg_fns (s : Dev) (g : Tollgate → Tollgate) : (s.modTg g).fns = s.fns := rfl
@[simp] theorem Dev.modTg_assign (s : Dev) (g : Tollgate → Tollgate) : (s.modTg g).assign = s.assign := rfl
@[simp] theorem Dev.modTg_link (s : Dev) (g : Tollgate → Tollgate) : (s.modTg g).link = s.link := rfl
@[simp] theorem Dev.modTg_log (s : Dev) (g : Tollgate → Tollgate) : (s.modTg g).log = s.log := rfl
@[simp] theorem Dev.modTg_sys (s : Dev) (g : Tollgate → Tollgate) : (s.modTg g).sys = s.sys := rfl
@[simp] theorem Dev.modTg_store (s : Dev) (g : Tollgate → Tollgate) : (s.modTg g).store = s.store := rfl
@[simp] theorem Dev.modTg_tb (s : Dev) (g : Tollgate → Tollgate) : (s.modTg g).tb = s.tb := rfl
@[simp] theorem Dev.modTg_stages (s : Dev) (g : Tollgate → Tollgate) : (s.modTg g).stages = s.stages := rfl
@[simp] theorem Dev.modTg_engines (s : Dev) (g : Tollgate → Tollgate) : (s.modTg g).engines = s.engines := rfl
@[simp] theorem Dev.modTg_chans (s : Dev) (g : Tollgate → Tollgate) : (s.modTg g).chans = s.chans := rfl
@[simp] theorem Dev.modTg_gangs (s : Dev) (g : Tollgate → Tollgate) : (s.modTg g).gangs = s.gangs := rfl
@[simp] theorem Dev.modTg_swapGroups (s : Dev) (g : Tollgate → Tollgate) : (s.modTg g).swapGroups = s.swapGroups := rfl
@[simp] theorem Dev.modTg_swaps (s : Dev) (g : Tollgate → Tollgate) : (s.modTg g).swaps = s.swaps := rfl
@[simp] theorem Dev.modTg_hel (s : Dev) (g : Tollgate → Tollgate) : (s.modTg g).hel = s.hel := rfl
@[simp] theorem Dev.modTg_seam (s : Dev) (g : Tollgate → Tollgate) : (s.modTg g).seam = s.seam := rfl
@[simp] theorem Dev.modTg_mxChains (s : Dev) (g : Tollgate → Tollgate) : (s.modTg g).mxChains = s.mxChains := rfl
@[simp] theorem Dev.modTg_mxSets (s : Dev) (g : Tollgate → Tollgate) : (s.modTg g).mxSets = s.mxSets := rfl
@[simp] theorem Dev.modTg_fab (s : Dev) (g : Tollgate → Tollgate) : (s.modTg g).fab = s.fab := rfl
@[simp] theorem Dev.modTg_seqMem (s : Dev) (g : Tollgate → Tollgate) : (s.modTg g).seqMem = s.seqMem := rfl
@[simp] theorem Dev.modTg_seqs (s : Dev) (g : Tollgate → Tollgate) : (s.modTg g).seqs = s.seqs := rfl
@[simp] theorem Dev.modTg_handlers (s : Dev) (g : Tollgate → Tollgate) : (s.modTg g).handlers = s.handlers := rfl
@[simp] theorem Dev.modTg_results (s : Dev) (g : Tollgate → Tollgate) : (s.modTg g).results = s.results := rfl
@[simp] theorem Dev.modTg_svy (s : Dev) (g : Tollgate → Tollgate) : (s.modTg g).svy = s.svy := rfl
@[simp] theorem Dev.modTg_cal (s : Dev) (g : Tollgate → Tollgate) : (s.modTg g).cal = s.cal := rfl
@[simp] theorem Dev.modTg_vec (s : Dev) (g : Tollgate → Tollgate) : (s.modTg g).vec = s.vec := rfl
@[simp] theorem Dev.modTg_tg (s : Dev) (g : Tollgate → Tollgate) : (s.modTg g).tg = g s.tg := rfl
@[simp] theorem Dev.modTg_fn (s : Dev) (g : Tollgate → Tollgate) (i : Nat) : (s.modTg g).fn i = s.fn i := rfl
@[simp] theorem Dev.modTg_chan (s : Dev) (g : Tollgate → Tollgate) (i : Nat) : (s.modTg g).chan i = s.chan i := rfl
@[simp] theorem Dev.modTg_eng (s : Dev) (g : Tollgate → Tollgate) (i : Nat) : (s.modTg g).eng i = s.eng i := rfl
@[simp] theorem Dev.modTg_stage (s : Dev) (g : Tollgate → Tollgate) (i : Nat) : (s.modTg g).stage i = s.stage i := rfl
@[simp] theorem Dev.modTg_helon (s : Dev) (g : Tollgate → Tollgate) (i : Nat) : (s.modTg g).helon i = s.helon i := rfl
@[simp] theorem Dev.modTg_gang (s : Dev) (g : Tollgate → Tollgate) (i : Nat) : (s.modTg g).gang i = s.gang i := rfl
@[simp] theorem Dev.modTg_chain (s : Dev) (g : Tollgate → Tollgate) (i : Nat) : (s.modTg g).chain i = s.chain i := rfl
@[simp] theorem Dev.modTg_xset (s : Dev) (g : Tollgate → Tollgate) (i : Nat) : (s.modTg g).xset i = s.xset i := rfl
@[simp] theorem Dev.modTg_route (s : Dev) (g : Tollgate → Tollgate) (i : Nat) : (s.modTg g).route i = s.route i := rfl
@[simp] theorem Dev.modTg_seq (s : Dev) (g : Tollgate → Tollgate) (i : Nat) : (s.modTg g).seq i = s.seq i := rfl
@[simp] theorem Dev.modTg_listEntry (s : Dev) (g : Tollgate → Tollgate) (i : Nat) : (s.modTg g).listEntry i = s.listEntry i := rfl
@[simp] theorem Dev.modTg_handler (s : Dev) (g : Tollgate → Tollgate) (i : Nat) : (s.modTg g).handler i = s.handler i := rfl
@[simp] theorem Dev.modTg_res (s : Dev) (g : Tollgate → Tollgate) (i : Nat) : (s.modTg g).res i = s.res i := rfl
@[simp] theorem Dev.modTg_vbank (s : Dev) (g : Tollgate → Tollgate) (i : Nat) : (s.modTg g).vbank i = s.vbank i := rfl
@[simp] theorem Dev.modTg_vstat (s : Dev) (g : Tollgate → Tollgate) (i : Nat) : (s.modTg g).vstat i = s.vstat i := rfl

/-! `Dev.modLog` changes `log` only. -/
@[simp] theorem Dev.modLog_now (s : Dev) (g : Log → Log) : (s.modLog g).now = s.now := rfl
@[simp] theorem Dev.modLog_freeCtr (s : Dev) (g : Log → Log) : (s.modLog g).freeCtr = s.freeCtr := rfl
@[simp] theorem Dev.modLog_readData (s : Dev) (g : Log → Log) : (s.modLog g).readData = s.readData := rfl
@[simp] theorem Dev.modLog_msgs (s : Dev) (g : Log → Log) : (s.modLog g).msgs = s.msgs := rfl
@[simp] theorem Dev.modLog_fns (s : Dev) (g : Log → Log) : (s.modLog g).fns = s.fns := rfl
@[simp] theorem Dev.modLog_tg (s : Dev) (g : Log → Log) : (s.modLog g).tg = s.tg := rfl
@[simp] theorem Dev.modLog_assign (s : Dev) (g : Log → Log) : (s.modLog g).assign = s.assign := rfl
@[simp] theorem Dev.modLog_link (s : Dev) (g : Log → Log) : (s.modLog g).link = s.link := rfl
@[simp] theorem Dev.modLog_sys (s : Dev) (g : Log → Log) : (s.modLog g).sys = s.sys := rfl
@[simp] theorem Dev.modLog_store (s : Dev) (g : Log → Log) : (s.modLog g).store = s.store := rfl
@[simp] theorem Dev.modLog_tb (s : Dev) (g : Log → Log) : (s.modLog g).tb = s.tb := rfl
@[simp] theorem Dev.modLog_stages (s : Dev) (g : Log → Log) : (s.modLog g).stages = s.stages := rfl
@[simp] theorem Dev.modLog_engines (s : Dev) (g : Log → Log) : (s.modLog g).engines = s.engines := rfl
@[simp] theorem Dev.modLog_chans (s : Dev) (g : Log → Log) : (s.modLog g).chans = s.chans := rfl
@[simp] theorem Dev.modLog_gangs (s : Dev) (g : Log → Log) : (s.modLog g).gangs = s.gangs := rfl
@[simp] theorem Dev.modLog_swapGroups (s : Dev) (g : Log → Log) : (s.modLog g).swapGroups = s.swapGroups := rfl
@[simp] theorem Dev.modLog_swaps (s : Dev) (g : Log → Log) : (s.modLog g).swaps = s.swaps := rfl
@[simp] theorem Dev.modLog_hel (s : Dev) (g : Log → Log) : (s.modLog g).hel = s.hel := rfl
@[simp] theorem Dev.modLog_seam (s : Dev) (g : Log → Log) : (s.modLog g).seam = s.seam := rfl
@[simp] theorem Dev.modLog_mxChains (s : Dev) (g : Log → Log) : (s.modLog g).mxChains = s.mxChains := rfl
@[simp] theorem Dev.modLog_mxSets (s : Dev) (g : Log → Log) : (s.modLog g).mxSets = s.mxSets := rfl
@[simp] theorem Dev.modLog_fab (s : Dev) (g : Log → Log) : (s.modLog g).fab = s.fab := rfl
@[simp] theorem Dev.modLog_seqMem (s : Dev) (g : Log → Log) : (s.modLog g).seqMem = s.seqMem := rfl
@[simp] theorem Dev.modLog_seqs (s : Dev) (g : Log → Log) : (s.modLog g).seqs = s.seqs := rfl
@[simp] theorem Dev.modLog_handlers (s : Dev) (g : Log → Log) : (s.modLog g).handlers = s.handlers := rfl
@[simp] theorem Dev.modLog_results (s : Dev) (g : Log → Log) : (s.modLog g).results = s.results := rfl
@[simp] theorem Dev.modLog_svy (s : Dev) (g : Log → Log) : (s.modLog g).svy = s.svy := rfl
@[simp] theorem Dev.modLog_cal (s : Dev) (g : Log → Log) : (s.modLog g).cal = s.cal := rfl
@[simp] theorem Dev.modLog_vec (s : Dev) (g : Log → Log) : (s.modLog g).vec = s.vec := rfl
@[simp] theorem Dev.modLog_log (s : Dev) (g : Log → Log) : (s.modLog g).log = g s.log := rfl
@[simp] theorem Dev.modLog_fn (s : Dev) (g : Log → Log) (i : Nat) : (s.modLog g).fn i = s.fn i := rfl
@[simp] theorem Dev.modLog_chan (s : Dev) (g : Log → Log) (i : Nat) : (s.modLog g).chan i = s.chan i := rfl
@[simp] theorem Dev.modLog_eng (s : Dev) (g : Log → Log) (i : Nat) : (s.modLog g).eng i = s.eng i := rfl
@[simp] theorem Dev.modLog_stage (s : Dev) (g : Log → Log) (i : Nat) : (s.modLog g).stage i = s.stage i := rfl
@[simp] theorem Dev.modLog_helon (s : Dev) (g : Log → Log) (i : Nat) : (s.modLog g).helon i = s.helon i := rfl
@[simp] theorem Dev.modLog_gang (s : Dev) (g : Log → Log) (i : Nat) : (s.modLog g).gang i = s.gang i := rfl
@[simp] theorem Dev.modLog_chain (s : Dev) (g : Log → Log) (i : Nat) : (s.modLog g).chain i = s.chain i := rfl
@[simp] theorem Dev.modLog_xset (s : Dev) (g : Log → Log) (i : Nat) : (s.modLog g).xset i = s.xset i := rfl
@[simp] theorem Dev.modLog_route (s : Dev) (g : Log → Log) (i : Nat) : (s.modLog g).route i = s.route i := rfl
@[simp] theorem Dev.modLog_seq (s : Dev) (g : Log → Log) (i : Nat) : (s.modLog g).seq i = s.seq i := rfl
@[simp] theorem Dev.modLog_listEntry (s : Dev) (g : Log → Log) (i : Nat) : (s.modLog g).listEntry i = s.listEntry i := rfl
@[simp] theorem Dev.modLog_handler (s : Dev) (g : Log → Log) (i : Nat) : (s.modLog g).handler i = s.handler i := rfl
@[simp] theorem Dev.modLog_res (s : Dev) (g : Log → Log) (i : Nat) : (s.modLog g).res i = s.res i := rfl
@[simp] theorem Dev.modLog_vbank (s : Dev) (g : Log → Log) (i : Nat) : (s.modLog g).vbank i = s.vbank i := rfl
@[simp] theorem Dev.modLog_vstat (s : Dev) (g : Log → Log) (i : Nat) : (s.modLog g).vstat i = s.vstat i := rfl

/-! `Dev.modStore` changes `store` only. -/
@[simp] theorem Dev.modStore_now (s : Dev) (g : Store → Store) : (s.modStore g).now = s.now := rfl
@[simp] theorem Dev.modStore_freeCtr (s : Dev) (g : Store → Store) : (s.modStore g).freeCtr = s.freeCtr := rfl
@[simp] theorem Dev.modStore_readData (s : Dev) (g : Store → Store) : (s.modStore g).readData = s.readData := rfl
@[simp] theorem Dev.modStore_msgs (s : Dev) (g : Store → Store) : (s.modStore g).msgs = s.msgs := rfl
@[simp] theorem Dev.modStore_fns (s : Dev) (g : Store → Store) : (s.modStore g).fns = s.fns := rfl
@[simp] theorem Dev.modStore_tg (s : Dev) (g : Store → Store) : (s.modStore g).tg = s.tg := rfl
@[simp] theorem Dev.modStore_assign (s : Dev) (g : Store → Store) : (s.modStore g).assign = s.assign := rfl
@[simp] theorem Dev.modStore_link (s : Dev) (g : Store → Store) : (s.modStore g).link = s.link := rfl
@[simp] theorem Dev.modStore_log (s : Dev) (g : Store → Store) : (s.modStore g).log = s.log := rfl
@[simp] theorem Dev.modStore_sys (s : Dev) (g : Store → Store) : (s.modStore g).sys = s.sys := rfl
@[simp] theorem Dev.modStore_tb (s : Dev) (g : Store → Store) : (s.modStore g).tb = s.tb := rfl
@[simp] theorem Dev.modStore_stages (s : Dev) (g : Store → Store) : (s.modStore g).stages = s.stages := rfl
@[simp] theorem Dev.modStore_engines (s : Dev) (g : Store → Store) : (s.modStore g).engines = s.engines := rfl
@[simp] theorem Dev.modStore_chans (s : Dev) (g : Store → Store) : (s.modStore g).chans = s.chans := rfl
@[simp] theorem Dev.modStore_gangs (s : Dev) (g : Store → Store) : (s.modStore g).gangs = s.gangs := rfl
@[simp] theorem Dev.modStore_swapGroups (s : Dev) (g : Store → Store) : (s.modStore g).swapGroups = s.swapGroups := rfl
@[simp] theorem Dev.modStore_swaps (s : Dev) (g : Store → Store) : (s.modStore g).swaps = s.swaps := rfl
@[simp] theorem Dev.modStore_hel (s : Dev) (g : Store → Store) : (s.modStore g).hel = s.hel := rfl
@[simp] theorem Dev.modStore_seam (s : Dev) (g : Store → Store) : (s.modStore g).seam = s.seam := rfl
@[simp] theorem Dev.modStore_mxChains (s : Dev) (g : Store → Store) : (s.modStore g).mxChains = s.mxChains := rfl
@[simp] theorem Dev.modStore_mxSets (s : Dev) (g : Store → Store) : (s.modStore g).mxSets = s.mxSets := rfl
@[simp] theorem Dev.modStore_fab (s : Dev) (g : Store → Store) : (s.modStore g).fab = s.fab := rfl
@[simp] theorem Dev.modStore_seqMem (s : Dev) (g : Store → Store) : (s.modStore g).seqMem = s.seqMem := rfl
@[simp] theorem Dev.modStore_seqs (s : Dev) (g : Store → Store) : (s.modStore g).seqs = s.seqs := rfl
@[simp] theorem Dev.modStore_handlers (s : Dev) (g : Store → Store) : (s.modStore g).handlers = s.handlers := rfl
@[simp] theorem Dev.modStore_results (s : Dev) (g : Store → Store) : (s.modStore g).results = s.results := rfl
@[simp] theorem Dev.modStore_svy (s : Dev) (g : Store → Store) : (s.modStore g).svy = s.svy := rfl
@[simp] theorem Dev.modStore_cal (s : Dev) (g : Store → Store) : (s.modStore g).cal = s.cal := rfl
@[simp] theorem Dev.modStore_vec (s : Dev) (g : Store → Store) : (s.modStore g).vec = s.vec := rfl
@[simp] theorem Dev.modStore_store (s : Dev) (g : Store → Store) : (s.modStore g).store = g s.store := rfl
@[simp] theorem Dev.modStore_fn (s : Dev) (g : Store → Store) (i : Nat) : (s.modStore g).fn i = s.fn i := rfl
@[simp] theorem Dev.modStore_chan (s : Dev) (g : Store → Store) (i : Nat) : (s.modStore g).chan i = s.chan i := rfl
@[simp] theorem Dev.modStore_eng (s : Dev) (g : Store → Store) (i : Nat) : (s.modStore g).eng i = s.eng i := rfl
@[simp] theorem Dev.modStore_stage (s : Dev) (g : Store → Store) (i : Nat) : (s.modStore g).stage i = s.stage i := rfl
@[simp] theorem Dev.modStore_helon (s : Dev) (g : Store → Store) (i : Nat) : (s.modStore g).helon i = s.helon i := rfl
@[simp] theorem Dev.modStore_gang (s : Dev) (g : Store → Store) (i : Nat) : (s.modStore g).gang i = s.gang i := rfl
@[simp] theorem Dev.modStore_chain (s : Dev) (g : Store → Store) (i : Nat) : (s.modStore g).chain i = s.chain i := rfl
@[simp] theorem Dev.modStore_xset (s : Dev) (g : Store → Store) (i : Nat) : (s.modStore g).xset i = s.xset i := rfl
@[simp] theorem Dev.modStore_route (s : Dev) (g : Store → Store) (i : Nat) : (s.modStore g).route i = s.route i := rfl
@[simp] theorem Dev.modStore_seq (s : Dev) (g : Store → Store) (i : Nat) : (s.modStore g).seq i = s.seq i := rfl
@[simp] theorem Dev.modStore_listEntry (s : Dev) (g : Store → Store) (i : Nat) : (s.modStore g).listEntry i = s.listEntry i := rfl
@[simp] theorem Dev.modStore_handler (s : Dev) (g : Store → Store) (i : Nat) : (s.modStore g).handler i = s.handler i := rfl
@[simp] theorem Dev.modStore_res (s : Dev) (g : Store → Store) (i : Nat) : (s.modStore g).res i = s.res i := rfl
@[simp] theorem Dev.modStore_vbank (s : Dev) (g : Store → Store) (i : Nat) : (s.modStore g).vbank i = s.vbank i := rfl
@[simp] theorem Dev.modStore_vstat (s : Dev) (g : Store → Store) (i : Nat) : (s.modStore g).vstat i = s.vstat i := rfl

/-! `Dev.modSeq` changes `seqs` only. -/
@[simp] theorem Dev.modSeq_now (s : Dev) (c : Nat) (g : Seq → Seq) : (s.modSeq c g).now = s.now := rfl
@[simp] theorem Dev.modSeq_freeCtr (s : Dev) (c : Nat) (g : Seq → Seq) : (s.modSeq c g).freeCtr = s.freeCtr := rfl
@[simp] theorem Dev.modSeq_readData (s : Dev) (c : Nat) (g : Seq → Seq) : (s.modSeq c g).readData = s.readData := rfl
@[simp] theorem Dev.modSeq_msgs (s : Dev) (c : Nat) (g : Seq → Seq) : (s.modSeq c g).msgs = s.msgs := rfl
@[simp] theorem Dev.modSeq_fns (s : Dev) (c : Nat) (g : Seq → Seq) : (s.modSeq c g).fns = s.fns := rfl
@[simp] theorem Dev.modSeq_tg (s : Dev) (c : Nat) (g : Seq → Seq) : (s.modSeq c g).tg = s.tg := rfl
@[simp] theorem Dev.modSeq_assign (s : Dev) (c : Nat) (g : Seq → Seq) : (s.modSeq c g).assign = s.assign := rfl
@[simp] theorem Dev.modSeq_link (s : Dev) (c : Nat) (g : Seq → Seq) : (s.modSeq c g).link = s.link := rfl
@[simp] theorem Dev.modSeq_log (s : Dev) (c : Nat) (g : Seq → Seq) : (s.modSeq c g).log = s.log := rfl
@[simp] theorem Dev.modSeq_sys (s : Dev) (c : Nat) (g : Seq → Seq) : (s.modSeq c g).sys = s.sys := rfl
@[simp] theorem Dev.modSeq_store (s : Dev) (c : Nat) (g : Seq → Seq) : (s.modSeq c g).store = s.store := rfl
@[simp] theorem Dev.modSeq_tb (s : Dev) (c : Nat) (g : Seq → Seq) : (s.modSeq c g).tb = s.tb := rfl
@[simp] theorem Dev.modSeq_stages (s : Dev) (c : Nat) (g : Seq → Seq) : (s.modSeq c g).stages = s.stages := rfl
@[simp] theorem Dev.modSeq_engines (s : Dev) (c : Nat) (g : Seq → Seq) : (s.modSeq c g).engines = s.engines := rfl
@[simp] theorem Dev.modSeq_chans (s : Dev) (c : Nat) (g : Seq → Seq) : (s.modSeq c g).chans = s.chans := rfl
@[simp] theorem Dev.modSeq_gangs (s : Dev) (c : Nat) (g : Seq → Seq) : (s.modSeq c g).gangs = s.gangs := rfl
@[simp] theorem Dev.modSeq_swapGroups (s : Dev) (c : Nat) (g : Seq → Seq) : (s.modSeq c g).swapGroups = s.swapGroups := rfl
@[simp] theorem Dev.modSeq_swaps (s : Dev) (c : Nat) (g : Seq → Seq) : (s.modSeq c g).swaps = s.swaps := rfl
@[simp] theorem Dev.modSeq_hel (s : Dev) (c : Nat) (g : Seq → Seq) : (s.modSeq c g).hel = s.hel := rfl
@[simp] theorem Dev.modSeq_seam (s : Dev) (c : Nat) (g : Seq → Seq) : (s.modSeq c g).seam = s.seam := rfl
@[simp] theorem Dev.modSeq_mxChains (s : Dev) (c : Nat) (g : Seq → Seq) : (s.modSeq c g).mxChains = s.mxChains := rfl
@[simp] theorem Dev.modSeq_mxSets (s : Dev) (c : Nat) (g : Seq → Seq) : (s.modSeq c g).mxSets = s.mxSets := rfl
@[simp] theorem Dev.modSeq_fab (s : Dev) (c : Nat) (g : Seq → Seq) : (s.modSeq c g).fab = s.fab := rfl
@[simp] theorem Dev.modSeq_seqMem (s : Dev) (c : Nat) (g : Seq → Seq) : (s.modSeq c g).seqMem = s.seqMem := rfl
@[simp] theorem Dev.modSeq_handlers (s : Dev) (c : Nat) (g : Seq → Seq) : (s.modSeq c g).handlers = s.handlers := rfl
@[simp] theorem Dev.modSeq_results (s : Dev) (c : Nat) (g : Seq → Seq) : (s.modSeq c g).results = s.results := rfl
@[simp] theorem Dev.modSeq_svy (s : Dev) (c : Nat) (g : Seq → Seq) : (s.modSeq c g).svy = s.svy := rfl
@[simp] theorem Dev.modSeq_cal (s : Dev) (c : Nat) (g : Seq → Seq) : (s.modSeq c g).cal = s.cal := rfl
@[simp] theorem Dev.modSeq_vec (s : Dev) (c : Nat) (g : Seq → Seq) : (s.modSeq c g).vec = s.vec := rfl
@[simp] theorem Dev.modSeq_fn (s : Dev) (c : Nat) (g : Seq → Seq) (i : Nat) : (s.modSeq c g).fn i = s.fn i := rfl
@[simp] theorem Dev.modSeq_chan (s : Dev) (c : Nat) (g : Seq → Seq) (i : Nat) : (s.modSeq c g).chan i = s.chan i := rfl
@[simp] theorem Dev.modSeq_eng (s : Dev) (c : Nat) (g : Seq → Seq) (i : Nat) : (s.modSeq c g).eng i = s.eng i := rfl
@[simp] theorem Dev.modSeq_stage (s : Dev) (c : Nat) (g : Seq → Seq) (i : Nat) : (s.modSeq c g).stage i = s.stage i := rfl
@[simp] theorem Dev.modSeq_helon (s : Dev) (c : Nat) (g : Seq → Seq) (i : Nat) : (s.modSeq c g).helon i = s.helon i := rfl
@[simp] theorem Dev.modSeq_gang (s : Dev) (c : Nat) (g : Seq → Seq) (i : Nat) : (s.modSeq c g).gang i = s.gang i := rfl
@[simp] theorem Dev.modSeq_chain (s : Dev) (c : Nat) (g : Seq → Seq) (i : Nat) : (s.modSeq c g).chain i = s.chain i := rfl
@[simp] theorem Dev.modSeq_xset (s : Dev) (c : Nat) (g : Seq → Seq) (i : Nat) : (s.modSeq c g).xset i = s.xset i := rfl
@[simp] theorem Dev.modSeq_route (s : Dev) (c : Nat) (g : Seq → Seq) (i : Nat) : (s.modSeq c g).route i = s.route i := rfl
@[simp] theorem Dev.modSeq_listEntry (s : Dev) (c : Nat) (g : Seq → Seq) (i : Nat) : (s.modSeq c g).listEntry i = s.listEntry i := rfl
@[simp] theorem Dev.modSeq_handler (s : Dev) (c : Nat) (g : Seq → Seq) (i : Nat) : (s.modSeq c g).handler i = s.handler i := rfl
@[simp] theorem Dev.modSeq_res (s : Dev) (c : Nat) (g : Seq → Seq) (i : Nat) : (s.modSeq c g).res i = s.res i := rfl
@[simp] theorem Dev.modSeq_vbank (s : Dev) (c : Nat) (g : Seq → Seq) (i : Nat) : (s.modSeq c g).vbank i = s.vbank i := rfl
@[simp] theorem Dev.modSeq_vstat (s : Dev) (c : Nat) (g : Seq → Seq) (i : Nat) : (s.modSeq c g).vstat i = s.vstat i := rfl

/-! `Dev.modHandler` changes `handlers` only. -/
@[simp] theorem Dev.modHandler_now (s : Dev) (h : Nat) (g : Handler → Handler) : (s.modHandler h g).now = s.now := rfl
@[simp] theorem Dev.modHandler_freeCtr (s : Dev) (h : Nat) (g : Handler → Handler) : (s.modHandler h g).freeCtr = s.freeCtr := rfl
@[simp] theorem Dev.modHandler_readData (s : Dev) (h : Nat) (g : Handler → Handler) : (s.modHandler h g).readData = s.readData := rfl
@[simp] theorem Dev.modHandler_msgs (s : Dev) (h : Nat) (g : Handler → Handler) : (s.modHandler h g).msgs = s.msgs := rfl
@[simp] theorem Dev.modHandler_fns (s : Dev) (h : Nat) (g : Handler → Handler) : (s.modHandler h g).fns = s.fns := rfl
@[simp] theorem Dev.modHandler_tg (s : Dev) (h : Nat) (g : Handler → Handler) : (s.modHandler h g).tg = s.tg := rfl
@[simp] theorem Dev.modHandler_assign (s : Dev) (h : Nat) (g : Handler → Handler) : (s.modHandler h g).assign = s.assign := rfl
@[simp] theorem Dev.modHandler_link (s : Dev) (h : Nat) (g : Handler → Handler) : (s.modHandler h g).link = s.link := rfl
@[simp] theorem Dev.modHandler_log (s : Dev) (h : Nat) (g : Handler → Handler) : (s.modHandler h g).log = s.log := rfl
@[simp] theorem Dev.modHandler_sys (s : Dev) (h : Nat) (g : Handler → Handler) : (s.modHandler h g).sys = s.sys := rfl
@[simp] theorem Dev.modHandler_store (s : Dev) (h : Nat) (g : Handler → Handler) : (s.modHandler h g).store = s.store := rfl
@[simp] theorem Dev.modHandler_tb (s : Dev) (h : Nat) (g : Handler → Handler) : (s.modHandler h g).tb = s.tb := rfl
@[simp] theorem Dev.modHandler_stages (s : Dev) (h : Nat) (g : Handler → Handler) : (s.modHandler h g).stages = s.stages := rfl
@[simp] theorem Dev.modHandler_engines (s : Dev) (h : Nat) (g : Handler → Handler) : (s.modHandler h g).engines = s.engines := rfl
@[simp] theorem Dev.modHandler_chans (s : Dev) (h : Nat) (g : Handler → Handler) : (s.modHandler h g).chans = s.chans := rfl
@[simp] theorem Dev.modHandler_gangs (s : Dev) (h : Nat) (g : Handler → Handler) : (s.modHandler h g).gangs = s.gangs := rfl
@[simp] theorem Dev.modHandler_swapGroups (s : Dev) (h : Nat) (g : Handler → Handler) : (s.modHandler h g).swapGroups = s.swapGroups := rfl
@[simp] theorem Dev.modHandler_swaps (s : Dev) (h : Nat) (g : Handler → Handler) : (s.modHandler h g).swaps = s.swaps := rfl
@[simp] theorem Dev.modHandler_hel (s : Dev) (h : Nat) (g : Handler → Handler) : (s.modHandler h g).hel = s.hel := rfl
@[simp] theorem Dev.modHandler_seam (s : Dev) (h : Nat) (g : Handler → Handler) : (s.modHandler h g).seam = s.seam := rfl
@[simp] theorem Dev.modHandler_mxChains (s : Dev) (h : Nat) (g : Handler → Handler) : (s.modHandler h g).mxChains = s.mxChains := rfl
@[simp] theorem Dev.modHandler_mxSets (s : Dev) (h : Nat) (g : Handler → Handler) : (s.modHandler h g).mxSets = s.mxSets := rfl
@[simp] theorem Dev.modHandler_fab (s : Dev) (h : Nat) (g : Handler → Handler) : (s.modHandler h g).fab = s.fab := rfl
@[simp] theorem Dev.modHandler_seqMem (s : Dev) (h : Nat) (g : Handler → Handler) : (s.modHandler h g).seqMem = s.seqMem := rfl
@[simp] theorem Dev.modHandler_seqs (s : Dev) (h : Nat) (g : Handler → Handler) : (s.modHandler h g).seqs = s.seqs := rfl
@[simp] theorem Dev.modHandler_results (s : Dev) (h : Nat) (g : Handler → Handler) : (s.modHandler h g).results = s.results := rfl
@[simp] theorem Dev.modHandler_svy (s : Dev) (h : Nat) (g : Handler → Handler) : (s.modHandler h g).svy = s.svy := rfl
@[simp] theorem Dev.modHandler_cal (s : Dev) (h : Nat) (g : Handler → Handler) : (s.modHandler h g).cal = s.cal := rfl
@[simp] theorem Dev.modHandler_vec (s : Dev) (h : Nat) (g : Handler → Handler) : (s.modHandler h g).vec = s.vec := rfl
@[simp] theorem Dev.modHandler_fn (s : Dev) (h : Nat) (g : Handler → Handler) (i : Nat) : (s.modHandler h g).fn i = s.fn i := rfl
@[simp] theorem Dev.modHandler_chan (s : Dev) (h : Nat) (g : Handler → Handler) (i : Nat) : (s.modHandler h g).chan i = s.chan i := rfl
@[simp] theorem Dev.modHandler_eng (s : Dev) (h : Nat) (g : Handler → Handler) (i : Nat) : (s.modHandler h g).eng i = s.eng i := rfl
@[simp] theorem Dev.modHandler_stage (s : Dev) (h : Nat) (g : Handler → Handler) (i : Nat) : (s.modHandler h g).stage i = s.stage i := rfl
@[simp] theorem Dev.modHandler_helon (s : Dev) (h : Nat) (g : Handler → Handler) (i : Nat) : (s.modHandler h g).helon i = s.helon i := rfl
@[simp] theorem Dev.modHandler_gang (s : Dev) (h : Nat) (g : Handler → Handler) (i : Nat) : (s.modHandler h g).gang i = s.gang i := rfl
@[simp] theorem Dev.modHandler_chain (s : Dev) (h : Nat) (g : Handler → Handler) (i : Nat) : (s.modHandler h g).chain i = s.chain i := rfl
@[simp] theorem Dev.modHandler_xset (s : Dev) (h : Nat) (g : Handler → Handler) (i : Nat) : (s.modHandler h g).xset i = s.xset i := rfl
@[simp] theorem Dev.modHandler_route (s : Dev) (h : Nat) (g : Handler → Handler) (i : Nat) : (s.modHandler h g).route i = s.route i := rfl
@[simp] theorem Dev.modHandler_seq (s : Dev) (h : Nat) (g : Handler → Handler) (i : Nat) : (s.modHandler h g).seq i = s.seq i := rfl
@[simp] theorem Dev.modHandler_listEntry (s : Dev) (h : Nat) (g : Handler → Handler) (i : Nat) : (s.modHandler h g).listEntry i = s.listEntry i := rfl
@[simp] theorem Dev.modHandler_res (s : Dev) (h : Nat) (g : Handler → Handler) (i : Nat) : (s.modHandler h g).res i = s.res i := rfl
@[simp] theorem Dev.modHandler_vbank (s : Dev) (h : Nat) (g : Handler → Handler) (i : Nat) : (s.modHandler h g).vbank i = s.vbank i := rfl
@[simp] theorem Dev.modHandler_vstat (s : Dev) (h : Nat) (g : Handler → Handler) (i : Nat) : (s.modHandler h g).vstat i = s.vstat i := rfl

/-! `Dev.modRes` changes `results` only. -/
@[simp] theorem Dev.modRes_now (s : Dev) (c : Nat) (g : ResChan → ResChan) : (s.modRes c g).now = s.now := rfl
@[simp] theorem Dev.modRes_freeCtr (s : Dev) (c : Nat) (g : ResChan → ResChan) : (s.modRes c g).freeCtr = s.freeCtr := rfl
@[simp] theorem Dev.modRes_readData (s : Dev) (c : Nat) (g : ResChan → ResChan) : (s.modRes c g).readData = s.readData := rfl
@[simp] theorem Dev.modRes_msgs (s : Dev) (c : Nat) (g : ResChan → ResChan) : (s.modRes c g).msgs = s.msgs := rfl
@[simp] theorem Dev.modRes_fns (s : Dev) (c : Nat) (g : ResChan → ResChan) : (s.modRes c g).fns = s.fns := rfl
@[simp] theorem Dev.modRes_tg (s : Dev) (c : Nat) (g : ResChan → ResChan) : (s.modRes c g).tg = s.tg := rfl
@[simp] theorem Dev.modRes_assign (s : Dev) (c : Nat) (g : ResChan → ResChan) : (s.modRes c g).assign = s.assign := rfl
@[simp] theorem Dev.modRes_link (s : Dev) (c : Nat) (g : ResChan → ResChan) : (s.modRes c g).link = s.link := rfl
@[simp] theorem Dev.modRes_log (s : Dev) (c : Nat) (g : ResChan → ResChan) : (s.modRes c g).log = s.log := rfl
@[simp] theorem Dev.modRes_sys (s : Dev) (c : Nat) (g : ResChan → ResChan) : (s.modRes c g).sys = s.sys := rfl
@[simp] theorem Dev.modRes_store (s : Dev) (c : Nat) (g : ResChan → ResChan) : (s.modRes c g).store = s.store := rfl
@[simp] theorem Dev.modRes_tb (s : Dev) (c : Nat) (g : ResChan → ResChan) : (s.modRes c g).tb = s.tb := rfl
@[simp] theorem Dev.modRes_stages (s : Dev) (c : Nat) (g : ResChan → ResChan) : (s.modRes c g).stages = s.stages := rfl
@[simp] theorem Dev.modRes_engines (s : Dev) (c : Nat) (g : ResChan → ResChan) : (s.modRes c g).engines = s.engines := rfl
@[simp] theorem Dev.modRes_chans (s : Dev) (c : Nat) (g : ResChan → ResChan) : (s.modRes c g).chans = s.chans := rfl
@[simp] theorem Dev.modRes_gangs (s : Dev) (c : Nat) (g : ResChan → ResChan) : (s.modRes c g).gangs = s.gangs := rfl
@[simp] theorem Dev.modRes_swapGroups (s : Dev) (c : Nat) (g : ResChan → ResChan) : (s.modRes c g).swapGroups = s.swapGroups := rfl
@[simp] theorem Dev.modRes_swaps (s : Dev) (c : Nat) (g : ResChan → ResChan) : (s.modRes c g).swaps = s.swaps := rfl
@[simp] theorem Dev.modRes_hel (s : Dev) (c : Nat) (g : ResChan → ResChan) : (s.modRes c g).hel = s.hel := rfl
@[simp] theorem Dev.modRes_seam (s : Dev) (c : Nat) (g : ResChan → ResChan) : (s.modRes c g).seam = s.seam := rfl
@[simp] theorem Dev.modRes_mxChains (s : Dev) (c : Nat) (g : ResChan → ResChan) : (s.modRes c g).mxChains = s.mxChains := rfl
@[simp] theorem Dev.modRes_mxSets (s : Dev) (c : Nat) (g : ResChan → ResChan) : (s.modRes c g).mxSets = s.mxSets := rfl
@[simp] theorem Dev.modRes_fab (s : Dev) (c : Nat) (g : ResChan → ResChan) : (s.modRes c g).fab = s.fab := rfl
@[simp] theorem Dev.modRes_seqMem (s : Dev) (c : Nat) (g : ResChan → ResChan) : (s.modRes c g).seqMem = s.seqMem := rfl
@[simp] theorem Dev.modRes_seqs (s : Dev) (c : Nat) (g : ResChan → ResChan) : (s.modRes c g).seqs = s.seqs := rfl
@[simp] theorem Dev.modRes_handlers (s : Dev) (c : Nat) (g : ResChan → ResChan) : (s.modRes c g).handlers = s.handlers := rfl
@[simp] theorem Dev.modRes_svy (s : Dev) (c : Nat) (g : ResChan → ResChan) : (s.modRes c g).svy = s.svy := rfl
@[simp] theorem Dev.modRes_cal (s : Dev) (c : Nat) (g : ResChan → ResChan) : (s.modRes c g).cal = s.cal := rfl
@[simp] theorem Dev.modRes_vec (s : Dev) (c : Nat) (g : ResChan → ResChan) : (s.modRes c g).vec = s.vec := rfl
@[simp] theorem Dev.modRes_fn (s : Dev) (c : Nat) (g : ResChan → ResChan) (i : Nat) : (s.modRes c g).fn i = s.fn i := rfl
@[simp] theorem Dev.modRes_chan (s : Dev) (c : Nat) (g : ResChan → ResChan) (i : Nat) : (s.modRes c g).chan i = s.chan i := rfl
@[simp] theorem Dev.modRes_eng (s : Dev) (c : Nat) (g : ResChan → ResChan) (i : Nat) : (s.modRes c g).eng i = s.eng i := rfl
@[simp] theorem Dev.modRes_stage (s : Dev) (c : Nat) (g : ResChan → ResChan) (i : Nat) : (s.modRes c g).stage i = s.stage i := rfl
@[simp] theorem Dev.modRes_helon (s : Dev) (c : Nat) (g : ResChan → ResChan) (i : Nat) : (s.modRes c g).helon i = s.helon i := rfl
@[simp] theorem Dev.modRes_gang (s : Dev) (c : Nat) (g : ResChan → ResChan) (i : Nat) : (s.modRes c g).gang i = s.gang i := rfl
@[simp] theorem Dev.modRes_chain (s : Dev) (c : Nat) (g : ResChan → ResChan) (i : Nat) : (s.modRes c g).chain i = s.chain i := rfl
@[simp] theorem Dev.modRes_xset (s : Dev) (c : Nat) (g : ResChan → ResChan) (i : Nat) : (s.modRes c g).xset i = s.xset i := rfl
@[simp] theorem Dev.modRes_route (s : Dev) (c : Nat) (g : ResChan → ResChan) (i : Nat) : (s.modRes c g).route i = s.route i := rfl
@[simp] theorem Dev.modRes_seq (s : Dev) (c : Nat) (g : ResChan → ResChan) (i : Nat) : (s.modRes c g).seq i = s.seq i := rfl
@[simp] theorem Dev.modRes_listEntry (s : Dev) (c : Nat) (g : ResChan → ResChan) (i : Nat) : (s.modRes c g).listEntry i = s.listEntry i := rfl
@[simp] theorem Dev.modRes_handler (s : Dev) (c : Nat) (g : ResChan → ResChan) (i : Nat) : (s.modRes c g).handler i = s.handler i := rfl
@[simp] theorem Dev.modRes_vbank (s : Dev) (c : Nat) (g : ResChan → ResChan) (i : Nat) : (s.modRes c g).vbank i = s.vbank i := rfl
@[simp] theorem Dev.modRes_vstat (s : Dev) (c : Nat) (g : ResChan → ResChan) (i : Nat) : (s.modRes c g).vstat i = s.vstat i := rfl

/-! `Dev.modSvy` changes `svy` only. -/
@[simp] theorem Dev.modSvy_now (s : Dev) (g : Survey → Survey) : (s.modSvy g).now = s.now := rfl
@[simp] theorem Dev.modSvy_freeCtr (s : Dev) (g : Survey → Survey) : (s.modSvy g).freeCtr = s.freeCtr := rfl
@[simp] theorem Dev.modSvy_readData (s : Dev) (g : Survey → Survey) : (s.modSvy g).readData = s.readData := rfl
@[simp] theorem Dev.modSvy_msgs (s : Dev) (g : Survey → Survey) : (s.modSvy g).msgs = s.msgs := rfl
@[simp] theorem Dev.modSvy_fns (s : Dev) (g : Survey → Survey) : (s.modSvy g).fns = s.fns := rfl
@[simp] theorem Dev.modSvy_tg (s : Dev) (g : Survey → Survey) : (s.modSvy g).tg = s.tg := rfl
@[simp] theorem Dev.modSvy_assign (s : Dev) (g : Survey → Survey) : (s.modSvy g).assign = s.assign := rfl
@[simp] theorem Dev.modSvy_link (s : Dev) (g : Survey → Survey) : (s.modSvy g).link = s.link := rfl
@[simp] theorem Dev.modSvy_log (s : Dev) (g : Survey → Survey) : (s.modSvy g).log = s.log := rfl
@[simp] theorem Dev.modSvy_sys (s : Dev) (g : Survey → Survey) : (s.modSvy g).sys = s.sys := rfl
@[simp] theorem Dev.modSvy_store (s : Dev) (g : Survey → Survey) : (s.modSvy g).store = s.store := rfl
@[simp] theorem Dev.modSvy_tb (s : Dev) (g : Survey → Survey) : (s.modSvy g).tb = s.tb := rfl
@[simp] theorem Dev.modSvy_stages (s : Dev) (g : Survey → Survey) : (s.modSvy g).stages = s.stages := rfl
@[simp] theorem Dev.modSvy_engines (s : Dev) (g : Survey → Survey) : (s.modSvy g).engines = s.engines := rfl
@[simp] theorem Dev.modSvy_chans (s : Dev) (g : Survey → Survey) : (s.modSvy g).chans = s.chans := rfl
@[simp] theorem Dev.modSvy_gangs (s : Dev) (g : Survey → Survey) : (s.modSvy g).gangs = s.gangs := rfl
@[simp] theorem Dev.modSvy_swapGroups (s : Dev) (g : Survey → Survey) : (s.modSvy g).swapGroups = s.swapGroups := rfl
@[simp] theorem Dev.modSvy_swaps (s : Dev) (g : Survey → Survey) : (s.modSvy g).swaps = s.swaps := rfl
@[simp] theorem Dev.modSvy_hel (s : Dev) (g : Survey → Survey) : (s.modSvy g).hel = s.hel := rfl
@[simp] theorem Dev.modSvy_seam (s : Dev) (g : Survey → Survey) : (s.modSvy g).seam = s.seam := rfl
@[simp] theorem Dev.modSvy_mxChains (s : Dev) (g : Survey → Survey) : (s.modSvy g).mxChains = s.mxChains := rfl
@[simp] theorem Dev.modSvy_mxSets (s : Dev) (g : Survey → Survey) : (s.modSvy g).mxSets = s.mxSets := rfl
@[simp] theorem Dev.modSvy_fab (s : Dev) (g : Survey → Survey) : (s.modSvy g).fab = s.fab := rfl
@[simp] theorem Dev.modSvy_seqMem (s : Dev) (g : Survey → Survey) : (s.modSvy g).seqMem = s.seqMem := rfl
@[simp] theorem Dev.modSvy_seqs (s : Dev) (g : Survey → Survey) : (s.modSvy g).seqs = s.seqs := rfl
@[simp] theorem Dev.modSvy_handlers (s : Dev) (g : Survey → Survey) : (s.modSvy g).handlers = s.handlers := rfl
@[simp] theorem Dev.modSvy_results (s : Dev) (g : Survey → Survey) : (s.modSvy g).results = s.results := rfl
@[simp] theorem Dev.modSvy_cal (s : Dev) (g : Survey → Survey) : (s.modSvy g).cal = s.cal := rfl
@[simp] theorem Dev.modSvy_vec (s : Dev) (g : Survey → Survey) : (s.modSvy g).vec = s.vec := rfl
@[simp] theorem Dev.modSvy_svy (s : Dev) (g : Survey → Survey) : (s.modSvy g).svy = g s.svy := rfl
@[simp] theorem Dev.modSvy_fn (s : Dev) (g : Survey → Survey) (i : Nat) : (s.modSvy g).fn i = s.fn i := rfl
@[simp] theorem Dev.modSvy_chan (s : Dev) (g : Survey → Survey) (i : Nat) : (s.modSvy g).chan i = s.chan i := rfl
@[simp] theorem Dev.modSvy_eng (s : Dev) (g : Survey → Survey) (i : Nat) : (s.modSvy g).eng i = s.eng i := rfl
@[simp] theorem Dev.modSvy_stage (s : Dev) (g : Survey → Survey) (i : Nat) : (s.modSvy g).stage i = s.stage i := rfl
@[simp] theorem Dev.modSvy_helon (s : Dev) (g : Survey → Survey) (i : Nat) : (s.modSvy g).helon i = s.helon i := rfl
@[simp] theorem Dev.modSvy_gang (s : Dev) (g : Survey → Survey) (i : Nat) : (s.modSvy g).gang i = s.gang i := rfl
@[simp] theorem Dev.modSvy_chain (s : Dev) (g : Survey → Survey) (i : Nat) : (s.modSvy g).chain i = s.chain i := rfl
@[simp] theorem Dev.modSvy_xset (s : Dev) (g : Survey → Survey) (i : Nat) : (s.modSvy g).xset i = s.xset i := rfl
@[simp] theorem Dev.modSvy_route (s : Dev) (g : Survey → Survey) (i : Nat) : (s.modSvy g).route i = s.route i := rfl
@[simp] theorem Dev.modSvy_seq (s : Dev) (g : Survey → Survey) (i : Nat) : (s.modSvy g).seq i = s.seq i := rfl
@[simp] theorem Dev.modSvy_listEntry (s : Dev) (g : Survey → Survey) (i : Nat) : (s.modSvy g).listEntry i = s.listEntry i := rfl
@[simp] theorem Dev.modSvy_handler (s : Dev) (g : Survey → Survey) (i : Nat) : (s.modSvy g).handler i = s.handler i := rfl
@[simp] theorem Dev.modSvy_res (s : Dev) (g : Survey → Survey) (i : Nat) : (s.modSvy g).res i = s.res i := rfl
@[simp] theorem Dev.modSvy_vbank (s : Dev) (g : Survey → Survey) (i : Nat) : (s.modSvy g).vbank i = s.vbank i := rfl
@[simp] theorem Dev.modSvy_vstat (s : Dev) (g : Survey → Survey) (i : Nat) : (s.modSvy g).vstat i = s.vstat i := rfl

/-! `Dev.modCal` changes `cal` only. -/
@[simp] theorem Dev.modCal_now (s : Dev) (g : Cal → Cal) : (s.modCal g).now = s.now := rfl
@[simp] theorem Dev.modCal_freeCtr (s : Dev) (g : Cal → Cal) : (s.modCal g).freeCtr = s.freeCtr := rfl
@[simp] theorem Dev.modCal_readData (s : Dev) (g : Cal → Cal) : (s.modCal g).readData = s.readData := rfl
@[simp] theorem Dev.modCal_msgs (s : Dev) (g : Cal → Cal) : (s.modCal g).msgs = s.msgs := rfl
@[simp] theorem Dev.modCal_fns (s : Dev) (g : Cal → Cal) : (s.modCal g).fns = s.fns := rfl
@[simp] theorem Dev.modCal_tg (s : Dev) (g : Cal → Cal) : (s.modCal g).tg = s.tg := rfl
@[simp] theorem Dev.modCal_assign (s : Dev) (g : Cal → Cal) : (s.modCal g).assign = s.assign := rfl
@[simp] theorem Dev.modCal_link (s : Dev) (g : Cal → Cal) : (s.modCal g).link = s.link := rfl
@[simp] theorem Dev.modCal_log (s : Dev) (g : Cal → Cal) : (s.modCal g).log = s.log := rfl
@[simp] theorem Dev.modCal_sys (s : Dev) (g : Cal → Cal) : (s.modCal g).sys = s.sys := rfl
@[simp] theorem Dev.modCal_store (s : Dev) (g : Cal → Cal) : (s.modCal g).store = s.store := rfl
@[simp] theorem Dev.modCal_tb (s : Dev) (g : Cal → Cal) : (s.modCal g).tb = s.tb := rfl
@[simp] theorem Dev.modCal_stages (s : Dev) (g : Cal → Cal) : (s.modCal g).stages = s.stages := rfl
@[simp] theorem Dev.modCal_engines (s : Dev) (g : Cal → Cal) : (s.modCal g).engines = s.engines := rfl
@[simp] theorem Dev.modCal_chans (s : Dev) (g : Cal → Cal) : (s.modCal g).chans = s.chans := rfl
@[simp] theorem Dev.modCal_gangs (s : Dev) (g : Cal → Cal) : (s.modCal g).gangs = s.gangs := rfl
@[simp] theorem Dev.modCal_swapGroups (s : Dev) (g : Cal → Cal) : (s.modCal g).swapGroups = s.swapGroups := rfl
@[simp] theorem Dev.modCal_swaps (s : Dev) (g : Cal → Cal) : (s.modCal g).swaps = s.swaps := rfl
@[simp] theorem Dev.modCal_hel (s : Dev) (g : Cal → Cal) : (s.modCal g).hel = s.hel := rfl
@[simp] theorem Dev.modCal_seam (s : Dev) (g : Cal → Cal) : (s.modCal g).seam = s.seam := rfl
@[simp] theorem Dev.modCal_mxChains (s : Dev) (g : Cal → Cal) : (s.modCal g).mxChains = s.mxChains := rfl
@[simp] theorem Dev.modCal_mxSets (s : Dev) (g : Cal → Cal) : (s.modCal g).mxSets = s.mxSets := rfl
@[simp] theorem Dev.modCal_fab (s : Dev) (g : Cal → Cal) : (s.modCal g).fab = s.fab := rfl
@[simp] theorem Dev.modCal_seqMem (s : Dev) (g : Cal → Cal) : (s.modCal g).seqMem = s.seqMem := rfl
@[simp] theorem Dev.modCal_seqs (s : Dev) (g : Cal → Cal) : (s.modCal g).seqs = s.seqs := rfl
@[simp] theorem Dev.modCal_handlers (s : Dev) (g : Cal → Cal) : (s.modCal g).handlers = s.handlers := rfl
@[simp] theorem Dev.modCal_results (s : Dev) (g : Cal → Cal) : (s.modCal g).results = s.results := rfl
@[simp] theorem Dev.modCal_svy (s : Dev) (g : Cal → Cal) : (s.modCal g).svy = s.svy := rfl
@[simp] theorem Dev.modCal_vec (s : Dev) (g : Cal → Cal) : (s.modCal g).vec = s.vec := rfl
@[simp] theorem Dev.modCal_cal (s : Dev) (g : Cal → Cal) : (s.modCal g).cal = g s.cal := rfl
@[simp] theorem Dev.modCal_fn (s : Dev) (g : Cal → Cal) (i : Nat) : (s.modCal g).fn i = s.fn i := rfl
@[simp] theorem Dev.modCal_chan (s : Dev) (g : Cal → Cal) (i : Nat) : (s.modCal g).chan i = s.chan i := rfl
@[simp] theorem Dev.modCal_eng (s : Dev) (g : Cal → Cal) (i : Nat) : (s.modCal g).eng i = s.eng i := rfl
@[simp] theorem Dev.modCal_stage (s : Dev) (g : Cal → Cal) (i : Nat) : (s.modCal g).stage i = s.stage i := rfl
@[simp] theorem Dev.modCal_helon (s : Dev) (g : Cal → Cal) (i : Nat) : (s.modCal g).helon i = s.helon i := rfl
@[simp] theorem Dev.modCal_gang (s : Dev) (g : Cal → Cal) (i : Nat) : (s.modCal g).gang i = s.gang i := rfl
@[simp] theorem Dev.modCal_chain (s : Dev) (g : Cal → Cal) (i : Nat) : (s.modCal g).chain i = s.chain i := rfl
@[simp] theorem Dev.modCal_xset (s : Dev) (g : Cal → Cal) (i : Nat) : (s.modCal g).xset i = s.xset i := rfl
@[simp] theorem Dev.modCal_route (s : Dev) (g : Cal → Cal) (i : Nat) : (s.modCal g).route i = s.route i := rfl
@[simp] theorem Dev.modCal_seq (s : Dev) (g : Cal → Cal) (i : Nat) : (s.modCal g).seq i = s.seq i := rfl
@[simp] theorem Dev.modCal_listEntry (s : Dev) (g : Cal → Cal) (i : Nat) : (s.modCal g).listEntry i = s.listEntry i := rfl
@[simp] theorem Dev.modCal_handler (s : Dev) (g : Cal → Cal) (i : Nat) : (s.modCal g).handler i = s.handler i := rfl
@[simp] theorem Dev.modCal_res (s : Dev) (g : Cal → Cal) (i : Nat) : (s.modCal g).res i = s.res i := rfl
@[simp] theorem Dev.modCal_vbank (s : Dev) (g : Cal → Cal) (i : Nat) : (s.modCal g).vbank i = s.vbank i := rfl
@[simp] theorem Dev.modCal_vstat (s : Dev) (g : Cal → Cal) (i : Nat) : (s.modCal g).vstat i = s.vstat i := rfl

/-! `Dev.modVec` changes `vec` only. -/
@[simp] theorem Dev.modVec_now (s : Dev) (g : Vec_ → Vec_) : (s.modVec g).now = s.now := rfl
@[simp] theorem Dev.modVec_freeCtr (s : Dev) (g : Vec_ → Vec_) : (s.modVec g).freeCtr = s.freeCtr := rfl
@[simp] theorem Dev.modVec_readData (s : Dev) (g : Vec_ → Vec_) : (s.modVec g).readData = s.readData := rfl
@[simp] theorem Dev.modVec_msgs (s : Dev) (g : Vec_ → Vec_) : (s.modVec g).msgs = s.msgs := rfl
@[simp] theorem Dev.modVec_fns (s : Dev) (g : Vec_ → Vec_) : (s.modVec g).fns = s.fns := rfl
@[simp] theorem Dev.modVec_tg (s : Dev) (g : Vec_ → Vec_) : (s.modVec g).tg = s.tg := rfl
@[simp] theorem Dev.modVec_assign (s : Dev) (g : Vec_ → Vec_) : (s.modVec g).assign = s.assign := rfl
@[simp] theorem Dev.modVec_link (s : Dev) (g : Vec_ → Vec_) : (s.modVec g).link = s.link := rfl
@[simp] theorem Dev.modVec_log (s : Dev) (g : Vec_ → Vec_) : (s.modVec g).log = s.log := rfl
@[simp] theorem Dev.modVec_sys (s : Dev) (g : Vec_ → Vec_) : (s.modVec g).sys = s.sys := rfl
@[simp] theorem Dev.modVec_store (s : Dev) (g : Vec_ → Vec_) : (s.modVec g).store = s.store := rfl
@[simp] theorem Dev.modVec_tb (s : Dev) (g : Vec_ → Vec_) : (s.modVec g).tb = s.tb := rfl
@[simp] theorem Dev.modVec_stages (s : Dev) (g : Vec_ → Vec_) : (s.modVec g).stages = s.stages := rfl
@[simp] theorem Dev.modVec_engines (s : Dev) (g : Vec_ → Vec_) : (s.modVec g).engines = s.engines := rfl
@[simp] theorem Dev.modVec_chans (s : Dev) (g : Vec_ → Vec_) : (s.modVec g).chans = s.chans := rfl
@[simp] theorem Dev.modVec_gangs (s : Dev) (g : Vec_ → Vec_) : (s.modVec g).gangs = s.gangs := rfl
@[simp] theorem Dev.modVec_swapGroups (s : Dev) (g : Vec_ → Vec_) : (s.modVec g).swapGroups = s.swapGroups := rfl
@[simp] theorem Dev.modVec_swaps (s : Dev) (g : Vec_ → Vec_) : (s.modVec g).swaps = s.swaps := rfl
@[simp] theorem Dev.modVec_hel (s : Dev) (g : Vec_ → Vec_) : (s.modVec g).hel = s.hel := rfl
@[simp] theorem Dev.modVec_seam (s : Dev) (g : Vec_ → Vec_) : (s.modVec g).seam = s.seam := rfl
@[simp] theorem Dev.modVec_mxChains (s : Dev) (g : Vec_ → Vec_) : (s.modVec g).mxChains = s.mxChains := rfl
@[simp] theorem Dev.modVec_mxSets (s : Dev) (g : Vec_ → Vec_) : (s.modVec g).mxSets = s.mxSets := rfl
@[simp] theorem Dev.modVec_fab (s : Dev) (g : Vec_ → Vec_) : (s.modVec g).fab = s.fab := rfl
@[simp] theorem Dev.modVec_seqMem (s : Dev) (g : Vec_ → Vec_) : (s.modVec g).seqMem = s.seqMem := rfl
@[simp] theorem Dev.modVec_seqs (s : Dev) (g : Vec_ → Vec_) : (s.modVec g).seqs = s.seqs := rfl
@[simp] theorem Dev.modVec_handlers (s : Dev) (g : Vec_ → Vec_) : (s.modVec g).handlers = s.handlers := rfl
@[simp] theorem Dev.modVec_results (s : Dev) (g : Vec_ → Vec_) : (s.modVec g).results = s.results := rfl
@[simp] theorem Dev.modVec_svy (s : Dev) (g : Vec_ → Vec_) : (s.modVec g).svy = s.svy := rfl
@[simp] theorem Dev.modVec_cal (s : Dev) (g : Vec_ → Vec_) : (s.modVec g).cal = s.cal := rfl
@[simp] theorem Dev.modVec_vec (s : Dev) (g : Vec_ → Vec_) : (s.modVec g).vec = g s.vec := rfl
@[simp] theorem Dev.modVec_fn (s : Dev) (g : Vec_ → Vec_) (i : Nat) : (s.modVec g).fn i = s.fn i := rfl
@[simp] theorem Dev.modVec_chan (s : Dev) (g : Vec_ → Vec_) (i : Nat) : (s.modVec g).chan i = s.chan i := rfl
@[simp] theorem Dev.modVec_eng (s : Dev) (g : Vec_ → Vec_) (i : Nat) : (s.modVec g).eng i = s.eng i := rfl
@[simp] theorem Dev.modVec_stage (s : Dev) (g : Vec_ → Vec_) (i : Nat) : (s.modVec g).stage i = s.stage i := rfl
@[simp] theorem Dev.modVec_helon (s : Dev) (g : Vec_ → Vec_) (i : Nat) : (s.modVec g).helon i = s.helon i := rfl
@[simp] theorem Dev.modVec_gang (s : Dev) (g : Vec_ → Vec_) (i : Nat) : (s.modVec g).gang i = s.gang i := rfl
@[simp] theorem Dev.modVec_chain (s : Dev) (g : Vec_ → Vec_) (i : Nat) : (s.modVec g).chain i = s.chain i := rfl
@[simp] theorem Dev.modVec_xset (s : Dev) (g : Vec_ → Vec_) (i : Nat) : (s.modVec g).xset i = s.xset i := rfl
@[simp] theorem Dev.modVec_route (s : Dev) (g : Vec_ → Vec_) (i : Nat) : (s.modVec g).route i = s.route i := rfl
@[simp] theorem Dev.modVec_seq (s : Dev) (g : Vec_ → Vec_) (i : Nat) : (s.modVec g).seq i = s.seq i := rfl
@[simp] theorem Dev.modVec_listEntry (s : Dev) (g : Vec_ → Vec_) (i : Nat) : (s.modVec g).listEntry i = s.listEntry i := rfl
@[simp] theorem Dev.modVec_handler (s : Dev) (g : Vec_ → Vec_) (i : Nat) : (s.modVec g).handler i = s.handler i := rfl
@[simp] theorem Dev.modVec_res (s : Dev) (g : Vec_ → Vec_) (i : Nat) : (s.modVec g).res i = s.res i := rfl

/-! `Dev.modPlayer` changes `vec` only. -/
@[simp] theorem Dev.modPlayer_now (s : Dev) (g : Player → Player) : (s.modPlayer g).now = s.now := rfl
@[simp] theorem Dev.modPlayer_freeCtr (s : Dev) (g : Player → Player) : (s.modPlayer g).freeCtr = s.freeCtr := rfl
@[simp] theorem Dev.modPlayer_readData (s : Dev) (g : Player → Player) : (s.modPlayer g).readData = s.readData := rfl
@[simp] theorem Dev.modPlayer_msgs (s : Dev) (g : Player → Player) : (s.modPlayer g).msgs = s.msgs := rfl
@[simp] theorem Dev.modPlayer_fns (s : Dev) (g : Player → Player) : (s.modPlayer g).fns = s.fns := rfl
@[simp] theorem Dev.modPlayer_tg (s : Dev) (g : Player → Player) : (s.modPlayer g).tg = s.tg := rfl
@[simp] theorem Dev.modPlayer_assign (s : Dev) (g : Player → Player) : (s.modPlayer g).assign = s.assign := rfl
@[simp] theorem Dev.modPlayer_link (s : Dev) (g : Player → Player) : (s.modPlayer g).link = s.link := rfl
@[simp] theorem Dev.modPlayer_log (s : Dev) (g : Player → Player) : (s.modPlayer g).log = s.log := rfl
@[simp] theorem Dev.modPlayer_sys (s : Dev) (g : Player → Player) : (s.modPlayer g).sys = s.sys := rfl
@[simp] theorem Dev.modPlayer_store (s : Dev) (g : Player → Player) : (s.modPlayer g).store = s.store := rfl
@[simp] theorem Dev.modPlayer_tb (s : Dev) (g : Player → Player) : (s.modPlayer g).tb = s.tb := rfl
@[simp] theorem Dev.modPlayer_stages (s : Dev) (g : Player → Player) : (s.modPlayer g).stages = s.stages := rfl
@[simp] theorem Dev.modPlayer_engines (s : Dev) (g : Player → Player) : (s.modPlayer g).engines = s.engines := rfl
@[simp] theorem Dev.modPlayer_chans (s : Dev) (g : Player → Player) : (s.modPlayer g).chans = s.chans := rfl
@[simp] theorem Dev.modPlayer_gangs (s : Dev) (g : Player → Player) : (s.modPlayer g).gangs = s.gangs := rfl
@[simp] theorem Dev.modPlayer_swapGroups (s : Dev) (g : Player → Player) : (s.modPlayer g).swapGroups = s.swapGroups := rfl
@[simp] theorem Dev.modPlayer_swaps (s : Dev) (g : Player → Player) : (s.modPlayer g).swaps = s.swaps := rfl
@[simp] theorem Dev.modPlayer_hel (s : Dev) (g : Player → Player) : (s.modPlayer g).hel = s.hel := rfl
@[simp] theorem Dev.modPlayer_seam (s : Dev) (g : Player → Player) : (s.modPlayer g).seam = s.seam := rfl
@[simp] theorem Dev.modPlayer_mxChains (s : Dev) (g : Player → Player) : (s.modPlayer g).mxChains = s.mxChains := rfl
@[simp] theorem Dev.modPlayer_mxSets (s : Dev) (g : Player → Player) : (s.modPlayer g).mxSets = s.mxSets := rfl
@[simp] theorem Dev.modPlayer_fab (s : Dev) (g : Player → Player) : (s.modPlayer g).fab = s.fab := rfl
@[simp] theorem Dev.modPlayer_seqMem (s : Dev) (g : Player → Player) : (s.modPlayer g).seqMem = s.seqMem := rfl
@[simp] theorem Dev.modPlayer_seqs (s : Dev) (g : Player → Player) : (s.modPlayer g).seqs = s.seqs := rfl
@[simp] theorem Dev.modPlayer_handlers (s : Dev) (g : Player → Player) : (s.modPlayer g).handlers = s.handlers := rfl
@[simp] theorem Dev.modPlayer_results (s : Dev) (g : Player → Player) : (s.modPlayer g).results = s.results := rfl
@[simp] theorem Dev.modPlayer_svy (s : Dev) (g : Player → Player) : (s.modPlayer g).svy = s.svy := rfl
@[simp] theorem Dev.modPlayer_cal (s : Dev) (g : Player → Player) : (s.modPlayer g).cal = s.cal := rfl
@[simp] theorem Dev.modPlayer_fn (s : Dev) (g : Player → Player) (i : Nat) : (s.modPlayer g).fn i = s.fn i := rfl
@[simp] theorem Dev.modPlayer_chan (s : Dev) (g : Player → Player) (i : Nat) : (s.modPlayer g).chan i = s.chan i := rfl
@[simp] theorem Dev.modPlayer_eng (s : Dev) (g : Player → Player) (i : Nat) : (s.modPlayer g).eng i = s.eng i := rfl
@[simp] theorem Dev.modPlayer_stage (s : Dev) (g : Player → Player) (i : Nat) : (s.modPlayer g).stage i = s.stage i := rfl
@[simp] theorem Dev.modPlayer_helon (s : Dev) (g : Player → Player) (i : Nat) : (s.modPlayer g).helon i = s.helon i := rfl
@[simp] theorem Dev.modPlayer_gang (s : Dev) (g : Player → Player) (i : Nat) : (s.modPlayer g).gang i = s.gang i := rfl
@[simp] theorem Dev.modPlayer_chain (s : Dev) (g : Player → Player) (i : Nat) : (s.modPlayer g).chain i = s.chain i := rfl
@[simp] theorem Dev.modPlayer_xset (s : Dev) (g : Player → Player) (i : Nat) : (s.modPlayer g).xset i = s.xset i := rfl
@[simp] theorem Dev.modPlayer_route (s : Dev) (g : Player → Player) (i : Nat) : (s.modPlayer g).route i = s.route i := rfl
@[simp] theorem Dev.modPlayer_seq (s : Dev) (g : Player → Player) (i : Nat) : (s.modPlayer g).seq i = s.seq i := rfl
@[simp] theorem Dev.modPlayer_listEntry (s : Dev) (g : Player → Player) (i : Nat) : (s.modPlayer g).listEntry i = s.listEntry i := rfl
@[simp] theorem Dev.modPlayer_handler (s : Dev) (g : Player → Player) (i : Nat) : (s.modPlayer g).handler i = s.handler i := rfl
@[simp] theorem Dev.modPlayer_res (s : Dev) (g : Player → Player) (i : Nat) : (s.modPlayer g).res i = s.res i := rfl

/-! `Dev.modVstat` changes `vec` only. -/
@[simp] theorem Dev.modVstat_now (s : Dev) (f : Nat) (g : VStat → VStat) : (s.modVstat f g).now = s.now := rfl
@[simp] theorem Dev.modVstat_freeCtr (s : Dev) (f : Nat) (g : VStat → VStat) : (s.modVstat f g).freeCtr = s.freeCtr := rfl
@[simp] theorem Dev.modVstat_readData (s : Dev) (f : Nat) (g : VStat → VStat) : (s.modVstat f g).readData = s.readData := rfl
@[simp] theorem Dev.modVstat_msgs (s : Dev) (f : Nat) (g : VStat → VStat) : (s.modVstat f g).msgs = s.msgs := rfl
@[simp] theorem Dev.modVstat_fns (s : Dev) (f : Nat) (g : VStat → VStat) : (s.modVstat f g).fns = s.fns := rfl
@[simp] theorem Dev.modVstat_tg (s : Dev) (f : Nat) (g : VStat → VStat) : (s.modVstat f g).tg = s.tg := rfl
@[simp] theorem Dev.modVstat_assign (s : Dev) (f : Nat) (g : VStat → VStat) : (s.modVstat f g).assign = s.assign := rfl
@[simp] theorem Dev.modVstat_link (s : Dev) (f : Nat) (g : VStat → VStat) : (s.modVstat f g).link = s.link := rfl
@[simp] theorem Dev.modVstat_log (s : Dev) (f : Nat) (g : VStat → VStat) : (s.modVstat f g).log = s.log := rfl
@[simp] theorem Dev.modVstat_sys (s : Dev) (f : Nat) (g : VStat → VStat) : (s.modVstat f g).sys = s.sys := rfl
@[simp] theorem Dev.modVstat_store (s : Dev) (f : Nat) (g : VStat → VStat) : (s.modVstat f g).store = s.store := rfl
@[simp] theorem Dev.modVstat_tb (s : Dev) (f : Nat) (g : VStat → VStat) : (s.modVstat f g).tb = s.tb := rfl
@[simp] theorem Dev.modVstat_stages (s : Dev) (f : Nat) (g : VStat → VStat) : (s.modVstat f g).stages = s.stages := rfl
@[simp] theorem Dev.modVstat_engines (s : Dev) (f : Nat) (g : VStat → VStat) : (s.modVstat f g).engines = s.engines := rfl
@[simp] theorem Dev.modVstat_chans (s : Dev) (f : Nat) (g : VStat → VStat) : (s.modVstat f g).chans = s.chans := rfl
@[simp] theorem Dev.modVstat_gangs (s : Dev) (f : Nat) (g : VStat → VStat) : (s.modVstat f g).gangs = s.gangs := rfl
@[simp] theorem Dev.modVstat_swapGroups (s : Dev) (f : Nat) (g : VStat → VStat) : (s.modVstat f g).swapGroups = s.swapGroups := rfl
@[simp] theorem Dev.modVstat_swaps (s : Dev) (f : Nat) (g : VStat → VStat) : (s.modVstat f g).swaps = s.swaps := rfl
@[simp] theorem Dev.modVstat_hel (s : Dev) (f : Nat) (g : VStat → VStat) : (s.modVstat f g).hel = s.hel := rfl
@[simp] theorem Dev.modVstat_seam (s : Dev) (f : Nat) (g : VStat → VStat) : (s.modVstat f g).seam = s.seam := rfl
@[simp] theorem Dev.modVstat_mxChains (s : Dev) (f : Nat) (g : VStat → VStat) : (s.modVstat f g).mxChains = s.mxChains := rfl
@[simp] theorem Dev.modVstat_mxSets (s : Dev) (f : Nat) (g : VStat → VStat) : (s.modVstat f g).mxSets = s.mxSets := rfl
@[simp] theorem Dev.modVstat_fab (s : Dev) (f : Nat) (g : VStat → VStat) : (s.modVstat f g).fab = s.fab := rfl
@[simp] theorem Dev.modVstat_seqMem (s : Dev) (f : Nat) (g : VStat → VStat) : (s.modVstat f g).seqMem = s.seqMem := rfl
@[simp] theorem Dev.modVstat_seqs (s : Dev) (f : Nat) (g : VStat → VStat) : (s.modVstat f g).seqs = s.seqs := rfl
@[simp] theorem Dev.modVstat_handlers (s : Dev) (f : Nat) (g : VStat → VStat) : (s.modVstat f g).handlers = s.handlers := rfl
@[simp] theorem Dev.modVstat_results (s : Dev) (f : Nat) (g : VStat → VStat) : (s.modVstat f g).results = s.results := rfl
@[simp] theorem Dev.modVstat_svy (s : Dev) (f : Nat) (g : VStat → VStat) : (s.modVstat f g).svy = s.svy := rfl
@[simp] theorem Dev.modVstat_cal (s : Dev) (f : Nat) (g : VStat → VStat) : (s.modVstat f g).cal = s.cal := rfl
@[simp] theorem Dev.modVstat_fn (s : Dev) (f : Nat) (g : VStat → VStat) (i : Nat) : (s.modVstat f g).fn i = s.fn i := rfl
@[simp] theorem Dev.modVstat_chan (s : Dev) (f : Nat) (g : VStat → VStat) (i : Nat) : (s.modVstat f g).chan i = s.chan i := rfl
@[simp] theorem Dev.modVstat_eng (s : Dev) (f : Nat) (g : VStat → VStat) (i : Nat) : (s.modVstat f g).eng i = s.eng i := rfl
@[simp] theorem Dev.modVstat_stage (s : Dev) (f : Nat) (g : VStat → VStat) (i : Nat) : (s.modVstat f g).stage i = s.stage i := rfl
@[simp] theorem Dev.modVstat_helon (s : Dev) (f : Nat) (g : VStat → VStat) (i : Nat) : (s.modVstat f g).helon i = s.helon i := rfl
@[simp] theorem Dev.modVstat_gang (s : Dev) (f : Nat) (g : VStat → VStat) (i : Nat) : (s.modVstat f g).gang i = s.gang i := rfl
@[simp] theorem Dev.modVstat_chain (s : Dev) (f : Nat) (g : VStat → VStat) (i : Nat) : (s.modVstat f g).chain i = s.chain i := rfl
@[simp] theorem Dev.modVstat_xset (s : Dev) (f : Nat) (g : VStat → VStat) (i : Nat) : (s.modVstat f g).xset i = s.xset i := rfl
@[simp] theorem Dev.modVstat_route (s : Dev) (f : Nat) (g : VStat → VStat) (i : Nat) : (s.modVstat f g).route i = s.route i := rfl
@[simp] theorem Dev.modVstat_seq (s : Dev) (f : Nat) (g : VStat → VStat) (i : Nat) : (s.modVstat f g).seq i = s.seq i := rfl
@[simp] theorem Dev.modVstat_listEntry (s : Dev) (f : Nat) (g : VStat → VStat) (i : Nat) : (s.modVstat f g).listEntry i = s.listEntry i := rfl
@[simp] theorem Dev.modVstat_handler (s : Dev) (f : Nat) (g : VStat → VStat) (i : Nat) : (s.modVstat f g).handler i = s.handler i := rfl
@[simp] theorem Dev.modVstat_res (s : Dev) (f : Nat) (g : VStat → VStat) (i : Nat) : (s.modVstat f g).res i = s.res i := rfl

/-! `Dev.advance` changes `now` only. -/
@[simp] theorem Dev.advance_freeCtr (s : Dev) (t : Nat) : (s.advance t).freeCtr = s.freeCtr := rfl
@[simp] theorem Dev.advance_readData (s : Dev) (t : Nat) : (s.advance t).readData = s.readData := rfl
@[simp] theorem Dev.advance_msgs (s : Dev) (t : Nat) : (s.advance t).msgs = s.msgs := rfl
@[simp] theorem Dev.advance_fns (s : Dev) (t : Nat) : (s.advance t).fns = s.fns := rfl
@[simp] theorem Dev.advance_tg (s : Dev) (t : Nat) : (s.advance t).tg = s.tg := rfl
@[simp] theorem Dev.advance_assign (s : Dev) (t : Nat) : (s.advance t).assign = s.assign := rfl
@[simp] theorem Dev.advance_link (s : Dev) (t : Nat) : (s.advance t).link = s.link := rfl
@[simp] theorem Dev.advance_log (s : Dev) (t : Nat) : (s.advance t).log = s.log := rfl
@[simp] theorem Dev.advance_sys (s : Dev) (t : Nat) : (s.advance t).sys = s.sys := rfl
@[simp] theorem Dev.advance_store (s : Dev) (t : Nat) : (s.advance t).store = s.store := rfl
@[simp] theorem Dev.advance_tb (s : Dev) (t : Nat) : (s.advance t).tb = s.tb := rfl
@[simp] theorem Dev.advance_stages (s : Dev) (t : Nat) : (s.advance t).stages = s.stages := rfl
@[simp] theorem Dev.advance_engines (s : Dev) (t : Nat) : (s.advance t).engines = s.engines := rfl
@[simp] theorem Dev.advance_chans (s : Dev) (t : Nat) : (s.advance t).chans = s.chans := rfl
@[simp] theorem Dev.advance_gangs (s : Dev) (t : Nat) : (s.advance t).gangs = s.gangs := rfl
@[simp] theorem Dev.advance_swapGroups (s : Dev) (t : Nat) : (s.advance t).swapGroups = s.swapGroups := rfl
@[simp] theorem Dev.advance_swaps (s : Dev) (t : Nat) : (s.advance t).swaps = s.swaps := rfl
@[simp] theorem Dev.advance_hel (s : Dev) (t : Nat) : (s.advance t).hel = s.hel := rfl
@[simp] theorem Dev.advance_seam (s : Dev) (t : Nat) : (s.advance t).seam = s.seam := rfl
@[simp] theorem Dev.advance_mxChains (s : Dev) (t : Nat) : (s.advance t).mxChains = s.mxChains := rfl
@[simp] theorem Dev.advance_mxSets (s : Dev) (t : Nat) : (s.advance t).mxSets = s.mxSets := rfl
@[simp] theorem Dev.advance_fab (s : Dev) (t : Nat) : (s.advance t).fab = s.fab := rfl
@[simp] theorem Dev.advance_seqMem (s : Dev) (t : Nat) : (s.advance t).seqMem = s.seqMem := rfl
@[simp] theorem Dev.advance_seqs (s : Dev) (t : Nat) : (s.advance t).seqs = s.seqs := rfl
@[simp] theorem Dev.advance_handlers (s : Dev) (t : Nat) : (s.advance t).handlers = s.handlers := rfl
@[simp] theorem Dev.advance_results (s : Dev) (t : Nat) : (s.advance t).results = s.results := rfl
@[simp] theorem Dev.advance_svy (s : Dev) (t : Nat) : (s.advance t).svy = s.svy := rfl
@[simp] theorem Dev.advance_cal (s : Dev) (t : Nat) : (s.advance t).cal = s.cal := rfl
@[simp] theorem Dev.advance_vec (s : Dev) (t : Nat) : (s.advance t).vec = s.vec := rfl
@[simp] theorem Dev.advance_now (s : Dev) (t : Nat) : (s.advance t).now = max s.now t := rfl
@[simp] theorem Dev.advance_fn (s : Dev) (t : Nat) (i : Nat) : (s.advance t).fn i = s.fn i := rfl
@[simp] theorem Dev.advance_chan (s : Dev) (t : Nat) (i : Nat) : (s.advance t).chan i = s.chan i := rfl
@[simp] theorem Dev.advance_eng (s : Dev) (t : Nat) (i : Nat) : (s.advance t).eng i = s.eng i := rfl
@[simp] theorem Dev.advance_stage (s : Dev) (t : Nat) (i : Nat) : (s.advance t).stage i = s.stage i := rfl
@[simp] theorem Dev.advance_helon (s : Dev) (t : Nat) (i : Nat) : (s.advance t).helon i = s.helon i := rfl
@[simp] theorem Dev.advance_gang (s : Dev) (t : Nat) (i : Nat) : (s.advance t).gang i = s.gang i := rfl
@[simp] theorem Dev.advance_chain (s : Dev) (t : Nat) (i : Nat) : (s.advance t).chain i = s.chain i := rfl
@[simp] theorem Dev.advance_xset (s : Dev) (t : Nat) (i : Nat) : (s.advance t).xset i = s.xset i := rfl
@[simp] theorem Dev.advance_route (s : Dev) (t : Nat) (i : Nat) : (s.advance t).route i = s.route i := rfl
@[simp] theorem Dev.advance_seq (s : Dev) (t : Nat) (i : Nat) : (s.advance t).seq i = s.seq i := rfl
@[simp] theorem Dev.advance_listEntry (s : Dev) (t : Nat) (i : Nat) : (s.advance t).listEntry i = s.listEntry i := rfl
@[simp] theorem Dev.advance_handler (s : Dev) (t : Nat) (i : Nat) : (s.advance t).handler i = s.handler i := rfl
@[simp] theorem Dev.advance_res (s : Dev) (t : Nat) (i : Nat) : (s.advance t).res i = s.res i := rfl
@[simp] theorem Dev.advance_vbank (s : Dev) (t : Nat) (i : Nat) : (s.advance t).vbank i = s.vbank i := rfl
@[simp] theorem Dev.advance_vstat (s : Dev) (t : Nat) (i : Nat) : (s.advance t).vstat i = s.vstat i := rfl

/-! `Dev.freeNext` changes `freeCtr` only. -/
@[simp] theorem Dev.freeNext_now (s : Dev) : s.freeNext.now = s.now := rfl
@[simp] theorem Dev.freeNext_readData (s : Dev) : s.freeNext.readData = s.readData := rfl
@[simp] theorem Dev.freeNext_msgs (s : Dev) : s.freeNext.msgs = s.msgs := rfl
@[simp] theorem Dev.freeNext_fns (s : Dev) : s.freeNext.fns = s.fns := rfl
@[simp] theorem Dev.freeNext_tg (s : Dev) : s.freeNext.tg = s.tg := rfl
@[simp] theorem Dev.freeNext_assign (s : Dev) : s.freeNext.assign = s.assign := rfl
@[simp] theorem Dev.freeNext_link (s : Dev) : s.freeNext.link = s.link := rfl
@[simp] theorem Dev.freeNext_log (s : Dev) : s.freeNext.log = s.log := rfl
@[simp] theorem Dev.freeNext_sys (s : Dev) : s.freeNext.sys = s.sys := rfl
@[simp] theorem Dev.freeNext_store (s : Dev) : s.freeNext.store = s.store := rfl
@[simp] theorem Dev.freeNext_tb (s : Dev) : s.freeNext.tb = s.tb := rfl
@[simp] theorem Dev.freeNext_stages (s : Dev) : s.freeNext.stages = s.stages := rfl
@[simp] theorem Dev.freeNext_engines (s : Dev) : s.freeNext.engines = s.engines := rfl
@[simp] theorem Dev.freeNext_chans (s : Dev) : s.freeNext.chans = s.chans := rfl
@[simp] theorem Dev.freeNext_gangs (s : Dev) : s.freeNext.gangs = s.gangs := rfl
@[simp] theorem Dev.freeNext_swapGroups (s : Dev) : s.freeNext.swapGroups = s.swapGroups := rfl
@[simp] theorem Dev.freeNext_swaps (s : Dev) : s.freeNext.swaps = s.swaps := rfl
@[simp] theorem Dev.freeNext_hel (s : Dev) : s.freeNext.hel = s.hel := rfl
@[simp] theorem Dev.freeNext_seam (s : Dev) : s.freeNext.seam = s.seam := rfl
@[simp] theorem Dev.freeNext_mxChains (s : Dev) : s.freeNext.mxChains = s.mxChains := rfl
@[simp] theorem Dev.freeNext_mxSets (s : Dev) : s.freeNext.mxSets = s.mxSets := rfl
@[simp] theorem Dev.freeNext_fab (s : Dev) : s.freeNext.fab = s.fab := rfl
@[simp] theorem Dev.freeNext_seqMem (s : Dev) : s.freeNext.seqMem = s.seqMem := rfl
@[simp] theorem Dev.freeNext_seqs (s : Dev) : s.freeNext.seqs = s.seqs := rfl
@[simp] theorem Dev.freeNext_handlers (s : Dev) : s.freeNext.handlers = s.handlers := rfl
@[simp] theorem Dev.freeNext_results (s : Dev) : s.freeNext.results = s.results := rfl
@[simp] theorem Dev.freeNext_svy (s : Dev) : s.freeNext.svy = s.svy := rfl
@[simp] theorem Dev.freeNext_cal (s : Dev) : s.freeNext.cal = s.cal := rfl
@[simp] theorem Dev.freeNext_vec (s : Dev) : s.freeNext.vec = s.vec := rfl
@[simp] theorem Dev.freeNext_freeCtr (s : Dev) : s.freeNext.freeCtr = s.freeCtr + 1 := rfl
@[simp] theorem Dev.freeNext_fn (s : Dev)  (i : Nat) : s.freeNext.fn i = s.fn i := rfl
@[simp] theorem Dev.freeNext_chan (s : Dev)  (i : Nat) : s.freeNext.chan i = s.chan i := rfl
@[simp] theorem Dev.freeNext_eng (s : Dev)  (i : Nat) : s.freeNext.eng i = s.eng i := rfl
@[simp] theorem Dev.freeNext_stage (s : Dev)  (i : Nat) : s.freeNext.stage i = s.stage i := rfl
@[simp] theorem Dev.freeNext_helon (s : Dev)  (i : Nat) : s.freeNext.helon i = s.helon i := rfl
@[simp] theorem Dev.freeNext_gang (s : Dev)  (i : Nat) : s.freeNext.gang i = s.gang i := rfl
@[simp] theorem Dev.freeNext_chain (s : Dev)  (i : Nat) : s.freeNext.chain i = s.chain i := rfl
@[simp] theorem Dev.freeNext_xset (s : Dev)  (i : Nat) : s.freeNext.xset i = s.xset i := rfl
@[simp] theorem Dev.freeNext_route (s : Dev)  (i : Nat) : s.freeNext.route i = s.route i := rfl
@[simp] theorem Dev.freeNext_seq (s : Dev)  (i : Nat) : s.freeNext.seq i = s.seq i := rfl
@[simp] theorem Dev.freeNext_listEntry (s : Dev)  (i : Nat) : s.freeNext.listEntry i = s.listEntry i := rfl
@[simp] theorem Dev.freeNext_handler (s : Dev)  (i : Nat) : s.freeNext.handler i = s.handler i := rfl
@[simp] theorem Dev.freeNext_res (s : Dev)  (i : Nat) : s.freeNext.res i = s.res i := rfl
@[simp] theorem Dev.freeNext_vbank (s : Dev)  (i : Nat) : s.freeNext.vbank i = s.vbank i := rfl
@[simp] theorem Dev.freeNext_vstat (s : Dev)  (i : Nat) : s.freeNext.vstat i = s.vstat i := rfl

/-! `State.on` and `State.onWith` leave the queue; `State.on` leaves host memory. -/
@[simp] theorem State.on_pending (s : State) (g : Dev → Dev) : (s.on g).pending = s.pending := rfl
@[simp] theorem State.on_mem (s : State) (g : Dev → Dev) : (s.on g).mem = s.mem := rfl
@[simp] theorem State.on_dev (s : State) (g : Dev → Dev) : (s.on g).dev = g s.dev := rfl
@[simp] theorem State.onWith_pending (s : State) (r : Dev × List (Nat × List Byte)) : (s.onWith r).pending = s.pending := rfl
@[simp] theorem State.onWith_dev (s : State) (r : Dev × List (Nat × List Byte)) : (s.onWith r).dev = r.1 := rfl
@[simp] theorem State.onWith_mem (s : State) (r : Dev × List (Nat × List Byte)) : (s.onWith r).mem = memWrites s.mem r.2 := rfl

end Sys2Proof.Machine
end

