-- ==== Sys2Proof/Laws/Tables.lean ====
section
/-! SUPPORT. Laws of the sparse tables and of host memory: what a read answers after a write, and that every write keeps the
canonical form. -/

namespace Sys2Proof.Machine

/-! ### Sparse tables -/

theorem tblGet_erase_same {α : Type} (d : Nat → α) (t : Tbl α) (k : Nat) : tblGet d (tblErase k t) k = d k := by
  induction t with
  | nil => rfl
  | cons e r ih =>
    by_cases h : e.1 = k
    · simpa [tblErase, h] using ih
    · simpa [tblErase, h, tblGet] using ih

theorem tblGet_erase_other {α : Type} (d : Nat → α) (t : Tbl α) {k i : Nat} (h : i ≠ k) :
    tblGet d (tblErase k t) i = tblGet d t i := by
  induction t with
  | nil => rfl
  | cons e r ih =>
    by_cases hk : e.1 = k
    · have hi : e.1 ≠ i := fun hi => h (hi ▸ hk)
      simpa [tblErase, hk, tblGet, Ne.symm h] using ih
    · by_cases hi : e.1 = i
      · have h2 : tblErase k (e :: r) = e :: tblErase k r := by simp [tblErase, hk]
        rw [h2]
        simp [tblGet, hi]
      · have h2 : tblErase k (e :: r) = e :: tblErase k r := by simp [tblErase, hk]
        rw [h2]
        simpa [tblGet, hi] using ih

theorem tblGet_insert_same {α : Type} (d : Nat → α) (t : Tbl α) (k : Nat) (v : α)
    (h : ∀ e ∈ t, e.1 ≠ k) : tblGet d (tblInsert k v t) k = v := by
  induction t with
  | nil => simp [tblInsert, tblGet]
  | cons e r ih =>
    have he : e.1 ≠ k := h e (by simp)
    by_cases hk : k < e.1
    · simp [tblInsert, hk, tblGet]
    · simpa [tblInsert, hk, tblGet, he] using ih (fun x hx => h x (by simp [hx]))

theorem tblGet_insert_other {α : Type} (d : Nat → α) (t : Tbl α) {k i : Nat} (v : α) (h : i ≠ k) :
    tblGet d (tblInsert k v t) i = tblGet d t i := by
  induction t with
  | nil => simp [tblInsert, tblGet, Ne.symm h]
  | cons e r ih =>
    by_cases hk : k < e.1
    · simp [tblInsert, hk, tblGet, Ne.symm h]
    · by_cases hi : e.1 = i
      · have h2 : tblInsert k v (e :: r) = e :: tblInsert k v r := by simp [tblInsert, hk]
        rw [h2]
        simp [tblGet, hi]
      · simpa [tblInsert, hk, tblGet, hi] using ih

theorem tblErase_ne {α : Type} (t : Tbl α) (k : Nat) : ∀ e ∈ tblErase k t, e.1 ≠ k := by
  intro e he
  simpa [tblErase] using (List.mem_filter.mp he).2

/-- An entry reads as it was written. -/
@[simp] theorem tblGet_set_same {α : Type} [DecidableEq α] (d : Nat → α) (t : Tbl α) (k : Nat) (v : α) :
    tblGet d (tblSet d t k v) k = v := by
  unfold tblSet
  split
  · next h => rw [tblGet_erase_same, h]
  · exact tblGet_insert_same d _ k v (tblErase_ne t k)

/-- A write leaves every other entry. -/
theorem tblGet_set_other {α : Type} [DecidableEq α] (d : Nat → α) (t : Tbl α) {k i : Nat} (v : α) (h : i ≠ k) :
    tblGet d (tblSet d t k v) i = tblGet d t i := by
  unfold tblSet
  split
  · exact tblGet_erase_other d t h
  · rw [tblGet_insert_other d _ v h, tblGet_erase_other d t h]

/-- What a write leaves and sets, in one equation. -/
theorem tblGet_set {α : Type} [DecidableEq α] (d : Nat → α) (t : Tbl α) (k i : Nat) (v : α) :
    tblGet d (tblSet d t k v) i = if i = k then v else tblGet d t i := by
  split
  · next h => subst h; exact tblGet_set_same d t i v
  · next h => exact tblGet_set_other d t v h

theorem tblOkFrom_mono {α : Type} [DecidableEq α] (d : Nat → α) (t : Tbl α) {a b : Nat} (h : a ≤ b)
    (ok : tblOkFrom d b t = true) : tblOkFrom d a t = true := by
  cases t with
  | nil => rfl
  | cons e r =>
    simp only [tblOkFrom, Bool.and_eq_true, decide_eq_true_eq] at ok ⊢
    exact ⟨⟨by omega, ok.1.2⟩, ok.2⟩

theorem tblOkFrom_erase {α : Type} [DecidableEq α] (d : Nat → α) (k : Nat) (t : Tbl α) (lo : Nat)
    (ok : tblOkFrom d lo t = true) : tblOkFrom d lo (tblErase k t) = true := by
  induction t generalizing lo with
  | nil => rfl
  | cons e r ih =>
    simp only [tblOkFrom, Bool.and_eq_true, decide_eq_true_eq] at ok
    by_cases hk : e.1 = k
    · have h2 : tblErase k (e :: r) = tblErase k r := by simp [tblErase, hk]
      rw [h2]
      exact tblOkFrom_mono d _ (by omega) (ih _ ok.2)
    · have h2 : tblErase k (e :: r) = e :: tblErase k r := by simp [tblErase, hk]
      rw [h2]
      simp only [tblOkFrom, Bool.and_eq_true, decide_eq_true_eq]
      exact ⟨ok.1, ih _ ok.2⟩

theorem tblOkFrom_insert {α : Type} [DecidableEq α] (d : Nat → α) (k : Nat) (v : α) (t : Tbl α) (lo : Nat)
    (hv : v ≠ d k) (hlo : lo ≤ k) (hne : ∀ e ∈ t, e.1 ≠ k) (ok : tblOkFrom d lo t = true) :
    tblOkFrom d lo (tblInsert k v t) = true := by
  induction t generalizing lo with
  | nil => simp [tblInsert, tblOkFrom, hv, hlo]
  | cons e r ih =>
    have he : e.1 ≠ k := hne e (by simp)
    simp only [tblOkFrom, Bool.and_eq_true, decide_eq_true_eq] at ok
    by_cases hk : k < e.1
    · simp only [tblInsert, hk, if_true, tblOkFrom, Bool.and_eq_true, decide_eq_true_eq]
      exact ⟨⟨hlo, by simp [hv]⟩, ⟨by omega, ok.1.2⟩, ok.2⟩
    · simp only [tblInsert, hk, if_false, tblOkFrom, Bool.and_eq_true, decide_eq_true_eq]
      exact ⟨ok.1, ih _ (by omega) (fun x hx => hne x (by simp [hx])) ok.2⟩

/-- A write keeps the canonical form. -/
theorem tblSet_ok {α : Type} [DecidableEq α] (d : Nat → α) (t : Tbl α) (k : Nat) (v : α) (ok : tblOk d t = true) :
    tblOk d (tblSet d t k v) = true := by
  unfold tblOk tblSet at *
  split
  · exact tblOkFrom_erase d k t 0 ok
  · next h => exact tblOkFrom_insert d k v _ 0 h (Nat.zero_le k) (tblErase_ne t k) (tblOkFrom_erase d k t 0 ok)

/-! ### Host memory -/

theorem memOkFrom_mono (m : List Host.Cell) {a b : Nat} (h : a ≤ b) (ok : memOkFrom b m = true) :
    memOkFrom a m = true := by
  cases m with
  | nil => rfl
  | cons c r =>
    simp only [memOkFrom, Bool.and_eq_true, decide_eq_true_eq] at ok ⊢
    exact ⟨by omega, ok.2⟩

theorem memOkFrom_erase (a : Nat) (m : List Host.Cell) (lo : Nat) (ok : memOkFrom lo m = true) :
    memOkFrom lo (tblErase a m) = true := by
  induction m generalizing lo with
  | nil => rfl
  | cons c r ih =>
    simp only [memOkFrom, Bool.and_eq_true, decide_eq_true_eq] at ok
    by_cases h : c.1 = a
    · have h2 : tblErase a (c :: r) = tblErase a r := by simp [tblErase, h]
      rw [h2]
      exact memOkFrom_mono _ (by omega) (ih _ ok.2)
    · have h2 : tblErase a (c :: r) = c :: tblErase a r := by simp [tblErase, h]
      rw [h2]
      simp only [memOkFrom, Bool.and_eq_true, decide_eq_true_eq]
      exact ⟨ok.1, ih _ ok.2⟩

theorem memOkFrom_insert (a : Nat) (b : Byte) (m : List Host.Cell) (lo : Nat) (hlo : lo ≤ a)
    (hne : ∀ c ∈ m, c.1 ≠ a) (ok : memOkFrom lo m = true) : memOkFrom lo (tblInsert a b m) = true := by
  induction m generalizing lo with
  | nil => simp [tblInsert, memOkFrom, hlo]
  | cons c r ih =>
    have he : c.1 ≠ a := hne c (by simp)
    simp only [memOkFrom, Bool.and_eq_true, decide_eq_true_eq] at ok
    by_cases h : a < c.1
    · simp only [tblInsert, h, if_true, memOkFrom, Bool.and_eq_true, decide_eq_true_eq]
      exact ⟨hlo, by omega, ok.2⟩
    · simp only [tblInsert, h, if_false, memOkFrom, Bool.and_eq_true, decide_eq_true_eq]
      exact ⟨ok.1, ih _ (by omega) (fun x hx => hne x (by simp [hx])) ok.2⟩

/-- Writing one byte keeps the canonical form. -/
theorem memWrite_wf (m : List Host.Cell) (a : Nat) (b : Byte) (ok : Memory.wf m = true) :
    Memory.wf (memWrite m a b) = true :=
  memOkFrom_insert a b _ 0 (Nat.zero_le a) (tblErase_ne m a) (memOkFrom_erase a m 0 ok)

/-- Writing bytes keeps the canonical form. -/
theorem memWriteBytes_wf (m : List Host.Cell) (a : Nat) (p : List Byte) (ok : Memory.wf m = true) :
    Memory.wf (memWriteBytes m a p) = true := by
  induction p generalizing m a with
  | nil => exact ok
  | cons b r ih => exact ih _ _ (memWrite_wf m _ b ok)

/-- A sequence of writes keeps the canonical form. -/
theorem memWrites_wf (m : List Host.Cell) (ws : List (Nat × List Byte)) (ok : Memory.wf m = true) :
    Memory.wf (memWrites m ws) = true := by
  unfold memWrites
  induction ws generalizing m with
  | nil => exact ok
  | cons w r ih => exact ih _ (memWriteBytes_wf m w.1 w.2 ok)

theorem memRead_eq (m : List Host.Cell) (a : Nat) :
    memRead m a = tblGet (fun _ => none) (m.map (fun c => (c.1, some c.2))) a := by
  unfold memRead
  induction m with
  | nil => rfl
  | cons c r ih =>
    by_cases h : c.1 = a
    · simp [List.find?, tblGet, h]
    · have h2 : (c.1 == a) = false := by simp [h]
      simp [List.find?, tblGet, h, h2, ih]

theorem map_tblErase (m : List Host.Cell) (a : Nat) :
    (tblErase a m).map (fun c => (c.1, some c.2)) = tblErase a (m.map (fun c => (c.1, some c.2))) := by
  induction m with
  | nil => rfl
  | cons c r ih =>
    by_cases h : c.1 = a
    · simpa [tblErase, h] using ih
    · simpa [tblErase, h] using ih

theorem map_tblInsert (m : List Host.Cell) (a : Nat) (b : Byte) :
    (tblInsert a b m).map (fun c => (c.1, some c.2)) = tblInsert a (some b) (m.map (fun c => (c.1, some c.2))) := by
  induction m with
  | nil => rfl
  | cons c r ih =>
    by_cases h : a < c.1
    · simp [tblInsert, h]
    · simpa [tblInsert, h] using ih

/-- A byte reads as it was written. -/
@[simp] theorem memRead_memWrite_same (m : List Host.Cell) (a : Nat) (b : Byte) :
    memRead (memWrite m a b) a = some b := by
  rw [memRead_eq, memWrite, map_tblInsert, map_tblErase]
  exact tblGet_insert_same _ _ a (some b) (tblErase_ne _ a)

/-- Writing a byte leaves every other byte. -/
theorem memRead_memWrite_other (m : List Host.Cell) {a i : Nat} (b : Byte) (h : i ≠ a) :
    memRead (memWrite m a b) i = memRead m i := by
  rw [memRead_eq, memRead_eq, memWrite, map_tblInsert, map_tblErase, tblGet_insert_other _ _ _ h,
    tblGet_erase_other _ _ h]

/-- Writing bytes leaves every byte outside them; addresses have 64 bits. -/
theorem memRead_memWriteBytes_other (m : List Host.Cell) (a i : Nat) (p : List Byte)
    (h : ∀ k < p.length, i ≠ (a + k) % 2 ^ 64) : memRead (memWriteBytes m a p) i = memRead m i := by
  induction p generalizing m a with
  | nil => rfl
  | cons b r ih =>
    unfold memWriteBytes
    rw [ih, memRead_memWrite_other]
    · simpa using h 0 (by simp)
    · intro k hk
      have := h (k + 1) (by simpa using hk)
      rwa [show a + 1 + k = a + (k + 1) by omega]

end Sys2Proof.Machine
end

