-- ==== Sys2Proof/Laws/Ops.lean ====
section
/-! SUPPORT. What each shared operation can do, once: the entry it changes and the fields it leaves. Proofs about a command cite
these and never unfold the operation. -/

namespace Sys2Proof.Machine

/-! ### Entries of the register groups -/

/-- `modFn` changes one entry. -/
theorem Dev.modFn_get (s : Dev) (k i : Nat) (g : Fn → Fn) :
    (s.modFn k g).fn i = if i = k then g (s.fn k) else s.fn i := by
  unfold Dev.modFn Dev.fn; exact tblGet_set _ _ _ _ _
@[simp] theorem Dev.modFn_same (s : Dev) (k : Nat) (g : Fn → Fn) : (s.modFn k g).fn k = g (s.fn k) := by
  rw [Dev.modFn_get, if_pos rfl]

/-- `modChan` changes one entry. -/
theorem Dev.modChan_get (s : Dev) (k i : Nat) (g : Chan → Chan) :
    (s.modChan k g).chan i = if i = k then g (s.chan k) else s.chan i := by
  unfold Dev.modChan Dev.chan; exact tblGet_set _ _ _ _ _
@[simp] theorem Dev.modChan_same (s : Dev) (k : Nat) (g : Chan → Chan) : (s.modChan k g).chan k = g (s.chan k) := by
  rw [Dev.modChan_get, if_pos rfl]

/-- `modEng` changes one entry. -/
theorem Dev.modEng_get (s : Dev) (k i : Nat) (g : Engine → Engine) :
    (s.modEng k g).eng i = if i = k then g (s.eng k) else s.eng i := by
  unfold Dev.modEng Dev.eng; exact tblGet_set _ _ _ _ _
@[simp] theorem Dev.modEng_same (s : Dev) (k : Nat) (g : Engine → Engine) : (s.modEng k g).eng k = g (s.eng k) := by
  rw [Dev.modEng_get, if_pos rfl]

/-- `modStage` changes one entry. -/
theorem Dev.modStage_get (s : Dev) (k i : Nat) (g : Stage → Stage) :
    (s.modStage k g).stage i = if i = k then g (s.stage k) else s.stage i := by
  unfold Dev.modStage Dev.stage; exact tblGet_set _ _ _ _ _
@[simp] theorem Dev.modStage_same (s : Dev) (k : Nat) (g : Stage → Stage) : (s.modStage k g).stage k = g (s.stage k) := by
  rw [Dev.modStage_get, if_pos rfl]

/-- `modHelon` changes one entry. -/
theorem Dev.modHelon_get (s : Dev) (k i : Nat) (g : Helon → Helon) :
    (s.modHelon k g).helon i = if i = k then g (s.helon k) else s.helon i := by
  unfold Dev.modHelon Dev.helon; exact tblGet_set _ _ _ _ _
@[simp] theorem Dev.modHelon_same (s : Dev) (k : Nat) (g : Helon → Helon) : (s.modHelon k g).helon k = g (s.helon k) := by
  rw [Dev.modHelon_get, if_pos rfl]

/-- `modChain` changes one entry. -/
theorem Dev.modChain_get (s : Dev) (k i : Nat) (g : Chain → Chain) :
    (s.modChain k g).chain i = if i = k then g (s.chain k) else s.chain i := by
  unfold Dev.modChain Dev.chain; exact tblGet_set _ _ _ _ _
@[simp] theorem Dev.modChain_same (s : Dev) (k : Nat) (g : Chain → Chain) : (s.modChain k g).chain k = g (s.chain k) := by
  rw [Dev.modChain_get, if_pos rfl]

/-- `modSet` changes one entry. -/
theorem Dev.modSet_get (s : Dev) (k i : Nat) (g : XSet → XSet) :
    (s.modSet k g).xset i = if i = k then g (s.xset k) else s.xset i := by
  unfold Dev.modSet Dev.xset; exact tblGet_set _ _ _ _ _
@[simp] theorem Dev.modSet_same (s : Dev) (k : Nat) (g : XSet → XSet) : (s.modSet k g).xset k = g (s.xset k) := by
  rw [Dev.modSet_get, if_pos rfl]

/-- `modSeq` changes one entry. -/
theorem Dev.modSeq_get (s : Dev) (k i : Nat) (g : Seq → Seq) :
    (s.modSeq k g).seq i = if i = k then g (s.seq k) else s.seq i := by
  unfold Dev.modSeq Dev.seq; exact tblGet_set _ _ _ _ _
@[simp] theorem Dev.modSeq_same (s : Dev) (k : Nat) (g : Seq → Seq) : (s.modSeq k g).seq k = g (s.seq k) := by
  rw [Dev.modSeq_get, if_pos rfl]

/-- `modHandler` changes one entry. -/
theorem Dev.modHandler_get (s : Dev) (k i : Nat) (g : Handler → Handler) :
    (s.modHandler k g).handler i = if i = k then g (s.handler k) else s.handler i := by
  unfold Dev.modHandler Dev.handler; exact tblGet_set _ _ _ _ _
@[simp] theorem Dev.modHandler_same (s : Dev) (k : Nat) (g : Handler → Handler) : (s.modHandler k g).handler k = g (s.handler k) := by
  rw [Dev.modHandler_get, if_pos rfl]

/-- `modRes` changes one entry. -/
theorem Dev.modRes_get (s : Dev) (k i : Nat) (g : ResChan → ResChan) :
    (s.modRes k g).res i = if i = k then g (s.res k) else s.res i := by
  unfold Dev.modRes Dev.res; exact tblGet_set _ _ _ _ _
@[simp] theorem Dev.modRes_same (s : Dev) (k : Nat) (g : ResChan → ResChan) : (s.modRes k g).res k = g (s.res k) := by
  rw [Dev.modRes_get, if_pos rfl]

/-- `modRoute` changes one route. -/
theorem Dev.modRoute_get (s : Dev) (k i : Nat) (g : Route → Route) :
    (s.modRoute k g).route i = if i = k then g (s.route k) else s.route i := by
  unfold Dev.modRoute Dev.route Dev.modFab; exact tblGet_set _ _ _ _ _

/-- `setGang` sets one gang. -/
theorem Dev.setGang_get (s : Dev) (k i : Nat) (v : Option Gang) :
    (s.setGang k v).gang i = if i = k then v else s.gang i := by
  unfold Dev.setGang Dev.gang; exact tblGet_set _ _ _ _ _

/-- `modVstat` changes one function's fields. -/
theorem Dev.modVstat_get (s : Dev) (k i : Nat) (g : VStat → VStat) :
    (s.modVstat k g).vstat i = if i = k then g (s.vstat k) else s.vstat i := by
  unfold Dev.modVstat Dev.vstat Dev.modVec; exact tblGet_set _ _ _ _ _

/-- `modVec` of a function changes one vector. -/
theorem Fn.modVec_get (f : Fn) (k i : Nat) (g : Vec → Vec) :
    (f.modVec k g).vec i = if i = k then g (f.vec k) else f.vec i := by
  unfold Fn.modVec Fn.vec; exact tblGet_set _ _ _ _ _

/-- `modRing` of a function changes one ring. -/
theorem Fn.modRing_get (f : Fn) (k i : Nat) (g : Ring → Ring) :
    (f.modRing k g).ring i = if i = k then g (f.ring k) else f.ring i := by
  unfold Fn.modRing Fn.ring; exact tblGet_set _ _ _ _ _

/-! ### Operations that change a few fields only

`OnlyX a b` says that `b` differs from `a` in the fields of `X` alone. -/

/-- Only the log differs. -/
def OnlyLog (a b : Dev) : Prop := b = { a with log := b.log }
/-- Only functions' registers and sent messages differ. -/
def OnlyIrq (a b : Dev) : Prop := b = { a with fns := b.fns, msgs := b.msgs }
/-- Only what GSTAT shows and its interrupt reach differ. -/
def OnlyGstat (a b : Dev) : Prop :=
  b = { a with sys := { a.sys with gstatChg := b.sys.gstatChg }, fns := b.fns, msgs := b.msgs }
/-- Only the fabric and the latches of a wake differ. -/
def OnlyFab (a b : Dev) : Prop :=
  b = { a with fab := b.fab,
               sys := { a.sys with waking := b.sys.waking, wakeCause := b.sys.wakeCause, wakeLatched := b.sys.wakeLatched } }
/-- Only functions' registers, pending commands and the counter of free values differ. -/
def OnlyMbx (a b : Dev) : Prop := b = { a with fns := b.fns, tg := b.tg, freeCtr := b.freeCtr }
/-- What a row's effect on fabric and GSTAT leaves: all but the fabric, functions, messages and four fields of `sys`. -/
def OnlyShown (a b : Dev) : Prop :=
  b = { a with fab := b.fab, fns := b.fns, msgs := b.msgs,
               sys := { a.sys with waking := b.sys.waking, wakeCause := b.sys.wakeCause, wakeLatched := b.sys.wakeLatched,
                                   gstatChg := b.sys.gstatChg } }

theorem OnlyLog.refl (a : Dev) : OnlyLog a a := rfl
theorem OnlyLog.trans {a b c : Dev} (h : OnlyLog a b) (k : OnlyLog b c) : OnlyLog a c := by
  unfold OnlyLog at *; rw [k, h]
theorem OnlyLog.foldl {β : Type} (f : Dev → β → Dev) (h : ∀ s x, OnlyLog s (f s x)) (l : List β) (s : Dev) :
    OnlyLog s (l.foldl f s) := by
  induction l generalizing s with
  | nil => exact OnlyLog.refl s
  | cons x r ih => exact OnlyLog.trans (h s x) (ih _)

theorem OnlyIrq.refl (a : Dev) : OnlyIrq a a := rfl
theorem OnlyIrq.trans {a b c : Dev} (h : OnlyIrq a b) (k : OnlyIrq b c) : OnlyIrq a c := by
  unfold OnlyIrq at *; rw [k, h]
theorem OnlyIrq.foldl {β : Type} (f : Dev → β → Dev) (h : ∀ s x, OnlyIrq s (f s x)) (l : List β) (s : Dev) :
    OnlyIrq s (l.foldl f s) := by
  induction l generalizing s with
  | nil => exact OnlyIrq.refl s
  | cons x r ih => exact OnlyIrq.trans (h s x) (ih _)

theorem OnlyGstat.refl (a : Dev) : OnlyGstat a a := rfl
theorem OnlyGstat.trans {a b c : Dev} (h : OnlyGstat a b) (k : OnlyGstat b c) : OnlyGstat a c := by
  unfold OnlyGstat at *; rw [k, h]
theorem OnlyGstat.foldl {β : Type} (f : Dev → β → Dev) (h : ∀ s x, OnlyGstat s (f s x)) (l : List β) (s : Dev) :
    OnlyGstat s (l.foldl f s) := by
  induction l generalizing s with
  | nil => exact OnlyGstat.refl s
  | cons x r ih => exact OnlyGstat.trans (h s x) (ih _)

theorem OnlyFab.refl (a : Dev) : OnlyFab a a := rfl
theorem OnlyFab.trans {a b c : Dev} (h : OnlyFab a b) (k : OnlyFab b c) : OnlyFab a c := by
  unfold OnlyFab at *; rw [k, h]
theorem OnlyFab.foldl {β : Type} (f : Dev → β → Dev) (h : ∀ s x, OnlyFab s (f s x)) (l : List β) (s : Dev) :
    OnlyFab s (l.foldl f s) := by
  induction l generalizing s with
  | nil => exact OnlyFab.refl s
  | cons x r ih => exact OnlyFab.trans (h s x) (ih _)

theorem OnlyMbx.refl (a : Dev) : OnlyMbx a a := rfl
theorem OnlyMbx.trans {a b c : Dev} (h : OnlyMbx a b) (k : OnlyMbx b c) : OnlyMbx a c := by
  unfold OnlyMbx at *; rw [k, h]
theorem OnlyMbx.foldl {β : Type} (f : Dev → β → Dev) (h : ∀ s x, OnlyMbx s (f s x)) (l : List β) (s : Dev) :
    OnlyMbx s (l.foldl f s) := by
  induction l generalizing s with
  | nil => exact OnlyMbx.refl s
  | cons x r ih => exact OnlyMbx.trans (h s x) (ih _)

theorem OnlyShown.refl (a : Dev) : OnlyShown a a := rfl
theorem OnlyShown.trans {a b c : Dev} (h : OnlyShown a b) (k : OnlyShown b c) : OnlyShown a c := by
  unfold OnlyShown at *; rw [k, h]
theorem OnlyShown.foldl {β : Type} (f : Dev → β → Dev) (h : ∀ s x, OnlyShown s (f s x)) (l : List β) (s : Dev) :
    OnlyShown s (l.foldl f s) := by
  induction l generalizing s with
  | nil => exact OnlyShown.refl s
  | cons x r ih => exact OnlyShown.trans (h s x) (ih _)

theorem Dev.modFn_irqOnly (s : Dev) (f : Nat) (g : Fn → Fn) : OnlyIrq s (s.modFn f g) := rfl
theorem Dev.modFab_fabOnly (s : Dev) (g : Fabric → Fabric) : OnlyFab s (s.modFab g) := rfl
theorem Dev.modFn_mbxOnly (s : Dev) (f : Nat) (g : Fn → Fn) : OnlyMbx s (s.modFn f g) := rfl
theorem Dev.modTg_mbxOnly (s : Dev) (g : Tollgate → Tollgate) : OnlyMbx s (s.modTg g) := rfl
theorem Dev.freeNext_mbxOnly (s : Dev) : OnlyMbx s s.freeNext := rfl

/-- An occurrence changes the log alone (R605, R606). -/
theorem Dev.logIt_only (s : Dev) (k : LogKey) (d e : Nat) : OnlyLog s (s.logIt k d e) := by
  unfold Dev.logIt; dsimp only; repeat' split
  all_goals rfl

/-- A message changes its function's vector and the messages sent (R83, R86). -/
theorem Dev.signal_only (s : Dev) (f v : Nat) : OnlyIrq s (s.signal f v) := by
  unfold Dev.signal; dsimp only; repeat' split
  all_goals rfl

/-- An interrupt occurrence changes functions' registers and the messages sent (R82, R83). -/
theorem Dev.irq_only (s : Dev) (f b : Nat) : OnlyIrq s (s.irq f b) := by
  unfold Dev.irq; dsimp only
  split
  · exact OnlyIrq.refl s
  · split
    · split
      · exact OnlyIrq.trans (OnlyIrq.trans (Dev.modFn_irqOnly ..) (Dev.modFn_irqOnly ..)) (Dev.signal_only _ _ _)
      · exact OnlyIrq.trans (Dev.modFn_irqOnly ..) (Dev.modFn_irqOnly ..)
    · exact Dev.modFn_irqOnly ..

/-- An occurrence for every function. -/
theorem Dev.irqEvery_only (s : Dev) (b : Nat) : OnlyIrq s (s.irqEvery b) :=
  OnlyIrq.foldl _ (fun s f => Dev.irq_only s f b) _ s

/-- Noting GSTAT changes GSTAT_CHG and what its interrupt reaches. -/
theorem Dev.gstatNote_only (new old : Dev) : OnlyGstat new (new.gstatNote old) := by
  unfold Dev.gstatNote; dsimp only
  generalize (if new.gstatLow.xor old.gstatLow / 1024 % 4 ≠ 0 then _ else _) = d
  split
  · exact OnlyGstat.refl new
  · refine OnlyGstat.foldl _ (fun s i => ?_) _ new
    have h := Dev.irq_only (s.modSys (fun y => { y with gstatChg := y.gstatChg ||| 2 ^ i })) 0 irqGlobal
    unfold OnlyIrq at h
    unfold OnlyGstat
    rw [h]
    rfl

/-- A wake request changes the latches of a wake. -/
theorem Dev.wakeBy_only (s : Dev) (c : Nat) : OnlyFab s (s.wakeBy c) := by
  unfold Dev.wakeBy; repeat' split
  all_goals rfl

/-- An edge that reaches a consumer changes the fabric, and may wake. -/
theorem Dev.edgeTo_only (s : Dev) (r n t : Nat) : OnlyFab s (s.edgeTo r n t) := by
  unfold Dev.edgeTo; dsimp only; repeat' split
  · exact OnlyFab.refl s
  · exact OnlyFab.refl s
  · exact OnlyFab.trans (Dev.modFab_fabOnly ..) (Dev.wakeBy_only _ _)
  · exact OnlyFab.trans (Dev.modFab_fabOnly ..) (Dev.wakeBy_only _ _)
  · exact Dev.modFab_fabOnly ..

/-- Rising outputs change the fabric, and may wake. -/
theorem Dev.arrive_only (s : Dev) (rising held : List Nat) (t w : Nat → Nat) : OnlyFab s (s.arrive rising held t w) := by
  unfold Dev.arrive; dsimp only
  refine OnlyFab.trans (b := s.forAll rising _) ?_ (OnlyFab.foldl _ (fun s r => OnlyFab.foldl _ (fun s n => ?_) _ s) _ _)
  · exact OnlyFab.foldl _ (fun s r => Dev.modFab_fabOnly ..) _ s
  · split
    · exact OnlyFab.refl s
    · exact Dev.edgeTo_only ..

/-- Edges taken back change the fabric. -/
theorem Dev.takeBack_only (s : Dev) (gone : List Nat) (u : Nat) : OnlyFab s (s.takeBack gone u) := by
  unfold Dev.takeBack
  exact OnlyFab.trans (OnlyFab.foldl _ (fun s r => Dev.modFab_fabOnly ..) _ s) (Dev.modFab_fabOnly ..)

/-- What one pulse changes at an instant: the fabric, and a wake. -/
theorem Dev.cut_only (s : Dev) (l : List (Nat × Nat × Nat)) (p : Nat × Nat × Nat) (a : Bool) (u : Nat) :
    OnlyFab s (s.cut l p a u).1 := by
  unfold Dev.cut; dsimp only
  exact OnlyFab.trans (Dev.takeBack_only ..) (Dev.arrive_only ..)

/-- A pulse changes the fabric, and may wake. -/
theorem Dev.pulseGo_only (fuel : Nat) : ∀ (s : Dev) (n t w : Nat) (a : Bool), OnlyFab s (Dev.pulseGo fuel s n t w a) := by
  induction fuel with
  | zero => intro s n t w a; exact OnlyFab.refl s
  | succ k ih =>
    intro s n t w a
    unfold Dev.pulseGo; dsimp only
    refine OnlyFab.trans ?_ (OnlyFab.foldl _ (fun s x => ih s _ _ _ _) _ _)
    have h : ∀ (l : List (Nat × Nat × Nat)) (p : Nat × Nat × Nat) (us : List Nat) (x : Dev × List (Nat × Nat)),
        OnlyFab x.1 (us.foldl (fun (a' : Dev × List (Nat × Nat)) u => let b := a'.1.cut l p a u; (b.1, a'.2 ++ b.2)) x).1 := by
      intro l p us
      induction us with
      | nil => intro x; exact OnlyFab.refl _
      | cons u r ihu => intro x; exact OnlyFab.trans (Dev.cut_only x.1 l p a u) (ihu _)
    exact OnlyFab.trans (Dev.modFab_fabOnly ..) (h _ _ _ _)

theorem Dev.pulseFor_only (s : Dev) (n t w : Nat) : OnlyFab s (s.pulseFor n t w) := by
  unfold Dev.pulseFor; split
  · exact OnlyFab.refl s
  · exact Dev.pulseGo_only ..

theorem Dev.pulseAt_only (s : Dev) (n t : Nat) : OnlyFab s (s.pulseAt n t) := Dev.pulseFor_only ..

theorem Dev.pulse_only (s : Dev) (n : Nat) : OnlyFab s (s.pulse n) := Dev.pulseFor_only ..

theorem Dev.fire_only (s : Dev) (r : Nat) : OnlyFab s (s.fire r) := by
  unfold Dev.fire; dsimp only
  exact OnlyFab.trans (Dev.modFab_fabOnly ..) (Dev.pulseGo_only ..)

theorem Dev.fabricNote_only (new old : Dev) : OnlyFab new (new.fabricNote old) := by
  unfold Dev.fabricNote Dev.linesNote; dsimp only
  refine OnlyFab.trans ?_ (Dev.modFab_fabOnly ..)
  refine OnlyFab.trans ?_ (OnlyFab.foldl _ (fun s n => ?_) _ _)
  · exact Dev.arrive_only ..
  · exact Dev.pulseGo_only ..

theorem OnlyFab.shown {a b : Dev} (h : OnlyFab a b) : OnlyShown a b := by
  unfold OnlyFab at h; unfold OnlyShown; rw [h]

theorem OnlyGstat.shown {a b : Dev} (h : OnlyGstat a b) : OnlyShown a b := by
  unfold OnlyGstat at h; unfold OnlyShown; rw [h]

theorem OnlyIrq.shown {a b : Dev} (h : OnlyIrq a b) : OnlyShown a b := by
  unfold OnlyIrq at h; unfold OnlyShown; rw [h]

/-- What `observed` adds to a row's own change. -/
theorem Dev.observed_only (s : Dev) (g : Dev → Dev) : OnlyShown (g s) (s.observed g) :=
  OnlyShown.trans (OnlyFab.shown (Dev.fabricNote_only (g s) s)) (OnlyGstat.shown (Dev.gstatNote_only ..))

theorem Dev.withGstat_only (s : Dev) (g : Dev → Dev) : OnlyShown (g s) (s.withGstat g) :=
  OnlyGstat.shown (Dev.gstatNote_only ..)

theorem Dev.withFabric_only (s : Dev) (g : Dev → Dev) : OnlyShown (g s) (s.withFabric g) :=
  OnlyFab.shown (Dev.fabricNote_only (g s) s)

/-- A reply changes its function alone. -/
theorem Dev.post_only (s : Dev) (j : Job) (st : Nat) (p : List Byte) (a b : Bool) : OnlyMbx s (s.post j st p a b) := by
  unfold Dev.post; dsimp only; split <;> rfl

/-- A service time that ends changes its function alone (R113). -/
theorem Dev.served_only (s : Dev) (f : Nat) (a : Option Nat) : OnlyMbx s (s.served f a) := by
  unfold Dev.served; split
  · exact OnlyMbx.refl s
  · exact Dev.modFn_mbxOnly ..

/-- A final reply changes its function and the pending list (R99, R112). -/
theorem Dev.finalReply_only (s : Dev) (r : Running) (st : Nat) (p : List Byte) : OnlyMbx s (s.finalReply r st p) := by
  unfold Dev.finalReply; dsimp only; split
  · exact Dev.modTg_mbxOnly ..
  · exact OnlyMbx.trans (OnlyMbx.trans (Dev.modTg_mbxOnly ..) (Dev.post_only ..)) (Dev.modFn_mbxOnly ..)

/-- The final replies of finished commands change functions and the pending list (R99). -/
theorem Dev.settleAll_only (s : Dev) (l : List Running) : OnlyMbx s (s.settleAll l) :=
  OnlyMbx.foldl _ (fun s r => match h : r.result with
    | some p => by simpa only [h] using Dev.finalReply_only s r p.1 p.2
    | none => by simpa only [h] using OnlyMbx.refl s) l s

theorem Dev.settle_only (s : Dev) (f : Nat) : OnlyMbx s (s.settle f) := Dev.settleAll_only ..

/-- A command that leaves with those that finished before it changes functions and the pending list (R99). -/
theorem Dev.leaves_only (s : Dev) (r : Running) (st : Nat) (p : List Byte) : OnlyMbx s (s.leaves r st p) := by
  unfold Dev.leaves; split
  · exact OnlyMbx.trans (Dev.settleAll_only ..) (Dev.finalReply_only ..)
  · exact Dev.finalReply_only ..

/-- With no finished command of the function there is nothing to settle. -/
theorem Dev.settle_none (s : Dev) (f : Nat) (h : s.finished f = []) : s.settle f = s := by
  unfold Dev.settle; rw [h]; rfl

/-- A command that ends changes functions and the pending list (R99, R111). -/
theorem Dev.done_only (s : Dev) (j : Job) (st : Nat) (p : List Byte) : OnlyMbx s (s.done j st p) := by
  unfold Dev.done; dsimp only; split
  · exact OnlyMbx.trans (OnlyMbx.trans (Dev.settle_only ..) (Dev.post_only ..)) (Dev.modFn_mbxOnly ..)
  · exact OnlyMbx.trans (Dev.post_only ..) (Dev.modFn_mbxOnly ..)

/-- A command that stays pending changes functions, the pending list and the free counter. -/
theorem Dev.pend_only (s : Dev) (j : Job) (st : Bool) (n : List Res) (d : List Int) : OnlyMbx s (s.pend j st n d) := by
  unfold Dev.pend; dsimp only; split
  · exact OnlyMbx.trans (OnlyMbx.trans (OnlyMbx.trans (Dev.settle_only ..) (Dev.post_only ..)) (Dev.freeNext_mbxOnly _))
      (Dev.modTg_mbxOnly ..)
  · exact OnlyMbx.trans (Dev.served_only ..) (Dev.modTg_mbxOnly ..)

theorem Dev.hold_only (s : Dev) (j : Job) (n : List Res) (d : List Int) : OnlyMbx s (s.hold j n d) := rfl

theorem Dev.finish_only (s : Dev) (id st : Nat) (p : List Byte) : OnlyMbx s (s.finish id st p) := by
  unfold Dev.finish; dsimp only; repeat' split
  all_goals rfl

theorem Dev.finish?_only (s : Dev) (id : Option Nat) (st : Nat) (p : List Byte) : OnlyMbx s (s.finish? id st p) := by
  unfold Dev.finish?; split
  · exact Dev.finish_only ..
  · exact OnlyMbx.refl s

theorem Dev.setData_only (s : Dev) (id : Nat) (d : List Int) : OnlyMbx s (s.setData id d) := rfl

theorem Dev.addData_only (s : Dev) (id : Nat) (v : Int) : OnlyMbx s (s.addData id v) := rfl

/-- `b` differs from `a` in each function by causes and vectors alone. -/
def OnlyCauses (a b : Dev) : Prop := ∀ i, b.fn i = { a.fn i with irqCause := (b.fn i).irqCause, vecs := (b.fn i).vecs }

theorem OnlyCauses.of_fns {a b : Dev} (h : b.fns = a.fns) : OnlyCauses a b := by
  intro i; unfold Dev.fn; rw [h]

theorem OnlyCauses.trans {a b c : Dev} (h : OnlyCauses a b) (k : OnlyCauses b c) : OnlyCauses a c := by
  intro i; rw [k i, h i]

theorem OnlyCauses.foldl {β : Type} (f : Dev → β → Dev) (h : ∀ s x, OnlyCauses s (f s x)) (l : List β) (s : Dev) :
    OnlyCauses s (l.foldl f s) := by
  induction l generalizing s with
  | nil => exact OnlyCauses.of_fns rfl
  | cons x r ih => exact OnlyCauses.trans (h s x) (ih _)

theorem OnlyCauses.modFn (s : Dev) (f : Nat) (g : Fn → Fn)
    (h : ∀ x, g x = { x with irqCause := (g x).irqCause, vecs := (g x).vecs }) : OnlyCauses s (s.modFn f g) := by
  intro i
  rw [Dev.modFn_get]
  split
  · next e => subst e; exact h _
  · rfl

/-- A message leaves all of a function but its causes and vectors. -/
theorem Dev.signal_causes (s : Dev) (f v : Nat) : OnlyCauses s (s.signal f v) := by
  unfold Dev.signal; dsimp only
  split
  · exact OnlyCauses.modFn _ _ _ (fun _ => rfl)
  · split
    · exact OnlyCauses.modFn _ _ _ (fun _ => rfl)
    · exact OnlyCauses.trans (OnlyCauses.modFn s f (fun r => r.modVec v (fun x =>
        { x with count := 0, start := none, pba := false, edge := false })) (fun _ => rfl)) (OnlyCauses.of_fns rfl)

/-- An interrupt occurrence leaves all of a function but its causes and vectors (R82, R83). -/
theorem Dev.irq_causes (s : Dev) (f b : Nat) : OnlyCauses s (s.irq f b) := by
  unfold Dev.irq; dsimp only
  split
  · exact OnlyCauses.of_fns rfl
  · split
    · split
      · exact OnlyCauses.trans (OnlyCauses.trans (OnlyCauses.modFn _ _ _ (fun _ => rfl))
          (OnlyCauses.modFn _ _ _ (fun _ => rfl))) (Dev.signal_causes _ _ _)
      · exact OnlyCauses.trans (OnlyCauses.modFn _ _ _ (fun _ => rfl)) (OnlyCauses.modFn _ _ _ (fun _ => rfl))
    · exact OnlyCauses.modFn _ _ _ (fun _ => rfl)

theorem Dev.gstatNote_causes (new old : Dev) : OnlyCauses new (new.gstatNote old) := by
  unfold Dev.gstatNote; dsimp only
  generalize (if new.gstatLow.xor old.gstatLow / 1024 % 4 ≠ 0 then _ else _) = d
  split
  · exact OnlyCauses.of_fns rfl
  · refine OnlyCauses.foldl _ (fun s i => ?_) _ new
    exact OnlyCauses.trans (OnlyCauses.of_fns rfl) (Dev.irq_causes _ 0 irqGlobal)

/-- What a row shows outside leaves all of a function but its causes and vectors. -/
theorem Dev.observed_causes (s : Dev) (g : Dev → Dev) : OnlyCauses (g s) (s.observed g) := by
  have h : ((g s).fabricNote s).fns = (g s).fns := by rw [Dev.fabricNote_only (g s) s]
  exact OnlyCauses.trans (OnlyCauses.of_fns h) (Dev.gstatNote_causes _ _)

/-! ### The fields that these operations leave, for rewriting -/

@[simp] theorem Dev.logIt_now (s : Dev) (k : LogKey) (d e : Nat) : (s.logIt k d e).now = s.now := by rw [Dev.logIt_only s k d e]
@[simp] theorem Dev.logIt_freeCtr (s : Dev) (k : LogKey) (d e : Nat) : (s.logIt k d e).freeCtr = s.freeCtr := by rw [Dev.logIt_only s k d e]
@[simp] theorem Dev.logIt_readData (s : Dev) (k : LogKey) (d e : Nat) : (s.logIt k d e).readData = s.readData := by rw [Dev.logIt_only s k d e]
@[simp] theorem Dev.logIt_msgs (s : Dev) (k : LogKey) (d e : Nat) : (s.logIt k d e).msgs = s.msgs := by rw [Dev.logIt_only s k d e]
@[simp] theorem Dev.logIt_fns (s : Dev) (k : LogKey) (d e : Nat) : (s.logIt k d e).fns = s.fns := by rw [Dev.logIt_only s k d e]
@[simp] theorem Dev.logIt_tg (s : Dev) (k : LogKey) (d e : Nat) : (s.logIt k d e).tg = s.tg := by rw [Dev.logIt_only s k d e]
@[simp] theorem Dev.logIt_assign (s : Dev) (k : LogKey) (d e : Nat) : (s.logIt k d e).assign = s.assign := by rw [Dev.logIt_only s k d e]
@[simp] theorem Dev.logIt_link (s : Dev) (k : LogKey) (d e : Nat) : (s.logIt k d e).link = s.link := by rw [Dev.logIt_only s k d e]
@[simp] theorem Dev.logIt_sys (s : Dev) (k : LogKey) (d e : Nat) : (s.logIt k d e).sys = s.sys := by rw [Dev.logIt_only s k d e]
@[simp] theorem Dev.logIt_store (s : Dev) (k : LogKey) (d e : Nat) : (s.logIt k d e).store = s.store := by rw [Dev.logIt_only s k d e]
@[simp] theorem Dev.logIt_tb (s : Dev) (k : LogKey) (d e : Nat) : (s.logIt k d e).tb = s.tb := by rw [Dev.logIt_only s k d e]
@[simp] theorem Dev.logIt_stages (s : Dev) (k : LogKey) (d e : Nat) : (s.logIt k d e).stages = s.stages := by rw [Dev.logIt_only s k d e]
@[simp] theorem Dev.logIt_engines (s : Dev) (k : LogKey) (d e : Nat) : (s.logIt k d e).engines = s.engines := by rw [Dev.logIt_only s k d e]
@[simp] theorem Dev.logIt_chans (s : Dev) (k : LogKey) (d e : Nat) : (s.logIt k d e).chans = s.chans := by rw [Dev.logIt_only s k d e]
@[simp] theorem Dev.logIt_gangs (s : Dev) (k : LogKey) (d e : Nat) : (s.logIt k d e).gangs = s.gangs := by rw [Dev.logIt_only s k d e]
@[simp] theorem Dev.logIt_swapGroups (s : Dev) (k : LogKey) (d e : Nat) : (s.logIt k d e).swapGroups = s.swapGroups := by rw [Dev.logIt_only s k d e]
@[simp] theorem Dev.logIt_swaps (s : Dev) (k : LogKey) (d e : Nat) : (s.logIt k d e).swaps = s.swaps := by rw [Dev.logIt_only s k d e]
@[simp] theorem Dev.logIt_hel (s : Dev) (k : LogKey) (d e : Nat) : (s.logIt k d e).hel = s.hel := by rw [Dev.logIt_only s k d e]
@[simp] theorem Dev.logIt_seam (s : Dev) (k : LogKey) (d e : Nat) : (s.logIt k d e).seam = s.seam := by rw [Dev.logIt_only s k d e]
@[simp] theorem Dev.logIt_mxChains (s : Dev) (k : LogKey) (d e : Nat) : (s.logIt k d e).mxChains = s.mxChains := by rw [Dev.logIt_only s k d e]
@[simp] theorem Dev.logIt_mxSets (s : Dev) (k : LogKey) (d e : Nat) : (s.logIt k d e).mxSets = s.mxSets := by rw [Dev.logIt_only s k d e]
@[simp] theorem Dev.logIt_fab (s : Dev) (k : LogKey) (d e : Nat) : (s.logIt k d e).fab = s.fab := by rw [Dev.logIt_only s k d e]
@[simp] theorem Dev.logIt_seqMem (s : Dev) (k : LogKey) (d e : Nat) : (s.logIt k d e).seqMem = s.seqMem := by rw [Dev.logIt_only s k d e]
@[simp] theorem Dev.logIt_seqs (s : Dev) (k : LogKey) (d e : Nat) : (s.logIt k d e).seqs = s.seqs := by rw [Dev.logIt_only s k d e]
@[simp] theorem Dev.logIt_handlers (s : Dev) (k : LogKey) (d e : Nat) : (s.logIt k d e).handlers = s.handlers := by rw [Dev.logIt_only s k d e]
@[simp] theorem Dev.logIt_results (s : Dev) (k : LogKey) (d e : Nat) : (s.logIt k d e).results = s.results := by rw [Dev.logIt_only s k d e]
@[simp] theorem Dev.logIt_svy (s : Dev) (k : LogKey) (d e : Nat) : (s.logIt k d e).svy = s.svy := by rw [Dev.logIt_only s k d e]
@[simp] theorem Dev.logIt_cal (s : Dev) (k : LogKey) (d e : Nat) : (s.logIt k d e).cal = s.cal := by rw [Dev.logIt_only s k d e]
@[simp] theorem Dev.logIt_vec (s : Dev) (k : LogKey) (d e : Nat) : (s.logIt k d e).vec = s.vec := by rw [Dev.logIt_only s k d e]
@[simp] theorem Dev.signal_now (s : Dev) (f v : Nat) : (s.signal f v).now = s.now := by rw [Dev.signal_only s f v]
@[simp] theorem Dev.signal_freeCtr (s : Dev) (f v : Nat) : (s.signal f v).freeCtr = s.freeCtr := by rw [Dev.signal_only s f v]
@[simp] theorem Dev.signal_readData (s : Dev) (f v : Nat) : (s.signal f v).readData = s.readData := by rw [Dev.signal_only s f v]
@[simp] theorem Dev.signal_tg (s : Dev) (f v : Nat) : (s.signal f v).tg = s.tg := by rw [Dev.signal_only s f v]
@[simp] theorem Dev.signal_assign (s : Dev) (f v : Nat) : (s.signal f v).assign = s.assign := by rw [Dev.signal_only s f v]
@[simp] theorem Dev.signal_link (s : Dev) (f v : Nat) : (s.signal f v).link = s.link := by rw [Dev.signal_only s f v]
@[simp] theorem Dev.signal_log (s : Dev) (f v : Nat) : (s.signal f v).log = s.log := by rw [Dev.signal_only s f v]
@[simp] theorem Dev.signal_sys (s : Dev) (f v : Nat) : (s.signal f v).sys = s.sys := by rw [Dev.signal_only s f v]
@[simp] theorem Dev.signal_store (s : Dev) (f v : Nat) : (s.signal f v).store = s.store := by rw [Dev.signal_only s f v]
@[simp] theorem Dev.signal_tb (s : Dev) (f v : Nat) : (s.signal f v).tb = s.tb := by rw [Dev.signal_only s f v]
@[simp] theorem Dev.signal_stages (s : Dev) (f v : Nat) : (s.signal f v).stages = s.stages := by rw [Dev.signal_only s f v]
@[simp] theorem Dev.signal_engines (s : Dev) (f v : Nat) : (s.signal f v).engines = s.engines := by rw [Dev.signal_only s f v]
@[simp] theorem Dev.signal_chans (s : Dev) (f v : Nat) : (s.signal f v).chans = s.chans := by rw [Dev.signal_only s f v]
@[simp] theorem Dev.signal_gangs (s : Dev) (f v : Nat) : (s.signal f v).gangs = s.gangs := by rw [Dev.signal_only s f v]
@[simp] theorem Dev.signal_swapGroups (s : Dev) (f v : Nat) : (s.signal f v).swapGroups = s.swapGroups := by rw [Dev.signal_only s f v]
@[simp] theorem Dev.signal_swaps (s : Dev) (f v : Nat) : (s.signal f v).swaps = s.swaps := by rw [Dev.signal_only s f v]
@[simp] theorem Dev.signal_hel (s : Dev) (f v : Nat) : (s.signal f v).hel = s.hel := by rw [Dev.signal_only s f v]
@[simp] theorem Dev.signal_seam (s : Dev) (f v : Nat) : (s.signal f v).seam = s.seam := by rw [Dev.signal_only s f v]
@[simp] theorem Dev.signal_mxChains (s : Dev) (f v : Nat) : (s.signal f v).mxChains = s.mxChains := by rw [Dev.signal_only s f v]
@[simp] theorem Dev.signal_mxSets (s : Dev) (f v : Nat) : (s.signal f v).mxSets = s.mxSets := by rw [Dev.signal_only s f v]
@[simp] theorem Dev.signal_fab (s : Dev) (f v : Nat) : (s.signal f v).fab = s.fab := by rw [Dev.signal_only s f v]
@[simp] theorem Dev.signal_seqMem (s : Dev) (f v : Nat) : (s.signal f v).seqMem = s.seqMem := by rw [Dev.signal_only s f v]
@[simp] theorem Dev.signal_seqs (s : Dev) (f v : Nat) : (s.signal f v).seqs = s.seqs := by rw [Dev.signal_only s f v]
@[simp] theorem Dev.signal_handlers (s : Dev) (f v : Nat) : (s.signal f v).handlers = s.handlers := by rw [Dev.signal_only s f v]
@[simp] theorem Dev.signal_results (s : Dev) (f v : Nat) : (s.signal f v).results = s.results := by rw [Dev.signal_only s f v]
@[simp] theorem Dev.signal_svy (s : Dev) (f v : Nat) : (s.signal f v).svy = s.svy := by rw [Dev.signal_only s f v]
@[simp] theorem Dev.signal_cal (s : Dev) (f v : Nat) : (s.signal f v).cal = s.cal := by rw [Dev.signal_only s f v]
@[simp] theorem Dev.signal_vec (s : Dev) (f v : Nat) : (s.signal f v).vec = s.vec := by rw [Dev.signal_only s f v]
@[simp] theorem Dev.irq_now (s : Dev) (f b : Nat) : (s.irq f b).now = s.now := by rw [Dev.irq_only s f b]
@[simp] theorem Dev.irq_freeCtr (s : Dev) (f b : Nat) : (s.irq f b).freeCtr = s.freeCtr := by rw [Dev.irq_only s f b]
@[simp] theorem Dev.irq_readData (s : Dev) (f b : Nat) : (s.irq f b).readData = s.readData := by rw [Dev.irq_only s f b]
@[simp] theorem Dev.irq_tg (s : Dev) (f b : Nat) : (s.irq f b).tg = s.tg := by rw [Dev.irq_only s f b]
@[simp] theorem Dev.irq_assign (s : Dev) (f b : Nat) : (s.irq f b).assign = s.assign := by rw [Dev.irq_only s f b]
@[simp] theorem Dev.irq_link (s : Dev) (f b : Nat) : (s.irq f b).link = s.link := by rw [Dev.irq_only s f b]
@[simp] theorem Dev.irq_log (s : Dev) (f b : Nat) : (s.irq f b).log = s.log := by rw [Dev.irq_only s f b]
@[simp] theorem Dev.irq_sys (s : Dev) (f b : Nat) : (s.irq f b).sys = s.sys := by rw [Dev.irq_only s f b]
@[simp] theorem Dev.irq_store (s : Dev) (f b : Nat) : (s.irq f b).store = s.store := by rw [Dev.irq_only s f b]
@[simp] theorem Dev.irq_tb (s : Dev) (f b : Nat) : (s.irq f b).tb = s.tb := by rw [Dev.irq_only s f b]
@[simp] theorem Dev.irq_stages (s : Dev) (f b : Nat) : (s.irq f b).stages = s.stages := by rw [Dev.irq_only s f b]
@[simp] theorem Dev.irq_engines (s : Dev) (f b : Nat) : (s.irq f b).engines = s.engines := by rw [Dev.irq_only s f b]
@[simp] theorem Dev.irq_chans (s : Dev) (f b : Nat) : (s.irq f b).chans = s.chans := by rw [Dev.irq_only s f b]
@[simp] theorem Dev.irq_gangs (s : Dev) (f b : Nat) : (s.irq f b).gangs = s.gangs := by rw [Dev.irq_only s f b]
@[simp] theorem Dev.irq_swapGroups (s : Dev) (f b : Nat) : (s.irq f b).swapGroups = s.swapGroups := by rw [Dev.irq_only s f b]
@[simp] theorem Dev.irq_swaps (s : Dev) (f b : Nat) : (s.irq f b).swaps = s.swaps := by rw [Dev.irq_only s f b]
@[simp] theorem Dev.irq_hel (s : Dev) (f b : Nat) : (s.irq f b).hel = s.hel := by rw [Dev.irq_only s f b]
@[simp] theorem Dev.irq_seam (s : Dev) (f b : Nat) : (s.irq f b).seam = s.seam := by rw [Dev.irq_only s f b]
@[simp] theorem Dev.irq_mxChains (s : Dev) (f b : Nat) : (s.irq f b).mxChains = s.mxChains := by rw [Dev.irq_only s f b]
@[simp] theorem Dev.irq_mxSets (s : Dev) (f b : Nat) : (s.irq f b).mxSets = s.mxSets := by rw [Dev.irq_only s f b]
@[simp] theorem Dev.irq_fab (s : Dev) (f b : Nat) : (s.irq f b).fab = s.fab := by rw [Dev.irq_only s f b]
@[simp] theorem Dev.irq_seqMem (s : Dev) (f b : Nat) : (s.irq f b).seqMem = s.seqMem := by rw [Dev.irq_only s f b]
@[simp] theorem Dev.irq_seqs (s : Dev) (f b : Nat) : (s.irq f b).seqs = s.seqs := by rw [Dev.irq_only s f b]
@[simp] theorem Dev.irq_handlers (s : Dev) (f b : Nat) : (s.irq f b).handlers = s.handlers := by rw [Dev.irq_only s f b]
@[simp] theorem Dev.irq_results (s : Dev) (f b : Nat) : (s.irq f b).results = s.results := by rw [Dev.irq_only s f b]
@[simp] theorem Dev.irq_svy (s : Dev) (f b : Nat) : (s.irq f b).svy = s.svy := by rw [Dev.irq_only s f b]
@[simp] theorem Dev.irq_cal (s : Dev) (f b : Nat) : (s.irq f b).cal = s.cal := by rw [Dev.irq_only s f b]
@[simp] theorem Dev.irq_vec (s : Dev) (f b : Nat) : (s.irq f b).vec = s.vec := by rw [Dev.irq_only s f b]
@[simp] theorem Dev.irqEvery_now (s : Dev) (b : Nat) : (s.irqEvery b).now = s.now := by rw [Dev.irqEvery_only s b]
@[simp] theorem Dev.irqEvery_freeCtr (s : Dev) (b : Nat) : (s.irqEvery b).freeCtr = s.freeCtr := by rw [Dev.irqEvery_only s b]
@[simp] theorem Dev.irqEvery_readData (s : Dev) (b : Nat) : (s.irqEvery b).readData = s.readData := by rw [Dev.irqEvery_only s b]
@[simp] theorem Dev.irqEvery_tg (s : Dev) (b : Nat) : (s.irqEvery b).tg = s.tg := by rw [Dev.irqEvery_only s b]
@[simp] theorem Dev.irqEvery_assign (s : Dev) (b : Nat) : (s.irqEvery b).assign = s.assign := by rw [Dev.irqEvery_only s b]
@[simp] theorem Dev.irqEvery_link (s : Dev) (b : Nat) : (s.irqEvery b).link = s.link := by rw [Dev.irqEvery_only s b]
@[simp] theorem Dev.irqEvery_log (s : Dev) (b : Nat) : (s.irqEvery b).log = s.log := by rw [Dev.irqEvery_only s b]
@[simp] theorem Dev.irqEvery_sys (s : Dev) (b : Nat) : (s.irqEvery b).sys = s.sys := by rw [Dev.irqEvery_only s b]
@[simp] theorem Dev.irqEvery_store (s : Dev) (b : Nat) : (s.irqEvery b).store = s.store := by rw [Dev.irqEvery_only s b]
@[simp] theorem Dev.irqEvery_tb (s : Dev) (b : Nat) : (s.irqEvery b).tb = s.tb := by rw [Dev.irqEvery_only s b]
@[simp] theorem Dev.irqEvery_stages (s : Dev) (b : Nat) : (s.irqEvery b).stages = s.stages := by rw [Dev.irqEvery_only s b]
@[simp] theorem Dev.irqEvery_engines (s : Dev) (b : Nat) : (s.irqEvery b).engines = s.engines := by rw [Dev.irqEvery_only s b]
@[simp] theorem Dev.irqEvery_chans (s : Dev) (b : Nat) : (s.irqEvery b).chans = s.chans := by rw [Dev.irqEvery_only s b]
@[simp] theorem Dev.irqEvery_gangs (s : Dev) (b : Nat) : (s.irqEvery b).gangs = s.gangs := by rw [Dev.irqEvery_only s b]
@[simp] theorem Dev.irqEvery_swapGroups (s : Dev) (b : Nat) : (s.irqEvery b).swapGroups = s.swapGroups := by rw [Dev.irqEvery_only s b]
@[simp] theorem Dev.irqEvery_swaps (s : Dev) (b : Nat) : (s.irqEvery b).swaps = s.swaps := by rw [Dev.irqEvery_only s b]
@[simp] theorem Dev.irqEvery_hel (s : Dev) (b : Nat) : (s.irqEvery b).hel = s.hel := by rw [Dev.irqEvery_only s b]
@[simp] theorem Dev.irqEvery_seam (s : Dev) (b : Nat) : (s.irqEvery b).seam = s.seam := by rw [Dev.irqEvery_only s b]
@[simp] theorem Dev.irqEvery_mxChains (s : Dev) (b : Nat) : (s.irqEvery b).mxChains = s.mxChains := by rw [Dev.irqEvery_only s b]
@[simp] theorem Dev.irqEvery_mxSets (s : Dev) (b : Nat) : (s.irqEvery b).mxSets = s.mxSets := by rw [Dev.irqEvery_only s b]
@[simp] theorem Dev.irqEvery_fab (s : Dev) (b : Nat) : (s.irqEvery b).fab = s.fab := by rw [Dev.irqEvery_only s b]
@[simp] theorem Dev.irqEvery_seqMem (s : Dev) (b : Nat) : (s.irqEvery b).seqMem = s.seqMem := by rw [Dev.irqEvery_only s b]
@[simp] theorem Dev.irqEvery_seqs (s : Dev) (b : Nat) : (s.irqEvery b).seqs = s.seqs := by rw [Dev.irqEvery_only s b]
@[simp] theorem Dev.irqEvery_handlers (s : Dev) (b : Nat) : (s.irqEvery b).handlers = s.handlers := by rw [Dev.irqEvery_only s b]
@[simp] theorem Dev.irqEvery_results (s : Dev) (b : Nat) : (s.irqEvery b).results = s.results := by rw [Dev.irqEvery_only s b]
@[simp] theorem Dev.irqEvery_svy (s : Dev) (b : Nat) : (s.irqEvery b).svy = s.svy := by rw [Dev.irqEvery_only s b]
@[simp] theorem Dev.irqEvery_cal (s : Dev) (b : Nat) : (s.irqEvery b).cal = s.cal := by rw [Dev.irqEvery_only s b]
@[simp] theorem Dev.irqEvery_vec (s : Dev) (b : Nat) : (s.irqEvery b).vec = s.vec := by rw [Dev.irqEvery_only s b]
@[simp] theorem Dev.gstatNote_now (s : Dev) (o : Dev) : (s.gstatNote o).now = s.now := by rw [Dev.gstatNote_only s o]
@[simp] theorem Dev.gstatNote_freeCtr (s : Dev) (o : Dev) : (s.gstatNote o).freeCtr = s.freeCtr := by rw [Dev.gstatNote_only s o]
@[simp] theorem Dev.gstatNote_readData (s : Dev) (o : Dev) : (s.gstatNote o).readData = s.readData := by rw [Dev.gstatNote_only s o]
@[simp] theorem Dev.gstatNote_tg (s : Dev) (o : Dev) : (s.gstatNote o).tg = s.tg := by rw [Dev.gstatNote_only s o]
@[simp] theorem Dev.gstatNote_assign (s : Dev) (o : Dev) : (s.gstatNote o).assign = s.assign := by rw [Dev.gstatNote_only s o]
@[simp] theorem Dev.gstatNote_link (s : Dev) (o : Dev) : (s.gstatNote o).link = s.link := by rw [Dev.gstatNote_only s o]
@[simp] theorem Dev.gstatNote_log (s : Dev) (o : Dev) : (s.gstatNote o).log = s.log := by rw [Dev.gstatNote_only s o]
@[simp] theorem Dev.gstatNote_store (s : Dev) (o : Dev) : (s.gstatNote o).store = s.store := by rw [Dev.gstatNote_only s o]
@[simp] theorem Dev.gstatNote_tb (s : Dev) (o : Dev) : (s.gstatNote o).tb = s.tb := by rw [Dev.gstatNote_only s o]
@[simp] theorem Dev.gstatNote_stages (s : Dev) (o : Dev) : (s.gstatNote o).stages = s.stages := by rw [Dev.gstatNote_only s o]
@[simp] theorem Dev.gstatNote_engines (s : Dev) (o : Dev) : (s.gstatNote o).engines = s.engines := by rw [Dev.gstatNote_only s o]
@[simp] theorem Dev.gstatNote_chans (s : Dev) (o : Dev) : (s.gstatNote o).chans = s.chans := by rw [Dev.gstatNote_only s o]
@[simp] theorem Dev.gstatNote_gangs (s : Dev) (o : Dev) : (s.gstatNote o).gangs = s.gangs := by rw [Dev.gstatNote_only s o]
@[simp] theorem Dev.gstatNote_swapGroups (s : Dev) (o : Dev) : (s.gstatNote o).swapGroups = s.swapGroups := by rw [Dev.gstatNote_only s o]
@[simp] theorem Dev.gstatNote_swaps (s : Dev) (o : Dev) : (s.gstatNote o).swaps = s.swaps := by rw [Dev.gstatNote_only s o]
@[simp] theorem Dev.gstatNote_hel (s : Dev) (o : Dev) : (s.gstatNote o).hel = s.hel := by rw [Dev.gstatNote_only s o]
@[simp] theorem Dev.gstatNote_seam (s : Dev) (o : Dev) : (s.gstatNote o).seam = s.seam := by rw [Dev.gstatNote_only s o]
@[simp] theorem Dev.gstatNote_mxChains (s : Dev) (o : Dev) : (s.gstatNote o).mxChains = s.mxChains := by rw [Dev.gstatNote_only s o]
@[simp] theorem Dev.gstatNote_mxSets (s : Dev) (o : Dev) : (s.gstatNote o).mxSets = s.mxSets := by rw [Dev.gstatNote_only s o]
@[simp] theorem Dev.gstatNote_fab (s : Dev) (o : Dev) : (s.gstatNote o).fab = s.fab := by rw [Dev.gstatNote_only s o]
@[simp] theorem Dev.gstatNote_seqMem (s : Dev) (o : Dev) : (s.gstatNote o).seqMem = s.seqMem := by rw [Dev.gstatNote_only s o]
@[simp] theorem Dev.gstatNote_seqs (s : Dev) (o : Dev) : (s.gstatNote o).seqs = s.seqs := by rw [Dev.gstatNote_only s o]
@[simp] theorem Dev.gstatNote_handlers (s : Dev) (o : Dev) : (s.gstatNote o).handlers = s.handlers := by rw [Dev.gstatNote_only s o]
@[simp] theorem Dev.gstatNote_results (s : Dev) (o : Dev) : (s.gstatNote o).results = s.results := by rw [Dev.gstatNote_only s o]
@[simp] theorem Dev.gstatNote_svy (s : Dev) (o : Dev) : (s.gstatNote o).svy = s.svy := by rw [Dev.gstatNote_only s o]
@[simp] theorem Dev.gstatNote_cal (s : Dev) (o : Dev) : (s.gstatNote o).cal = s.cal := by rw [Dev.gstatNote_only s o]
@[simp] theorem Dev.gstatNote_vec (s : Dev) (o : Dev) : (s.gstatNote o).vec = s.vec := by rw [Dev.gstatNote_only s o]
@[simp] theorem Dev.fabricNote_now (s : Dev) (o : Dev) : (s.fabricNote o).now = s.now := by rw [Dev.fabricNote_only s o]
@[simp] theorem Dev.fabricNote_freeCtr (s : Dev) (o : Dev) : (s.fabricNote o).freeCtr = s.freeCtr := by rw [Dev.fabricNote_only s o]
@[simp] theorem Dev.fabricNote_readData (s : Dev) (o : Dev) : (s.fabricNote o).readData = s.readData := by rw [Dev.fabricNote_only s o]
@[simp] theorem Dev.fabricNote_msgs (s : Dev) (o : Dev) : (s.fabricNote o).msgs = s.msgs := by rw [Dev.fabricNote_only s o]
@[simp] theorem Dev.fabricNote_fns (s : Dev) (o : Dev) : (s.fabricNote o).fns = s.fns := by rw [Dev.fabricNote_only s o]
@[simp] theorem Dev.fabricNote_tg (s : Dev) (o : Dev) : (s.fabricNote o).tg = s.tg := by rw [Dev.fabricNote_only s o]
@[simp] theorem Dev.fabricNote_assign (s : Dev) (o : Dev) : (s.fabricNote o).assign = s.assign := by rw [Dev.fabricNote_only s o]
@[simp] theorem Dev.fabricNote_link (s : Dev) (o : Dev) : (s.fabricNote o).link = s.link := by rw [Dev.fabricNote_only s o]
@[simp] theorem Dev.fabricNote_log (s : Dev) (o : Dev) : (s.fabricNote o).log = s.log := by rw [Dev.fabricNote_only s o]
@[simp] theorem Dev.fabricNote_store (s : Dev) (o : Dev) : (s.fabricNote o).store = s.store := by rw [Dev.fabricNote_only s o]
@[simp] theorem Dev.fabricNote_tb (s : Dev) (o : Dev) : (s.fabricNote o).tb = s.tb := by rw [Dev.fabricNote_only s o]
@[simp] theorem Dev.fabricNote_stages (s : Dev) (o : Dev) : (s.fabricNote o).stages = s.stages := by rw [Dev.fabricNote_only s o]
@[simp] theorem Dev.fabricNote_engines (s : Dev) (o : Dev) : (s.fabricNote o).engines = s.engines := by rw [Dev.fabricNote_only s o]
@[simp] theorem Dev.fabricNote_chans (s : Dev) (o : Dev) : (s.fabricNote o).chans = s.chans := by rw [Dev.fabricNote_only s o]
@[simp] theorem Dev.fabricNote_gangs (s : Dev) (o : Dev) : (s.fabricNote o).gangs = s.gangs := by rw [Dev.fabricNote_only s o]
@[simp] theorem Dev.fabricNote_swapGroups (s : Dev) (o : Dev) : (s.fabricNote o).swapGroups = s.swapGroups := by rw [Dev.fabricNote_only s o]
@[simp] theorem Dev.fabricNote_swaps (s : Dev) (o : Dev) : (s.fabricNote o).swaps = s.swaps := by rw [Dev.fabricNote_only s o]
@[simp] theorem Dev.fabricNote_hel (s : Dev) (o : Dev) : (s.fabricNote o).hel = s.hel := by rw [Dev.fabricNote_only s o]
@[simp] theorem Dev.fabricNote_seam (s : Dev) (o : Dev) : (s.fabricNote o).seam = s.seam := by rw [Dev.fabricNote_only s o]
@[simp] theorem Dev.fabricNote_mxChains (s : Dev) (o : Dev) : (s.fabricNote o).mxChains = s.mxChains := by rw [Dev.fabricNote_only s o]
@[simp] theorem Dev.fabricNote_mxSets (s : Dev) (o : Dev) : (s.fabricNote o).mxSets = s.mxSets := by rw [Dev.fabricNote_only s o]
@[simp] theorem Dev.fabricNote_seqMem (s : Dev) (o : Dev) : (s.fabricNote o).seqMem = s.seqMem := by rw [Dev.fabricNote_only s o]
@[simp] theorem Dev.fabricNote_seqs (s : Dev) (o : Dev) : (s.fabricNote o).seqs = s.seqs := by rw [Dev.fabricNote_only s o]
@[simp] theorem Dev.fabricNote_handlers (s : Dev) (o : Dev) : (s.fabricNote o).handlers = s.handlers := by rw [Dev.fabricNote_only s o]
@[simp] theorem Dev.fabricNote_results (s : Dev) (o : Dev) : (s.fabricNote o).results = s.results := by rw [Dev.fabricNote_only s o]
@[simp] theorem Dev.fabricNote_svy (s : Dev) (o : Dev) : (s.fabricNote o).svy = s.svy := by rw [Dev.fabricNote_only s o]
@[simp] theorem Dev.fabricNote_cal (s : Dev) (o : Dev) : (s.fabricNote o).cal = s.cal := by rw [Dev.fabricNote_only s o]
@[simp] theorem Dev.fabricNote_vec (s : Dev) (o : Dev) : (s.fabricNote o).vec = s.vec := by rw [Dev.fabricNote_only s o]
@[simp] theorem Dev.pulse_now (s : Dev) (n : Nat) : (s.pulse n).now = s.now := by rw [Dev.pulse_only s n]
@[simp] theorem Dev.pulse_freeCtr (s : Dev) (n : Nat) : (s.pulse n).freeCtr = s.freeCtr := by rw [Dev.pulse_only s n]
@[simp] theorem Dev.pulse_readData (s : Dev) (n : Nat) : (s.pulse n).readData = s.readData := by rw [Dev.pulse_only s n]
@[simp] theorem Dev.pulse_msgs (s : Dev) (n : Nat) : (s.pulse n).msgs = s.msgs := by rw [Dev.pulse_only s n]
@[simp] theorem Dev.pulse_fns (s : Dev) (n : Nat) : (s.pulse n).fns = s.fns := by rw [Dev.pulse_only s n]
@[simp] theorem Dev.pulse_tg (s : Dev) (n : Nat) : (s.pulse n).tg = s.tg := by rw [Dev.pulse_only s n]
@[simp] theorem Dev.pulse_assign (s : Dev) (n : Nat) : (s.pulse n).assign = s.assign := by rw [Dev.pulse_only s n]
@[simp] theorem Dev.pulse_link (s : Dev) (n : Nat) : (s.pulse n).link = s.link := by rw [Dev.pulse_only s n]
@[simp] theorem Dev.pulse_log (s : Dev) (n : Nat) : (s.pulse n).log = s.log := by rw [Dev.pulse_only s n]
@[simp] theorem Dev.pulse_store (s : Dev) (n : Nat) : (s.pulse n).store = s.store := by rw [Dev.pulse_only s n]
@[simp] theorem Dev.pulse_tb (s : Dev) (n : Nat) : (s.pulse n).tb = s.tb := by rw [Dev.pulse_only s n]
@[simp] theorem Dev.pulse_stages (s : Dev) (n : Nat) : (s.pulse n).stages = s.stages := by rw [Dev.pulse_only s n]
@[simp] theorem Dev.pulse_engines (s : Dev) (n : Nat) : (s.pulse n).engines = s.engines := by rw [Dev.pulse_only s n]
@[simp] theorem Dev.pulse_chans (s : Dev) (n : Nat) : (s.pulse n).chans = s.chans := by rw [Dev.pulse_only s n]
@[simp] theorem Dev.pulse_gangs (s : Dev) (n : Nat) : (s.pulse n).gangs = s.gangs := by rw [Dev.pulse_only s n]
@[simp] theorem Dev.pulse_swapGroups (s : Dev) (n : Nat) : (s.pulse n).swapGroups = s.swapGroups := by rw [Dev.pulse_only s n]
@[simp] theorem Dev.pulse_swaps (s : Dev) (n : Nat) : (s.pulse n).swaps = s.swaps := by rw [Dev.pulse_only s n]
@[simp] theorem Dev.pulse_hel (s : Dev) (n : Nat) : (s.pulse n).hel = s.hel := by rw [Dev.pulse_only s n]
@[simp] theorem Dev.pulse_seam (s : Dev) (n : Nat) : (s.pulse n).seam = s.seam := by rw [Dev.pulse_only s n]
@[simp] theorem Dev.pulse_mxChains (s : Dev) (n : Nat) : (s.pulse n).mxChains = s.mxChains := by rw [Dev.pulse_only s n]
@[simp] theorem Dev.pulse_mxSets (s : Dev) (n : Nat) : (s.pulse n).mxSets = s.mxSets := by rw [Dev.pulse_only s n]
@[simp] theorem Dev.pulse_seqMem (s : Dev) (n : Nat) : (s.pulse n).seqMem = s.seqMem := by rw [Dev.pulse_only s n]
@[simp] theorem Dev.pulse_seqs (s : Dev) (n : Nat) : (s.pulse n).seqs = s.seqs := by rw [Dev.pulse_only s n]
@[simp] theorem Dev.pulse_handlers (s : Dev) (n : Nat) : (s.pulse n).handlers = s.handlers := by rw [Dev.pulse_only s n]
@[simp] theorem Dev.pulse_results (s : Dev) (n : Nat) : (s.pulse n).results = s.results := by rw [Dev.pulse_only s n]
@[simp] theorem Dev.pulse_svy (s : Dev) (n : Nat) : (s.pulse n).svy = s.svy := by rw [Dev.pulse_only s n]
@[simp] theorem Dev.pulse_cal (s : Dev) (n : Nat) : (s.pulse n).cal = s.cal := by rw [Dev.pulse_only s n]
@[simp] theorem Dev.pulse_vec (s : Dev) (n : Nat) : (s.pulse n).vec = s.vec := by rw [Dev.pulse_only s n]
@[simp] theorem Dev.pulseFor_now (s : Dev) (n t w : Nat) : (s.pulseFor n t w).now = s.now := by rw [Dev.pulseFor_only s n t w]
@[simp] theorem Dev.pulseFor_freeCtr (s : Dev) (n t w : Nat) : (s.pulseFor n t w).freeCtr = s.freeCtr := by rw [Dev.pulseFor_only s n t w]
@[simp] theorem Dev.pulseFor_readData (s : Dev) (n t w : Nat) : (s.pulseFor n t w).readData = s.readData := by rw [Dev.pulseFor_only s n t w]
@[simp] theorem Dev.pulseFor_msgs (s : Dev) (n t w : Nat) : (s.pulseFor n t w).msgs = s.msgs := by rw [Dev.pulseFor_only s n t w]
@[simp] theorem Dev.pulseFor_fns (s : Dev) (n t w : Nat) : (s.pulseFor n t w).fns = s.fns := by rw [Dev.pulseFor_only s n t w]
@[simp] theorem Dev.pulseFor_tg (s : Dev) (n t w : Nat) : (s.pulseFor n t w).tg = s.tg := by rw [Dev.pulseFor_only s n t w]
@[simp] theorem Dev.pulseFor_assign (s : Dev) (n t w : Nat) : (s.pulseFor n t w).assign = s.assign := by rw [Dev.pulseFor_only s n t w]
@[simp] theorem Dev.pulseFor_link (s : Dev) (n t w : Nat) : (s.pulseFor n t w).link = s.link := by rw [Dev.pulseFor_only s n t w]
@[simp] theorem Dev.pulseFor_log (s : Dev) (n t w : Nat) : (s.pulseFor n t w).log = s.log := by rw [Dev.pulseFor_only s n t w]
@[simp] theorem Dev.pulseFor_store (s : Dev) (n t w : Nat) : (s.pulseFor n t w).store = s.store := by rw [Dev.pulseFor_only s n t w]
@[simp] theorem Dev.pulseFor_tb (s : Dev) (n t w : Nat) : (s.pulseFor n t w).tb = s.tb := by rw [Dev.pulseFor_only s n t w]
@[simp] theorem Dev.pulseFor_stages (s : Dev) (n t w : Nat) : (s.pulseFor n t w).stages = s.stages := by rw [Dev.pulseFor_only s n t w]
@[simp] theorem Dev.pulseFor_engines (s : Dev) (n t w : Nat) : (s.pulseFor n t w).engines = s.engines := by rw [Dev.pulseFor_only s n t w]
@[simp] theorem Dev.pulseFor_chans (s : Dev) (n t w : Nat) : (s.pulseFor n t w).chans = s.chans := by rw [Dev.pulseFor_only s n t w]
@[simp] theorem Dev.pulseFor_gangs (s : Dev) (n t w : Nat) : (s.pulseFor n t w).gangs = s.gangs := by rw [Dev.pulseFor_only s n t w]
@[simp] theorem Dev.pulseFor_swapGroups (s : Dev) (n t w : Nat) : (s.pulseFor n t w).swapGroups = s.swapGroups := by rw [Dev.pulseFor_only s n t w]
@[simp] theorem Dev.pulseFor_swaps (s : Dev) (n t w : Nat) : (s.pulseFor n t w).swaps = s.swaps := by rw [Dev.pulseFor_only s n t w]
@[simp] theorem Dev.pulseFor_hel (s : Dev) (n t w : Nat) : (s.pulseFor n t w).hel = s.hel := by rw [Dev.pulseFor_only s n t w]
@[simp] theorem Dev.pulseFor_seam (s : Dev) (n t w : Nat) : (s.pulseFor n t w).seam = s.seam := by rw [Dev.pulseFor_only s n t w]
@[simp] theorem Dev.pulseFor_mxChains (s : Dev) (n t w : Nat) : (s.pulseFor n t w).mxChains = s.mxChains := by rw [Dev.pulseFor_only s n t w]
@[simp] theorem Dev.pulseFor_mxSets (s : Dev) (n t w : Nat) : (s.pulseFor n t w).mxSets = s.mxSets := by rw [Dev.pulseFor_only s n t w]
@[simp] theorem Dev.pulseFor_seqMem (s : Dev) (n t w : Nat) : (s.pulseFor n t w).seqMem = s.seqMem := by rw [Dev.pulseFor_only s n t w]
@[simp] theorem Dev.pulseFor_seqs (s : Dev) (n t w : Nat) : (s.pulseFor n t w).seqs = s.seqs := by rw [Dev.pulseFor_only s n t w]
@[simp] theorem Dev.pulseFor_handlers (s : Dev) (n t w : Nat) : (s.pulseFor n t w).handlers = s.handlers := by rw [Dev.pulseFor_only s n t w]
@[simp] theorem Dev.pulseFor_results (s : Dev) (n t w : Nat) : (s.pulseFor n t w).results = s.results := by rw [Dev.pulseFor_only s n t w]
@[simp] theorem Dev.pulseFor_svy (s : Dev) (n t w : Nat) : (s.pulseFor n t w).svy = s.svy := by rw [Dev.pulseFor_only s n t w]
@[simp] theorem Dev.pulseFor_cal (s : Dev) (n t w : Nat) : (s.pulseFor n t w).cal = s.cal := by rw [Dev.pulseFor_only s n t w]
@[simp] theorem Dev.pulseFor_vec (s : Dev) (n t w : Nat) : (s.pulseFor n t w).vec = s.vec := by rw [Dev.pulseFor_only s n t w]
@[simp] theorem Dev.pulseAt_now (s : Dev) (n t : Nat) : (s.pulseAt n t).now = s.now := by rw [Dev.pulseAt_only s n t]
@[simp] theorem Dev.pulseAt_freeCtr (s : Dev) (n t : Nat) : (s.pulseAt n t).freeCtr = s.freeCtr := by rw [Dev.pulseAt_only s n t]
@[simp] theorem Dev.pulseAt_readData (s : Dev) (n t : Nat) : (s.pulseAt n t).readData = s.readData := by rw [Dev.pulseAt_only s n t]
@[simp] theorem Dev.pulseAt_msgs (s : Dev) (n t : Nat) : (s.pulseAt n t).msgs = s.msgs := by rw [Dev.pulseAt_only s n t]
@[simp] theorem Dev.pulseAt_fns (s : Dev) (n t : Nat) : (s.pulseAt n t).fns = s.fns := by rw [Dev.pulseAt_only s n t]
@[simp] theorem Dev.pulseAt_tg (s : Dev) (n t : Nat) : (s.pulseAt n t).tg = s.tg := by rw [Dev.pulseAt_only s n t]
@[simp] theorem Dev.pulseAt_assign (s : Dev) (n t : Nat) : (s.pulseAt n t).assign = s.assign := by rw [Dev.pulseAt_only s n t]
@[simp] theorem Dev.pulseAt_link (s : Dev) (n t : Nat) : (s.pulseAt n t).link = s.link := by rw [Dev.pulseAt_only s n t]
@[simp] theorem Dev.pulseAt_log (s : Dev) (n t : Nat) : (s.pulseAt n t).log = s.log := by rw [Dev.pulseAt_only s n t]
@[simp] theorem Dev.pulseAt_store (s : Dev) (n t : Nat) : (s.pulseAt n t).store = s.store := by rw [Dev.pulseAt_only s n t]
@[simp] theorem Dev.pulseAt_tb (s : Dev) (n t : Nat) : (s.pulseAt n t).tb = s.tb := by rw [Dev.pulseAt_only s n t]
@[simp] theorem Dev.pulseAt_stages (s : Dev) (n t : Nat) : (s.pulseAt n t).stages = s.stages := by rw [Dev.pulseAt_only s n t]
@[simp] theorem Dev.pulseAt_engines (s : Dev) (n t : Nat) : (s.pulseAt n t).engines = s.engines := by rw [Dev.pulseAt_only s n t]
@[simp] theorem Dev.pulseAt_chans (s : Dev) (n t : Nat) : (s.pulseAt n t).chans = s.chans := by rw [Dev.pulseAt_only s n t]
@[simp] theorem Dev.pulseAt_gangs (s : Dev) (n t : Nat) : (s.pulseAt n t).gangs = s.gangs := by rw [Dev.pulseAt_only s n t]
@[simp] theorem Dev.pulseAt_swapGroups (s : Dev) (n t : Nat) : (s.pulseAt n t).swapGroups = s.swapGroups := by rw [Dev.pulseAt_only s n t]
@[simp] theorem Dev.pulseAt_swaps (s : Dev) (n t : Nat) : (s.pulseAt n t).swaps = s.swaps := by rw [Dev.pulseAt_only s n t]
@[simp] theorem Dev.pulseAt_hel (s : Dev) (n t : Nat) : (s.pulseAt n t).hel = s.hel := by rw [Dev.pulseAt_only s n t]
@[simp] theorem Dev.pulseAt_seam (s : Dev) (n t : Nat) : (s.pulseAt n t).seam = s.seam := by rw [Dev.pulseAt_only s n t]
@[simp] theorem Dev.pulseAt_mxChains (s : Dev) (n t : Nat) : (s.pulseAt n t).mxChains = s.mxChains := by rw [Dev.pulseAt_only s n t]
@[simp] theorem Dev.pulseAt_mxSets (s : Dev) (n t : Nat) : (s.pulseAt n t).mxSets = s.mxSets := by rw [Dev.pulseAt_only s n t]
@[simp] theorem Dev.pulseAt_seqMem (s : Dev) (n t : Nat) : (s.pulseAt n t).seqMem = s.seqMem := by rw [Dev.pulseAt_only s n t]
@[simp] theorem Dev.pulseAt_seqs (s : Dev) (n t : Nat) : (s.pulseAt n t).seqs = s.seqs := by rw [Dev.pulseAt_only s n t]
@[simp] theorem Dev.pulseAt_handlers (s : Dev) (n t : Nat) : (s.pulseAt n t).handlers = s.handlers := by rw [Dev.pulseAt_only s n t]
@[simp] theorem Dev.pulseAt_results (s : Dev) (n t : Nat) : (s.pulseAt n t).results = s.results := by rw [Dev.pulseAt_only s n t]
@[simp] theorem Dev.pulseAt_svy (s : Dev) (n t : Nat) : (s.pulseAt n t).svy = s.svy := by rw [Dev.pulseAt_only s n t]
@[simp] theorem Dev.pulseAt_cal (s : Dev) (n t : Nat) : (s.pulseAt n t).cal = s.cal := by rw [Dev.pulseAt_only s n t]
@[simp] theorem Dev.pulseAt_vec (s : Dev) (n t : Nat) : (s.pulseAt n t).vec = s.vec := by rw [Dev.pulseAt_only s n t]
@[simp] theorem Dev.fire_now (s : Dev) (r : Nat) : (s.fire r).now = s.now := by rw [Dev.fire_only s r]
@[simp] theorem Dev.fire_freeCtr (s : Dev) (r : Nat) : (s.fire r).freeCtr = s.freeCtr := by rw [Dev.fire_only s r]
@[simp] theorem Dev.fire_readData (s : Dev) (r : Nat) : (s.fire r).readData = s.readData := by rw [Dev.fire_only s r]
@[simp] theorem Dev.fire_msgs (s : Dev) (r : Nat) : (s.fire r).msgs = s.msgs := by rw [Dev.fire_only s r]
@[simp] theorem Dev.fire_fns (s : Dev) (r : Nat) : (s.fire r).fns = s.fns := by rw [Dev.fire_only s r]
@[simp] theorem Dev.fire_tg (s : Dev) (r : Nat) : (s.fire r).tg = s.tg := by rw [Dev.fire_only s r]
@[simp] theorem Dev.fire_assign (s : Dev) (r : Nat) : (s.fire r).assign = s.assign := by rw [Dev.fire_only s r]
@[simp] theorem Dev.fire_link (s : Dev) (r : Nat) : (s.fire r).link = s.link := by rw [Dev.fire_only s r]
@[simp] theorem Dev.fire_log (s : Dev) (r : Nat) : (s.fire r).log = s.log := by rw [Dev.fire_only s r]
@[simp] theorem Dev.fire_store (s : Dev) (r : Nat) : (s.fire r).store = s.store := by rw [Dev.fire_only s r]
@[simp] theorem Dev.fire_tb (s : Dev) (r : Nat) : (s.fire r).tb = s.tb := by rw [Dev.fire_only s r]
@[simp] theorem Dev.fire_stages (s : Dev) (r : Nat) : (s.fire r).stages = s.stages := by rw [Dev.fire_only s r]
@[simp] theorem Dev.fire_engines (s : Dev) (r : Nat) : (s.fire r).engines = s.engines := by rw [Dev.fire_only s r]
@[simp] theorem Dev.fire_chans (s : Dev) (r : Nat) : (s.fire r).chans = s.chans := by rw [Dev.fire_only s r]
@[simp] theorem Dev.fire_gangs (s : Dev) (r : Nat) : (s.fire r).gangs = s.gangs := by rw [Dev.fire_only s r]
@[simp] theorem Dev.fire_swapGroups (s : Dev) (r : Nat) : (s.fire r).swapGroups = s.swapGroups := by rw [Dev.fire_only s r]
@[simp] theorem Dev.fire_swaps (s : Dev) (r : Nat) : (s.fire r).swaps = s.swaps := by rw [Dev.fire_only s r]
@[simp] theorem Dev.fire_hel (s : Dev) (r : Nat) : (s.fire r).hel = s.hel := by rw [Dev.fire_only s r]
@[simp] theorem Dev.fire_seam (s : Dev) (r : Nat) : (s.fire r).seam = s.seam := by rw [Dev.fire_only s r]
@[simp] theorem Dev.fire_mxChains (s : Dev) (r : Nat) : (s.fire r).mxChains = s.mxChains := by rw [Dev.fire_only s r]
@[simp] theorem Dev.fire_mxSets (s : Dev) (r : Nat) : (s.fire r).mxSets = s.mxSets := by rw [Dev.fire_only s r]
@[simp] theorem Dev.fire_seqMem (s : Dev) (r : Nat) : (s.fire r).seqMem = s.seqMem := by rw [Dev.fire_only s r]
@[simp] theorem Dev.fire_seqs (s : Dev) (r : Nat) : (s.fire r).seqs = s.seqs := by rw [Dev.fire_only s r]
@[simp] theorem Dev.fire_handlers (s : Dev) (r : Nat) : (s.fire r).handlers = s.handlers := by rw [Dev.fire_only s r]
@[simp] theorem Dev.fire_results (s : Dev) (r : Nat) : (s.fire r).results = s.results := by rw [Dev.fire_only s r]
@[simp] theorem Dev.fire_svy (s : Dev) (r : Nat) : (s.fire r).svy = s.svy := by rw [Dev.fire_only s r]
@[simp] theorem Dev.fire_cal (s : Dev) (r : Nat) : (s.fire r).cal = s.cal := by rw [Dev.fire_only s r]
@[simp] theorem Dev.fire_vec (s : Dev) (r : Nat) : (s.fire r).vec = s.vec := by rw [Dev.fire_only s r]
@[simp] theorem Dev.observed_now (s : Dev) (g : Dev → Dev) : (s.observed g).now = (g s).now := by rw [Dev.observed_only s g]
@[simp] theorem Dev.observed_freeCtr (s : Dev) (g : Dev → Dev) : (s.observed g).freeCtr = (g s).freeCtr := by rw [Dev.observed_only s g]
@[simp] theorem Dev.observed_readData (s : Dev) (g : Dev → Dev) : (s.observed g).readData = (g s).readData := by rw [Dev.observed_only s g]
@[simp] theorem Dev.observed_tg (s : Dev) (g : Dev → Dev) : (s.observed g).tg = (g s).tg := by rw [Dev.observed_only s g]
@[simp] theorem Dev.observed_assign (s : Dev) (g : Dev → Dev) : (s.observed g).assign = (g s).assign := by rw [Dev.observed_only s g]
@[simp] theorem Dev.observed_link (s : Dev) (g : Dev → Dev) : (s.observed g).link = (g s).link := by rw [Dev.observed_only s g]
@[simp] theorem Dev.observed_log (s : Dev) (g : Dev → Dev) : (s.observed g).log = (g s).log := by rw [Dev.observed_only s g]
@[simp] theorem Dev.observed_store (s : Dev) (g : Dev → Dev) : (s.observed g).store = (g s).store := by rw [Dev.observed_only s g]
@[simp] theorem Dev.observed_tb (s : Dev) (g : Dev → Dev) : (s.observed g).tb = (g s).tb := by rw [Dev.observed_only s g]
@[simp] theorem Dev.observed_stages (s : Dev) (g : Dev → Dev) : (s.observed g).stages = (g s).stages := by rw [Dev.observed_only s g]
@[simp] theorem Dev.observed_engines (s : Dev) (g : Dev → Dev) : (s.observed g).engines = (g s).engines := by rw [Dev.observed_only s g]
@[simp] theorem Dev.observed_chans (s : Dev) (g : Dev → Dev) : (s.observed g).chans = (g s).chans := by rw [Dev.observed_only s g]
@[simp] theorem Dev.observed_gangs (s : Dev) (g : Dev → Dev) : (s.observed g).gangs = (g s).gangs := by rw [Dev.observed_only s g]
@[simp] theorem Dev.observed_swapGroups (s : Dev) (g : Dev → Dev) : (s.observed g).swapGroups = (g s).swapGroups := by rw [Dev.observed_only s g]
@[simp] theorem Dev.observed_swaps (s : Dev) (g : Dev → Dev) : (s.observed g).swaps = (g s).swaps := by rw [Dev.observed_only s g]
@[simp] theorem Dev.observed_hel (s : Dev) (g : Dev → Dev) : (s.observed g).hel = (g s).hel := by rw [Dev.observed_only s g]
@[simp] theorem Dev.observed_seam (s : Dev) (g : Dev → Dev) : (s.observed g).seam = (g s).seam := by rw [Dev.observed_only s g]
@[simp] theorem Dev.observed_mxChains (s : Dev) (g : Dev → Dev) : (s.observed g).mxChains = (g s).mxChains := by rw [Dev.observed_only s g]
@[simp] theorem Dev.observed_mxSets (s : Dev) (g : Dev → Dev) : (s.observed g).mxSets = (g s).mxSets := by rw [Dev.observed_only s g]
@[simp] theorem Dev.observed_seqMem (s : Dev) (g : Dev → Dev) : (s.observed g).seqMem = (g s).seqMem := by rw [Dev.observed_only s g]
@[simp] theorem Dev.observed_seqs (s : Dev) (g : Dev → Dev) : (s.observed g).seqs = (g s).seqs := by rw [Dev.observed_only s g]
@[simp] theorem Dev.observed_handlers (s : Dev) (g : Dev → Dev) : (s.observed g).handlers = (g s).handlers := by rw [Dev.observed_only s g]
@[simp] theorem Dev.observed_results (s : Dev) (g : Dev → Dev) : (s.observed g).results = (g s).results := by rw [Dev.observed_only s g]
@[simp] theorem Dev.observed_svy (s : Dev) (g : Dev → Dev) : (s.observed g).svy = (g s).svy := by rw [Dev.observed_only s g]
@[simp] theorem Dev.observed_cal (s : Dev) (g : Dev → Dev) : (s.observed g).cal = (g s).cal := by rw [Dev.observed_only s g]
@[simp] theorem Dev.observed_vec (s : Dev) (g : Dev → Dev) : (s.observed g).vec = (g s).vec := by rw [Dev.observed_only s g]
@[simp] theorem Dev.withGstat_now (s : Dev) (g : Dev → Dev) : (s.withGstat g).now = (g s).now := by rw [Dev.withGstat_only s g]
@[simp] theorem Dev.withGstat_freeCtr (s : Dev) (g : Dev → Dev) : (s.withGstat g).freeCtr = (g s).freeCtr := by rw [Dev.withGstat_only s g]
@[simp] theorem Dev.withGstat_readData (s : Dev) (g : Dev → Dev) : (s.withGstat g).readData = (g s).readData := by rw [Dev.withGstat_only s g]
@[simp] theorem Dev.withGstat_tg (s : Dev) (g : Dev → Dev) : (s.withGstat g).tg = (g s).tg := by rw [Dev.withGstat_only s g]
@[simp] theorem Dev.withGstat_assign (s : Dev) (g : Dev → Dev) : (s.withGstat g).assign = (g s).assign := by rw [Dev.withGstat_only s g]
@[simp] theorem Dev.withGstat_link (s : Dev) (g : Dev → Dev) : (s.withGstat g).link = (g s).link := by rw [Dev.withGstat_only s g]
@[simp] theorem Dev.withGstat_log (s : Dev) (g : Dev → Dev) : (s.withGstat g).log = (g s).log := by rw [Dev.withGstat_only s g]
@[simp] theorem Dev.withGstat_store (s : Dev) (g : Dev → Dev) : (s.withGstat g).store = (g s).store := by rw [Dev.withGstat_only s g]
@[simp] theorem Dev.withGstat_tb (s : Dev) (g : Dev → Dev) : (s.withGstat g).tb = (g s).tb := by rw [Dev.withGstat_only s g]
@[simp] theorem Dev.withGstat_stages (s : Dev) (g : Dev → Dev) : (s.withGstat g).stages = (g s).stages := by rw [Dev.withGstat_only s g]
@[simp] theorem Dev.withGstat_engines (s : Dev) (g : Dev → Dev) : (s.withGstat g).engines = (g s).engines := by rw [Dev.withGstat_only s g]
@[simp] theorem Dev.withGstat_chans (s : Dev) (g : Dev → Dev) : (s.withGstat g).chans = (g s).chans := by rw [Dev.withGstat_only s g]
@[simp] theorem Dev.withGstat_gangs (s : Dev) (g : Dev → Dev) : (s.withGstat g).gangs = (g s).gangs := by rw [Dev.withGstat_only s g]
@[simp] theorem Dev.withGstat_swapGroups (s : Dev) (g : Dev → Dev) : (s.withGstat g).swapGroups = (g s).swapGroups := by rw [Dev.withGstat_only s g]
@[simp] theorem Dev.withGstat_swaps (s : Dev) (g : Dev → Dev) : (s.withGstat g).swaps = (g s).swaps := by rw [Dev.withGstat_only s g]
@[simp] theorem Dev.withGstat_hel (s : Dev) (g : Dev → Dev) : (s.withGstat g).hel = (g s).hel := by rw [Dev.withGstat_only s g]
@[simp] theorem Dev.withGstat_seam (s : Dev) (g : Dev → Dev) : (s.withGstat g).seam = (g s).seam := by rw [Dev.withGstat_only s g]
@[simp] theorem Dev.withGstat_mxChains (s : Dev) (g : Dev → Dev) : (s.withGstat g).mxChains = (g s).mxChains := by rw [Dev.withGstat_only s g]
@[simp] theorem Dev.withGstat_mxSets (s : Dev) (g : Dev → Dev) : (s.withGstat g).mxSets = (g s).mxSets := by rw [Dev.withGstat_only s g]
@[simp] theorem Dev.withGstat_seqMem (s : Dev) (g : Dev → Dev) : (s.withGstat g).seqMem = (g s).seqMem := by rw [Dev.withGstat_only s g]
@[simp] theorem Dev.withGstat_seqs (s : Dev) (g : Dev → Dev) : (s.withGstat g).seqs = (g s).seqs := by rw [Dev.withGstat_only s g]
@[simp] theorem Dev.withGstat_handlers (s : Dev) (g : Dev → Dev) : (s.withGstat g).handlers = (g s).handlers := by rw [Dev.withGstat_only s g]
@[simp] theorem Dev.withGstat_results (s : Dev) (g : Dev → Dev) : (s.withGstat g).results = (g s).results := by rw [Dev.withGstat_only s g]
@[simp] theorem Dev.withGstat_svy (s : Dev) (g : Dev → Dev) : (s.withGstat g).svy = (g s).svy := by rw [Dev.withGstat_only s g]
@[simp] theorem Dev.withGstat_cal (s : Dev) (g : Dev → Dev) : (s.withGstat g).cal = (g s).cal := by rw [Dev.withGstat_only s g]
@[simp] theorem Dev.withGstat_vec (s : Dev) (g : Dev → Dev) : (s.withGstat g).vec = (g s).vec := by rw [Dev.withGstat_only s g]
@[simp] theorem Dev.withFabric_now (s : Dev) (g : Dev → Dev) : (s.withFabric g).now = (g s).now := by rw [Dev.withFabric_only s g]
@[simp] theorem Dev.withFabric_freeCtr (s : Dev) (g : Dev → Dev) : (s.withFabric g).freeCtr = (g s).freeCtr := by rw [Dev.withFabric_only s g]
@[simp] theorem Dev.withFabric_readData (s : Dev) (g : Dev → Dev) : (s.withFabric g).readData = (g s).readData := by rw [Dev.withFabric_only s g]
@[simp] theorem Dev.withFabric_tg (s : Dev) (g : Dev → Dev) : (s.withFabric g).tg = (g s).tg := by rw [Dev.withFabric_only s g]
@[simp] theorem Dev.withFabric_assign (s : Dev) (g : Dev → Dev) : (s.withFabric g).assign = (g s).assign := by rw [Dev.withFabric_only s g]
@[simp] theorem Dev.withFabric_link (s : Dev) (g : Dev → Dev) : (s.withFabric g).link = (g s).link := by rw [Dev.withFabric_only s g]
@[simp] theorem Dev.withFabric_log (s : Dev) (g : Dev → Dev) : (s.withFabric g).log = (g s).log := by rw [Dev.withFabric_only s g]
@[simp] theorem Dev.withFabric_store (s : Dev) (g : Dev → Dev) : (s.withFabric g).store = (g s).store := by rw [Dev.withFabric_only s g]
@[simp] theorem Dev.withFabric_tb (s : Dev) (g : Dev → Dev) : (s.withFabric g).tb = (g s).tb := by rw [Dev.withFabric_only s g]
@[simp] theorem Dev.withFabric_stages (s : Dev) (g : Dev → Dev) : (s.withFabric g).stages = (g s).stages := by rw [Dev.withFabric_only s g]
@[simp] theorem Dev.withFabric_engines (s : Dev) (g : Dev → Dev) : (s.withFabric g).engines = (g s).engines := by rw [Dev.withFabric_only s g]
@[simp] theorem Dev.withFabric_chans (s : Dev) (g : Dev → Dev) : (s.withFabric g).chans = (g s).chans := by rw [Dev.withFabric_only s g]
@[simp] theorem Dev.withFabric_gangs (s : Dev) (g : Dev → Dev) : (s.withFabric g).gangs = (g s).gangs := by rw [Dev.withFabric_only s g]
@[simp] theorem Dev.withFabric_swapGroups (s : Dev) (g : Dev → Dev) : (s.withFabric g).swapGroups = (g s).swapGroups := by rw [Dev.withFabric_only s g]
@[simp] theorem Dev.withFabric_swaps (s : Dev) (g : Dev → Dev) : (s.withFabric g).swaps = (g s).swaps := by rw [Dev.withFabric_only s g]
@[simp] theorem Dev.withFabric_hel (s : Dev) (g : Dev → Dev) : (s.withFabric g).hel = (g s).hel := by rw [Dev.withFabric_only s g]
@[simp] theorem Dev.withFabric_seam (s : Dev) (g : Dev → Dev) : (s.withFabric g).seam = (g s).seam := by rw [Dev.withFabric_only s g]
@[simp] theorem Dev.withFabric_mxChains (s : Dev) (g : Dev → Dev) : (s.withFabric g).mxChains = (g s).mxChains := by rw [Dev.withFabric_only s g]
@[simp] theorem Dev.withFabric_mxSets (s : Dev) (g : Dev → Dev) : (s.withFabric g).mxSets = (g s).mxSets := by rw [Dev.withFabric_only s g]
@[simp] theorem Dev.withFabric_seqMem (s : Dev) (g : Dev → Dev) : (s.withFabric g).seqMem = (g s).seqMem := by rw [Dev.withFabric_only s g]
@[simp] theorem Dev.withFabric_seqs (s : Dev) (g : Dev → Dev) : (s.withFabric g).seqs = (g s).seqs := by rw [Dev.withFabric_only s g]
@[simp] theorem Dev.withFabric_handlers (s : Dev) (g : Dev → Dev) : (s.withFabric g).handlers = (g s).handlers := by rw [Dev.withFabric_only s g]
@[simp] theorem Dev.withFabric_results (s : Dev) (g : Dev → Dev) : (s.withFabric g).results = (g s).results := by rw [Dev.withFabric_only s g]
@[simp] theorem Dev.withFabric_svy (s : Dev) (g : Dev → Dev) : (s.withFabric g).svy = (g s).svy := by rw [Dev.withFabric_only s g]
@[simp] theorem Dev.withFabric_cal (s : Dev) (g : Dev → Dev) : (s.withFabric g).cal = (g s).cal := by rw [Dev.withFabric_only s g]
@[simp] theorem Dev.withFabric_vec (s : Dev) (g : Dev → Dev) : (s.withFabric g).vec = (g s).vec := by rw [Dev.withFabric_only s g]
@[simp] theorem Dev.done_now (s : Dev) (j : Job) (st : Nat) (p : List Byte) : (s.done j st p).now = s.now := by rw [Dev.done_only s j st p]
@[simp] theorem Dev.done_readData (s : Dev) (j : Job) (st : Nat) (p : List Byte) : (s.done j st p).readData = s.readData := by rw [Dev.done_only s j st p]
@[simp] theorem Dev.done_msgs (s : Dev) (j : Job) (st : Nat) (p : List Byte) : (s.done j st p).msgs = s.msgs := by rw [Dev.done_only s j st p]
@[simp] theorem Dev.done_assign (s : Dev) (j : Job) (st : Nat) (p : List Byte) : (s.done j st p).assign = s.assign := by rw [Dev.done_only s j st p]
@[simp] theorem Dev.done_link (s : Dev) (j : Job) (st : Nat) (p : List Byte) : (s.done j st p).link = s.link := by rw [Dev.done_only s j st p]
@[simp] theorem Dev.done_log (s : Dev) (j : Job) (st : Nat) (p : List Byte) : (s.done j st p).log = s.log := by rw [Dev.done_only s j st p]
@[simp] theorem Dev.done_sys (s : Dev) (j : Job) (st : Nat) (p : List Byte) : (s.done j st p).sys = s.sys := by rw [Dev.done_only s j st p]
@[simp] theorem Dev.done_store (s : Dev) (j : Job) (st : Nat) (p : List Byte) : (s.done j st p).store = s.store := by rw [Dev.done_only s j st p]
@[simp] theorem Dev.done_tb (s : Dev) (j : Job) (st : Nat) (p : List Byte) : (s.done j st p).tb = s.tb := by rw [Dev.done_only s j st p]
@[simp] theorem Dev.done_stages (s : Dev) (j : Job) (st : Nat) (p : List Byte) : (s.done j st p).stages = s.stages := by rw [Dev.done_only s j st p]
@[simp] theorem Dev.done_engines (s : Dev) (j : Job) (st : Nat) (p : List Byte) : (s.done j st p).engines = s.engines := by rw [Dev.done_only s j st p]
@[simp] theorem Dev.done_chans (s : Dev) (j : Job) (st : Nat) (p : List Byte) : (s.done j st p).chans = s.chans := by rw [Dev.done_only s j st p]
@[simp] theorem Dev.done_gangs (s : Dev) (j : Job) (st : Nat) (p : List Byte) : (s.done j st p).gangs = s.gangs := by rw [Dev.done_only s j st p]
@[simp] theorem Dev.done_swapGroups (s : Dev) (j : Job) (st : Nat) (p : List Byte) : (s.done j st p).swapGroups = s.swapGroups := by rw [Dev.done_only s j st p]
@[simp] theorem Dev.done_swaps (s : Dev) (j : Job) (st : Nat) (p : List Byte) : (s.done j st p).swaps = s.swaps := by rw [Dev.done_only s j st p]
@[simp] theorem Dev.done_hel (s : Dev) (j : Job) (st : Nat) (p : List Byte) : (s.done j st p).hel = s.hel := by rw [Dev.done_only s j st p]
@[simp] theorem Dev.done_seam (s : Dev) (j : Job) (st : Nat) (p : List Byte) : (s.done j st p).seam = s.seam := by rw [Dev.done_only s j st p]
@[simp] theorem Dev.done_mxChains (s : Dev) (j : Job) (st : Nat) (p : List Byte) : (s.done j st p).mxChains = s.mxChains := by rw [Dev.done_only s j st p]
@[simp] theorem Dev.done_mxSets (s : Dev) (j : Job) (st : Nat) (p : List Byte) : (s.done j st p).mxSets = s.mxSets := by rw [Dev.done_only s j st p]
@[simp] theorem Dev.done_fab (s : Dev) (j : Job) (st : Nat) (p : List Byte) : (s.done j st p).fab = s.fab := by rw [Dev.done_only s j st p]
@[simp] theorem Dev.done_seqMem (s : Dev) (j : Job) (st : Nat) (p : List Byte) : (s.done j st p).seqMem = s.seqMem := by rw [Dev.done_only s j st p]
@[simp] theorem Dev.done_seqs (s : Dev) (j : Job) (st : Nat) (p : List Byte) : (s.done j st p).seqs = s.seqs := by rw [Dev.done_only s j st p]
@[simp] theorem Dev.done_handlers (s : Dev) (j : Job) (st : Nat) (p : List Byte) : (s.done j st p).handlers = s.handlers := by rw [Dev.done_only s j st p]
@[simp] theorem Dev.done_results (s : Dev) (j : Job) (st : Nat) (p : List Byte) : (s.done j st p).results = s.results := by rw [Dev.done_only s j st p]
@[simp] theorem Dev.done_svy (s : Dev) (j : Job) (st : Nat) (p : List Byte) : (s.done j st p).svy = s.svy := by rw [Dev.done_only s j st p]
@[simp] theorem Dev.done_cal (s : Dev) (j : Job) (st : Nat) (p : List Byte) : (s.done j st p).cal = s.cal := by rw [Dev.done_only s j st p]
@[simp] theorem Dev.done_vec (s : Dev) (j : Job) (st : Nat) (p : List Byte) : (s.done j st p).vec = s.vec := by rw [Dev.done_only s j st p]
@[simp] theorem Dev.pend_now (s : Dev) (j : Job) (b : Bool) (n : List Res) (d : List Int) : (s.pend j b n d).now = s.now := by rw [Dev.pend_only s j b n d]
@[simp] theorem Dev.pend_readData (s : Dev) (j : Job) (b : Bool) (n : List Res) (d : List Int) : (s.pend j b n d).readData = s.readData := by rw [Dev.pend_only s j b n d]
@[simp] theorem Dev.pend_msgs (s : Dev) (j : Job) (b : Bool) (n : List Res) (d : List Int) : (s.pend j b n d).msgs = s.msgs := by rw [Dev.pend_only s j b n d]
@[simp] theorem Dev.pend_assign (s : Dev) (j : Job) (b : Bool) (n : List Res) (d : List Int) : (s.pend j b n d).assign = s.assign := by rw [Dev.pend_only s j b n d]
@[simp] theorem Dev.pend_link (s : Dev) (j : Job) (b : Bool) (n : List Res) (d : List Int) : (s.pend j b n d).link = s.link := by rw [Dev.pend_only s j b n d]
@[simp] theorem Dev.pend_log (s : Dev) (j : Job) (b : Bool) (n : List Res) (d : List Int) : (s.pend j b n d).log = s.log := by rw [Dev.pend_only s j b n d]
@[simp] theorem Dev.pend_sys (s : Dev) (j : Job) (b : Bool) (n : List Res) (d : List Int) : (s.pend j b n d).sys = s.sys := by rw [Dev.pend_only s j b n d]
@[simp] theorem Dev.pend_store (s : Dev) (j : Job) (b : Bool) (n : List Res) (d : List Int) : (s.pend j b n d).store = s.store := by rw [Dev.pend_only s j b n d]
@[simp] theorem Dev.pend_tb (s : Dev) (j : Job) (b : Bool) (n : List Res) (d : List Int) : (s.pend j b n d).tb = s.tb := by rw [Dev.pend_only s j b n d]
@[simp] theorem Dev.pend_stages (s : Dev) (j : Job) (b : Bool) (n : List Res) (d : List Int) : (s.pend j b n d).stages = s.stages := by rw [Dev.pend_only s j b n d]
@[simp] theorem Dev.pend_engines (s : Dev) (j : Job) (b : Bool) (n : List Res) (d : List Int) : (s.pend j b n d).engines = s.engines := by rw [Dev.pend_only s j b n d]
@[simp] theorem Dev.pend_chans (s : Dev) (j : Job) (b : Bool) (n : List Res) (d : List Int) : (s.pend j b n d).chans = s.chans := by rw [Dev.pend_only s j b n d]
@[simp] theorem Dev.pend_gangs (s : Dev) (j : Job) (b : Bool) (n : List Res) (d : List Int) : (s.pend j b n d).gangs = s.gangs := by rw [Dev.pend_only s j b n d]
@[simp] theorem Dev.pend_swapGroups (s : Dev) (j : Job) (b : Bool) (n : List Res) (d : List Int) : (s.pend j b n d).swapGroups = s.swapGroups := by rw [Dev.pend_only s j b n d]
@[simp] theorem Dev.pend_swaps (s : Dev) (j : Job) (b : Bool) (n : List Res) (d : List Int) : (s.pend j b n d).swaps = s.swaps := by rw [Dev.pend_only s j b n d]
@[simp] theorem Dev.pend_hel (s : Dev) (j : Job) (b : Bool) (n : List Res) (d : List Int) : (s.pend j b n d).hel = s.hel := by rw [Dev.pend_only s j b n d]
@[simp] theorem Dev.pend_seam (s : Dev) (j : Job) (b : Bool) (n : List Res) (d : List Int) : (s.pend j b n d).seam = s.seam := by rw [Dev.pend_only s j b n d]
@[simp] theorem Dev.pend_mxChains (s : Dev) (j : Job) (b : Bool) (n : List Res) (d : List Int) : (s.pend j b n d).mxChains = s.mxChains := by rw [Dev.pend_only s j b n d]
@[simp] theorem Dev.pend_mxSets (s : Dev) (j : Job) (b : Bool) (n : List Res) (d : List Int) : (s.pend j b n d).mxSets = s.mxSets := by rw [Dev.pend_only s j b n d]
@[simp] theorem Dev.pend_fab (s : Dev) (j : Job) (b : Bool) (n : List Res) (d : List Int) : (s.pend j b n d).fab = s.fab := by rw [Dev.pend_only s j b n d]
@[simp] theorem Dev.pend_seqMem (s : Dev) (j : Job) (b : Bool) (n : List Res) (d : List Int) : (s.pend j b n d).seqMem = s.seqMem := by rw [Dev.pend_only s j b n d]
@[simp] theorem Dev.pend_seqs (s : Dev) (j : Job) (b : Bool) (n : List Res) (d : List Int) : (s.pend j b n d).seqs = s.seqs := by rw [Dev.pend_only s j b n d]
@[simp] theorem Dev.pend_handlers (s : Dev) (j : Job) (b : Bool) (n : List Res) (d : List Int) : (s.pend j b n d).handlers = s.handlers := by rw [Dev.pend_only s j b n d]
@[simp] theorem Dev.pend_results (s : Dev) (j : Job) (b : Bool) (n : List Res) (d : List Int) : (s.pend j b n d).results = s.results := by rw [Dev.pend_only s j b n d]
@[simp] theorem Dev.pend_svy (s : Dev) (j : Job) (b : Bool) (n : List Res) (d : List Int) : (s.pend j b n d).svy = s.svy := by rw [Dev.pend_only s j b n d]
@[simp] theorem Dev.pend_cal (s : Dev) (j : Job) (b : Bool) (n : List Res) (d : List Int) : (s.pend j b n d).cal = s.cal := by rw [Dev.pend_only s j b n d]
@[simp] theorem Dev.pend_vec (s : Dev) (j : Job) (b : Bool) (n : List Res) (d : List Int) : (s.pend j b n d).vec = s.vec := by rw [Dev.pend_only s j b n d]
@[simp] theorem Dev.hold_now (s : Dev) (j : Job) (n : List Res) (d : List Int) : (s.hold j n d).now = s.now := by rw [Dev.hold_only s j n d]
@[simp] theorem Dev.hold_readData (s : Dev) (j : Job) (n : List Res) (d : List Int) : (s.hold j n d).readData = s.readData := by rw [Dev.hold_only s j n d]
@[simp] theorem Dev.hold_msgs (s : Dev) (j : Job) (n : List Res) (d : List Int) : (s.hold j n d).msgs = s.msgs := by rw [Dev.hold_only s j n d]
@[simp] theorem Dev.hold_assign (s : Dev) (j : Job) (n : List Res) (d : List Int) : (s.hold j n d).assign = s.assign := by rw [Dev.hold_only s j n d]
@[simp] theorem Dev.hold_link (s : Dev) (j : Job) (n : List Res) (d : List Int) : (s.hold j n d).link = s.link := by rw [Dev.hold_only s j n d]
@[simp] theorem Dev.hold_log (s : Dev) (j : Job) (n : List Res) (d : List Int) : (s.hold j n d).log = s.log := by rw [Dev.hold_only s j n d]
@[simp] theorem Dev.hold_sys (s : Dev) (j : Job) (n : List Res) (d : List Int) : (s.hold j n d).sys = s.sys := by rw [Dev.hold_only s j n d]
@[simp] theorem Dev.hold_store (s : Dev) (j : Job) (n : List Res) (d : List Int) : (s.hold j n d).store = s.store := by rw [Dev.hold_only s j n d]
@[simp] theorem Dev.hold_tb (s : Dev) (j : Job) (n : List Res) (d : List Int) : (s.hold j n d).tb = s.tb := by rw [Dev.hold_only s j n d]
@[simp] theorem Dev.hold_stages (s : Dev) (j : Job) (n : List Res) (d : List Int) : (s.hold j n d).stages = s.stages := by rw [Dev.hold_only s j n d]
@[simp] theorem Dev.hold_engines (s : Dev) (j : Job) (n : List Res) (d : List Int) : (s.hold j n d).engines = s.engines := by rw [Dev.hold_only s j n d]
@[simp] theorem Dev.hold_chans (s : Dev) (j : Job) (n : List Res) (d : List Int) : (s.hold j n d).chans = s.chans := by rw [Dev.hold_only s j n d]
@[simp] theorem Dev.hold_gangs (s : Dev) (j : Job) (n : List Res) (d : List Int) : (s.hold j n d).gangs = s.gangs := by rw [Dev.hold_only s j n d]
@[simp] theorem Dev.hold_swapGroups (s : Dev) (j : Job) (n : List Res) (d : List Int) : (s.hold j n d).swapGroups = s.swapGroups := by rw [Dev.hold_only s j n d]
@[simp] theorem Dev.hold_swaps (s : Dev) (j : Job) (n : List Res) (d : List Int) : (s.hold j n d).swaps = s.swaps := by rw [Dev.hold_only s j n d]
@[simp] theorem Dev.hold_hel (s : Dev) (j : Job) (n : List Res) (d : List Int) : (s.hold j n d).hel = s.hel := by rw [Dev.hold_only s j n d]
@[simp] theorem Dev.hold_seam (s : Dev) (j : Job) (n : List Res) (d : List Int) : (s.hold j n d).seam = s.seam := by rw [Dev.hold_only s j n d]
@[simp] theorem Dev.hold_mxChains (s : Dev) (j : Job) (n : List Res) (d : List Int) : (s.hold j n d).mxChains = s.mxChains := by rw [Dev.hold_only s j n d]
@[simp] theorem Dev.hold_mxSets (s : Dev) (j : Job) (n : List Res) (d : List Int) : (s.hold j n d).mxSets = s.mxSets := by rw [Dev.hold_only s j n d]
@[simp] theorem Dev.hold_fab (s : Dev) (j : Job) (n : List Res) (d : List Int) : (s.hold j n d).fab = s.fab := by rw [Dev.hold_only s j n d]
@[simp] theorem Dev.hold_seqMem (s : Dev) (j : Job) (n : List Res) (d : List Int) : (s.hold j n d).seqMem = s.seqMem := by rw [Dev.hold_only s j n d]
@[simp] theorem Dev.hold_seqs (s : Dev) (j : Job) (n : List Res) (d : List Int) : (s.hold j n d).seqs = s.seqs := by rw [Dev.hold_only s j n d]
@[simp] theorem Dev.hold_handlers (s : Dev) (j : Job) (n : List Res) (d : List Int) : (s.hold j n d).handlers = s.handlers := by rw [Dev.hold_only s j n d]
@[simp] theorem Dev.hold_results (s : Dev) (j : Job) (n : List Res) (d : List Int) : (s.hold j n d).results = s.results := by rw [Dev.hold_only s j n d]
@[simp] theorem Dev.hold_svy (s : Dev) (j : Job) (n : List Res) (d : List Int) : (s.hold j n d).svy = s.svy := by rw [Dev.hold_only s j n d]
@[simp] theorem Dev.hold_cal (s : Dev) (j : Job) (n : List Res) (d : List Int) : (s.hold j n d).cal = s.cal := by rw [Dev.hold_only s j n d]
@[simp] theorem Dev.hold_vec (s : Dev) (j : Job) (n : List Res) (d : List Int) : (s.hold j n d).vec = s.vec := by rw [Dev.hold_only s j n d]
@[simp] theorem Dev.settle_now (s : Dev) (f : Nat) : (s.settle f).now = s.now := by rw [Dev.settle_only s f]
@[simp] theorem Dev.settle_readData (s : Dev) (f : Nat) : (s.settle f).readData = s.readData := by rw [Dev.settle_only s f]
@[simp] theorem Dev.settle_msgs (s : Dev) (f : Nat) : (s.settle f).msgs = s.msgs := by rw [Dev.settle_only s f]
@[simp] theorem Dev.settle_assign (s : Dev) (f : Nat) : (s.settle f).assign = s.assign := by rw [Dev.settle_only s f]
@[simp] theorem Dev.settle_link (s : Dev) (f : Nat) : (s.settle f).link = s.link := by rw [Dev.settle_only s f]
@[simp] theorem Dev.settle_log (s : Dev) (f : Nat) : (s.settle f).log = s.log := by rw [Dev.settle_only s f]
@[simp] theorem Dev.settle_sys (s : Dev) (f : Nat) : (s.settle f).sys = s.sys := by rw [Dev.settle_only s f]
@[simp] theorem Dev.settle_store (s : Dev) (f : Nat) : (s.settle f).store = s.store := by rw [Dev.settle_only s f]
@[simp] theorem Dev.settle_tb (s : Dev) (f : Nat) : (s.settle f).tb = s.tb := by rw [Dev.settle_only s f]
@[simp] theorem Dev.settle_stages (s : Dev) (f : Nat) : (s.settle f).stages = s.stages := by rw [Dev.settle_only s f]
@[simp] theorem Dev.settle_engines (s : Dev) (f : Nat) : (s.settle f).engines = s.engines := by rw [Dev.settle_only s f]
@[simp] theorem Dev.settle_chans (s : Dev) (f : Nat) : (s.settle f).chans = s.chans := by rw [Dev.settle_only s f]
@[simp] theorem Dev.settle_gangs (s : Dev) (f : Nat) : (s.settle f).gangs = s.gangs := by rw [Dev.settle_only s f]
@[simp] theorem Dev.settle_swapGroups (s : Dev) (f : Nat) : (s.settle f).swapGroups = s.swapGroups := by rw [Dev.settle_only s f]
@[simp] theorem Dev.settle_swaps (s : Dev) (f : Nat) : (s.settle f).swaps = s.swaps := by rw [Dev.settle_only s f]
@[simp] theorem Dev.settle_hel (s : Dev) (f : Nat) : (s.settle f).hel = s.hel := by rw [Dev.settle_only s f]
@[simp] theorem Dev.settle_seam (s : Dev) (f : Nat) : (s.settle f).seam = s.seam := by rw [Dev.settle_only s f]
@[simp] theorem Dev.settle_mxChains (s : Dev) (f : Nat) : (s.settle f).mxChains = s.mxChains := by rw [Dev.settle_only s f]
@[simp] theorem Dev.settle_mxSets (s : Dev) (f : Nat) : (s.settle f).mxSets = s.mxSets := by rw [Dev.settle_only s f]
@[simp] theorem Dev.settle_fab (s : Dev) (f : Nat) : (s.settle f).fab = s.fab := by rw [Dev.settle_only s f]
@[simp] theorem Dev.settle_seqMem (s : Dev) (f : Nat) : (s.settle f).seqMem = s.seqMem := by rw [Dev.settle_only s f]
@[simp] theorem Dev.settle_seqs (s : Dev) (f : Nat) : (s.settle f).seqs = s.seqs := by rw [Dev.settle_only s f]
@[simp] theorem Dev.settle_handlers (s : Dev) (f : Nat) : (s.settle f).handlers = s.handlers := by rw [Dev.settle_only s f]
@[simp] theorem Dev.settle_results (s : Dev) (f : Nat) : (s.settle f).results = s.results := by rw [Dev.settle_only s f]
@[simp] theorem Dev.settle_svy (s : Dev) (f : Nat) : (s.settle f).svy = s.svy := by rw [Dev.settle_only s f]
@[simp] theorem Dev.settle_cal (s : Dev) (f : Nat) : (s.settle f).cal = s.cal := by rw [Dev.settle_only s f]
@[simp] theorem Dev.settle_vec (s : Dev) (f : Nat) : (s.settle f).vec = s.vec := by rw [Dev.settle_only s f]
@[simp] theorem Dev.finalReply_now (s : Dev) (r : Running) (st : Nat) (p : List Byte) : (s.finalReply r st p).now = s.now := by rw [Dev.finalReply_only s r st p]
@[simp] theorem Dev.finalReply_readData (s : Dev) (r : Running) (st : Nat) (p : List Byte) : (s.finalReply r st p).readData = s.readData := by rw [Dev.finalReply_only s r st p]
@[simp] theorem Dev.finalReply_msgs (s : Dev) (r : Running) (st : Nat) (p : List Byte) : (s.finalReply r st p).msgs = s.msgs := by rw [Dev.finalReply_only s r st p]
@[simp] theorem Dev.finalReply_assign (s : Dev) (r : Running) (st : Nat) (p : List Byte) : (s.finalReply r st p).assign = s.assign := by rw [Dev.finalReply_only s r st p]
@[simp] theorem Dev.finalReply_link (s : Dev) (r : Running) (st : Nat) (p : List Byte) : (s.finalReply r st p).link = s.link := by rw [Dev.finalReply_only s r st p]
@[simp] theorem Dev.finalReply_log (s : Dev) (r : Running) (st : Nat) (p : List Byte) : (s.finalReply r st p).log = s.log := by rw [Dev.finalReply_only s r st p]
@[simp] theorem Dev.finalReply_sys (s : Dev) (r : Running) (st : Nat) (p : List Byte) : (s.finalReply r st p).sys = s.sys := by rw [Dev.finalReply_only s r st p]
@[simp] theorem Dev.finalReply_store (s : Dev) (r : Running) (st : Nat) (p : List Byte) : (s.finalReply r st p).store = s.store := by rw [Dev.finalReply_only s r st p]
@[simp] theorem Dev.finalReply_tb (s : Dev) (r : Running) (st : Nat) (p : List Byte) : (s.finalReply r st p).tb = s.tb := by rw [Dev.finalReply_only s r st p]
@[simp] theorem Dev.finalReply_stages (s : Dev) (r : Running) (st : Nat) (p : List Byte) : (s.finalReply r st p).stages = s.stages := by rw [Dev.finalReply_only s r st p]
@[simp] theorem Dev.finalReply_engines (s : Dev) (r : Running) (st : Nat) (p : List Byte) : (s.finalReply r st p).engines = s.engines := by rw [Dev.finalReply_only s r st p]
@[simp] theorem Dev.finalReply_chans (s : Dev) (r : Running) (st : Nat) (p : List Byte) : (s.finalReply r st p).chans = s.chans := by rw [Dev.finalReply_only s r st p]
@[simp] theorem Dev.finalReply_gangs (s : Dev) (r : Running) (st : Nat) (p : List Byte) : (s.finalReply r st p).gangs = s.gangs := by rw [Dev.finalReply_only s r st p]
@[simp] theorem Dev.finalReply_swapGroups (s : Dev) (r : Running) (st : Nat) (p : List Byte) : (s.finalReply r st p).swapGroups = s.swapGroups := by rw [Dev.finalReply_only s r st p]
@[simp] theorem Dev.finalReply_swaps (s : Dev) (r : Running) (st : Nat) (p : List Byte) : (s.finalReply r st p).swaps = s.swaps := by rw [Dev.finalReply_only s r st p]
@[simp] theorem Dev.finalReply_hel (s : Dev) (r : Running) (st : Nat) (p : List Byte) : (s.finalReply r st p).hel = s.hel := by rw [Dev.finalReply_only s r st p]
@[simp] theorem Dev.finalReply_seam (s : Dev) (r : Running) (st : Nat) (p : List Byte) : (s.finalReply r st p).seam = s.seam := by rw [Dev.finalReply_only s r st p]
@[simp] theorem Dev.finalReply_mxChains (s : Dev) (r : Running) (st : Nat) (p : List Byte) : (s.finalReply r st p).mxChains = s.mxChains := by rw [Dev.finalReply_only s r st p]
@[simp] theorem Dev.finalReply_mxSets (s : Dev) (r : Running) (st : Nat) (p : List Byte) : (s.finalReply r st p).mxSets = s.mxSets := by rw [Dev.finalReply_only s r st p]
@[simp] theorem Dev.finalReply_fab (s : Dev) (r : Running) (st : Nat) (p : List Byte) : (s.finalReply r st p).fab = s.fab := by rw [Dev.finalReply_only s r st p]
@[simp] theorem Dev.finalReply_seqMem (s : Dev) (r : Running) (st : Nat) (p : List Byte) : (s.finalReply r st p).seqMem = s.seqMem := by rw [Dev.finalReply_only s r st p]
@[simp] theorem Dev.finalReply_seqs (s : Dev) (r : Running) (st : Nat) (p : List Byte) : (s.finalReply r st p).seqs = s.seqs := by rw [Dev.finalReply_only s r st p]
@[simp] theorem Dev.finalReply_handlers (s : Dev) (r : Running) (st : Nat) (p : List Byte) : (s.finalReply r st p).handlers = s.handlers := by rw [Dev.finalReply_only s r st p]
@[simp] theorem Dev.finalReply_results (s : Dev) (r : Running) (st : Nat) (p : List Byte) : (s.finalReply r st p).results = s.results := by rw [Dev.finalReply_only s r st p]
@[simp] theorem Dev.finalReply_svy (s : Dev) (r : Running) (st : Nat) (p : List Byte) : (s.finalReply r st p).svy = s.svy := by rw [Dev.finalReply_only s r st p]
@[simp] theorem Dev.finalReply_cal (s : Dev) (r : Running) (st : Nat) (p : List Byte) : (s.finalReply r st p).cal = s.cal := by rw [Dev.finalReply_only s r st p]
@[simp] theorem Dev.finalReply_vec (s : Dev) (r : Running) (st : Nat) (p : List Byte) : (s.finalReply r st p).vec = s.vec := by rw [Dev.finalReply_only s r st p]
@[simp] theorem Dev.leaves_now (s : Dev) (r : Running) (st : Nat) (p : List Byte) : (s.leaves r st p).now = s.now := by rw [Dev.leaves_only s r st p]
@[simp] theorem Dev.leaves_readData (s : Dev) (r : Running) (st : Nat) (p : List Byte) : (s.leaves r st p).readData = s.readData := by rw [Dev.leaves_only s r st p]
@[simp] theorem Dev.leaves_msgs (s : Dev) (r : Running) (st : Nat) (p : List Byte) : (s.leaves r st p).msgs = s.msgs := by rw [Dev.leaves_only s r st p]
@[simp] theorem Dev.leaves_assign (s : Dev) (r : Running) (st : Nat) (p : List Byte) : (s.leaves r st p).assign = s.assign := by rw [Dev.leaves_only s r st p]
@[simp] theorem Dev.leaves_link (s : Dev) (r : Running) (st : Nat) (p : List Byte) : (s.leaves r st p).link = s.link := by rw [Dev.leaves_only s r st p]
@[simp] theorem Dev.leaves_log (s : Dev) (r : Running) (st : Nat) (p : List Byte) : (s.leaves r st p).log = s.log := by rw [Dev.leaves_only s r st p]
@[simp] theorem Dev.leaves_sys (s : Dev) (r : Running) (st : Nat) (p : List Byte) : (s.leaves r st p).sys = s.sys := by rw [Dev.leaves_only s r st p]
@[simp] theorem Dev.leaves_store (s : Dev) (r : Running) (st : Nat) (p : List Byte) : (s.leaves r st p).store = s.store := by rw [Dev.leaves_only s r st p]
@[simp] theorem Dev.leaves_tb (s : Dev) (r : Running) (st : Nat) (p : List Byte) : (s.leaves r st p).tb = s.tb := by rw [Dev.leaves_only s r st p]
@[simp] theorem Dev.leaves_stages (s : Dev) (r : Running) (st : Nat) (p : List Byte) : (s.leaves r st p).stages = s.stages := by rw [Dev.leaves_only s r st p]
@[simp] theorem Dev.leaves_engines (s : Dev) (r : Running) (st : Nat) (p : List Byte) : (s.leaves r st p).engines = s.engines := by rw [Dev.leaves_only s r st p]
@[simp] theorem Dev.leaves_chans (s : Dev) (r : Running) (st : Nat) (p : List Byte) : (s.leaves r st p).chans = s.chans := by rw [Dev.leaves_only s r st p]
@[simp] theorem Dev.leaves_gangs (s : Dev) (r : Running) (st : Nat) (p : List Byte) : (s.leaves r st p).gangs = s.gangs := by rw [Dev.leaves_only s r st p]
@[simp] theorem Dev.leaves_swapGroups (s : Dev) (r : Running) (st : Nat) (p : List Byte) : (s.leaves r st p).swapGroups = s.swapGroups := by rw [Dev.leaves_only s r st p]
@[simp] theorem Dev.leaves_swaps (s : Dev) (r : Running) (st : Nat) (p : List Byte) : (s.leaves r st p).swaps = s.swaps := by rw [Dev.leaves_only s r st p]
@[simp] theorem Dev.leaves_hel (s : Dev) (r : Running) (st : Nat) (p : List Byte) : (s.leaves r st p).hel = s.hel := by rw [Dev.leaves_only s r st p]
@[simp] theorem Dev.leaves_seam (s : Dev) (r : Running) (st : Nat) (p : List Byte) : (s.leaves r st p).seam = s.seam := by rw [Dev.leaves_only s r st p]
@[simp] theorem Dev.leaves_mxChains (s : Dev) (r : Running) (st : Nat) (p : List Byte) : (s.leaves r st p).mxChains = s.mxChains := by rw [Dev.leaves_only s r st p]
@[simp] theorem Dev.leaves_mxSets (s : Dev) (r : Running) (st : Nat) (p : List Byte) : (s.leaves r st p).mxSets = s.mxSets := by rw [Dev.leaves_only s r st p]
@[simp] theorem Dev.leaves_fab (s : Dev) (r : Running) (st : Nat) (p : List Byte) : (s.leaves r st p).fab = s.fab := by rw [Dev.leaves_only s r st p]
@[simp] theorem Dev.leaves_seqMem (s : Dev) (r : Running) (st : Nat) (p : List Byte) : (s.leaves r st p).seqMem = s.seqMem := by rw [Dev.leaves_only s r st p]
@[simp] theorem Dev.leaves_seqs (s : Dev) (r : Running) (st : Nat) (p : List Byte) : (s.leaves r st p).seqs = s.seqs := by rw [Dev.leaves_only s r st p]
@[simp] theorem Dev.leaves_handlers (s : Dev) (r : Running) (st : Nat) (p : List Byte) : (s.leaves r st p).handlers = s.handlers := by rw [Dev.leaves_only s r st p]
@[simp] theorem Dev.leaves_results (s : Dev) (r : Running) (st : Nat) (p : List Byte) : (s.leaves r st p).results = s.results := by rw [Dev.leaves_only s r st p]
@[simp] theorem Dev.leaves_svy (s : Dev) (r : Running) (st : Nat) (p : List Byte) : (s.leaves r st p).svy = s.svy := by rw [Dev.leaves_only s r st p]
@[simp] theorem Dev.leaves_cal (s : Dev) (r : Running) (st : Nat) (p : List Byte) : (s.leaves r st p).cal = s.cal := by rw [Dev.leaves_only s r st p]
@[simp] theorem Dev.leaves_vec (s : Dev) (r : Running) (st : Nat) (p : List Byte) : (s.leaves r st p).vec = s.vec := by rw [Dev.leaves_only s r st p]
@[simp] theorem Dev.served_now (s : Dev) (f : Nat) (a : Option Nat) : (s.served f a).now = s.now := by rw [Dev.served_only s f a]
@[simp] theorem Dev.served_readData (s : Dev) (f : Nat) (a : Option Nat) : (s.served f a).readData = s.readData := by rw [Dev.served_only s f a]
@[simp] theorem Dev.served_msgs (s : Dev) (f : Nat) (a : Option Nat) : (s.served f a).msgs = s.msgs := by rw [Dev.served_only s f a]
@[simp] theorem Dev.served_assign (s : Dev) (f : Nat) (a : Option Nat) : (s.served f a).assign = s.assign := by rw [Dev.served_only s f a]
@[simp] theorem Dev.served_link (s : Dev) (f : Nat) (a : Option Nat) : (s.served f a).link = s.link := by rw [Dev.served_only s f a]
@[simp] theorem Dev.served_log (s : Dev) (f : Nat) (a : Option Nat) : (s.served f a).log = s.log := by rw [Dev.served_only s f a]
@[simp] theorem Dev.served_sys (s : Dev) (f : Nat) (a : Option Nat) : (s.served f a).sys = s.sys := by rw [Dev.served_only s f a]
@[simp] theorem Dev.served_store (s : Dev) (f : Nat) (a : Option Nat) : (s.served f a).store = s.store := by rw [Dev.served_only s f a]
@[simp] theorem Dev.served_tb (s : Dev) (f : Nat) (a : Option Nat) : (s.served f a).tb = s.tb := by rw [Dev.served_only s f a]
@[simp] theorem Dev.served_stages (s : Dev) (f : Nat) (a : Option Nat) : (s.served f a).stages = s.stages := by rw [Dev.served_only s f a]
@[simp] theorem Dev.served_engines (s : Dev) (f : Nat) (a : Option Nat) : (s.served f a).engines = s.engines := by rw [Dev.served_only s f a]
@[simp] theorem Dev.served_chans (s : Dev) (f : Nat) (a : Option Nat) : (s.served f a).chans = s.chans := by rw [Dev.served_only s f a]
@[simp] theorem Dev.served_gangs (s : Dev) (f : Nat) (a : Option Nat) : (s.served f a).gangs = s.gangs := by rw [Dev.served_only s f a]
@[simp] theorem Dev.served_swapGroups (s : Dev) (f : Nat) (a : Option Nat) : (s.served f a).swapGroups = s.swapGroups := by rw [Dev.served_only s f a]
@[simp] theorem Dev.served_swaps (s : Dev) (f : Nat) (a : Option Nat) : (s.served f a).swaps = s.swaps := by rw [Dev.served_only s f a]
@[simp] theorem Dev.served_hel (s : Dev) (f : Nat) (a : Option Nat) : (s.served f a).hel = s.hel := by rw [Dev.served_only s f a]
@[simp] theorem Dev.served_seam (s : Dev) (f : Nat) (a : Option Nat) : (s.served f a).seam = s.seam := by rw [Dev.served_only s f a]
@[simp] theorem Dev.served_mxChains (s : Dev) (f : Nat) (a : Option Nat) : (s.served f a).mxChains = s.mxChains := by rw [Dev.served_only s f a]
@[simp] theorem Dev.served_mxSets (s : Dev) (f : Nat) (a : Option Nat) : (s.served f a).mxSets = s.mxSets := by rw [Dev.served_only s f a]
@[simp] theorem Dev.served_fab (s : Dev) (f : Nat) (a : Option Nat) : (s.served f a).fab = s.fab := by rw [Dev.served_only s f a]
@[simp] theorem Dev.served_seqMem (s : Dev) (f : Nat) (a : Option Nat) : (s.served f a).seqMem = s.seqMem := by rw [Dev.served_only s f a]
@[simp] theorem Dev.served_seqs (s : Dev) (f : Nat) (a : Option Nat) : (s.served f a).seqs = s.seqs := by rw [Dev.served_only s f a]
@[simp] theorem Dev.served_handlers (s : Dev) (f : Nat) (a : Option Nat) : (s.served f a).handlers = s.handlers := by rw [Dev.served_only s f a]
@[simp] theorem Dev.served_results (s : Dev) (f : Nat) (a : Option Nat) : (s.served f a).results = s.results := by rw [Dev.served_only s f a]
@[simp] theorem Dev.served_svy (s : Dev) (f : Nat) (a : Option Nat) : (s.served f a).svy = s.svy := by rw [Dev.served_only s f a]
@[simp] theorem Dev.served_cal (s : Dev) (f : Nat) (a : Option Nat) : (s.served f a).cal = s.cal := by rw [Dev.served_only s f a]
@[simp] theorem Dev.served_vec (s : Dev) (f : Nat) (a : Option Nat) : (s.served f a).vec = s.vec := by rw [Dev.served_only s f a]
@[simp] theorem Dev.finish_now (s : Dev) (id st : Nat) (p : List Byte) : (s.finish id st p).now = s.now := by rw [Dev.finish_only s id st p]
@[simp] theorem Dev.finish_readData (s : Dev) (id st : Nat) (p : List Byte) : (s.finish id st p).readData = s.readData := by rw [Dev.finish_only s id st p]
@[simp] theorem Dev.finish_msgs (s : Dev) (id st : Nat) (p : List Byte) : (s.finish id st p).msgs = s.msgs := by rw [Dev.finish_only s id st p]
@[simp] theorem Dev.finish_assign (s : Dev) (id st : Nat) (p : List Byte) : (s.finish id st p).assign = s.assign := by rw [Dev.finish_only s id st p]
@[simp] theorem Dev.finish_link (s : Dev) (id st : Nat) (p : List Byte) : (s.finish id st p).link = s.link := by rw [Dev.finish_only s id st p]
@[simp] theorem Dev.finish_log (s : Dev) (id st : Nat) (p : List Byte) : (s.finish id st p).log = s.log := by rw [Dev.finish_only s id st p]
@[simp] theorem Dev.finish_sys (s : Dev) (id st : Nat) (p : List Byte) : (s.finish id st p).sys = s.sys := by rw [Dev.finish_only s id st p]
@[simp] theorem Dev.finish_store (s : Dev) (id st : Nat) (p : List Byte) : (s.finish id st p).store = s.store := by rw [Dev.finish_only s id st p]
@[simp] theorem Dev.finish_tb (s : Dev) (id st : Nat) (p : List Byte) : (s.finish id st p).tb = s.tb := by rw [Dev.finish_only s id st p]
@[simp] theorem Dev.finish_stages (s : Dev) (id st : Nat) (p : List Byte) : (s.finish id st p).stages = s.stages := by rw [Dev.finish_only s id st p]
@[simp] theorem Dev.finish_engines (s : Dev) (id st : Nat) (p : List Byte) : (s.finish id st p).engines = s.engines := by rw [Dev.finish_only s id st p]
@[simp] theorem Dev.finish_chans (s : Dev) (id st : Nat) (p : List Byte) : (s.finish id st p).chans = s.chans := by rw [Dev.finish_only s id st p]
@[simp] theorem Dev.finish_gangs (s : Dev) (id st : Nat) (p : List Byte) : (s.finish id st p).gangs = s.gangs := by rw [Dev.finish_only s id st p]
@[simp] theorem Dev.finish_swapGroups (s : Dev) (id st : Nat) (p : List Byte) : (s.finish id st p).swapGroups = s.swapGroups := by rw [Dev.finish_only s id st p]
@[simp] theorem Dev.finish_swaps (s : Dev) (id st : Nat) (p : List Byte) : (s.finish id st p).swaps = s.swaps := by rw [Dev.finish_only s id st p]
@[simp] theorem Dev.finish_hel (s : Dev) (id st : Nat) (p : List Byte) : (s.finish id st p).hel = s.hel := by rw [Dev.finish_only s id st p]
@[simp] theorem Dev.finish_seam (s : Dev) (id st : Nat) (p : List Byte) : (s.finish id st p).seam = s.seam := by rw [Dev.finish_only s id st p]
@[simp] theorem Dev.finish_mxChains (s : Dev) (id st : Nat) (p : List Byte) : (s.finish id st p).mxChains = s.mxChains := by rw [Dev.finish_only s id st p]
@[simp] theorem Dev.finish_mxSets (s : Dev) (id st : Nat) (p : List Byte) : (s.finish id st p).mxSets = s.mxSets := by rw [Dev.finish_only s id st p]
@[simp] theorem Dev.finish_fab (s : Dev) (id st : Nat) (p : List Byte) : (s.finish id st p).fab = s.fab := by rw [Dev.finish_only s id st p]
@[simp] theorem Dev.finish_seqMem (s : Dev) (id st : Nat) (p : List Byte) : (s.finish id st p).seqMem = s.seqMem := by rw [Dev.finish_only s id st p]
@[simp] theorem Dev.finish_seqs (s : Dev) (id st : Nat) (p : List Byte) : (s.finish id st p).seqs = s.seqs := by rw [Dev.finish_only s id st p]
@[simp] theorem Dev.finish_handlers (s : Dev) (id st : Nat) (p : List Byte) : (s.finish id st p).handlers = s.handlers := by rw [Dev.finish_only s id st p]
@[simp] theorem Dev.finish_results (s : Dev) (id st : Nat) (p : List Byte) : (s.finish id st p).results = s.results := by rw [Dev.finish_only s id st p]
@[simp] theorem Dev.finish_svy (s : Dev) (id st : Nat) (p : List Byte) : (s.finish id st p).svy = s.svy := by rw [Dev.finish_only s id st p]
@[simp] theorem Dev.finish_cal (s : Dev) (id st : Nat) (p : List Byte) : (s.finish id st p).cal = s.cal := by rw [Dev.finish_only s id st p]
@[simp] theorem Dev.finish_vec (s : Dev) (id st : Nat) (p : List Byte) : (s.finish id st p).vec = s.vec := by rw [Dev.finish_only s id st p]
@[simp] theorem Dev.finish?_now (s : Dev) (id : Option Nat) (st : Nat) (p : List Byte) : (s.finish? id st p).now = s.now := by rw [Dev.finish?_only s id st p]
@[simp] theorem Dev.finish?_readData (s : Dev) (id : Option Nat) (st : Nat) (p : List Byte) : (s.finish? id st p).readData = s.readData := by rw [Dev.finish?_only s id st p]
@[simp] theorem Dev.finish?_msgs (s : Dev) (id : Option Nat) (st : Nat) (p : List Byte) : (s.finish? id st p).msgs = s.msgs := by rw [Dev.finish?_only s id st p]
@[simp] theorem Dev.finish?_assign (s : Dev) (id : Option Nat) (st : Nat) (p : List Byte) : (s.finish? id st p).assign = s.assign := by rw [Dev.finish?_only s id st p]
@[simp] theorem Dev.finish?_link (s : Dev) (id : Option Nat) (st : Nat) (p : List Byte) : (s.finish? id st p).link = s.link := by rw [Dev.finish?_only s id st p]
@[simp] theorem Dev.finish?_log (s : Dev) (id : Option Nat) (st : Nat) (p : List Byte) : (s.finish? id st p).log = s.log := by rw [Dev.finish?_only s id st p]
@[simp] theorem Dev.finish?_sys (s : Dev) (id : Option Nat) (st : Nat) (p : List Byte) : (s.finish? id st p).sys = s.sys := by rw [Dev.finish?_only s id st p]
@[simp] theorem Dev.finish?_store (s : Dev) (id : Option Nat) (st : Nat) (p : List Byte) : (s.finish? id st p).store = s.store := by rw [Dev.finish?_only s id st p]
@[simp] theorem Dev.finish?_tb (s : Dev) (id : Option Nat) (st : Nat) (p : List Byte) : (s.finish? id st p).tb = s.tb := by rw [Dev.finish?_only s id st p]
@[simp] theorem Dev.finish?_stages (s : Dev) (id : Option Nat) (st : Nat) (p : List Byte) : (s.finish? id st p).stages = s.stages := by rw [Dev.finish?_only s id st p]
@[simp] theorem Dev.finish?_engines (s : Dev) (id : Option Nat) (st : Nat) (p : List Byte) : (s.finish? id st p).engines = s.engines := by rw [Dev.finish?_only s id st p]
@[simp] theorem Dev.finish?_chans (s : Dev) (id : Option Nat) (st : Nat) (p : List Byte) : (s.finish? id st p).chans = s.chans := by rw [Dev.finish?_only s id st p]
@[simp] theorem Dev.finish?_gangs (s : Dev) (id : Option Nat) (st : Nat) (p : List Byte) : (s.finish? id st p).gangs = s.gangs := by rw [Dev.finish?_only s id st p]
@[simp] theorem Dev.finish?_swapGroups (s : Dev) (id : Option Nat) (st : Nat) (p : List Byte) : (s.finish? id st p).swapGroups = s.swapGroups := by rw [Dev.finish?_only s id st p]
@[simp] theorem Dev.finish?_swaps (s : Dev) (id : Option Nat) (st : Nat) (p : List Byte) : (s.finish? id st p).swaps = s.swaps := by rw [Dev.finish?_only s id st p]
@[simp] theorem Dev.finish?_hel (s : Dev) (id : Option Nat) (st : Nat) (p : List Byte) : (s.finish? id st p).hel = s.hel := by rw [Dev.finish?_only s id st p]
@[simp] theorem Dev.finish?_seam (s : Dev) (id : Option Nat) (st : Nat) (p : List Byte) : (s.finish? id st p).seam = s.seam := by rw [Dev.finish?_only s id st p]
@[simp] theorem Dev.finish?_mxChains (s : Dev) (id : Option Nat) (st : Nat) (p : List Byte) : (s.finish? id st p).mxChains = s.mxChains := by rw [Dev.finish?_only s id st p]
@[simp] theorem Dev.finish?_mxSets (s : Dev) (id : Option Nat) (st : Nat) (p : List Byte) : (s.finish? id st p).mxSets = s.mxSets := by rw [Dev.finish?_only s id st p]
@[simp] theorem Dev.finish?_fab (s : Dev) (id : Option Nat) (st : Nat) (p : List Byte) : (s.finish? id st p).fab = s.fab := by rw [Dev.finish?_only s id st p]
@[simp] theorem Dev.finish?_seqMem (s : Dev) (id : Option Nat) (st : Nat) (p : List Byte) : (s.finish? id st p).seqMem = s.seqMem := by rw [Dev.finish?_only s id st p]
@[simp] theorem Dev.finish?_seqs (s : Dev) (id : Option Nat) (st : Nat) (p : List Byte) : (s.finish? id st p).seqs = s.seqs := by rw [Dev.finish?_only s id st p]
@[simp] theorem Dev.finish?_handlers (s : Dev) (id : Option Nat) (st : Nat) (p : List Byte) : (s.finish? id st p).handlers = s.handlers := by rw [Dev.finish?_only s id st p]
@[simp] theorem Dev.finish?_results (s : Dev) (id : Option Nat) (st : Nat) (p : List Byte) : (s.finish? id st p).results = s.results := by rw [Dev.finish?_only s id st p]
@[simp] theorem Dev.finish?_svy (s : Dev) (id : Option Nat) (st : Nat) (p : List Byte) : (s.finish? id st p).svy = s.svy := by rw [Dev.finish?_only s id st p]
@[simp] theorem Dev.finish?_cal (s : Dev) (id : Option Nat) (st : Nat) (p : List Byte) : (s.finish? id st p).cal = s.cal := by rw [Dev.finish?_only s id st p]
@[simp] theorem Dev.finish?_vec (s : Dev) (id : Option Nat) (st : Nat) (p : List Byte) : (s.finish? id st p).vec = s.vec := by rw [Dev.finish?_only s id st p]

end Sys2Proof.Machine
end

