-- ==== Sys2Proof/Laws/Mailbox.lean ====
section
/-! SUPPORT. What a mailbox command row does, once for every command sheet: it answers at once, goes on, or is turned away. -/

namespace Sys2Proof.Machine

/-- A command that runs at once and ends: its body's device with the reply (R111). -/
theorem Dev.command_done (d : Dev) (c : Cmd) (q : Req) (st : Nat) (p : List Byte) (h : d.runsNow c q = true)
    (hb : (c.body (d.taken q) (d.jobOf c.op q)).2 = .done st p) :
    d.command c q = (c.body (d.taken q) (d.jobOf c.op q)).1.done (d.jobOf c.op q) st p := by
  unfold Dev.runsNow at h
  simp only [Bool.and_eq_true, decide_eq_true_eq, Option.isNone_iff_eq_none] at h
  obtain ⟨⟨⟨⟨h1, h2⟩, h3⟩, h4⟩, h5⟩ := h
  simp [Dev.command, h1, h2, runCmd, h3, h4, startCmd, h5, hb]

/-- A command that runs at once and completes later (R111). -/
theorem Dev.command_later (d : Dev) (c : Cmd) (q : Req) (x : List Int) (h : d.runsNow c q = true)
    (hb : (c.body (d.taken q) (d.jobOf c.op q)).2 = .later x) :
    d.command c q = (c.body (d.taken q) (d.jobOf c.op q)).1.pend (d.jobOf c.op q) true
      (c.names (d.taken q) (d.jobOf c.op q)) x := by
  unfold Dev.runsNow at h
  simp only [Bool.and_eq_true, decide_eq_true_eq, Option.isNone_iff_eq_none] at h
  obtain ⟨⟨⟨⟨h1, h2⟩, h3⟩, h4⟩, h5⟩ := h
  simp [Dev.command, h1, h2, runCmd, h3, h4, startCmd, h5, hb]

/-- A command that runs at once and completes at an instant within its service bound (R111). -/
theorem Dev.command_soon (d : Dev) (c : Cmd) (q : Req) (x : List Int) (h : d.runsNow c q = true)
    (hb : (c.body (d.taken q) (d.jobOf c.op q)).2 = .soon x) :
    d.command c q = (c.body (d.taken q) (d.jobOf c.op q)).1.hold (d.jobOf c.op q) (c.names (d.taken q) (d.jobOf c.op q)) x := by
  unfold Dev.runsNow at h
  simp only [Bool.and_eq_true, decide_eq_true_eq, Option.isNone_iff_eq_none] at h
  obtain ⟨⟨⟨⟨h1, h2⟩, h3⟩, h4⟩, h5⟩ := h
  simp [Dev.command, h1, h2, runCmd, h3, h4, startCmd, h5, hb]

/-- A request that one of checks 1 to 8 stops gets the status of that check and has no other effect (R94). -/
theorem Dev.command_refused (d : Dev) (c : Cmd) (q : Req) (st : Nat) (h1 : d.serves q.fn.val = true)
    (h2 : d.takesNow (d.jobOf c.op q) = true) (h3 : firstFail c (d.taken q) (d.jobOf c.op q) = some st) :
    d.command c q = (d.taken q).done (d.jobOf c.op q) st [] := by
  simp only [Dev.command, h1, if_pos, h2, runCmd, h3]

/-- A device that is awake takes a request in by numbering it. -/
theorem Dev.taken_awake (d : Dev) (q : Req) (h : d.awake) : d.taken q = d.nextJob := by
  unfold Dev.taken
  simp [h.1, h.2]

end Sys2Proof.Machine
end

