-- ==== Sys2Proof/WellFormed.lean ====
section
/-! DEFINITION. Which commands are well formed: the operands fit the fields and the lengths the spec gives them. The
machine answers every command, well formed or not; the checks say which terms stand for something the outside can do. -/

namespace Sys2Proof

/-- A register access is aligned to its 4 bytes (R17). -/
def wfOffset (off : W16) : Bool := off.toNat % 4 == 0

/-- A mailbox request carries at most 240 payload bytes (R89), and a ring entry's number lies in a ring of at most 4,096
(R66). -/
def wfReq (q : Req) : Bool :=
  decide (q.payload.length ≤ 240) && decide (q.len < 65536)
    && (match q.ring with | some e => decide (e < 4096) | none => true)

/-- An access of a size that BAR0 does not take: not 4 bytes (R17). -/
def wfBadSize (size : Nat) : Bool := size != 4

/-- No channel occurs twice. -/
def distinctChans (l : List Nat) : Bool :=
  match l with
  | [] => true
  | c :: r => !r.contains c && distinctChans r

/-- The samples of one instant: each channel once, as many ticks of V as of I (R229). -/
def wfSamples (l : List ChanSamples) : Bool :=
  distinctChans (l.map (fun x => x.ch.val)) && l.all (fun x => x.v.length == x.i.length)

/-- A calibration result carries every factor: two pairs and a DAC, or the survey pair alone (R401). -/
def wfCal (survey : Bool) (r : CalResult) : Bool := r.factors.length == (if survey then 37 else 139)

/-- A chain has at most 32 modules, each with a record of 256 bytes, read as 64 words (R493, R515). -/
def wfChain (f : ChainFound) : Bool :=
  decide (f.modules.length ≤ 32) && f.modules.all (fun m => m.record.length == 64)

/-- A stage module's identity memory gives a record of 848 bytes (R516). -/
def wfStage (f : StageFound) : Bool := match f with | .record b => b.length == 848 | _ => true

/-- A configuration write's register field lies in the 4,096 bytes of configuration space. -/
def wfCfg (w : CfgWrite) : Bool := match w with | .other off _ => decide (off.toNat < 4096) | _ => true

/-- A word write of SMB_MGMT that R553 gives no effect: a wrong PEC, an unknown code or a data value not given. -/
def wfSmbBad (code : Byte) (data : W16) (pecOk : Bool) : Bool :=
  !pecOk || !((code == 0xE0 && (data == 0x5250 || data == 0x5244)) || code == 0xE1)

/-- The blocks that SYS_BLOCK_RESET names, with their indices (R568). -/
def wfBlock (block : Fin 6) (index : Fin 16) : Bool :=
  block.val != 0 && (if block.val = 4 then decide (index.val < 8) else block.val = 5 || index.val = 0)

/-- A scheduled matrix start names a set; every operand type bounds itself. An event route's number is a `RouteId`; the
pin readings are a 128-bit word. The checks below are the ones types do not make. -/
def Instr.wf (i : Instr) : Bool :=
  match i with
  | .registerWrite _ off _ => wfOffset off
  | .unassignedOffsetAccess _ off _ _ => wfOffset off
  | .registerAccessBadSize _ _ size _ => wfBadSize size
  | .ringEntryFetch _ bytes => bytes.length == 256
  | .sampleInstant samples _ => wfSamples samples
  | .groupSlotEnd results => results.all (wfCal false)
  | .surveyCalEnd r => wfCal true r
  | .chainDiscovery _ found => wfChain found
  | .stageDiscovery _ found => wfStage found
  | .configurationWrite _ w => wfCfg w
  | .smbMgmtInvalid code data pecOk => wfSmbBad code data pecOk
  | .blockIdleOrTimeout block index _ => wfBlock block index
  | i => wfRequests i
where
  /-- The mailbox commands. -/
  wfRequests (i : Instr) : Bool :=
    match i with
    | .sessionInfo q => wfReq q
    | .sessionStatus q => wfReq q
    | .sessionResources q => wfReq q
    | .diagEcho q => wfReq q
    | .logRead q => wfReq q
    | .funcStatus q => wfReq q
    | .logClearLost q => wfReq q
    | .logArchiveRead q => wfReq q
    | .chanInfo q => wfReq q
    | .chanConfig q => wfReq q
    | .chanSetSource q => wfReq q
    | .chanSetState q => wfReq q
    | .chanStatus q => wfReq q
    | .gangDefine q => wfReq q
    | .gangDissolve q => wfReq q
    | .loopLoadImage q => wfReq q
    | .loopReadImage q => wfReq q
    | .loopEngineStatus q => wfReq q
    | .loopReadState q => wfReq q
    | .loopLoadDefault q => wfReq q
    | .loopSetStructure q => wfReq q
    | .loopStructStatus q => wfReq q
    | .loopSwapGroup q => wfReq q
    | .loopSwap q => wfReq q
    | .loopSwapCancel q => wfReq q
    | .loopRangeStore q => wfReq q
    | .seqWrite q => wfReq q
    | .seqRead q => wfReq q
    | .seqConfig q => wfReq q
    | .seqArm q => wfReq q
    | .seqStart q => wfReq q
    | .seqStop q => wfReq q
    | .seqStatus q => wfReq q
    | .handlerConfig q => wfReq q
    | .handlerBin q => wfReq q
    | .handlerStatus q => wfReq q
    | .resRingConfig q => wfReq q
    | .resRingStatus q => wfReq q
    | .resChanConfig q => wfReq q
    | .resMeasure q => wfReq q
    | .resCapture q => wfReq q
    | .resFlush q => wfReq q
    | .resChanStatus q => wfReq q
    | .svyTableWrite q => wfReq q
    | .svyTableRead q => wfReq q
    | .svyConfig q => wfReq q
    | .svyData q => wfReq q
    | .svyUrgent q => wfReq q
    | .svyStatus q => wfReq q
    | .calSelf q => wfReq q
    | .calStatus q => wfReq q
    | .calTraceBegin q => wfReq q
    | .calTracePoint q => wfReq q
    | .calTraceEnd q => wfReq q
    | .calStore q => wfReq q
    | .vecBankConfig q => wfReq q
    | .vecClock q => wfReq q
    | .vecConfig q => wfReq q
    | .vecWrite q => wfReq q
    | .vecLoad q => wfReq q
    | .vecSegCommit q => wfReq q
    | .vecRead q => wfReq q
    | .vecStart q => wfReq q
    | .vecStop q => wfReq q
    | .vecStatus q => wfReq q
    | .evtRoute q => wfReq q
    | .evtRouteStatus q => wfReq q
    | .evtOverrun q => wfReq q
    | .evtRead q => wfReq q
    | .evtLineConfig q => wfReq q
    | .evtTimer q => wfReq q
    | .timeStatus q => wfReq q
    | .timeRefConfig q => wfReq q
    | .timeSetRate q => wfReq q
    | .timeSyncConfig q => wfReq q
    | .timeSet q => wfReq q
    | .timeSkewMeasure q => wfReq q
    | .timePair q => wfReq q
    | .mxChainStatus q => wfReq q
    | .mxSetMembers q => wfReq q
    | .mxStage q => wfReq q
    | .mxApply q => wfReq q
    | .mxRead q => wfReq q
    | .mxWearRead q => wfReq q
    | .mxLock q => wfReq q
    | .mxChainCtl q => wfReq q
    | .modInfo q => wfReq q
    | .modRead q => wfReq q
    | .modRescan q => wfReq q
    | .admAssign q => wfReq q
    | .admRelease q => wfReq q
    | .admFuncConfig q => wfReq q
    | .admChanPolicy q => wfReq q
    | .admTollgate q => wfReq q
    | .admHold q => wfReq q
    | .admQuery q => wfReq q
    | .admSessionReset q => wfReq q
    | .sysReset q => wfReq q
    | .sysBlockReset q => wfReq q
    | .sysPower q => wfReq q
    | .sysOptRead q => wfReq q
    | .sysOptWrite q => wfReq q
    | .sysFwLoad q => wfReq q
    | .sysFwCommit q => wfReq q
    | .sysStoreStatus q => wfReq q
    | _ => true

end Sys2Proof
end

