-- ==== Sys2Proof/Tests/Slice0.lean ====
section
/-! SUPPORT. Small tests: what WellFormed refuses, a few single steps whose result the spec gives, and for every statement of
the package a state and operands that meet the hypotheses of each of its clauses. -/

namespace Sys2Proof.Machine

set_option Elab.async false

/-! ### Small devices -/

/-- A request of function `f` through the doorbell. -/
def tReqOf (f : FnId) (p : List Byte) : Req := { fn := f, ring := none, tag := 7, flags := 0, len := p.length, rsv := 0, payload := p }
/-- A request of PF0. -/
def tReq (p : List Byte) : Req := tReqOf 0 p
/-- A request of VF 1. -/
def tReq1 (p : List Byte) : Req := tReqOf 1 p

/-- A function that firmware serves. -/
def tFn (f : Nat) : Fn := { fnInit f with enabled := true, ready := true, ringCount := 8, quota := 2 ^ 35, cls := 7, weight := 16 }

/-- A bipolar range with a calibration path: FS 2, V_FS 1, G 1, limits 2.5 and -2.5. -/
def tRange : RangeDef :=
  { fs := 0x40000000, bipolar := true, calPath := true, calValid := false, rly := 1, settleNs := 1000, vFs := 0x3F800000,
    aux := 0x3F800000, limHi := 0x40200000, limLo := 0xC0200000, calRg := 0, calRo := 0 }
/-- The range above it: FS 4, limits 5 and -5. -/
def tRange2 : RangeDef := { tRange with fs := 0x40800000, limHi := 0x40A00000, limLo := 0xC0A00000, rly := 2 }
/-- A stage module's identity. -/
def tIdent : StageId :=
  { serial := zeros 16, model := zeros 16, hwRev := 1, chPresent := 15, span := 2, step := 0x4000, divr := 1, enSettleNs := 1000,
    outSettleNs := 1000, capMax := 0x3F800000, volts := [tRange, tRange2], amps := [tRange, tRange2] }

/-- A READY device with every option, VF 1 and a valid stage module 0. -/
def tDev : Dev :=
  { Dev.reset with
    sys := { sysInit with phase := .ready, causes := 0, opt := optFactory }, fns := [(0, tFn 0), (1, tFn 1)],
    link := { linkInit with up := true, vfEnable := true, numVfs := 1 }, seam := { seamInit with up := true, locked := true },
    fab := { fabInit with configured := true }, stages := [(0, { stageInit 0 with mstate := .valid, ident := some tIdent })] }

/-- A state with a device. -/
def tSt (d : Dev) : State := { pending := [], mem := [], dev := d }

/-- Every member of a list of checks holds. -/
def allTrue (l : List Bool) : Bool := l.all id

/-! ### Checksums

The kernel evaluates a CRC of many bytes when each byte's step begins with a number. -/

/-- `m` bits of the reflected CRC-32C on numbers. -/
def crcBits (m n : Nat) : Nat :=
  match m with
  | 0 => n
  | k + 1 => crcBits k (if n % 2 = 1 then n / 2 ^^^ 0x82F63B78 else n / 2)

/-- CRC-32C from a running value, one byte after the other. -/
def crcGo (l : List Byte) (n : Nat) : Nat :=
  match l, n with
  | [], n => n
  | b :: r, 0 => crcGo r (crcBits 8 (0 ^^^ b.toNat))
  | b :: r, n + 1 => crcGo r (crcBits 8 ((n + 1) ^^^ b.toNat))

theorem crcBits_eq (m : Nat) (c : BitVec 32) : (crc32cBits m c).toNat = crcBits m c.toNat := by
  induction m generalizing c with
  | zero => rfl
  | succ k h =>
    rw [crc32cBits, crcBits, h]
    have hb : c.getLsbD 0 = decide (c.toNat % 2 = 1) := by simp [BitVec.getLsbD, Nat.testBit_zero]
    rw [hb]
    by_cases hc : c.toNat % 2 = 1 <;> simp [hc, Nat.shiftRight_eq_div_pow]

theorem crcGo_eq (l : List Byte) (c : BitVec 32) :
    (l.foldl (fun c b => crc32cBits 8 (c ^^^ b.zeroExtend 32)) c).toNat = crcGo l c.toNat := by
  induction l generalizing c with
  | nil => cases hc : c.toNat <;> simp [crcGo, hc]
  | cons b r h =>
    rw [List.foldl_cons, h, crcBits_eq]
    have hb : (c ^^^ b.zeroExtend 32).toNat = c.toNat ^^^ b.toNat := by
      have hl : b.toNat < 2 ^ 32 := Nat.lt_trans b.isLt (by decide)
      rw [BitVec.toNat_xor, BitVec.zeroExtend, BitVec.toNat_setWidth, Nat.mod_eq_of_lt hl]
    rw [hb]
    cases hc : c.toNat <;> simp [crcGo]

theorem crc32c_eq (l : List Byte) : (crc32c l).toNat = crcGo l 0xFFFFFFFF ^^^ 0xFFFFFFFF := by
  rw [crc32c, BitVec.toNat_xor, crcGo_eq]; rfl

/-- A little-endian number read along a list. -/
def leF (n : Nat) (l : List Byte) : Nat :=
  match n, l with
  | 0, _ => 0
  | _ + 1, [] => 0
  | m + 1, b :: r => b.toNat + 256 * leF m r

theorem leN_nil (n o : Nat) : leN [] o n = 0 := by
  induction n generalizing o with
  | zero => rfl
  | succ m h => simp [leN, u8, h]

theorem leN_eq (p : List Byte) (o n : Nat) : leN p o n = leF n (p.drop o) := by
  induction n generalizing o with
  | zero => simp [leN, leF]
  | succ m h =>
    rw [leN, h]
    cases hd : p.drop o with
    | nil =>
      have : p.drop (o + 1) = [] := by simp at hd ⊢; omega
      simp [u8, leF, this, List.getD_eq_getElem?_getD, List.drop_eq_nil_iff.mp hd]
      cases m <;> rfl
    | cons b r =>
      have h1 : p.drop (o + 1) = r := by rw [← List.drop_drop, hd]; rfl
      have h2 : p[o]? = some b := by rw [← List.head?_drop, hd]; rfl
      simp [u8, leF, h1, List.getD_eq_getElem?_getD, h2]

/-! ### WellFormed: an ill-formed term for each check, and a well-formed one beside it -/

theorem test_wf_offset : (Instr.registerWrite 0 0x201 ⟨0, 0⟩).wf = false ∧ (Instr.registerWrite 0 0x200 ⟨0, 0⟩).wf = true := by decide
theorem test_wf_unassigned_offset : (Instr.unassignedOffsetAccess 0 0x212 false 0).wf = false := by decide
theorem test_wf_bad_size : (Instr.registerAccessBadSize 0 0 4 true).wf = false ∧ (Instr.registerAccessBadSize 0 0 2 true).wf = true := by
  decide
theorem test_wf_ring_entry : (Instr.ringEntryFetch 0 []).wf = false ∧ (Instr.ringEntryFetch 0 (zeros 256)).wf = true := by decide +kernel
theorem test_wf_samples_distinct :
    (Instr.sampleInstant [{ ch := 0, v := [], i := [] }, { ch := 0, v := [], i := [] }] ⟨[], []⟩).wf = false := by decide
theorem test_wf_samples_ticks : (Instr.sampleInstant [{ ch := 0, v := [], i := [⟨0, 0, true, true⟩] }] ⟨[], []⟩).wf = false := by decide
theorem test_wf_cal_factors : (Instr.groupSlotEnd [{ ch := 0, factors := [], faulty := 0, temp := 0 }]).wf = false ∧
  (Instr.groupSlotEnd []).wf = true := by
  decide
theorem test_wf_survey_cal : (Instr.surveyCalEnd { ch := 0, factors := [], faulty := 0, temp := 0 }).wf = false := by decide
theorem test_wf_chain_record :
    (Instr.chainDiscovery 0 { count := 1, trained := true, echo := [], modules := [{ record := [], wear := [], darn := [] }] }).wf
      = false := by decide
theorem test_wf_chain_count :
    (Instr.chainDiscovery 0 { count := 33, trained := true, echo := [],
                              modules := List.replicate 33 { record := List.replicate 64 0, wear := [], darn := [] } }).wf = false := by
  decide +kernel
theorem test_wf_stage : (Instr.stageDiscovery 0 (.record [])).wf = false ∧ (Instr.stageDiscovery 0 .absent).wf = true := by decide
theorem test_wf_cfg : (Instr.configurationWrite 0 (.other 0x1000 0)).wf = false := by decide
theorem test_wf_smb : (Instr.smbMgmtInvalid 0xE0 0x5250 true).wf = false ∧ (Instr.smbMgmtInvalid 0xE0 0x5250 false).wf = true := by decide
theorem test_wf_block : (Instr.blockIdleOrTimeout 4 8 false).wf = false ∧ (Instr.blockIdleOrTimeout 0 0 false).wf = false
    ∧ (Instr.blockIdleOrTimeout 5 15 false).wf = true := by decide
theorem test_wf_payload : (Instr.diagEcho (tReq (zeros 241))).wf = false ∧ (Instr.diagEcho (tReq (zeros 240))).wf = true := by
  decide +kernel
theorem test_wf_length : (Instr.diagEcho { tReq [] with len := 65536 }).wf = false := by decide
theorem test_wf_entry_number : (Instr.diagEcho { tReq [] with ring := some 4096 }).wf = false := by decide

/-! ### Witnesses: a state and operands for the hypotheses of each clause of each statement

Each list names, in the order of the statement's clauses, the conditions that the clause assumes. -/

/-- The device with one function's fields changed. -/
def tDevF (f : Nat) (g : Fn → Fn) : Dev := tDev.modFn f g
/-- A device in the middle of a doorbell's BUSY. -/
def tBusy : Dev := tDevF 0 (fun r => { r with busyUntil := 1 })
/-- A job of the device. -/
def tJob (op : Nat) (q : Req) : Job := tDev.jobOf op q
/-- A command that executes and has not completed. -/
def tRun (op : Nat) (q : Req) : Running :=
  { job := tJob op q, started := true, names := [], data := [], result := none, silent := false, direct := false }
/-- A device with commands under way. -/
def tDevRun (l : List Running) : Dev := tDev.modTg (fun t => { t with running := l, nextId := 5 })
/-- A device with waiting requests. -/
def tDevWait (l : List Job) : Dev := tDev.modTg (fun t => { t with waiting := l })
/-- A queued reply. -/
def tReply : Reply := { op := 0x0F01, tag := 7, status := 0, final := false, last := true, payload := [], arrival := none }

theorem wit_awake : tDev.awake ∧ tBusy.awake := by
  constructor <;> (constructor <;> decide +kernel)

theorem wit_StepAndInvariant : (tSt tDev).pending = [] ∧ (tSt tDev).Inv := by
  constructor <;> rfl

theorem wit_OnlyTwoRowsWriteHostMemory : (∀ fn entry, Instr.surveyStart ≠ .ringReplyWrite fn entry)
    ∧ (∀ fn ring, Instr.surveyStart ≠ .blockWrite fn ring) ∧ ∃ t, exec .surveyStart (tSt tDev) = .next t :=
  by
  refine ⟨fun _ _ h => ?_, fun _ _ h => ?_, ⟨_, rfl⟩⟩ <;> cases h

theorem wit_BadSizeAccessReadsAllOnes : (tDev.fn 0).enabled = true := by decide +kernel

theorem wit_UnassignedOffsetReadsZero : allTrue [(tDev.fn 1).enabled, (0x210 : Nat) % 4 == 0, !assignedOffset 1 0x210,
    !assignedOffset 1 0x560, assignedOffset 0 0x560, !assignedOffset 1 0x3004] = true := by decide +kernel

theorem wit_RegisterWriteSetsItsField : allTrue [!tDev.reachable 2, tDev.reachable 0, tDev.reachable 1, !(tDev.fn 1).cmdr.enable,
    ((tDevF 0 (fun r => { r with cmdr := { r.cmdr with enable := true } })).fn 0).cmdr.enable, decide (7 < vecCount 1)] = true := by
  decide +kernel

theorem wit_RefusedMailboxWritesSetReject : allTrue [tBusy.reachable 0, tBusy.busy 0, (1 : W32).getLsbD 0,
    (tDevF 1 (fun r => { r with ready := false })).reachable 1, !((tDevF 1 (fun r => { r with ready := false })).fn 1).ready]
    = true := by decide +kernel

theorem wit_DoorbellQueuesTheRequest : allTrue [tDev.reachable 0, !tDev.busy 0, !(0 : W32).getLsbD 0, (1 : W32).getLsbD 0,
  (tDev.fn 0).ready,
    decide (tDev.outstanding 0 < 32), decide (32 ≤ (tDevWait (List.replicate 32 (tJob 0x0F01 (tReq [])))).outstanding 0)] = true := by
  decide +kernel

theorem wit_ReplyWindowProtocol : allTrue [((tDevF 0 (fun r => { r with replies := [tReply] })).fn 0).replies == tReply :: [],
    !((tDevF 0 (fun r => { r with replies := [tReply] })).fn 0).reply, (tDev.fn 0).replies == [], tDev.reachable 0,
    (tDev.fn 0).flr == .idle] = true := by decide +kernel

theorem wit_RequestChecksInOrder :
    let bare : Dev := tDev.modSys (fun y => { y with opt := optRom })
    let held : Dev := { tDev with assign := { assignInit with chan := [(2, 1)], holdChan := 4 } }
    let j := tDev.jobOf 0x0204
    let n := fun (d : Dev) => d.taken (tReq [])
    allTrue [tDev.serves 0, tDev.serves 1, decide (tDev.sys.power ≠ 3),
      !headerOk (tDev.jobOf 0x0F01 { tReq [] with rsv := 1 }),
      headerOk (bare.jobOf 0x0B05 (tReq [])), !bare.hasOpt cmdMxRead.opt,
      headerOk (tDev.jobOf 0x0D07 (tReq1 [])), tDev.hasOpt cmdAdmQuery.opt, cmdAdmQuery.owner, (tDev.jobOf 0x0D07 (tReq1 [])).f != 0,
      cmdAdmQuery.len == some 4, (tReq []).len != 4, !cmdAdmQuery.args (n tDev) (tDev.jobOf 0x0D07 (tReq (w16 2000 ++ zeros 2))),
      !cmdChanSetState.held (n tDev) (j (tReq1 (w8 2 ++ w8 1 ++ zeros 6))),
      !cmdChanSetState.ready (n tDev) (j (tReq (w8 60 ++ w8 1 ++ zeros 6))),
      cmdChanSetState.held (n held) (held.jobOf 0x0204 (tReq1 (w8 2 ++ w8 1 ++ zeros 6))),
      !cmdChanSetState.unlocked (n held) (held.jobOf 0x0204 (tReq1 (w8 2 ++ w8 1 ++ zeros 6))),
      mayStart (n tDev) (tDev.jobOf 0x0702 (tReq [])) [], (cmdOf 0x9999).isNone, tDev.takesNow (j (tReq [])), bare.takesNow (j (tReq [])),
      held.takesNow (j (tReq1 []))] = true := by decide +kernel

theorem wit_EveryCommandSheetRuns :
    let deep : Dev := tDev.modSys (fun y => { y with power := 3 })
    let off := tDevF 1 (fun r => { r with ready := false })
    let q := tReq (zeros 16)
    let w := tDevRun [{ tRun 0x0702 q with started := false }]
    let n := fun (d : Dev) => d.taken q
    allTrue [tDev.runsNow cmdDiagEcho (tReq []), (cmdDiagEcho.body (n tDev) (tJob 0x0F01 (tReq []))).2 == .done stOk [],
      tDev.runsNow cmdModRead (tReq (w16 0 ++ w8 4 ++ zeros 5)),
      (cmdModRead.body (n tDev) (tJob 0x0C02 (tReq (w16 0 ++ w8 4 ++ zeros 5)))).2 == .later [4],
      tDev.serves 0, w.takesNow (w.jobOf 0x0F01 (tReq [])), (firstFail cmdDiagEcho (n w) (w.jobOf 0x0F01 (tReq []))).isNone,
      !mayStart (n w) (w.jobOf 0x0F01 (tReq [])) [], deep.serves 0, deep.sys.power == 3, !deep.takesNow (tJob 0x0F01 q),
      !(tDevWait [tJob 0x0F01 q]).takesNow (tJob 0x0F01 q), !off.serves 1, off.reachable 1, !tDev.serves 2,
        !tDev.reachable 2] = true := by decide +kernel

theorem wit_TollgateServesAndCommandsEnd :
    let j := tJob 0x0F01 (tReq [])
    let d := tDevWait [{ j with eff := 3 }]
    let none_ := tDevWait [tJob 0x9999 (tReq [])]
    let bad := tDevWait [tJob 0x0D07 (tReq1 [])]
    let later := tDevWait [tJob 0x0C02 (tReq (w16 0 ++ w8 4 ++ zeros 5))]
    let take := fun (x : Dev) => x.takeJob ((x.tg.waiting[0]?).getD j) true
    let car : Caravan := { fn := 0, rings := [0], since := 0, eff := 3, weight := 16, ages := [], agedAt := 0, admitted := false }
    let r := tRun 0x0704 (tReq (zeros 16))
    let w := { tRun 0x0D07 (tReq (w16 2000 ++ zeros 2)) with started := false }
    let v := { tRun 0x0D07 (tReq (w16 1 ++ zeros 2)) with started := false }
    let u := { tRun 0x0C02 (tReq (w16 0 ++ w8 4 ++ zeros 5)) with started := false }
    let z := { r with result := some (0, []) }
    let ring : Running := { z with job := { z.job with q := { z.job.q with ring := some 3 } } }
    let cs := tRun 0x0204 (tReq (w8 0 ++ w8 1 ++ zeros 6))
    let off := { tRun 0x0204 (tReq (zeros 8)) with started := false, job := { (tRun 0x0204 (tReq (zeros 8))).job with id := 1 } }
    allTrue [decide (d.sys.power ≠ 3), (tollgateNext d).isSome, (tollgateNext none_).isSome, (cmdOf 0x9999).isNone,
      (cmdOf 0x0F01).isSome, firstFail cmdAdmQuery (take bad) (tJob 0x0D07 (tReq1 [])) == some stOwnership,
      (take d).startsNow cmdDiagEcho { j with eff := 3 }, (cmdDiagEcho.body (take d) j).2 == .done stOk [],
      (take later).startsNow cmdModRead ((later.tg.waiting[0]?).getD j),
      (cmdModRead.body (take later) ((later.tg.waiting[0]?).getD j)).2 == .later [4],
      (d.tg.waiting[0]?).isSome, decide (3 < 7),
      ((tDev.modTg (fun t => { t with caravans := [car] })).tg.caravans[0]?).isSome,
      (tDevRun [w]).running? 0 == some w, (cmdOf w.job.op).isSome, w.live, !w.started, mayStart (tDevRun [w]) w.job [],
      firstFail cmdAdmQuery (tDevRun [w]) w.job == some stArg, !(releaseCmd cmdAdmQuery (tDevRun [w]) w).offBehind w,
      (tDevRun [v]).startsNow cmdAdmQuery v.job, (tDevRun [u]).startsNow cmdModRead u.job,
      (cmdModRead.body (tDevRun [u]) u.job).2 == .later [4],
      (cmdOf cs.job.op).isSome, (releaseCmd cmdChanSetState (tDevRun [cs, off]) cs).offBehind cs,
      !(tDevRun [z]).asleep, (tDevRun [z]).running? 0 == some z, !z.silent, z.job.q.ring == none,
      ((tDevRun [z]).finished 0).takeWhile (fun y => y.job.id != 0) == [], !ring.job.doorbell, ring.job.q.ring == some 3,
      ((tDevRun [{ u with started := true }]).complete { u with started := true } { ok := true, data := [1, 2, 3, 4], rows := [] }).isSome,
      (tDevRun [w]).running? 0 == some w, !w.direct, (tDevRun [r]).running? 0 == some r, r.live, r.started,
        !r.lasts] = true := by decide +kernel

theorem wit_TollgatePicksHighestClass :
    let d := tDevWait [tJob 0x0F01 (tReq1 []), { tJob 0x0F01 (tReq []) with eff := 7 }]
    let no := tDevRun (List.replicate 16 { tRun 0x0F01 (tReq []) with direct := true })
    allTrue [(tollgateNext d).isSome, d.mailCredit 0, no.mailCredit 1, !no.mailCredit 0] = true := by decide +kernel

/-- The command ring of PF0 with fields changed. -/
def tRing (g : Cmdr → Cmdr) : Dev := tDevF 0 (fun r => { r with cmdr := g { cmdrInit with baseLo := 4096, log2 := 4 } })

theorem wit_RingEnableRules :
    let on := (tRing (fun c => { c with enable := true })).fn 0
    allTrue [tDev.reachable 0, !(tDev.fn 0).cmdr.enable, (0x100 : W32).getLsbD 8, !(0x100 : W32).getLsbD 9,
      (tDev.fn 0).cmdr.baseLo == 0, ((tRing id).fn 0).cmdr.baseLo != 0, ((tRing id).fn 0).cmdr.head == 0, on.cmdr.enable,
      cmdrIdle (tRing id) 0, (0x200 : W32).getLsbD 9,
        !cmdrIdle ((tRing id).modTg (fun t => { t with waiting := [tJob 0x0F01 { tReq [] with ring := some 0 }] })) 0] = true := by decide +kernel

theorem wit_CommandRingRuns :
    let d := tRing (fun c => { c with enable := true, tail := 1 })
    let x : RingReply := { entry := 3, reply := tReply, notify := true }
    allTrue [d.reachable 0, d.mayFetch 0,
      ((tDevF 0 (fun r => { r with ringReplies := [x] })).fn 0).ringReplies.find? (fun y => y.entry == 3) == some x] = true := by
  decide +kernel

/-- PF0 with vector 0 running, MSI-X enabled. -/
def tVec (g : Vec → Vec) (f : Fn → Fn) : Dev :=
  tDevF 0 (fun r => f ({ r with msixEnable := true }.modVec 0 (fun x => g { x with start := some 0, mask := false })))

theorem wit_InterruptRegistersAndMessages :
    let armed := fun (m : Bool) => tVec (fun x => { x with edge := true, count := 1, mask := m }) id
    let blk := fun (e fm : Bool) => tVec (fun x => { x with edge := e, count := 1, pba := true }) (fun r => { r with funcMask := fm })
    allTrue [tDev.reachable 0, (((tVec id id).fn 0).vec 0).start == some 0, !((tVec id id).fn 0).armed 0 0,
      ((armed false).fn 0).armed 0 0, ((armed true).fn 0).armed 0 0, ((armed true).fn 0).msixEnable,
      ((armed true).fn 0).flr == .idle, !(tDev.fn 0).funcMask, decide (0 < vecCount 0), !((tDev.fn 0).vec 0).pba,
      ((blk false true).fn 0).funcMask, ((blk false true).fn 0).vec 0 |>.pba, !((blk false false).fn 0).armed 0 0,
      !((blk true false).fn 0).funcMask, ((blk true false).fn 0).armed 0 0, (((blk true false).fn 0).vec 0).pba,
      !(((blk true false).fn 0).vec 0).mask, ((blk true false).fn 0).msixEnable] = true := by
  decide +kernel

theorem wit_EventFireTimeSnapAndLinkErrors :
    let off : Dev := { tDev with link := { tDev.link with vfEnable := false } }
    allTrue [tDev.reachable 1, tDev.routeHolder 5 != 1, tDev.routeHolder 5 == 0, !(tDev.route 5).fault,
      !tDev.outNow 5, tDev.fab.pulses.isEmpty, tDev.fab.routes.isEmpty && tDev.fab.attached.isEmpty, (tDev.fn 0).enabled, (tDev.fn 0).ready,
      ((tDevF 0 (fun r => { r with ecrcCheck := true })).fn 0).ecrcCheck, !off.link.vfEnable, tDev.link.vfEnable] = true := by
  decide +kernel

theorem wit_RingTailWriteRules :
    let d := tDevF 0 (fun r => r.modRing 0 (fun x => { x with enabled := true, size := 4, head := 3, tail := 14 }))
    let g := (d.fn 0).ring 0
    let free := fun (v : Nat) => decide ((v + 16 - g.tail) % 16 ≤ (g.head + 16 - g.tail) % 16)
    allTrue [!((tDev.fn 0).ring 0).enabled, d.reachable 0, g.enabled, free 3, free 14, free 15, !free 4, !free 13, decide (16 ≤ 2 ^ g.size)]
      = true := by decide +kernel

theorem wit_SessionAndDiagnosticCommands : allTrue [tDev.runsNow cmdSessionInfo (tReq []),
    tDev.runsNow cmdSessionStatus (tReq (w32 0)), tDev.runsNow cmdSessionResources (tReq []), tDev.runsNow cmdDiagEcho (tReq (w8 1)),
    tDev.runsNow cmdLogRead (tReq (w32 0 ++ w8 4 ++ zeros 3)), tDev.runsNow cmdFuncStatus (tReq (w16 1 ++ zeros 2 ++ w32 0)),
    tDev.runsNow cmdLogClearLost (tReq []), tDev.runsNow cmdLogArchiveRead (tReq (w8 0 ++ w8 32 ++ zeros 2 ++ w32 0)),
    tDev.runsNow cmdLogArchiveRead (tReq (w8 1 ++ w8 7 ++ zeros 2 ++ w32 0)),
    (tDev.setCrashValid true).runsNow cmdLogArchiveRead (tReq (w8 2 ++ zeros 7))] = true := by decide +kernel

/-- The device with one channel's fields changed. -/
def tChan (c : Nat) (g : Chan → Chan) : Dev := tDev.modChan c g
/-- A channel in an output state. -/
def tOn (c st : Nat) : Dev := tChan c (fun x => { x with state := st, vr := 0, ir := 0 })
/-- A gang of channels 0 and 1. -/
def tGang : Dev := tDev.setGang 3 (some { leader := 0, members := 3 })
/-- An engine whose inactive bank holds the default image. -/
def tFull (e : Nat) (d : Dev) : Dev :=
  { d with engines := [(e, { engInit e with other := { state := 2, parts := 3, bytes := defaultImage (e % 4) } })] }
/-- An armed swap of one engine. -/
def tSwap : Swap :=
  { id := 5, fn := 0, group := 255, engines := [1], kind := 0, route := 0, target := 0, boundary := some 2000000, committed := false }
/-- The device with an armed swap. -/
def tSwapDev (g : Swap → Swap) : Dev := { tFull 1 tDev with swaps := [g tSwap] }

theorem wit_ChannelCommands :
    let j := fun (p : List Byte) => tDev.job 0x0202 (tReq p)
    let same := w8 0 ++ w8 0xFF ++ w8 15 ++ w8 15 ++ w8 0xFF ++ zeros 3
    let other := w8 0 ++ w8 0xFF ++ w8 1 ++ w8 15 ++ w8 0xFF ++ zeros 3
    let jo := (tOn 0 3).job 0x0202 (tReq other)
    let js := tDev.job 0x0204 (tReq (w8 0 ++ w8 1 ++ zeros 2))
    let on := tOn 0 1
    allTrue [tDev.runsNow cmdChanInfo (tReq (zeros 4)), tDev.runsNow cmdChanConfig (tReq same),
      decide ((tDev.chan (j same).ch).state < 2), tDev.team 0 == [0], (tDev.cfgReq (j same)).v == (tDev.chan 0).vr,
      (tDev.cfgReq (j same)).i == (tDev.chan 0).ir, (tDev.cfgReq (j same)).loc == (tDev.chan 0).senseLocal,
      (tOn 0 3).runsNow cmdChanConfig (tReq other), decide (2 ≤ ((tOn 0 3).chan jo.ch).state),
      decide (((tOn 0 3).cfgReq jo).v ≠ ((tOn 0 3).chan jo.ch).vr), (tOn 0 3).runsNow cmdChanConfig (tReq same),
      ((tOn 0 3).cfgReq (j same)).v == ((tOn 0 3).chan 0).vr, ((tOn 0 3).cfgReq (j same)).i == ((tOn 0 3).chan 0).ir,
      on.runsNow cmdChanConfig (tReq other), decide ((on.chan 0).state < 2),
        decide ((on.cfgReq (on.job 0x0202 (tReq other))).v ≠ (on.chan 0).vr),
      (on.finished 0) == [], (Dev.setStateBody (on.taken (tReq (w8 0 ++ w8 1 ++ zeros 2))) (on.job 0x0204 (tReq (w8 0
        ++ w8 1 ++ zeros 2)))).2 == .done stOk (w8 1 ++ zeros 3), tDev.runsNow cmdChanSetSource (tReq (w8 0 ++ w8 7 ++ zeros 14)),
      on.runsNow cmdChanSetState (tReq (w8 0 ++ w8 1 ++ zeros 2)), on.team 0 == [0], (on.chan 0).state == 1, (on.chan 0).trans == none,
      !on.seqBusy 0, tDev.runsNow cmdChanSetState (tReq (w8 0 ++ w8 1 ++ zeros 2)),
      (Dev.setStateBody (tDev.taken (tReq (w8 0 ++ w8 1 ++ zeros 2))) js).2 == .later [],
        tDev.runsNow cmdChanStatus (tReq (zeros 4 ++ w32 1)),
      tDev.runsNow cmdGangDefine (tReq (w8 3 ++ w8 0 ++ zeros 2 ++ w64 3)), tGang.runsNow cmdGangDissolve (tReq (w8 3 ++ zeros 3))]
      = true := by decide +kernel

/-- A channel in a transition whose step ends at 1 µs. -/
def tTrans (st target : Nat) (step : TStep) : Dev :=
  tChan 0 (fun x => { x with state := st, trans := some { target := target, origin := st, step := step, due := some 1000000,
                                                          frames := 0, cmd := none, fast := false, ack := .none_ } })
/-- Module 0 with a word shifted, or one latched and not confirmed. -/
def tWord (g : Stage → Stage) : Dev := tDev.modStage 0 g

theorem wit_OutputTransitionsAndStageWords :
    let sh := tWord (fun x => { x with shift := some (9, 3200000), wanted := 9 })
    let un := tWord (fun x => { x with lastLatch := some 1000000, unconfirmed := true, latched := 9 })
    let tr := fun (d : Dev) => (d.chan 0).trans.isSome && ((d.chan 0).trans.bind (·.due)) == some 1000000 && d.team 0 == [0]
    allTrue [tr (tTrans 0 1 .enable), tr (tTrans 1 2 .close), tr (tTrans 2 1 .release), (sh.stage 0).shift == some (9, 3200000),
      sh.latchGroup 0 == [0], (sh.groupLatchAt 0).isSome, (sh.stage 0).wanted == 9, (un.stage 0).lastLatch == some 1000000,
      (un.stage 0).unconfirmed, (un.stage 0).latched == 9, !(un.stage 0).failedOnce, un.cal.trace.isNone,
      ((un.modStage 0 (fun x => { x with failedOnce := true })).stage 0).failedOnce] = true := by decide +kernel

theorem wit_OutputTransitionsAndStageWords_channels :
    ∀ c : Nat, c / 4 = 0 → (tDev.chan c).trans = none ∧ (tDev.chan c).rc = none ∧ tDev.leader c = c ∧ tDev.team c = [c]
      ∧ (tDev.seq c).state = 0 := by
  intro c h
  have h4 : c < 4 := by omega
  have := (by decide +kernel : ∀ c : Fin 4, (tDev.chan c).trans = none ∧ (tDev.chan c).rc = none ∧ tDev.leader c = c
    ∧ tDev.team c = [c.val] ∧ (tDev.seq c).state = 0)
  exact this ⟨c, h4⟩

theorem wit_LoopCommands :
    let img := defaultImage 1
    let e := w16 1
    let f := tFull 1 tDev
    let sw := fun (k : Nat) (t : Nat) => tReq (w8 255 ++ w8 k ++ e ++ zeros 4 ++ w64 t)
    let store := fun (part : Nat) (b : List Byte) => tReq (e ++ w8 0 ++ w8 1 ++ w8 part ++ zeros 3 ++ b)
    allTrue [tDev.runsNow cmdLoopLoadImage (tReq (e ++ w8 1 ++ zeros 5 ++ slice img 192 192)),
      tDev.runsNow cmdLoopReadImage (tReq (e ++ w8 0 ++ w8 1)), tDev.runsNow cmdLoopEngineStatus (tReq (e ++ zeros 2 ++ w32 3)),
      tDev.runsNow cmdLoopReadState (tReq (e ++ zeros 2)), tDev.runsNow cmdLoopLoadDefault (tReq (e ++ zeros 2)),
      tDev.runsNow cmdLoopSetStructure (tReq (w8 0 ++ w8 1 ++ w8 16 ++ zeros 17)), tDev.runsNow cmdLoopStructStatus (tReq (zeros 4)),
      tDev.runsNow cmdLoopSwapGroup (tReq (w8 2 ++ zeros 3 ++ w8 2 ++ zeros 31)), f.runsNow cmdLoopSwap (sw 0 0),
      f.runsNow cmdLoopSwap (sw 1 5000), f.runsNow cmdLoopSwap (sw 2 0),
      (tSwapDev id).runsNow cmdLoopSwapCancel (tReq (w8 255 ++ zeros 1 ++ e)),
      (tSwapDev id).swaps.find? (fun w => w.isNamed 0 255 1) == some tSwap,
      tDev.runsNow cmdLoopRangeStore (store 0xFF (zeros 192)), tDev.runsNow cmdLoopRangeStore (store 1 (slice img 192 192))] = true := by
  decide +kernel

theorem wit_SwapsTakeEffectTogether :
    let d := tSwapDev id
    let v := (tSwapDev (fun w => { w with kind := 2, boundary := none })).modFab (fun x => { x with edges := [(705, 0, 0)] })
    allTrue [d.swapOf 5 == some tSwap, (d.swapBoundary tSwap).isSome, decide tSwap.engines.Nodup, (v.swapOf 5).isSome,
      (v.swapOf 5).any (fun w => w.kind == 2 && !w.committed && w.engines.any (fun e => v.hasEdge (704 + e))),
      ((tSwapDev (fun w => { w with kind := 2, committed := true })).swapOf 5).any (fun w => w.kind == 2 && w.committed),
      ((tChan 0 (fun x => { x with railAt := some 7 })).chan 0).railAt == some 7, (tDev.chan 0).rc.isNone] = true := by decide +kernel

/-- A channel with a range change. -/
def tRc (g : RangeChange → RangeChange) : Dev :=
  tChan 0 (fun x =>
    let n : RangeChange := { cur := true, old := 0, new := 1, phase := .priming, started := 0, m := 2, left := 0, latched := true,
                             swapped := false, counting := true, wordAt := none, pathOk := false, rset := false, repeats := 0,
                             tgtV := 0, tgtI := 1, due := none,
                             also := none, cmd := some 0, limit := 9000000 }
    { x with state := 3, vr := 0, ir := 0, rc := some (g n) })

theorem wit_RangeChangeSteps :
    let d := tRc id
    let slow := d.modTb (fun t => { t with d := 12 })
    let fits := fun (d : Dev) (e : Nat) => imgFits ((d.eng e).primed true 1) (e % 4) (d.ganged (e / 4)) d.tb.d
    let run := d.modTg (fun t => { t with running := [tRun 0x0202 (tReq (zeros 8))], nextId := 5 })
    allTrue [(d.chan 0).rc.isSome, ((d.chan 0).rc.any (fun r => r.phase == .priming)), (d.rcEngines 0).all (fits d),
      (slow.rcEngines 0).any (fun e => !fits slow e),
        ((tRc (fun r => { r with due := some 1000000 })).chan 0).rc.any (fun r => r.due == some 1000000 && r.also.isNone),
      ((tRc (fun r => { r with phase := .made })).chan 0).rc.any (fun r =>
        r.due.isNone && r.phase == .made && r.cur && r.latched && r.counting && r.left == 0),
      (tRc (fun r => { r with phase := .made })).breakAllowed 0 d.tb.lastSample, decide (d.rcEngines 0).Nodup, d.teamModules 0 == [0],
      [1, 2, 3].all (fun c => (d.chan (d.leader c)).rc.isNone && (d.chan (d.leader c)).trans.isNone),
      [true, false].all (fun ok => ((tRc (fun r => { r with phase := .switched, pathOk := ok })).chan 0).rc.any (fun r =>
        r.due.isNone && r.phase == .switched && r.latched && r.left == 0 && r.pathOk == ok && r.also.isNone)),
      !(d.stage 0).unconfirmed,
      (d.chan 0).rc.any (fun r => r.cmd == some 0), run.leader 0 == 0, (run.running? 0).any (fun r => r.result.isNone)] = true := by
  decide +kernel

/-- A list entry: a POINT that keeps the source values, with its MODE and TRIG. -/
def tEntry (mode trig : Nat) : List Byte :=
  zeros 8 ++ w8 15 ++ w8 15 ++ w16 mode ++ zeros 8 ++ w8 trig ++ w8 0 ++ w16 1 ++ w16 0 ++ zeros 6
/-- A channel that is ON with a list of one entry, and its sequencer's fields changed. -/
def tSeq (e : List Byte) (g : Seq → Seq) : Dev :=
  ({ tOn 0 3 with seqMem := [(0, e)] }).modSeq 0 (fun q => g { q with base := 0, len := 1 })

/-- A BUSY handshake engine 2 bound to channel 0. -/
def tHs : Dev := tDev.modHandler 2 (fun g => { g with state := 1, channels := 1, eotMode := 0, eotWidth := 5 })

theorem wit_SequencerCommands :
    let d := (tSeq (tEntry 0xC0 0) id).modFn 0 (fun r => { r with cls := 0 })
    let long := tSeq (tEntry 0xC0 0) (fun q => { q with len := 60000 })
    let arm := tReq (w64 1)
    let j := d.job 0x0404 arm
    let jl := long.job 0x0404 arm
    let armed := tSeq (tEntry 0xC0 0) (fun q => { q with state := 1 })
    allTrue [tDev.runsNow cmdSeqWrite (tReq (w32 0 ++ w8 1 ++ zeros 3 ++ tEntry 0xC0 0)),
      tDev.runsNow cmdSeqRead (tReq (w32 0 ++ w8 7 ++ zeros 3)),
      tDev.runsNow cmdSeqConfig (tReq (w8 0 ++ w8 2 ++ w8 15 ++ zeros 5 ++ w32 1 ++ zeros 8)), long.runsNow cmdSeqArm arm,
      decide (1000 * jl.boundUs < 100000 + 30 * long.armEntries jl.chans), d.runsNow cmdSeqArm arm,
      decide (100000 + 30 * d.armEntries j.chans ≤ 1000 * j.boundUs), j.chans.all (fun c => (d.listError c (d.seq c).len 0 0).isNone),
      (match (cmdSeqStart.body (armed.taken arm) (armed.jobOf cmdSeqStart.op arm)).2 with | .soon _ => true | _ => false),
      armed.runsNow cmdSeqStart arm, armed.runsNow cmdSeqStop arm, tDev.runsNow cmdSeqStatus (tReq (zeros 4 ++ w32 1)),
      tDev.runsNow cmdHandlerConfig (tReq (w8 2 ++ w8 1 ++ w16 5 ++ w64 3)), tDev.runsNow cmdHandlerBin (tReq (w8 2 ++ w8 15 ++ zeros 2)),
      tHs.runsNow cmdHandlerStatus (tReq (w8 2 ++ zeros 3 ++ w32 1))] = true := by decide +kernel

theorem wit_SequencerStartStopTrigger :
    let d := fun (g : Seq → Seq) => tSeq (tEntry 0xC0 1) g
    let run := d (fun q => { q with state := 2, startEdge := 0, waitTimeout := 3, phase := .wait, waitFrom := 1000 })
    let late := { run with now := 9000000 }
    let ap := d (fun q => { q with state := 2, phase := .aperture, trigMode := 1 })
    let overrun := d (fun q => { q with state := 2, phase := .aperture, trigMode := 1, pend := 1 })
    let soon := d (fun q => { q with state := 2, startEdge := 9000000 })
    let stop := d (fun q => { q with stopEdge := some (tDev.latchOf 128) })
    let done := d (fun q => { q with state := 3 })
    let del := tSeq (tEntry 0xC0 10) (fun q => { q with state := 2, phase := .delay 2000, waitFrom := 2000 })
    allTrue [((d (fun q => { q with state := 1 })).seq 0).state == 1, ((d id).seq 0).state == 0, (late.seq 0).state == 2,
      decide ((late.seq 0).startEdge < late.latchOf 129), (run.seq 0).phase == .wait, (run.seq 0).trigAt.isNone, !(run.seq 0).rcRun,
      (run.curEntry 0).srcTrig == some 0, !run.hasEdge 129, !run.hasEdge 130, (ap.seq 0).phase == .aperture,
      decide ((soon.seq 0).state = 2 ∧ soon.latchOf 128 < (soon.seq 0).startEdge), (stop.seq 0).stopEdge == some (stop.latchOf 128),
      (stop.seq 0).state == 0, (del.seq 0).phase == .delay 2000, decide ((del.seq 0).waitFrom ≤ del.latchOf 131),
      (del.curEntry 0).measTrig == some 1, !(del.seq 0).pend.testBit 1, (overrun.seq 0).pend.testBit 0,
        (done.seq 0).state == 3, (ap.seq 0).trigMode.testBit 0, !(ap.seq 0).pend.testBit 0,
      !(ap.seq 0).trigMode.testBit 1, (run.seq 0).waitTimeout == 3,
      (run.seqWaits 0 (run.instantAt (1000 + 3 * 1000000))).isSome] = true := by decide +kernel

theorem wit_SequencerExecution :
    let d := fun (m : Nat) (g : Seq → Seq) => tSeq (tEntry m 0) (fun q => g { q with state := 2, repLeft := 2 })
    let cur := d 0xC0 (fun q => { q with phase := .current 500 })
    let bad := (tSeq (w32 0x7FFFFFFF ++ zeros 4 ++ w8 15 ++ w8 15 ++ w16 0x80 ++ zeros 10 ++ w16 1 ++ zeros 8) (fun q =>
      { q with state := 2, repLeft := 2, phase := .current 500 }))
    let ap : Aper := { mode := 2, ta := 0, n := 1, k := 1, w16 := 0, vs := [(0, 65536)], is := [(0, 65536)], dv := [], di := [],
                       flags := 0, idx := 0, te := 700, stale := false }
    let fin := d 0xC0 (fun q => { q with phase := .aperture, aper := some ap })
    let rest := (d 0xC0 (fun q => { q with endAt := some 800, endAction := 1, rest := (0, 1073741824, 1073741824) })).modChan 0 (fun x =>
      { x with state := 1 })
    let x := rest.chan 0
    let trig := tSeq (tEntry 0xC0 1) (fun q => { q with state := 2, repLeft := 2, phase := .current 500 })
    let other := tSeq (zeros 8 ++ w8 1 ++ w8 15 ++ w16 0xC8
      ++ zeros 20) (fun q => { q with state := 2, repLeft := 2, phase := .current 500 })
    let meas := tSeq (tEntry 0xE0 9) (fun q => { q with state := 2, phase := .delay 500, pend := 1 })
    let comp := d 0x2C0 (fun q => { q with phase := .aperture, aper := some { ap with flags := 2 } })
    let zero := (d 0xC0 (fun q => { q with endAt := some 800, endAction := 2 })).chan 0
    allTrue [(cur.seq 0).phase == .current 500, (cur.seq 0).repLeft == 2, cur.entryRunOk 0 (cur.curEntry 0),
      cur.entryCodes 0 (cur.curEntry 0) == ((cur.chan 0).vr, (cur.chan 0).ir), (cur.curEntry 0).srcTrig.isNone,
      !bad.entryRunOk 0 (bad.curEntry 0), (bad.seq 0).phase == .current 500,
      ((d 0xC0 (fun q => { q with phase := .source 500 })).seq 0).phase == .source 500,
      ((d 0xC0 (fun q => { q with phase := .ready 500 })).seq 0).phase == .ready 500, (fin.seq 0).aper == some ap, ap.over_, ap.mode != 1,
      (fin.seq 0).phase == .aperture, decide (1 < (fin.seq 0).repLeft), !(fin.curEntry 0).endComp, (rest.seq 0).endAt == some 800,
      (rest.seq 0).endAction == 1, x.state != 3, setpointOk (rest.bipolar 0 x.fi (x.code x.fi)) (rest.seq 0).rest.1,
      compOk (rest.seq 0).rest.2.1, compOk (rest.seq 0).rest.2.2, !cur.hasEdge 129,
      trig.entryRunOk 0 (trig.curEntry 0), (trig.curEntry 0).srcTrig == some 0, !(trig.seq 0).pend.testBit 0,
      other.entryRunOk 0 (other.curEntry 0), other.entryCodes 0 (other.curEntry 0) != ((other.chan 0).vr, (other.chan 0).ir),
      (meas.seq 0).phase == .delay 500, (meas.curEntry 0).measTrig == some 0, (meas.seq 0).pend.testBit 0,
      (comp.curEntry 0).endComp, (comp.seq 0).aper.any (fun a => a.over_ && a.mode != 1 && a.flags.testBit 1
        && decide ((comp.seq 0).startEdge ≤ a.te)),
      ((d 0xC0 (fun q => { q with phase := .aperture })).seq 0).aper.isNone, zero.state == 3, zero.trans.isNone] = true := by decide +kernel

theorem wit_HandshakeEngineRows :
    let idle := (tHs.modHandler 2 (fun g => { g with state := 0 })).modSeq 0 (fun q => { q with state := 1 })
    let end_ := tHs.modHandler 2 (fun g => { g with state := 3, eotEnd := some 4000 })
    allTrue [chansIn (tHs.handler 2).channels != [], (idle.handler 2).state == 0,
      (chansIn (idle.handler 2).channels).all (fun c => (idle.seq c).state == 1), (tHs.handler 2).state == 1,
      ((tHs.modSeq 0 (fun q => { q with state := 3 })).seq 0).state == 3, (tHs.handler 2).waits == 0,
      ((tHs.modHandler 2 (fun g => { g with state := 2, eotAt := some 900 })).handler 2).eotAt == some 900, (tHs.handler 2).eotMode == 0,
      ((tHs.modHandler 2 (fun g => { g with eotMode := 1 })).handler 2).eotMode != 0, (end_.handler 2).eotEnd == some 4000] = true := by
  decide +kernel

/-- PF0 with ring 0 enabled and its fields changed. -/
def tRing0 (g : Ring → Ring) : Dev :=
  tDevF 0 (fun r => r.modRing 0 (fun x => g { x with enabled := true, size := 4, base := 0x100000 }))
/-- A channel that streams to ring 0, with its fields changed. -/
def tRes (g : ResChan → ResChan) : Dev := (tRing0 id).modRes 0 (fun r => g { r with st := { r.st with ring := 0 } })
/-- RES_RING_CONFIG that enables ring 0 with 64 KiB. -/
def tRingReq : Req := tReq (w8 0 ++ w8 1 ++ w8 16 ++ zeros 5 ++ w64 0x200000 ++ zeros 16)

theorem find_second (P : Nat → Bool) (a b : Nat) (l : List Nat) (h : P b = true) : ((a :: b :: l).find? P).isNone = false := by
  simp only [List.find?_cons, h]
  cases P a <;> rfl

theorem spaceFor_empty (p : Nat) : (spaceFor [] 65536 p).isNone = false := by
  unfold spaceFor
  exact find_second (fun o => spaceFree [] o 65536) _ 0 _ (by decide +kernel)

theorem wit_ResultCommands_enable : tDev.runsNow cmdResRingConfig tRingReq = true := by
  unfold Dev.runsNow
  simp only [Bool.and_eq_true, decide_eq_true_eq]
  refine ⟨⟨⟨⟨by decide +kernel, by decide +kernel⟩, by decide +kernel⟩, by decide +kernel⟩, ?_⟩
  have h := spaceFor_empty (tDev.taken tRingReq).freeVal
  have hx : (tDev.taken tRingReq).extents = [] := by decide +kernel
  have hn : 2 ^ u8 (tDev.jobOf cmdResRingConfig.op tRingReq).p 2 = 65536 := by decide +kernel
  unfold cmdResRingConfig
  simp only []
  rw [if_neg (by decide +kernel), if_neg (by decide +kernel), if_neg]
  have hq : ¬ ((tDev.taken tRingReq).fn (tDev.jobOf 0x0501 tRingReq).f).ringBytes + 65536 > ((tDev.taken tRingReq).fn (tDev.jobOf 0x0501 tRingReq).f).quota := by
    decide +kernel
  have ht : ¬ (tDev.taken tRingReq).fns.foldl (fun a p => a + p.2.ringBytes) 0 + 65536 > ringSpace := by decide +kernel
  have hn' : 2 ^ u8 (tDev.jobOf 0x0501 tRingReq).p 2 = 65536 := hn
  rw [hn', hx, h]
  simp only [hq, ht]
  simp

theorem wit_ResultCommands :
    let on := tRing0 id
    let d := tRes id
    let meas := fun (m t : Nat) => tReq (w64 1 ++ w8 m ++ w8 t ++ zeros 2 ++ w32 (if m = 0 then 0 else 4000))
    let had := tRes (fun r => { r with stream := 3, cap := .armed,
                                       meas := some { aper := tDev.newAper 2 4000 0 0, start := none, route := 0 } })
    allTrue [on.runsNow cmdResRingConfig (tReq (zeros 32)), on.runsNow cmdResRingStatus (tReq (zeros 4 ++ w32 1)),
      d.runsNow cmdResChanConfig (tReq (w8 0 ++ w8 15 ++ w8 0 ++ w8 3 ++ w32 1 ++ w16 5 ++ w16 1 ++ w8 1 ++ zeros 3)),
      had.runsNow cmdResMeasure (meas 0 0), d.runsNow cmdResMeasure (meas 2 0), d.runsNow cmdResMeasure (meas 2 1),
      (tRes (fun r => { r with stream := 3 })).runsNow cmdResCapture (tReq (w64 1 ++ w8 1 ++ zeros 7)),
      had.runsNow cmdResCapture (tReq (w64 1 ++ zeros 8)), on.runsNow cmdResFlush (tReq (w8 1 ++ zeros 3)),
      d.runsNow cmdResChanStatus (tReq (zeros 4 ++ w32 1))] = true := by decide +kernel

/-- A record. -/
def tRec : Rec :=
  { timeNs := 0, frac := 0, chan := 0, epoch := 0, type_ := 1, seq := 0, v := 0, i := 0, idx := 0, flags := 0, stream := 0, ring := 0,
    slots := 4, diffs := [], at_ := 0, inst := 0 }

theorem wit_MeasurementsAndCaptures :
    let ap : Aper := { tDev.newAper 2 1 0 0 with k := 1, n := 1 }
    let m : Meas := { aper := ap, start := none, route := 0 }
    let st := fun (e : Nat) => (tRes (fun r => { r with meas := some { m with start := some 25000 } })).modFab (fun x =>
      { x with edges := [(135, 0, e)] })
    let r := fun (c : CapState) (mode : Nat) (post : Nat) => (tRes (fun r => { r with cap := c, capMode := mode, pre := 5, post := post })).res 0
    let d := tRes (fun r => { r with cap := .waitSpace, meas := some m, box := some ap })
    let g := tRes (fun r => { r with st := { r.st with ring := 0, gap := some (3, tRec) } })
    allTrue [(d.res 0).meas == some m, m.start.isNone, !d.calActive 0,
      ((st 9).res 0).meas.any (fun m => m.start == some 25000), (st 9).hasEdge 135, decide ((st 9).edgeTime 135 < 25000),
      decide (25000 ≤ (st 25000).edgeTime 135), (d.res 0).boxOld.find? Aper.over_ == none, (d.res 0).box == some ap, ap.over_,
      ((tRes (fun r => { r with boxOld := [ap] })).res 0).boxOld.find? Aper.over_ == some ap,
      (r .armed 0 1).cap == .armed, decide ((r .armed 0 1).armAt ≤ tDev.latchOf 134), !tDev.calActive 0,
      ((tDev.modCal (fun k => { k with runs := [{ cmd := none, scope := 0, skipLive := false, todo := 0, passed := 0,
                                                  failed := 0, skipped := 0, survey := 0, refFail := false, integrity := false,
                                                  part := .slot 0, startAt := 0, partAt := 0, dacChans := 0,
                                                  slotChans := 1 }] })).calActive 0), (r .idle 0 1).cap == .idle,
      (r .triggered 0 1).cap == .triggered, (r .rearm 0 1).capMode == 0, (r .rearm 1 1).capMode != 0,
      decide ((r .rearm 1 1).pre + (r .rearm 1 1).post ≤ d.captureFree 0),
      decide (d.captureFree 0 < (r .rearm 1 32256).pre + (r .rearm 1 32256).post), (d.res 0).cap == .waitSpace,
      (g.stream (streamNo (.chan 0))).gap.isSome, g.roomFor (streamNo (.chan 0)) 4] = true := by decide +kernel

theorem wit_CaravanAndBlocks :
    let b : Block := { recs := [], flushed := true, closeNs := 0, closeEpoch := 0, lost := 0 }
    let car : Caravan := { fn := 0, rings := [0], since := 0, eff := 7, weight := 16, ages := [], agedAt := 0, admitted := false }
    let d := (tRing0 (fun g => { g with openSince := some 5, flushUs := 9, closed := [b] })).modFn 0 (fun r => { r with deficitCar := 1 })
    let w := d.modTg (fun t => { t with caravans := [car], lastCar := 0 })
    let a := d.modTg (fun t => { t with caravans := [{ car with admitted := true }] })
    let two := d.modTg (fun t => { t with caravans := [{ car with eff := 2 }, car], lastCar := 0 })
    let served := fun (d : Dev) =>
      let l := d.tg.caravans.filter (fun c => !c.admitted && d.carCredit c.fn && (d.fn c.fn).flr == .idle)
      (d.drrCaravan 10 0 [0] (fun _ => (l.headD car).rings.length) (fun _ => (l.headD car).weight)).2
    allTrue [((d.fn 0).ring 0).openSince == some 5, ((d.fn 0).ring 0).flushUs != 0,
      w.tg.caravans.find? (fun x => x.fn == car.fn && !x.admitted) == some car,
      two.tg.caravans.any (fun k => k.fn == 0 && !k.admitted && two.tg.caravans.all (fun x => decide (x.eff ≤ k.eff))),
      served w == some 0, served two == some 0, two.blockTurn 0 0 [0], !car.admitted, w.carCredit 0,
      (w.fn 0).flr == .idle, car.fn == w.tg.lastCar, decide (car.rings.length ≤ (w.fn car.fn).deficitCar), w.sys.blockReset.isEmpty,
      w.tg.caravans.all (fun x => decide (x.eff ≤ car.eff)),
      (a.tg.caravans.find? (fun x => x.fn == 0 && x.admitted && x.rings.contains 0)).any (fun c => c.rings.head? == some 0),
      !((a.fn 0).ring 0).full, ((a.fn 0).ring 0).closed == [b]] = true := by decide +kernel

theorem wit_EngineOutputIsLimited : ∃ lo hi : Int, lo ≤ hi := ⟨-1, 1, by decide⟩

theorem wit_SlewLimiterBounds :
    let ok := fun (step divr : Nat) (req c : Int) (cnt : Nat) =>
      let want := clampI (cMin 2) (cMax 2) req
      (decide (cnt % divr = 0), decide ((want - c).natAbs ≤ step), decide ((step : Int) < want - c), decide (want - c < -(step : Int)))
    allTrue [ok 4 2 9 0 1 == (false, false, true, false), ok 0 2 9 0 2 == (true, false, true, false),
      ok 4 2 3 0 2 == (true, true, false, false), ok 4 2 9 0 2 == (true, false, true, false),
      ok 4 2 (-9) 0 2 == (true, false, false, true), decide (cMin 2 ≤ 0 ∧ 0 ≤ cMax 2)] = true := by decide +kernel

/-- A ramp of two periods. -/
def tRamp : Ramp := { r0 := 0, tgt := 100, nr := 2, j := 0, smooth := false, k0 := 0 }

theorem wit_RampReachesItsTarget :
    let x := fun (j : Nat) => (tChan 0 (fun x => { x with ramp := some { tRamp with j := j } })).chan 0
    allTrue [decide (1 ≤ tRamp.nr), (x 0).ramp == some tRamp, decide (tRamp.k0 < 1), decide (tRamp.nr ≤ 1 + 1),
      (x 1).ramp == some { tRamp with j := 1 }, decide (0 + 1 < tRamp.nr)] = true := by decide +kernel

theorem wit_EnginesComputeAndCommit :
    let k : Computed := { st := [(1, 2)], out := 5, sat := false, limit := false }
    let g := fun (r l : Option Nat) => ({ tOn 0 2 with engines := [(1,
      { engInit 1 with next := some k, resFail := r, lateFail := l })] } : Dev).eng 1
    allTrue [((tOn 0 0).chan 0).state == 0, decide (1 ≤ ((tOn 0 1).chan 0).state), (tDev.eng 1).next.isNone, (g none none).next == some k,
      (g (some 1) none).resFail.isSome, (g none (some 1)).lateFail.isSome, (g none none).resFail.isNone, (g none none).lateFail.isNone,
      decide (2 ≤ ((tOn 0 2).chan 0).state), !((tOn 0 2).chan 0).switching] = true := by decide +kernel

/-- A good upstream frame. -/
def tUp : UpFrame :=
  { fseq := 1, t0 := 0, dnBad := false, holdAny := false, intlk := false, selftestFail := false, hbEcho := 0, scAck := 0, chans := [] }
/-- A good downstream frame. -/
def tDn : DownFrame := { fseq := 1, enterHold := false, seamHold := false, hb := 3, scAck := 0, chans := [] }
/-- The device with the Seam's fields changed. -/
def tSeam (g : Seam → Seam) : Dev := tDev.modSeam g

theorem wit_LoopPeriodRows :
    let il := tSeam (fun m => { m with intlk := true })
    let gr := tSeam (fun m => { m with upHelon := true, stgConfigured := true, hbRunning := true,
                                       atHelon := some { tDn with chans := [(5, 0, true)] } })
    allTrue [!tDev.asleep, tDev.helonOn, il.seam.intlk, il.seam.hold == .none_, decide (0 < il.nChan),
      (tSeam (fun m => { m with upFrame := some tUp })).seam.upFrame == some tUp, tDev.seamOn,
      !(tSeam (fun m => { m with locked := false })).seam.locked, tDev.seam.locked, decide (tDev.sys.power ≠ 3), tDev.seam.badUp == 0,
      !tDev.seamRests, decide ((5, 0, true).2.1 / 32 % 8 = 0), !gr.seam.intlk, gr.seam.hold == .none_, !(gr.helon 0).grant,
      decide (∀ v ∈ ([⟨0, .vHi, 0⟩] : List Violation), v.ch.val = 0 ∧ v.ago.toNat = 0),
      decide (∀ v ∈ ([⟨0, .vHi, 1⟩] : List Violation), v.ago.toNat ≠ 0), !(tSeam (fun m => { m with up := false })).seam.up,
      (tSeam (fun m => { m with badUp := 1 })).seam.badUp == 1, gr.seam.upHelon && gr.seam.stgConfigured
        && gr.seam.hbRunning && !gr.seam.hbLost,
      gr.seam.atHelon.any (fun f => f.chans.getD 0 (0, 0, false) == (5, 0, true)), (gr.helon 0).trip.isNone,
        !(gr.helon 0).safeBit, gr.chanOk 0,
      (tSeam (fun m => { m with dnFrame := some tDn })).seam.dnFrame == some tDn, tDn.fseq == tDev.seam.nextSeq, tUp.fseq != tDev.seam.fseq,
      ({ tUp with fseq := 0 } : UpFrame).fseq == tDev.seam.fseq, !tDev.seam.lockLost,
        decide (({ tDn with fseq := 9 } : DownFrame).fseq ≠ tDev.seam.nextSeq),
      (tSeam (fun m => { m with up := false, locked := false, lossAt := some 0 })).seam.lockLost, tDev.seam.atHelon.isNone,
      (tSeam (fun m => { m with badDn := 1 })).seam.badDn == 1, tDev.seam.badDn != 1] = true := by decide +kernel

theorem wit_SeamAndSideChannel :
    let p : SidePacket := { seq := 4, up := false, attempts := 1, sentAt := 0, chan := some 2, msg := .safe, named := none,
                            flying := true, received := false }
    let d := fun (p : SidePacket) => tSeam (fun m => { m with packets := [p], goodUp := 16, goodDn := 16, hbRunning := true })
    let f := fun (p : SidePacket) => (d p).seam.packets.find? (fun p => p.up == false && p.seq == (4 : W16).toNat) == some p
    allTrue [(d p).seamOn, decide (16 ≤ (d p).seam.goodUp ∧ 16 ≤ (d p).seam.goodDn), f p, p.chan == some 2, p.msg == .safe,
      decide (SideMsg.bank ≠ .safe),
      f { p with chan := none, msg := .bank }, f { p with attempts := 8 }, p.flying, !p.received, p.named.isNone,
      f { p with flying := false }, f { p with received := true }, f { p with msg := .bank }, f { p with msg := .bank, named := some 1 },
      (d { p with up := true }).seam.packets.any (fun p => p.up && p.seq == 4),
      decide (((d p).seam.nextSeq + 65535 - 0) % 65536 < 32768), decide (¬((d p).seam.nextSeq + 65535 - 1) % 65536 < 32768),
      !tDev.seamRests,
      (tDev.chan (tDev.leader 2)).rc.isNone, ((tChan 2 (fun x => { x with rc := ((tRc id).chan 0).rc })).chan 2).rc.isSome,
        decide (p.attempts < 8), (d p).seam.hbRunning, decide (tDev.sys.power ≠ 3), tDev.helonOn,
      tDev.seam.hold == .none_] = true := by decide +kernel

theorem wit_HemAndHoldThenSafe :
    let h := fun (step : Nat) => (tSeam (fun m => { m with hold := .hold, safeStep := step })).modHelon 2 (fun h =>
      { h with hold := true, cOut := 9, grant := true })
    let r := (h 0).modSeam (fun m => { m with hold := .ramp })
    allTrue [tDev.chanOk 2, !tDev.seamRests, !({ tDev with sys := { tDev.sys with phase := .held } } : Dev).helonOn,
      !tDev.seam.spareFail.testBit 0, (tSeam (fun m => { m with spareFail := 1 })).seam.spareFail.testBit 0,
        decide (tDev.sys.power ≠ 3), tDev.helonOn, tDev.seam.hold == .none_, (h 4).seam.hold == .hold,
      decide (2 < (h 4).nChan), ((h 4).helon 2).hold, !((h 4).helon 1).hold, (h 4).seam.safeStep != 0, (h 0).seam.safeStep == 0,
      r.seam.hold == .ramp, (r.helon 2).hold] = true := by decide +kernel

/-- A survey entry: source 0, no delay, an aperture of one tick. -/
def tSvyEntry : List Byte := zeros 4 ++ w16 1 ++ zeros 26
/-- The survey converter with fields changed; its tables hold one valid entry. -/
def tSvy (g : Survey → Survey) : Dev := tDev.modSvy (fun y => g { y with shadow := [(0, tSvyEntry)], active := [(0, tSvyEntry)] })
/-- A table entry's conversion. -/
def tConv : SvyConv := { entry := 0, bytes := tSvyEntry, fn := 0, cmd := none, bank := none }

theorem wit_SurveyCommands :
    let d := tSvy id
    let cfg := fun (m : Nat) => tReq (w8 m ++ zeros 1 ++ w16 1 ++ w32 3 ++ w32 (if m = 2 then 5 else 0) ++ w32 9)
    let pause := tSvy (fun y => { y with scanning := true })
    let scan := tSvy (fun y => { y with scanning := true, run := some { conv := tConv, endAt := 9 } })
    allTrue [d.runsNow cmdSvyTableWrite (tReq (w8 0 ++ w8 1 ++ zeros 2 ++ tSvyEntry)),
      d.runsNow cmdSvyTableRead (tReq (w8 0 ++ w8 7 ++ w8 1 ++ zeros 1)), d.runsNow cmdSvyConfig (cfg 2), !d.svy.scanning,
      scan.runsNow cmdSvyConfig (cfg 0), scan.svy.scanning, scan.svy.run.isSome,
      pause.runsNow cmdSvyConfig (cfg 0), pause.svy.scanning, pause.svy.run.isNone, d.runsNow cmdSvyData (tReq (w16 0xFFFF ++ zeros 2)),
      d.runsNow cmdSvyData (tReq (w16 255 ++ zeros 2)), scan.runsNow cmdSvyUrgent (tReq (zeros 40)), d.svy.run.isNone,
      d.runsNow cmdSvyUrgent (tReq (w16 0xFFFF ++ zeros 6 ++ tSvyEntry)), d.runsNow cmdSvyStatus (tReq (w32 3))] = true := by
  decide +kernel

theorem wit_SurveyScans :
    let md := fun (m : Nat) => tSvy (fun y => { y with cfg := { mode := m, nent := 1, startDelay := 0, timerUs := 9, watchdogUs := 8 } })
    let fa := (md 2).modSvy (fun y => { y with faultState := true })
    let ev := (md 3).modFab (fun x => { x with edges := [(14, 0, 0)] })
    let fl : SvyFlight :=
      { conv := tConv, code := 4, scan := 0, saturated := false, suppressed := false, degraded := false, fallback := false,
        timeNs := 0, epoch := 0 }
    let r := tSvy (fun y => { y with flights := [fl], run := some { conv := tConv, endAt := 9 } })
    allTrue [(md 2).svy.cfg.mode == 2, !(md 2).svy.faultState, fa.svy.cfg.mode == 2, fa.svy.faultState, !ev.svy.faultState, ev.hasEdge 14,
      r.tb.steps.isEmpty, !svyDiff tConv.bytes, ev.svy.cfg.mode == 3, ev.fab.edges.any (fun e => e.1 == 14),
      (md 1).scanDue.isSome, (md 1).svy.run.isNone, r.svy.run.isSome, r.svy.flights == [fl], fl.conv.cmd.isNone,
      decide (2 ≤ (md 2).svy.cfg.mode), (md 2).svy.cfg.watchdogUs != 0, !(md 2).svy.fallback, !(md 2).svyPaused,
      decide ((-5 : Int) ≤ 5 ∧ (0 : Int) ≤ 1 ∧ (-5 : Int) + 1 ≤ 5 - 1)] = true := by decide +kernel

/-- A calibration run in one of its parts. -/
def tCal (part : CalPart) (todo slot : Nat) : CalRun :=
  { cmd := some 0, scope := 0, skipLive := false, todo := todo, passed := 0, failed := 0, skipped := 0, survey := 0, refFail := false,
    integrity := false, part := part, startAt := 0, partAt := 0, dacChans := 0, slotChans := slot }
/-- A device with a calibration run of a command. -/
def tCalDev (r : CalRun) : Dev :=
  (tDev.modCal (fun k => { k with runs := [r] })).modTg (fun t => { t with running := [tRun 0x0701 (tReq (zeros 16))], nextId := 5 })
/-- Factors of a pair at their nominal values. -/
def tPair : List Int := [0, 0, 8388608, 8388608, 0] ++ List.replicate 32 0
/-- A channel's plausible result. -/
def tCalRes (f : Fin 16) : CalResult := { ch := 2, faulty := f, factors := tPair ++ tPair ++ [0, 8388608]
                                          ++ List.replicate 63 0, temp := 25 }

theorem wit_CalibrationCommands :
    let tr : Trace := { ch := 0, cur := false, code := 0, nplc := 1, settleUs := 0, pts := [], run := none, before := none }
    let d := tDev.modCal (fun k => { k with trace := some tr })
    allTrue [tDev.runsNow cmdCalSelf (tReq (zeros 16)), tDev.runsNow cmdCalStatus (tReq (zeros 4)),
      tDev.runsNow cmdCalTraceBegin (tReq (w8 0 ++ w8 0 ++ w8 1 ++ w8 1 ++ w32 5)), d.runsNow cmdCalTracePoint (tReq (zeros 16)),
      d.cal.trace == some tr, tr.before.isNone, d.runsNow cmdCalTraceEnd (tReq (zeros 20)),
        tDev.runsNow cmdCalStore (tReq [])] = true := by decide +kernel

theorem wit_CalibrationRuns :
    let a := fun (p : CalPart) (todo slot : Nat) => (tCalDev (tCal p todo slot)).activeRun == some (tCal p todo slot)
    let w := tCalDev (tCal .waiting 4 0)
    let b := tCalDev (tCal .between 0x304 0)
    let x := tCalRes 0
    allTrue [w.activeRun.isNone, w.cal.runs == [tCal .waiting 4 0], a .reference 4 0, (tCal .reference 4 0).cmd == some 0,
      decide (((1999 : Int) - 2000).natAbs * 2000 ≤ (2000 : Int).natAbs),
        decide ((2000 : Int).natAbs < ((1998 : Int) - 2000).natAbs * 2000),
      (w.running? 0).any (fun r => r.result.isNone), a .between 0x304 0, nextGroup 0x304 == some 0,
      b.tg.running.all (fun r => (chansIn (0x304 &&& 255)).all (fun c => !r.names.contains (Res.chan c))), a (.slot 0) 0x300 4,
      !(tCal (.slot 0) 0x300 4).failed.testBit 2,
      chansIn 4 == [x.ch.val], (slotBad x (b.calChan 2) false).isNone,
      (slotBad { x with factors := [] } (b.calChan 2) false).isSome, x.faulty.val == 0, a .survey 0 0,
      x.faulty.val % 4 == 0 && ofsOk (pairOf x.factors 0) b.cal.wc.svy b.cal.wc.svyHere
        && gainsOk (pairOf x.factors 0) b.cal.wc.svy b.cal.wc.svyHere && skewOk (pairOf x.factors 0) b.cal.wc.svy b.cal.wc.svyHere
        && linOk (pairOf x.factors 0) b.cal.wc.svy b.cal.wc.svyHere,
      (tCalRes 5).faulty.val % 4 != 0] = true := by decide +kernel

/-- The vector engine with fields changed: bank 0 enabled, segment 0 READY. -/
def tVec0 (g : Vec_ → Vec_) : Dev :=
  tDev.modVec (fun v => g { v with banks := [(0, { vbankInit 0 with enabled := true, vio := 33 })], segs := [(0, 2)] })
/-- The player of PF0 in a state, with fields changed. -/
def tPlay (st : PState) (g : Player → Player) : Dev :=
  tVec0 (fun v => { v with words := [(5, zeros 52 ++ w8 3 ++ zeros 11)], player := g { playerInit with state := st, fn := some 0 } })

theorem wit_VectorCommands :
    let d := tVec0 id
    let busy := tPlay .playing (fun y => { y with word := some 0 })
    allTrue [d.runsNow cmdVecBankConfig (tReq (zeros 8)),
      d.runsNow cmdVecBankConfig (tReq (w8 3 ++ w8 1 ++ w8 33 ++ w8 2 ++ w16 1023 ++ w8 0 ++ w8 7)),
      d.runsNow cmdVecClock (tReq (w32 200000000)), d.runsNow cmdVecConfig (tReq (w8 7 ++ w8 3 ++ zeros 46)),
      d.runsNow cmdVecWrite (tReq (w32 0 ++ w8 1 ++ zeros 3 ++ zeros 64)),
        d.runsNow cmdVecLoad (tReq (w8 15 ++ zeros 3 ++ w32 1 ++ zeros 16)),
      d.runsNow cmdVecSegCommit (tReq (w8 15 ++ zeros 3)), d.runsNow cmdVecRead (tReq (w32 0 ++ w8 3 ++ zeros 3)),
      d.runsNow cmdVecStart (tReq (zeros 16)), d.runsNow cmdVecStart (tReq (w32 0 ++ w8 1 ++ zeros 3 ++ w64 5000)),
      d.runsNow cmdVecStart (tReq (w32 0 ++ w8 2 ++ w8 9 ++ zeros 10)), busy.runsNow cmdVecStop (tReq []),
      d.runsNow cmdVecStatus (tReq (w32 1)), tblOk wordInit (tPlay .armed id).vec.words] = true := by decide +kernel

theorem wit_VectorPlayer :
    let p := fun (s : PState) (g : Player → Player) => (tPlay s g).vec.player
    let a := p .armed (fun y => { y with startAt := some 5, pf := [0] })
    let w := p .armed (fun y => { y with startAt := some 5, pf := [5] })
    let lim := fun (s : PState) (edge left at_ why : Nat) =>
      let y := p s (fun y => { y with endFrom := some (at_, why), edge := edge, left := left })
      y.endFrom == some (at_, why) && y.fn == some 0 && y.edge == edge && y.left == left && y.pf.isEmpty
    let e := fun (n : Nat) (s : PState) (g : Player → Player) => (tPlay s g).modFab (fun x => { x with edges := [(n, 0, 0)] })
    allTrue [a.fn == some 0, a.state == .armed, a.startAt == some 5, a.word.isNone, a.pf == [0],
      (tPlay .armed id).sys.power % 2 == 0, !a.ecc.contains 0, !w.ecc.contains 5,
      u8 ((tPlay .armed id).vWord 0) 52 % 8 == 0, w.pf == [5], u8 ((tPlay .armed id).vWord 5) 52 % 8 != 0, !w.pend.testBit 2,
      (p .playing (fun y => { y with left := 2, word := some 0 })).endFrom.isNone,
      (p .playing (fun y => { y with left := 2, word := some 0 })).word == some 0, (tDev.vstat 0).failCycles.length == 4,
      (p .playing id).left == 0, (p .playing id).pf.isEmpty,
      lim .playing 0 2 25000000 4, lim .armed 0 2 0 4, lim .playing 25000000 0 25000000 4, lim .playing 25000000 0 25000000 2,
      decide (0 < (tPlay .armed id).vEdgeAt 25000000 ∧ (tPlay .armed id).vEdgeAt 25000000 = 25000000),
      (p .playing (fun y => { y with endFrom := some (9, 4) })).endFrom == some (9, 4),
        (e 52 .armed (fun y => { y with kind := 2 })).hasEdge 52,
      (e 52 .armed (fun y => { y with kind := 2 })).vec.player.kind == 2, (p .armed id).startAt.isNone, (e 53 .armed id).hasEdge 53,
      (e 53 .waiting id).vec.player.state == .waiting, (e 55 .waiting (fun y => { y with waitIn := 1 })).hasEdge (54 + 1),
      (p .waiting (fun y => { y with waitIn := 1 })).waitIn == 1, (p .playing id).state != .waiting, !(p .playing id).pend.testBit 1,
      (p .playing (fun y => { y with pend := 2 })).pend.testBit 1,
      (match (e 53 .armed id).vec.player.startAt with | none => true | some _ => false),
      decide ((e 53 .playing id).vec.player.edge < ((e 53 .playing id).vLatch ((e 53 .playing id).edgeTime 53))),
        (e 53 .playing id).vec.player.endFrom.isNone,
      decide ((e 53 .playing id).vLatch ((e 53 .playing id).edgeTime 53) ≤ 10 ^ 9),
      (e 53 .armed (fun y => { y with startAt := some 0 })).vec.player.endFrom.isNone,
      decide ((e 53 .armed (fun y => { y with startAt := some 0 })).vEdgeAt 0 < (e 53 .armed id).vLatch ((e 53 .armed id).edgeTime 53)),
      u8 ((tPlay .armed id).vWord 5) 52 % 8 == 3,
        (p .armed (fun y => { y with startAt := some 5, pf := [5], pend := 4 })).pend.testBit (3 - 1),
      decide (tblGet (fun _ => 0) (p .armed (fun y => { y with pend := 4 })).pendAt (3 - 1) ≤ (tPlay .armed id).vEdgeAt 5),
      (e 53 .playing (fun y => { y with edge := 10 ^ 9, left := 1 })).vec.player.left != 0, (e 53 .waiting id).vec.player.endFrom.isNone,
      (e 53 .waiting (fun y => { y with endFrom := some (0, 4) })).vec.player.endFrom == some (0, 4), (4 : Nat) != 2,
      decide (0 ≤ (e 53 .waiting id).vLatch ((e 53 .waiting id).edgeTime 53))] = true := by decide +kernel

theorem wit_EventFabricCommands :
    let mono := tDev
    allTrue [tDev.runsNow cmdEvtRoute (tReq (w8 3 ++ w8 7 ++ w16 2 ++ w16 3 ++ zeros 2 ++ zeros 1 ++ w8 32 ++ zeros 126)),
      tDev.runsNow cmdEvtRouteStatus (tReq (w8 255 ++ zeros 3)), tDev.runsNow cmdEvtOverrun (tReq (w32 1)),
      tDev.runsNow cmdEvtRead (tReq (w8 14 ++ w8 1 ++ zeros 2)),
        tDev.runsNow cmdEvtLineConfig (tReq (w8 5 ++ w8 15 ++ zeros 2 ++ w32 100000)),
      (u8 (tDev.job 0x0905 (tReq (w8 5 ++ w8 15 ++ zeros 2 ++ w32 100000))).p 0) == 5,
      tDev.runsNow cmdEvtLineConfig (tReq (w8 2 ++ zeros 1 ++ w8 31 ++ zeros 5)), (2 : Nat).testBit 1,
      mono.runsNow cmdEvtTimer (tReq (w8 15 ++ zeros 15)), mono.runsNow cmdEvtTimer (tReq (w8 15 ++ w8 1 ++ zeros 2 ++ w32 2 ++ w64 0))]
      = true := by decide +kernel

/-- The event fabric with fields changed. -/
def tFab (g : Fabric → Fabric) : Dev := tDev.modFab g

theorem wit_EventFabricRows :
    let ev : EvtEntry := { timeNs := 0, frac := 0, epoch := 0, route := 5, flags := 0 }
    let host := fun (n : Nat) => (tFab (fun x => { x with edges := [(13, 5,
      0)] })).modFn 0 (fun f => { f with events := List.replicate n ev })
    let vec := fun (m : Bool) =>
      let d := (tFab (fun x => { x with edges := [(47, 0,
        0)] })).modFn 0 (fun f => { f.modVec 63 (fun v => { v with mask := m }) with msixEnable := true, funcMask := false })
      d
    let off := ((tOn 2 3).modFab (fun x => { x with edges := [(642, 0, 0)] }))
    let st := tFab (fun x => { x with ext := 4 })
    allTrue [tDev.asserts (.bus 2) false, !tDev.asserts (.bus 2) true, !tDev.fab.ext.testBit 2,
      ((tDev.setTimer 3 { enable := true, period := 4, next := 9 }).timer 3).enable, decide (tDev.sys.power ≠ 3),
      (host 31).routeHolder 5 == 0, (host 31).fab.edges.find? (fun e => e.1 == 13 && e.2.1 == 5) == some (13, 5, 0),
        decide ((host 31).sys.power ≠ 3),
      ((host 31).modSys (fun y => { y with power := 3 })).sys.power == 3, decide (((host 31).fn 0).events.length < 32),
      decide (32 ≤ ((host 32).fn 0).events.length), (vec false).hasEdge (16 + 31), ((vec false).fn 0).msixEnable,
      ((vec false).fn 0).flr == .idle, !((vec false).fn 0).funcMask, !(((vec false).fn 0).vec (32 + 31)).mask,
      (((vec true).fn 0).vec (32 + 31)).mask, off.hasEdge (640 + 2), off.leader 2 == 2, (off.chan 2).state != 0, !(tDev.route 5).fault,
      st.fab.ext.testBit (LineId.num (.bus 2)), !st.fab.stuck.testBit 2, !st.drivesLine 2, !(decide (2 < 8) && st.levelOut 2),
      !(decide (9 ≤ 2) && decide (2 < 13))] = true := by decide +kernel

/-- The timebase with fields changed. -/
def tTb (g : Timebase → Timebase) : Dev := tDev.modTb g

theorem wit_TimeCommands :
    let lk := tTb (fun b => { b with tstate := .locked })
    let sk := fun (m k : Nat) => tDev.runsNow cmdTimeSyncConfig (tReq (w8 m ++ w8 2 ++ w16 k))
    allTrue [tDev.runsNow cmdTimeStatus (tReq []), tDev.runsNow cmdTimeRefConfig (tReq (zeros 4)), tDev.tb.refSel == 0,
      tDev.runsNow cmdTimeRefConfig (tReq (w8 2 ++ zeros 3)), (tTb (fun b => { b with refPcie := true, refSel := 2 })).tb.hasRef 2,
      !tDev.tb.hasRef 1, tDev.runsNow cmdTimeSetRate (tReq (w32 65536)), sk 1 0, sk 3 0, sk 3 2499,
        tDev.tb.skewPending.getD tDev.tb.skew == 0,
      tDev.runsNow cmdTimeSet (tReq (w8 0 ++ w8 9 ++ zeros 2 ++ w32 60000 ++ w64 5)),
        tDev.runsNow cmdTimeSet (tReq (w8 1 ++ zeros 7 ++ w64 5)),
      lk.runsNow cmdTimeSkewMeasure (tReq (w16 4096 ++ zeros 2 ++ w32 60000)), tDev.runsNow cmdTimePair (tReq (w64 7))] = true := by
  decide +kernel

theorem wit_TimebaseRows :
    let arm : TimeSetArm := { id := 0, bySync := false, value := 77, dueAt := some 10000000 }
    let ts := tTb (fun b => { b with timeSet := some arm })
    let sw := tSwapDev (fun w => { w with kind := 1, boundary := none })
    let al := tTb (fun b => { b with nextTA := some 300000 })
    allTrue [tDev.tb.refSel != 2, (tTb (fun b => { b with refIn := true })).tb.refIn, !tDev.tb.refIn,
      (tTb (fun b => { b with tstate := .locking })).tb.tstate == .locking,
        (tTb (fun b => { b with lastTA := some 500 })).tb.lastTA == some 500,
      decide (phaseEdge (max tDev.now 500) < 500 + 1000000), tDev.tb.lastTA.isNone, tDev.sys.denrixGood,
      !({ tDev with sys := { tDev.sys with denrixGood := false } } : Dev).sys.denrixGood, ts.tb.steps.isEmpty,
      decide (500 + 1000000 ≤ phaseEdge (max tDev.now 2000000)), al.tb.nextTA == some 300000, al.tb.rateD.isNone, al.tb.d != 0,
      decide (300000 ≤ al.tb.lastSample + al.periodPs), (tTb (fun b => { b with rateD := some 32 })).tb.rateD == some 32,
      ts.tb.timeSet == some arm, (ts.setInstant arm).isSome, ts.tb.nextTA.isNone,
      decide ((0 : Int) ≤ (ts.monoAt 10000000 : Int) + ts.tb.stepOff), (sw.swapOf 5).any (fun w => w.kind == 1),
      (tPlay .armed (fun y => { y with startAt := some 5, kind := 1 })).vec.player.startAt == some 5,
      (tPlay .armed (fun y => { y with startAt := some 5, kind := 1 })).vec.player.kind == 1,
      ((tDev.setTimer 3 { enable := true, period := 40, next := 5 }).timer 3).enable, tDev.sys.power != 3] = true := by decide +kernel

/-- A relay module of four crosspoints, of which the last is a spare for the others. -/
def tRelay (g : RelayMod → RelayMod) : RelayMod :=
  g { serial := zeros 16, model := zeros 16, hwRev := 0, nxp := 4, rated := 1000, tRelNs := 5, tOpNs := 6,
      map := [(3, 3, 0, 2)], wear := [], saved := [], wearAt := 64,
      darnAt := 128, darns := [], outOfService := [], retired := 0, warn := 0, suspect := false,
      drive := 1, darning := [], writes := [] }
/-- Chain 0 READY with one module, and set 0 with two of its crosspoints; both with fields changed. -/
def tMx (g : Chain → Chain) (x : XSet → XSet) : Dev :=
  (tDev.modChain 0 (fun c => g { c with state := .ready, mods := [tRelay id] })).modSet 0 (fun q =>
    x { q with members := [(0, 3)], staged := [(0, 2)] })
/-- An update in a step. -/
def tUpd (p : UpdPhase) : Update :=
  { phase := p, brkImg := [0], mkImg := [2], tRelNs := 5, tOpNs := 6, cmds := [], made := 0, due := 9 }
/-- A device whose chain 0 is in an update. -/
def tUpdDev (p : UpdPhase) (retried : Bool) : Dev :=
  tMx (fun c => { c with state := .updating, update := some (tUpd p), retried := retried }) id

theorem wit_MatrixCommands :
    let d := tMx id id
    let s0 := zeros 35
    let want := tMx (fun c => { c with wbWant := true }) id
    allTrue [d.runsNow cmdMxChainStatus (tReq (w8 7 ++ zeros 3)),
      d.runsNow cmdMxSetMembers (tReq (w8 0 ++ w8 0 ++ w8 0 ++ w8 0 ++ w8 0xFF ++ zeros 3 ++ w8 7 ++ zeros 63)),
      d.runsNow cmdMxSetMembers (tReq (w8 0 ++ w8 0 ++ w8 0 ++ w8 2 ++ w8 1 ++ zeros 3 ++ w8 1 ++ zeros 63)),
      d.runsNow cmdMxStage (tReq (w8 0 ++ zeros 3 ++ w8 3 ++ zeros 63)), d.runsNow cmdMxApply (tReq (w8 1 ++ s0)),
      d.chainsOfSets [0] == [0], tDev.runsNow cmdMxApply (tReq (zeros 36)), tDev.chainsOfSets [] == [],
      d.runsNow cmdMxApply (tReq (w8 1 ++ zeros 31 ++ w8 2 ++ zeros 3)),
      (tMx id (fun q => { q with armed := true })).runsNow cmdMxApply (tReq (w8 1 ++ zeros 31 ++ w8 3 ++ zeros 3)),
      d.runsNow cmdMxRead (tReq (zeros 4)), d.runsNow cmdMxWearRead (tReq (zeros 4 ++ w8 2 ++ zeros 3)),
      d.runsNow cmdMxLock (tReq (w8 0 ++ w8 1 ++ zeros 2)), d.runsNow cmdMxChainCtl (tReq (zeros 4)),
      d.runsNow cmdMxChainCtl (tReq (w8 0 ++ w8 1 ++ zeros 2)), (d.chain 0).update.isNone,
      !(d.chain 0).wbWant, !((d.chain 0).up && (d.chain 0).mods.any RelayMod.dirty), (want.chain 0).wbWant,
      want.runsNow cmdMxChainCtl (tReq (w8 0 ++ w8 1 ++ zeros 2)),
      (tUpdDev .mk false).runsNow cmdMxChainCtl (tReq (w8 0 ++ w8 1 ++ zeros 2)), ((tUpdDev .mk false).chain 0).update.isSome] = true := by
  decide +kernel

theorem wit_MatrixUpdates :
    let ed := fun (d : Dev) => d.modFab (fun x => { x with edges := [(58, 0, 0)] })
    let armed := ed (tMx id (fun q => { q with armed := true }))
    let late := ed (tMx (fun c => { c with queue := List.replicate 16 none }) (fun q => { q with armed := true }))
    let q1 := tMx (fun c => { c with queue := [none] }) (fun q => { q with due := true })
    let open_ := tMx (fun c => { c with opening := [(0, 1)] }) id
    let echo := fun (d : Dev) => (d.chain 0).transfer ((d.chain 0).mods.map (fun m => m.drive))
    let fine := fun (d : Dev) => (d.chain 0).echoBad (echo d) == none
    let wrong := fun (d : Dev) => (d.chain 0).echoBad [] == some 0
    let u := fun (p : UpdPhase) (r : Bool) => ((tUpdDev p r).chain 0).update == some (tUpd p)
    allTrue [(ed (tMx id id)).hasEdge 58, ((ed (tMx id id)).setsOn 0).filter (fun q => ((ed (tMx id id)).xset q).armed) == [],
      armed.hasEdge 58, (armed.setsOn 0).filter (fun q => (armed.xset q).armed) == [0], decide (16 ≤ (late.chain 0).waiting),
      (late.setsOn 0).filter (fun q => (late.xset q).armed) == [0], !(armed.dueSets 0).any (fun q => (armed.xset q).byEdge),
      decide ((armed.chain 0).waiting < 16), q1.mxMay 0, (q1.chain 0).opening == [],
      q1.mxWorn 0 == [], open_.mxMay 0, (open_.chain 0).opening != [], (q1.chain 0).queue != [],
      [UpdPhase.brk, .mk, .confirm].all (fun p => fine (tUpdDev p false) && wrong (tUpdDev p false) && wrong (tUpdDev p true)),
      ((tUpdDev .operate false).chain 0).discCmd.isNone, ((tUpdDev .mk true).chain 0).discCmd.isNone,
      fine (tMx (fun c => { c with retried := true }) id), wrong (tMx (fun c => { c with retried := true }) id),
      u .brk false, u .settle false, u .mk false, u .confirm false, u .operate false, !((tUpdDev .mk false).chain 0).retried,
      ((tUpdDev .mk true).chain 0).retried, ((tMx (fun c => { c with retried := true }) id).chain 0).retried] = true := by decide +kernel

/-- An identity record with its CRC (R516). -/
def tRecord (kind len : Nat) (body : List Byte) : List Byte :=
  let h := w32 0x44495643 ++ w16 1 ++ w8 kind ++ w8 0 ++ w32 len ++ zeros 48
  h ++ w32 (crcGo (h ++ body) 0xFFFFFFFF ^^^ 0xFFFFFFFF) ++ body
/-- A relay module's record: four crosspoints (R520). -/
def tRelayRecord : List Byte :=
  tRecord 2 256 (w16 4 ++ zeros 2 ++ w32 1000 ++ w32 5 ++ w32 6 ++ w16 64 ++ w16 128 ++ zeros 172)
/-- A range entry of a stage record: FS 2, V_FS 1, limits 2.5 and -2.5 (R518). -/
def tRangeBytes : List Byte :=
  w32 0x40000000 ++ w16 3 ++ w16 1 ++ w32 1000 ++ w32 0x3F800000 ++ w32 0x3F800000 ++ w32 0x40200000 ++ w32 0xC0200000 ++ zeros 12
/-- A stage module's record with one range of each kind. -/
def tStageRecord : List Byte :=
  tRecord 1 848 (w8 1 ++ w8 1 ++ w8 15 ++ w8 2 ++ w32 64 ++ w16 1 ++ zeros 2 ++ w32 1000 ++ w32 1000 ++ w32 0x3F800000 ++ zeros 40
    ++ tRangeBytes ++ zeros 200 ++ tRangeBytes ++ zeros 440)

/-- The result of a window: a write's data in the first one of its pair, what a read finds in the second (R498). -/
def tRes64 (win : Nat) : W64 × W64 := (BitVec.ofNat 64 win, BitVec.ofNat 64 (mxWindow 1 (win / 2 ^ 44) (mxData win)))
/-- The relay module as the windows of a discovery read its record. -/
def tRelayFound : RelayFound :=
  { record := (List.range 64).map (fun j => BitVec.ofNat 64 (mxWindow 1 j (leF 4 (tRelayRecord.drop (4 * j))))), wear := [], darn := [] }

/-- The bytes of sixteen read results from one on. -/
def tFoundBytes (k : Nat) : List Byte :=
  (List.range' (16 * k) 16).flatMap (fun j => w32 ((mxWord 0 tRelayFound.record j).getD 0))

theorem found_0 : tFoundBytes 0 = tRelayRecord.take 64 := by decide +kernel
theorem found_1 : tFoundBytes 1 = (tRelayRecord.drop 64).take 64 := by decide +kernel
theorem found_2 : tFoundBytes 2 = ((tRelayRecord.drop 64).drop 64).take 64 := by decide +kernel
theorem found_3 : tFoundBytes 3 = ((tRelayRecord.drop 64).drop 64).drop 64 := by decide +kernel

theorem relayBytes_found : relayBytes tRelayFound = (tRelayRecord, true) := by
  have hr : List.range 64 = List.range' (16 * 0) 16
    ++ (List.range' (16 * 1) 16 ++ (List.range' (16 * 2) 16 ++ List.range' (16 * 3) 16)) := by
    decide +kernel
  refine Prod.ext ?_ (by decide +kernel)
  show (List.range 64).flatMap (fun j => w32 ((mxWord 0 tRelayFound.record j).getD 0)) = tRelayRecord
  rw [hr]
  simp only [List.flatMap_append]
  change tFoundBytes 0 ++ (tFoundBytes 1 ++ (tFoundBytes 2 ++ tFoundBytes 3)) = _
  rw [found_0, found_1, found_2, found_3]
  simp only [List.take_append_drop]

theorem tRelayRecord_ok : recordOk tRelayRecord = true := by
  simp only [recordOk, crc32c_eq]
  decide +kernel
theorem tRelayRecord_block : relayBlockOk tRelayRecord = true := by decide +kernel
theorem tRelayRecord_kind : tDev.recordKind tRelayRecord 2 = true := by decide +kernel

theorem wit_WearDarningAndDiscovery_records :
    (tDev.relayBad 1 [tRelayFound]).isNone = true
      ∧ (tDev.relayBad 1 [{ record := [], wear := [], darn := [] }]).isSome = true := by
  refine ⟨?_, by decide +kernel⟩
  simp [Dev.relayBad, List.range_one, relayBytes_found, tRelayRecord_ok, tRelayRecord_block, tRelayRecord_kind]

theorem wit_WearDarningAndDiscovery :
    let dn := tMx (fun c => { c with mods := [tRelay (fun m => { m with darning := [(1, 3)] })] }) id
    let di := tDev.modChain 0 (fun c => { c with state := .discovering, begun := true })
    let m := tRelayFound
    let back := fun (g : Chain → Chain) => tMx (fun c => g { c with mods := [tRelay (fun m => { m with wear := [(0, 7)] })] }) id
    let w := back (fun c => { c with wbCmd := some 4 })
    let dw := (dn.rmod 0 0).darnWrite 3 1
    let echo := ({ di.chain 0 with mods := ([m].take 1).map relayOf } : Chain)
    allTrue [(w.chain 0).up, !((tDev.modChain 0 (fun c => { c with state := .failed })).chain 0).up, (w.chain 0).wbCmd != none,
      (w.chain 0).discCmd.isNone, (w.rmod 0 0).backOk ((w.rmod 0 0).backWrites.map tRes64), !(w.rmod 0 0).backOk [],
      ((back (fun c => { c with discCmd := some 4 })).chain 0).discCmd != none, ((back id).chain 0).update.isNone,
      ((back id).chain 0).wbCmd.isNone, !((back id).chain 0).wbWant, mxWriteOk dw (tRes64 dw), !mxWriteOk dw (0, 0),
      (di.chain 0).begun, echo.echoBad (echo.transfer [0]) == none, echo.echoBad [] == some 0,
      (dn.rmod 0 0).darning.find? (fun e => e.2 == 3) == some (1, 3), di.optM, (di.chain 0).state == .discovering,
      ([m] : List RelayFound)[0]? == some m] = true := by
  decide +kernel

theorem wit_ModuleAndAdminCommands :
    let d := { tDev with assign := { assignInit with chan := [(2, 1)] } }
    allTrue [tDev.runsNow cmdModInfo (tReq (zeros 4)), (tDev.stage 0).mstate == .valid, (tDev.stage 0).ident.isSome,
      tDev.runsNow cmdModInfo (tReq (w16 1 ++ zeros 2)), tDev.targetState 1 != .valid,
      tDev.runsNow cmdModRead (tReq (zeros 2 ++ w8 224 ++ zeros 5)), tDev.runsNow cmdModRescan (tReq (zeros 4)),
      tDev.runsNow cmdAdmAssign (tReq (w16 1 ++ zeros 2 ++ w64 4 ++ zeros 120)),
        d.runsNow cmdAdmRelease (tReq (w16 1 ++ zeros 2 ++ w64 4 ++ zeros 120)),
      tDev.runsNow cmdAdmFuncConfig (tReq (w16 1 ++ w8 3 ++ w8 7 ++ w16 255 ++ w8 8 ++ zeros 1 ++ w64 0)),
      tDev.runsNow cmdAdmChanPolicy (tReq (w64 1 ++ w8 2 ++ zeros 3)),
      tDev.runsNow cmdAdmTollgate (tReq ((List.range 7).flatMap (fun _ => w16 10) ++ zeros 2)),
      d.runsNow cmdAdmHold (tReq (w16 1 ++ w8 1 ++ zeros 1 ++ w64 4 ++ zeros 64)), tDev.runsNow cmdAdmQuery (tReq (w16 1 ++ zeros 2)),
      tDev.runsNow cmdAdmSessionReset (tReq (w16 1 ++ zeros 2))] = true := by decide +kernel

theorem wit_DiscoveryPolicyAndFunctionReset_records :
    recordOk tStageRecord = true ∧ recordOk tRelayRecord = true ∧ recordOk (tRecord 1 848 (zeros 784)) = true
      ∧ recordOk (zeros 848) = false := by
  simp only [recordOk, crc32c_eq]
  refine ⟨?_, ?_, ?_, ?_⟩ <;> decide +kernel

theorem wit_DiscoveryPolicyAndFunctionReset_block : stageBlockOk tStageRecord = true := by
  simp only [stageBlockOk, entriesOk, allZero, u16, u32, leN_eq]
  decide +kernel

theorem wit_DiscoveryPolicyAndFunctionReset :
    let di := tDev.modStage 0 (fun x => { x with mstate := .discovering, driven := true })
    let lv := fun (p : Nat) => { tDev with assign := { assignInit with leaving := [(2, 8)], policy := [(2, p)] } }
    let gl := { (tGang) with assign := { assignInit with leaving := [(1, 8)] } }
    let fl := fun (x : FlrStep) => ((tDevF 1 (fun r => { r with flr := x })).fn 1).flr == x
    let tu := fun (x : FlrStep) => (tDevF 1 (fun r => { r with flr := x })).flrTurn 1
    allTrue [(di.stage 0).mstate == .discovering, (di.stage 0).driven, decide (4 * 0 < di.nChan), di.recordKind tStageRecord 1,
      !di.recordKind tRelayRecord 1, !stageBlockOk (tRecord 1 848 (zeros 784)), di.recordKind (tRecord 1 848 (zeros 784)) 1,
      tblGet leavingInit (lv 0).assign.leaving 2 == 7 + 1, !(lv 0).follower 2, gl.follower 1, tblGet policyInit (lv 1).assign.policy 2 == 1,
      tblGet policyInit (lv 2).assign.policy 2 == 2, (tDev.fn 1).enabled, (tDev.fn 1).flr == .idle, (tDev.fn 0).enabled, fl .drain,
      !tDev.tg.running.any (fun r => r.job.f == 1 && r.silent && (r.job.op == 0x0805 || r.job.op == 0x0E06)),
      fl .completions, fl .resources, fl .finishing, tu .drain, tu .completions, tu .resources, tu .finishing,
      (tDevF 0 (fun r => { r with flr := .drain })).flrTurn 0, ((tDevF 0 (fun r => { r with flr := .drain })).fn 0).flr == .drain,
      (tDevF 0 (fun r => { r with flr := .drain })).fns.all (fun p => p.1 == 0 || p.2.flr == .idle)] = true := by decide +kernel

/-- The device in a phase of the start-up sequence of a scope. -/
def tPhase (p : Phase) (scope : Nat) : Dev := tDev.modSys (fun y => { y with phase := p, scope := scope, denrixGood := true })

/-- An option record with its CRC (R580). -/
def tOpt (o : OptRec) : List Byte :=
  let b := (optBytes o).take 252
  b ++ w32 (crcGo b 0xFFFFFFFF ^^^ 0xFFFFFFFF)
/-- A device with two option-record copies. -/
def tCopies (d : Dev) (a b : List Byte) : Dev := d.modStore (fun t => { t with copy0 := a, copy1 := b })

theorem wit_SystemCommands_store :
    let d := tCopies tDev (tOpt optFactory) (zeros 256)
    d.runsNow cmdSysOptWrite (tReq (w16 0x4F57 ++ zeros 2 ++ slice (tOpt optFactory) 32 220)) = true
      ∧ d.runsNow cmdSysFwCommit (tReq (w8 1 ++ w8 1 ++ zeros 2)) = true := by
  simp only [cmdSysOptWrite, cmdSysFwCommit, Store.seqFull, Store.newestOpt, optOk, crc32c_eq]
  constructor <;> decide +kernel

theorem wit_SystemCommands :
    let off := tDev.modSys (fun y => { y with power := 2 })
    let rom := tDev.modSys (fun y => { y with optDefaults := true })
    allTrue [tDev.runsNow cmdSysReset (tReq (w8 2 ++ zeros 1 ++ w16 0x5253)),
      tDev.runsNow cmdSysBlockReset (tReq (w8 5 ++ w8 15 ++ zeros 2 ++ w32 1)),
      tDev.runsNow cmdSysBlockReset (tReq (w8 3 ++ zeros 3 ++ w32 100000)), off.runsNow cmdSysPower (tReq (w8 3 ++ zeros 3)),
      tDev.runsNow cmdSysPower (tReq (w8 2 ++ zeros 3)), tDev.runsNow cmdSysOptRead (tReq (w8 2 ++ w8 1 ++ zeros 2)),
      tDev.runsNow cmdSysOptRead (tReq (zeros 4)), !tDev.sys.optDefaults, rom.runsNow cmdSysOptRead (tReq (zeros 4)), rom.sys.optDefaults,
      tDev.runsNow cmdSysFwLoad (tReq (w8 1 ++ zeros 3 ++ w32 65 ++ zeros 16)),
      tDev.runsNow cmdSysStoreStatus (tReq [])] = true := by decide +kernel

/-- Chain 0 with a count that is not written back; a write-back is asked for or not. -/
def tWb (want : Bool) : Dev := tMx (fun c => { c with wbWant := want, mods := [tRelay (fun m => { m with wear := [(0, 7)] })] }) id

theorem wit_ResetsAndPower :
    let sy := fun (g : SysCtl → SysCtl) => tDev.modSys g
    let loss := fun (e : Option Nat) => (sy (fun y => { y with seamLossAt := e })).modSeam (fun m => { m with up := false, lossAt := some 5 })
    let asleep := (sy (fun y => { y with power := 3, waking := some 1 }))
    let br := fun (b i : Nat) => (tDevRun [tRun 0x0E02 (tReq (w8 b ++ w8 i
      ++ zeros 6))]).modSys (fun y => { y with blockReset := [(16 * b + i, 1)] })
    allTrue [tDev.smbOn, tDev.sys.phase == .ready, (tPhase .loading 2).sys.phase == .loading, (tPhase .firmware 2).sys.phase != .ready,
      decide ((tPhase .firmware 2).sys.scope < 3), (loss none).seam.lossAt == some 5, !(loss none).seam.up,
        (loss none).sys.seamLossAt.isNone,
      (loss (some 9)).sys.seamLossAt == some 9, !(tPhase .held 1).mgmtUp, tDev.mgmtUp,
        (sy (fun y => { y with sysReset := some 1 })).sys.sysReset == some 1,
      (sy (fun y => { y with deepEntering := true })).sys.deepEntering, tDev.fab.routes.isEmpty,
      (tWb true).wbWaits, !(tWb false).wbWaits, !(sy (fun y => { y with deepEntering := true })).wbWaits,
      !((br 4 7).chain 7).wbWant, !((br 4 7).chain 7).mods.any RelayMod.dirty, ((tWb true).chain 0).mods.any RelayMod.dirty,
      (sy (fun y => { y with deepEntering := true, wakeLatched := some 4 })).sys.wakeLatched.isSome, !tDev.sys.deepEntering,
        (sy (fun y => { y with power := 3 })).sys.power == 3,
      (sy (fun y => { y with power := 3 })).sys.waking.isNone, asleep.sys.waking.isSome, asleep.seam.up, decide (asleep.sys.power = 3),
      (br 5 15).sys.blockReset.find? (fun p => p.1 == 16 * 5 + 15) == some (16 * 5 + 15, 0 + 1), ((br 5 15).running? 0).isSome,
      (br 5 15).blockIdle 5 15, (br 4 7).blockIdle 4 7, (br 3 0).blockIdle 3 0, ((br 1 0).running? 0).isSome] = true := by decide +kernel

theorem wit_StartUpSteps_copies :
    optOk (tOpt optFactory) = true ∧ optOk (tOpt { optFactory with seq := 2 }) = true ∧ optOk (zeros 256) = false := by
  simp only [optOk, crc32c_eq]
  refine ⟨?_, ?_, ?_⟩ <;> decide +kernel

theorem wit_StartUpSteps :
    let cp := tCopies (tPhase .loading 2)
    let good := tOpt optFactory
    let newer := tOpt { optFactory with seq := 2 }
    let d := cp good newer
    let bank := fun (a b : Bank) => (tPhase .firmware 2).modStore (fun t => { t with bankA := a, bankB := b })
    let ok : Bank := { bankFactory with version := 7 }
    let no : Bank := { ok with crcOk := false }
    allTrue [(tPhase .held 2).sys.phase == .held, (tPhase .held 2).sys.denrixGood, decide ((tPhase .held 2).sys.scope ≤ 2),
      d.sys.phase == .loading,
      decide ((optOf d.store.copy0).seq < (optOf d.store.copy1).seq),
      decide ((optOf (cp newer good).store.copy1).seq ≤ (optOf (cp newer good).store.copy0).seq),
      (tPhase (.releasing 4) 2).sys.phase == .releasing 4,
        !((tPhase (.releasing 4) 2).modSys (fun y => { y with eccDone := false })).sys.eccDone,
      ((tPhase (.releasing 4) 2).modSys (fun y => { y with eccDone := true })).sys.eccDone,
        (tPhase (.releasing 5) 3).sys.phase == .releasing 5,
      (tPhase .firmware 2).sys.phase == .firmware, (bank ok ok).bankOk 0, (bank ok ok).sys.opt.fwBank == 0, !(bank no ok).bankOk 0,
      (bank no ok).bankOk 1, !(bank no no).bankOk 1, (tPhase .starting 2).sys.phase == .starting,
      !(tPhase .starting 2).cal.runs.any (fun r => r.cmd.isNone), (tPhase .starting 3).sys.scope == 3] = true := by decide +kernel

/-- What a row of the MRAM reads stays open: each of the two cases of a read goes with its premise. -/
theorem wit_free_read (ok : Bool) (n : Nat) (h : ok = true) : (ok && !Config.freeFlag n) = !Config.freeFlag n := by simp [h]

theorem wit_SystemCommands_read :
    let d := tDev.modStore (fun t => { t with unread := 2 })
    let q := tReq (w8 2 ++ zeros 3)
    d.runsNow cmdSysOptRead q = true ∧ (d.store.unread.testBit (u8 (d.job 0x0E04 q).p 0 - 1) || Config.freeFlag d.freeCtr) = true
      ∧ tDev.store.unread.testBit (u8 (tDev.job 0x0E04 q).p 0 - 1) = false := by
  refine ⟨by decide +kernel, ?_, by decide +kernel⟩
  have h : (tDev.modStore (fun t => { t with unread := 2 })).store.unread.testBit
      (u8 ((tDev.modStore (fun t => { t with unread := 2 })).job 0x0E04 (tReq (w8 2 ++ zeros 3))).p 0 - 1) = true := by decide +kernel
  simp only [h, Bool.true_or]

/-- A log entry of a corrected memory error. -/
def tLog : LogEntry :=
  { timeNs := 0, epoch := 0, subsys := 20, severity := 0, code := 0x0101, count := 1, rkind := 0, eflags := 0, lastDt := 0,
    rindex := 0xFFFF, detail := 0,
    firstPs := 0, final_ := false }
/-- The device with the log's fields changed. -/
def tLogDev (g : Log → Log) : Dev := tDev.modLog g

theorem wit_IntegrityLogAndLink :
    let e : LogEntry := { tLog with rkind := kSramCorrected.rkind, rindex := kSramCorrected.rindex, subsys := kSramCorrected.subsys,
                                    severity := kSramCorrected.severity, code := kSramCorrected.code }
    let one := tLogDev (fun l => { l with fifo := [e] })
    let full := tLogDev (fun l => { l with fifo := List.replicate 64 { e with final_ := true } })
    let ring := tLogDev (fun l => { l with ring := [(0, some e)], head := 1, pos := 1 })
    let row := fun (n : Nat) => tLogDev (fun l => { l with row := List.replicate n e, rowAt := some 5 })
    let comp : Computed := { st := [], out := 0, sat := false, limit := false }
    allTrue [decide (one.log.fifo.length ≤ 64), one.log.fifo.any (fun e => e.same kSramCorrected one.now),
      !full.log.fifo.any (fun e => e.same kSramCorrected full.now), decide (64 ≤ full.log.fifo.length), full.log.ring.isEmpty,
      tDev.log.fifo.isEmpty, one.log.fifo == e :: [], openEntry ring.ringOrder == some (0, e), (row 1).log.rowAt == some 5,
      decide ((row 32).log.row ≠ [] ∧ (row 32).log.row.length ≤ 32), !tDev.vFetched 7,
      (tPlay .playing (fun y => { y with pf := [7] })).vFetched 7, tDev.sys.denrixGood,
      !({ tDev with sys := { tDev.sys with denrixGood := false } } : Dev).sys.denrixGood,
      (({ tDev with engines := [(3, { engInit 3 with next := some comp })] } : Dev).eng 3).next.isSome,
        ((tMx id id).chain 0).state == .ready,
      ((tMx id id).chain 0).discCmd.isNone, (tDev.fn 1).enabled, (tDev.fn 1).flr == .idle, decide (2 < tDev.nChan),
        tDev.sys.phase == .ready,
      decide ((tPhase .held 2).sys.scope ≤ 2), (tPhase .held 2).sys.phase == .held, tDev.link.up, decide (63 < vecCount 0),
      !({ tDev with link := { tDev.link with vfEnable := false } } : Dev).link.vfEnable, decide (1 ≤ min tDev.link.numVfs tDev.totalVfs),
      tDev.sys.opt.jtag != 0, (tDev.modSys (fun y => { y with opt := { y.opt with jtag := 0 } })).sys.opt.jtag == 0,
      tDev.routed 0, tDev.routed 1, !(tDev.link.up && (tDev.fn 2).enabled && tDev.routed 2), tDev.sys.opt.jtag != 0,
      !tDev.sys.perst, (tDev.modSys (fun y => { y with perst := true })).sys.perst] = true := by decide +kernel


/-! ### What the spec's worked examples give -/

/-- Chapter 21: the check value of CRC-32C. -/
theorem test_crc_check_value :
    (crc32c ([0x31, 0x32, 0x33, 0x34, 0x35, 0x36, 0x37, 0x38, 0x39] : List Byte)).toNat = 0xE3069283 := by
  rw [crc32c_eq]; decide +kernel

/-- Chapter 4, the gate-leakage point: a compliance moved to the range above, and to one where it falls below its minimum. -/
theorem test_compliance_rescaled :
    rescaleVal ⟨1, 10⟩ 0x06666666 = 0x00A3D70A ∧ rescaleVal ⟨1, 1000⟩ 0x06666666 = 107374 ∧ compOk 107374 = false := by decide +kernel

/-- Chapter 5: the image of the worked example. -/
def tImage : List Byte :=
  w32 0x08010001 ++ zeros 4 ++ w32 0xC0000000 ++ w32 0x40000000 ++ w32 0x2411C2A0 ++ w32 6 ++ w32 0xBBC15364 ++ w32 6
    ++ w32 0x2038194C ++ w32 6 ++ w32 0xAAAAAAAB ++ w32 6 ++ w32 0x15555555 ++ w32 6 ++ zeros (0x168 - 0x38)
    ++ w32 0x10000000 ++ w32 6 ++ zeros 12 ++ w32 0x27F3D08B
theorem test_image_sum : tImage.length = 384 ∧ imgSum tImage = 0 ∧ imgCheck tImage = none := by decide +kernel
theorem test_image_cycles : imgCycles tImage 1 false = 24 ∧ (parseImg tImage).secs.map (fun q => q.a1.c) = [-1431655765] := by
  decide +kernel
/-- b0 times the input, 0.563584 of it, and the first state from b1 and a1 (R168 to R171). -/
theorem test_engine_first_period :
    let r := enginePeriod (parseImg tImage) statesZero 0 0x00800000 0 0 0 0
    r.out = 0x00482385 ∧ r.sat = false ∧ r.limit = false := by decide +kernel

/-- Chapter 7: a ±5 V span, STEP 0x40000, DIV 1. -/
theorem test_slew_first_step :
    slewStep 3 0x40000 1 0x200000 0 0 = (0x40000, true, 0) ∧ dacCode 3 0x40000 = 0x88000 := by decide +kernel
theorem test_slew_last_step : (slewStep 3 0x40000 1 0x200000 0x1C0000 0).1 = 0x200000 ∧
    (slewStep 3 0x40000 1 0x200000 0x1C0000 0).2.1 = false ∧ dacCode 3 0x200000 = 0xC0000 := by decide +kernel
/-- Chapter 7: one line cycle of 60 Hz at D = 16 and D = 400, and of 50 Hz at D = 400. -/
theorem test_line_cycle : linePeriods 16 1 60000 = (41667, 43691) ∧ linePeriods 400 1 60000 = (1667, 43691)
    ∧ linePeriods 400 1 50000 = (2000, 65536) := by decide +kernel

/-- Chapter 8: entry 0 of the threshold search. -/
theorem test_sweep_entry :
    let b : List Byte := [0x66, 0x66, 0x66, 0x06, 0x66, 0x66, 0x66, 0x06, 0x0F, 0x0F, 0x20, 0x02, 0xD0, 0x07, 0x00, 0x00,
                          0xA0, 0x0F, 0x00, 0x00, 0x00, 0x00, 0x01, 0x00] ++ zeros 8
    let e := parseEntry b
    allTrue [e.setpoint == 0x06666666, e.comp == 0x06666666, e.frange == 15, e.mrange == 15, e.mode == 0x0220, e.kind == 0,
      e.delay == 2000, e.aperture == 4000, e.repeat_ == 1, boxPeriods 16 e.aperture == 250] = true := by decide +kernel

/-- Chapter 9: the CAP_START record of the pretrigger capture. -/
theorem test_capture_record :
    recBytes { timeNs := 5000300000, frac := 0, chan := 5, epoch := 0, type_ := 3, seq := 0, v := 750, i := 6144, idx := 0,
               flags := 0x00320020, stream := 0, ring := 2, slots := 0, diffs := [], at_ := 0, inst := 0 }
      = ([0xE0, 0x85, 0x0A, 0x2A, 1, 0, 0, 0, 0, 5, 0, 0, 3, 0, 0, 0, 0xEE, 2, 0, 0, 0, 0x18, 0, 0, 0, 0, 0, 0, 0x20, 0, 0x32, 0]
          : List Byte) := by decide +kernel

/-- Chapter 13: word 0x6001 of the counter carry check. -/
def tVecWord : List Byte :=
  ([0xE8, 0xDA, 0xB6] : List Byte) ++ (List.replicate 15 ([0x6D, 0xDB, 0xB6] : List Byte)).flatten ++ w8 2 ++ w8 0 ++ w16 1 ++ zeros 12
theorem test_vector_word : tVecWord.length = 64 ∧ wordCheck tVecWord = none
    ∧ (List.range 4).map (pinCode (leN tVecWord 0 48)) = [0, 5, 3, 5] := by decide +kernel
theorem test_vector_word_bad_opcode : wordCheck (tVecWord.set 48 (5 : Byte)) = some 2 := by decide +kernel

/-- Chapter 16: T_shift of a chain of four modules of 512 crosspoints. -/
theorem test_chain_shift :
    let m : RelayMod := { serial := [], model := [], hwRev := 1, nxp := 512, rated := 1000000, tRelNs := 300000, tOpNs := 600000,
                          map := [], wear := [], saved := [], wearAt := 64, darnAt := 128, darns := [], outOfService := [],
                          retired := 0, warn := 0, suspect := false,
                          drive := 0, darning := [], writes := [] }
    ({ chainInit 0 with mods := [m, m, m, m] } : Chain).shiftPs = 43520000 := by decide +kernel

/-- Chapter 17: the voltage-range entry at 0x0D0. -/
theorem test_range_entry :
    let e : List Byte := [0x00, 0x00, 0x20, 0x41, 0x03, 0x00, 0x04, 0x00, 0x80, 0x38, 0x01, 0x00, 0x00, 0x00, 0x80, 0x3F,
                          0x00, 0x00, 0x00, 0x40, 0x00, 0x00, 0x30, 0x41, 0x00, 0x00, 0x30, 0xC1] ++ zeros 12
    let r := rangeAt (zeros 0x0D0 ++ e) false 2
    allTrue [thrCode r r.limHi == 1100, thrCode r r.limLo == -1100, nominalRg r == 0x418937, r.bipolar, r.calPath, !r.calValid,
      r.settleNs == 80000] = true := by decide +kernel

/-- Chapter 3: SESSION_INFO's reply to VF 300, from 0x0110 on. -/
theorem test_session_info_reply :
    let d : Dev := { tDev with fns := [(0, tFn 0), (300, { tFn 300 with cls := 3, ringCount := 2 })],
                               sys := { tDev.sys with fwVersion := 0x02030417,
                                                      opt := { optFactory with channels := 64, options := 15, grade := 1 } } }
    (match (cmdSessionInfo.body d (d.jobOf 0x0101 (tReqOf 300 []))).2 with
     | .done st p => (st, p)
     | _ => (1, [])) = (0, w32 0x012C0100 ++ w32 0x02030417 ++ w32 0x001F40B1 ++ w32 0x00400020 ++ w32 0x00000203) := by decide +kernel
end Sys2Proof.Machine
end

section
/-! The host's writes to BAR0: what a write that reaches a function does, and what it does register by register
(spec/02_host_link.md, R17, R18, R61, R538). -/

namespace Sys2Proof.Machine

/-! ### A write that reaches BAR0 (R538, R573) -/

/-- Two changes that agree at the device agree. -/
theorem State.on_congr {s : State} {g h : Dev → Dev} (e : g s.dev = h s.dev) : s.on g = s.on h := by
  unfold State.on; rw [e]

/-- A change that leaves the device leaves the state. -/
theorem State.on_of_fixed {s : State} {g : Dev → Dev} (e : g s.dev = s.dev) : s.on g = s := by
  unfold State.on; rw [e]

theorem Dev.modFn_congr {d : Dev} {f : Nat} {g h : Fn → Fn} (e : g (d.fn f) = h (d.fn f)) : d.modFn f g = d.modFn f h := by
  unfold Dev.modFn; rw [e]

theorem Dev.wakeBy_of_awake {d : Dev} (ha : d.awake) (code : Nat) : d.wakeBy code = d := by
  obtain ⟨hpower, hentering⟩ := ha
  simp [Dev.wakeBy, hpower, hentering]

theorem Dev.bar_of_awake {d : Dev} {f : Nat} (ha : d.awake) (hr : d.reachable f = true) (g : Dev → Dev) : d.bar f g = g d := by
  rw [Dev.bar, if_pos hr, Dev.wakeBy_of_awake ha]

theorem Dev.bar_of_unreachable {d : Dev} {f : Nat} (hr : d.reachable f = false) (g : Dev → Dev) : d.bar f g = d := by
  simp [Dev.bar, hr]

theorem State.on_bar_of_awake {s : State} {f : Nat} (ha : s.dev.awake) (hr : s.dev.reachable f = true) (g : Dev → Dev) :
    s.on (fun d => d.bar f g) = s.on g :=
  State.on_congr (Dev.bar_of_awake ha hr g)

theorem State.on_bar_of_unreachable {s : State} {f : Nat} (hr : s.dev.reachable f = false) (g : Dev → Dev) :
    s.on (fun d => d.bar f g) = s :=
  State.on_of_fixed (Dev.bar_of_unreachable hr g)

theorem Dev.bar_id_of_awake {d : Dev} (ha : d.awake) (f : Nat) : d.bar f id = d := by
  cases hr : d.reachable f with
  | false => exact Dev.bar_of_unreachable hr id
  | true => exact Dev.bar_of_awake ha hr id

/-! ### Accesses of another size or alignment (R17) -/

theorem exec_registerAccessBadSize (fn : FnId) (off : W16) (size : Nat) (write : Bool) {s : State}
    (he : (s.dev.fn fn.val).enabled = true) :
    exec (.registerAccessBadSize fn off size write) s =
      .next (s.on (fun d => if write then d.bar fn.val id else { d with readData := 0xFFFFFFFF#32 })) :=
  congrArg _ (State.on_congr (by simp [he]))

/-- Settles O7: on an awake device the one effect of a write, the wake, is none, and a read sets its result alone. -/
theorem badSizeAccessReadsAllOnes : Obligations.BadSizeAccessReadsAllOnes := by
  intro fn off size s he ha
  constructor
  · rw [exec_registerAccessBadSize fn off size true he]
    exact congrArg _ (State.on_of_fixed (Dev.bar_id_of_awake ha fn.val))
  · exact exec_registerAccessBadSize fn off size false he

/-! ### REGISTER_WRITE: the row it is, or the plain write of its offset (R60, R61) -/

theorem exec_registerWrite (fn : FnId) (off : W16) (val tie : W32) (s : State) :
    exec (.registerWrite fn off ⟨val, tie⟩) s =
      .next (s.on (fun d => d.bar fn.val (fun d => d.regWrite fn off.toNat val tie))) := rfl

theorem exec_registerWrite_of_awake {fn : FnId} {s : State} (ha : s.dev.awake) (hr : s.dev.reachable fn.val = true) (off : W16)
    (val tie : W32) :
    exec (.registerWrite fn off ⟨val, tie⟩) s = .next (s.on (fun d => d.regWrite fn off.toNat val tie)) := by
  rw [exec_registerWrite, State.on_bar_of_awake ha hr]

theorem exec_registerWrite_of_unreachable {fn : FnId} {s : State} (hr : s.dev.reachable fn.val = false) (off : W16)
    (val tie : W32) : exec (.registerWrite fn off ⟨val, tie⟩) s = .next s := by
  rw [exec_registerWrite, State.on_bar_of_unreachable hr]

/-- A write whose effect on every device is `g` is the row that has the effect `g`. -/
theorem exec_registerWrite_eq_bar {fn : FnId} {off : W16} {val tie : W32} {g : Dev → Dev}
    (h : ∀ d : Dev, d.regWrite fn off.toNat val tie = g d) (s : State) :
    exec (.registerWrite fn off ⟨val, tie⟩) s = .next (s.on (fun d => d.bar fn.val g)) := by
  rw [exec_registerWrite, funext h]

/-- The offsets of the single registers whose write is a row of its own (R60). -/
def rowOffsets : List Nat := [0x200, 0x204, 0x308, 0x30C, 0x400, 0x500, 0x504]

/-- An aligned offset past the windows that is neither one of those nor a RING_TAIL: its access code gives its write. -/
def PlainOffset (off : Nat) : Prop :=
  off % 4 = 0 ∧ 0x200 ≤ off ∧ off ∉ rowOffsets ∧ ¬ (0x1000 ≤ off ∧ off < 0x1080 ∧ off % 16 = 4)

theorem plainOffset_of_gt {off : Nat} (halign : off % 4 = 0) (hgt : 0x504 < off)
    (htail : ¬ (0x1000 ≤ off ∧ off < 0x1080 ∧ off % 16 = 4)) : PlainOffset off := by
  refine ⟨halign, by omega, ?_, htail⟩
  simp only [rowOffsets, List.mem_cons, List.not_mem_nil, or_false]
  omega

theorem Dev.regWrite_plain (d : Dev) (fn : FnId) {off : Nat} (val tie : W32) (h : PlainOffset off) :
    d.regWrite fn off val tie = d.writePlain fn.val off val tie := by
  obtain ⟨halign, hwin, hrow, htail⟩ := h
  simp only [rowOffsets, List.mem_cons, List.not_mem_nil, or_false, not_or] at hrow
  obtain ⟨hsubmit, hstatus, hcfg, hctail, hfire, hcause, hmask⟩ := hrow
  have hreq : ¬ off < 0x100 := by omega
  have hrep : ¬ off < 0x200 := by omega
  simp only [Dev.regWrite]
  simp [halign, hreq, hrep, hsubmit, hstatus, hcfg, hctail, hfire, hcause, hmask, htail, and_assoc]

/-- An unaligned offset and the reply window take no write (R17, R100). -/
theorem Dev.regWrite_ignored (d : Dev) (fn : FnId) {off : Nat} (val tie : W32)
    (h : off % 4 ≠ 0 ∨ (0x100 ≤ off ∧ off < 0x200)) : d.regWrite fn off val tie = d := by
  unfold Dev.regWrite
  by_cases halign : off % 4 = 0
  · obtain ⟨hlo, hhi⟩ := h.resolve_left (not_not_intro halign)
    simp [halign, Nat.not_lt.mpr hlo, hhi]
  · simp [halign]

theorem Dev.regWrite_requestWindow (d : Dev) (fn : FnId) (w : Fin 64) (val tie : W32) :
    d.regWrite fn (4 * w.val) val tie = d.writeReqWin fn.val w.val val := by
  have hlt : 4 * w.val < 0x100 := by omega
  simp [Dev.regWrite, hlt]

/-- RING_TAIL of a ring lies past every window and every single register. -/
theorem Dev.regWrite_ringTail (d : Dev) (fn : FnId) (r : RingId) (val tie : W32) :
    d.regWrite fn (0x1004 + 16 * r.val) val tie = d.ringTail fn.val r.val val := by
  have hring : (0x1004 + 16 * r.val - 0x1000) / 16 = r.val := by omega
  unfold Dev.regWrite
  iterate 10 rw [if_neg (by omega)]
  rw [if_pos (by simp; omega), hring]

/-! ### The plain writes (R18, R70, R83, R88) -/

theorem w1c_getLsbD (val tie : W32) {b : Nat} (hb : b < 32) :
    (w1c val tie).getLsbD b = (val.getLsbD b && !tie.getLsbD b) := by
  simp [w1c, hb]

theorem Dev.writePlain_baseLo (d : Dev) (f : Nat) (val tie : W32) :
    d.writePlain f 0x300 val tie = d.modFn f (fun r =>
      if r.cmdr.enable then r else { r with cmdr := { r.cmdr with baseLo := val &&& 0xFFFFF000#32 } }) := rfl

theorem Dev.writePlain_baseHi (d : Dev) (f : Nat) (val tie : W32) :
    d.writePlain f 0x304 val tie = d.modFn f (fun r =>
      if r.cmdr.enable then r else { r with cmdr := { r.cmdr with baseHi := val } }) := rfl

/-- A disabled ring takes the write of its base, an enabled one does not (R66). -/
theorem Dev.modFn_of_ringDisabled {d : Dev} {f : Nat} (hen : (d.fn f).cmdr.enable = false) (g : Fn → Fn) :
    d.modFn f (fun r => if r.cmdr.enable then r else g r) = d.modFn f (fun _ => g (d.fn f)) :=
  Dev.modFn_congr (if_neg (by simp [hen]))

theorem Dev.modFn_of_ringEnabled {d : Dev} {f : Nat} (hen : (d.fn f).cmdr.enable = true) (g : Fn → Fn) :
    d.modFn f (fun r => if r.cmdr.enable then r else g r) = d.modFn f (fun _ => d.fn f) :=
  Dev.modFn_congr (if_pos hen)

theorem Dev.writePlain_cmdrStat (d : Dev) (f : Nat) (val tie : W32) :
    d.writePlain f 0x314 val tie = d.modFn f (fun r => { r with cmdr := { r.cmdr with
      cfgErr := r.cmdr.cfgErr && !(val.getLsbD 1 && !tie.getLsbD 1),
      tailErr := r.cmdr.tailErr && !(val.getLsbD 2 && !tie.getLsbD 2),
      fetchErr := r.cmdr.fetchErr && !(val.getLsbD 3 && !tie.getLsbD 3) } }) := by
  rw [← w1c_getLsbD val tie (b := 1) (by decide), ← w1c_getLsbD val tie (b := 2) (by decide),
    ← w1c_getLsbD val tie (b := 3) (by decide)]
  rfl

theorem Dev.writePlain_irqMod (d : Dev) {f v : Nat} (hv : v < vecCount f) (val tie : W32) :
    d.writePlain f (0x540 + 4 * v) val tie = d.modFn f (fun r => r.modVec v (fun x =>
      { x with holdoff := val.setWidth 16, countReg := BitVec.ofNat 8 (val.toNat / 65536) })) := by
  have hbound : v < 64 ∧ (f ≠ 0 → v < 8) := by unfold vecCount at hv; split at hv <;> omega
  obtain ⟨hmax, hvf⟩ := hbound
  have hvec : (0x540 + 4 * v - 0x540) / 4 = v := by omega
  simp only [Dev.writePlain, hvec]
  iterate 3 rw [if_neg (by omega)]
  rw [if_pos (by simp; omega), if_neg (by simpa using hvf)]

theorem Dev.writePlain_ringStat (d : Dev) (f : Nat) (r : RingId) (val tie : W32) :
    d.writePlain f (0x1008 + 16 * r.val) val tie = d.modFn f (fun x => x.modRing r.val (fun g => { g with
      wmarkHit := g.wmarkHit && !(val.getLsbD 2 && !tie.getLsbD 2),
      tailErr := g.tailErr && !(val.getLsbD 3 && !tie.getLsbD 3) })) := by
  have hring : (0x1008 + 16 * r.val - 0x1000) / 16 = r.val := by omega
  rw [← w1c_getLsbD val tie (b := 2) (by decide), ← w1c_getLsbD val tie (b := 3) (by decide)]
  simp only [Dev.writePlain, hring]
  iterate 3 rw [if_neg (by omega)]
  rw [if_neg (by simp; omega), if_pos (by simp; omega)]

theorem Dev.writePlain_gstatChg (d : Dev) {f : Nat} (hf : f = 0) (val tie : W32) :
    d.writePlain f 0x2004 val tie = d.modSys (fun y => { y with
      gstatChg := Nat.xor y.gstatChg (y.gstatChg &&& ((w1c val tie).toNat % 4096)) }) := by
  subst hf; rfl

theorem Dev.writePlain_elogTail (d : Dev) {f : Nat} (hf : f = 0) (val tie : W32) :
    d.writePlain f 0x3004 val tie = d.modLog (fun l => { l with tail := val.toNat % 512 }) := by
  subst hf; rfl

theorem Dev.writePlain_bkup (d : Dev) {f : Nat} (hf : f = 0) (i : Fin 32) (val tie : W32) :
    d.writePlain f (0x8000 + 4 * i.val) val tie =
      if i.val < 24 then d.modSys (fun y => { y with bkup := tblSet (fun _ => 0) y.bkup i.val val }) else d := by
  have hword : (0x8000 + 4 * i.val - 0x8000) / 4 = i.val := by omega
  have hbacked : (0x8000 ≤ 0x8000 + 4 * i.val && 0x8000 + 4 * i.val < 0x8060) = decide (i.val < 24) := by
    rw [Bool.eq_iff_iff]; simp; omega
  simp only [Dev.writePlain, hword]
  iterate 3 rw [if_neg (by omega)]
  iterate 2 rw [if_neg (by simp; omega)]
  iterate 3 rw [if_neg (by omega)]
  simp only [hbacked, decide_eq_true_eq]

/-- A bit of a W1C register after the bits of `m` were cleared. -/
theorem testBit_xor_and (a m b : Nat) : (Nat.xor a (a &&& m)).testBit b = (a.testBit b && !m.testBit b) := by
  change (a ^^^ (a &&& m)).testBit b = _
  rw [Nat.testBit_xor, Nat.testBit_and]
  cases a.testBit b <;> simp

theorem w1c_low_testBit (val tie : W32) (b : Nat) :
    ((w1c val tie).toNat % 4096).testBit b = (decide (b < 12) && val.getLsbD b && !tie.getLsbD b) := by
  rw [show 4096 = 2 ^ 12 from rfl, Nat.testBit_mod_two_pow, BitVec.testBit_toNat]
  by_cases hb : b < 12
  · rw [w1c_getLsbD val tie (by omega), Bool.and_assoc]
  · simp [hb]

/-! ### What a host's write does, register by register -/

section
variable {fn : FnId} {s : State} (ha : s.dev.awake) (hr : s.dev.reachable fn.val = true)
include ha hr

/-- The write of a plain offset that has the effect `g` has that effect on the machine and no other. -/
theorem exec_registerWrite_plain {off : Nat} {val tie : W32} {g : Dev → Dev} (hlt : off < 2 ^ 16) (hp : PlainOffset off)
    (hg : ∀ d : Dev, d.writePlain fn.val off val tie = g d) :
    exec (.registerWrite fn (BitVec.ofNat 16 off) ⟨val, tie⟩) s = .next (s.on g) := by
  rw [exec_registerWrite_of_awake ha hr, BitVec.toNat_ofNat, Nat.mod_eq_of_lt hlt]
  exact congrArg _ (State.on_congr ((Dev.regWrite_plain s.dev fn val tie hp).trans (hg s.dev)))

theorem exec_registerWrite_ignored {off : W16} (h : off.toNat % 4 ≠ 0 ∨ (0x100 ≤ off.toNat ∧ off.toNat < 0x200))
    (val tie : W32) : exec (.registerWrite fn off ⟨val, tie⟩) s = .next s := by
  rw [exec_registerWrite_of_awake ha hr, State.on_of_fixed (Dev.regWrite_ignored s.dev fn val tie h)]

theorem exec_registerWrite_irqMod (v : Fin 64) (hv : v.val < vecCount fn.val) (val tie : W32) :
    exec (.registerWrite fn (BitVec.ofNat 16 (0x540 + 4 * v.val)) ⟨val, tie⟩) s = .next (s.on (fun d => d.modFn fn.val (fun r =>
      r.modVec v.val (fun x => { x with holdoff := val.setWidth 16, countReg := BitVec.ofNat 8 (val.toNat / 65536) })))) :=
  exec_registerWrite_plain ha hr (by omega) (plainOffset_of_gt (by omega) (by omega) (by omega))
    (fun d => Dev.writePlain_irqMod d hv val tie)

theorem exec_registerWrite_baseLo (val tie : W32) :
    exec (.registerWrite fn 0x300 ⟨val, tie⟩) s = .next (s.on (fun d => d.modFn fn.val (fun r =>
      if r.cmdr.enable then r else { r with cmdr := { r.cmdr with baseLo := val &&& 0xFFFFF000#32 } }))) :=
  exec_registerWrite_plain ha hr (by decide) (by unfold PlainOffset; decide) (fun d => Dev.writePlain_baseLo d fn.val val tie)

theorem exec_registerWrite_baseHi (val tie : W32) :
    exec (.registerWrite fn 0x304 ⟨val, tie⟩) s = .next (s.on (fun d => d.modFn fn.val (fun r =>
      if r.cmdr.enable then r else { r with cmdr := { r.cmdr with baseHi := val } }))) :=
  exec_registerWrite_plain ha hr (by decide) (by unfold PlainOffset; decide) (fun d => Dev.writePlain_baseHi d fn.val val tie)

/-- While the ring is enabled its base takes no write (R66). -/
theorem exec_registerWrite_base_of_enabled (hen : (s.dev.fn fn.val).cmdr.enable = true) (val tie : W32) :
    ∀ off ∈ [0x300#16, 0x304#16],
      exec (.registerWrite fn off ⟨val, tie⟩) s = .next (s.on (fun d => d.modFn fn.val (fun _ => d.fn fn.val))) := by
  simp only [List.forall_mem_cons, List.not_mem_nil, false_imp_iff, implies_true, and_true]
  constructor
  · exact (exec_registerWrite_baseLo ha hr val tie).trans (congrArg _ (State.on_congr (Dev.modFn_of_ringEnabled hen _)))
  · exact (exec_registerWrite_baseHi ha hr val tie).trans (congrArg _ (State.on_congr (Dev.modFn_of_ringEnabled hen _)))

theorem exec_registerWrite_cmdrStat (val tie : W32) :
    exec (.registerWrite fn 0x314 ⟨val, tie⟩) s = .next (s.on (fun d => d.modFn fn.val (fun r => { r with cmdr := { r.cmdr with
      cfgErr := r.cmdr.cfgErr && !(val.getLsbD 1 && !tie.getLsbD 1),
      tailErr := r.cmdr.tailErr && !(val.getLsbD 2 && !tie.getLsbD 2),
      fetchErr := r.cmdr.fetchErr && !(val.getLsbD 3 && !tie.getLsbD 3) } }))) :=
  exec_registerWrite_plain ha hr (by decide) (by unfold PlainOffset; decide) (fun d => Dev.writePlain_cmdrStat d fn.val val tie)

theorem exec_registerWrite_ringStat (r : RingId) (val tie : W32) :
    exec (.registerWrite fn (BitVec.ofNat 16 (0x1008 + 16 * r.val)) ⟨val, tie⟩) s =
      .next (s.on (fun d => d.modFn fn.val (fun x => x.modRing r.val (fun g => { g with
        wmarkHit := g.wmarkHit && !(val.getLsbD 2 && !tie.getLsbD 2),
        tailErr := g.tailErr && !(val.getLsbD 3 && !tie.getLsbD 3) })))) :=
  exec_registerWrite_plain ha hr (by omega) (plainOffset_of_gt (by omega) (by omega) (by omega))
    (fun d => Dev.writePlain_ringStat d fn.val r val tie)

theorem exec_registerWrite_gstatChg (h0 : fn.val = 0) (val tie : W32) :
    exec (.registerWrite fn 0x2004 ⟨val, tie⟩) s = .next (s.on (fun d => d.modSys (fun y => { y with
      gstatChg := Nat.xor y.gstatChg (y.gstatChg &&& ((w1c val tie).toNat % 4096)) }))) :=
  exec_registerWrite_plain ha hr (by decide) (by unfold PlainOffset; decide) (fun d => Dev.writePlain_gstatChg d h0 val tie)

theorem exec_registerWrite_elogTail (h0 : fn.val = 0) (val tie : W32) :
    exec (.registerWrite fn 0x3004 ⟨val, tie⟩) s =
      .next (s.on (fun d => d.modLog (fun l => { l with tail := val.toNat % 512 }))) :=
  exec_registerWrite_plain ha hr (by decide) (by unfold PlainOffset; decide) (fun d => Dev.writePlain_elogTail d h0 val tie)

theorem exec_registerWrite_bkup (h0 : fn.val = 0) (i : Fin 32) (val tie : W32) :
    exec (.registerWrite fn (BitVec.ofNat 16 (0x8000 + 4 * i.val)) ⟨val, tie⟩) s =
      if i.val < 24 then .next (s.on (fun d => d.modSys (fun y => { y with bkup := tblSet (fun _ => 0) y.bkup i.val val })))
      else .next s := by
  rw [exec_registerWrite_plain ha hr (by omega) (plainOffset_of_gt (by omega) (by omega) (by omega))
    (fun d => Dev.writePlain_bkup d h0 i val tie)]
  split
  · rfl
  · rfl

end

theorem exec_registerWrite_requestWindow (fn : FnId) (w : Fin 64) (val tie : W32) (s : State) :
    exec (.registerWrite fn (BitVec.ofNat 16 (4 * w.val)) ⟨val, tie⟩) s = exec (.requestWindowWrite fn w val) s := by
  refine exec_registerWrite_eq_bar (fun d => ?_) s
  rw [BitVec.toNat_ofNat, Nat.mod_eq_of_lt (by omega)]
  exact Dev.regWrite_requestWindow d fn w val tie

theorem exec_registerWrite_ringTail (fn : FnId) (r : RingId) (val tie : W32) (s : State) :
    exec (.registerWrite fn (BitVec.ofNat 16 (0x1004 + 16 * r.val)) ⟨val, tie⟩) s = exec (.ringTailWrite fn r val) s := by
  refine exec_registerWrite_eq_bar (fun d => ?_) s
  rw [BitVec.toNat_ofNat, Nat.mod_eq_of_lt (by omega)]
  exact Dev.regWrite_ringTail d fn r val tie

/-- Settles O9: the unreachable function first, then the plain offsets one register at a time, then the offsets that are
rows of their own. -/
theorem registerWriteSetsItsField : Obligations.RegisterWriteSetsItsField := by
  intro fn val tie s
  refine ⟨fun hr off => exec_registerWrite_of_unreachable hr off val tie, fun ha hr => ?_⟩
  refine ⟨fun v hv => exec_registerWrite_irqMod ha hr v hv val tie, fun hen => ⟨?baseLo, ?baseHi⟩,
    fun hen => exec_registerWrite_base_of_enabled ha hr hen val tie, exec_registerWrite_cmdrStat ha hr val tie,
    fun r => exec_registerWrite_ringStat ha hr r val tie,
    fun h0 => ⟨?gstatChg, exec_registerWrite_elogTail ha hr h0 val tie, fun i => exec_registerWrite_bkup ha hr h0 i val tie⟩,
    fun off h => exec_registerWrite_ignored ha hr h val tie, ?_, ?_, ?_, ?_, ?_, ?_, ?_,
    fun w => exec_registerWrite_requestWindow fn w val tie s, fun r => exec_registerWrite_ringTail fn r val tie s⟩
  case baseLo => exact ⟨_, exec_registerWrite_baseLo ha hr val tie, rfl, (State.on_dev _ _).trans (Dev.modFn_of_ringDisabled hen _)⟩
  case baseHi => exact ⟨_, exec_registerWrite_baseHi ha hr val tie, rfl, (State.on_dev _ _).trans (Dev.modFn_of_ringDisabled hen _)⟩
  case gstatChg =>
    refine ⟨_, exec_registerWrite_gstatChg ha hr h0 val tie, rfl, rfl, rfl, fun b => ?_⟩
    exact (testBit_xor_and ..).trans (by rw [w1c_low_testBit])
  all_goals exact exec_registerWrite_eq_bar (fun _ => rfl) s

end Sys2Proof.Machine
end

section
/-! Which rows write host memory (R103, R331). -/

namespace Sys2Proof.Machine

/-- A row that sends no memory write is a change of the device alone, one and the same for every state. -/
theorem exec_eq_on {i : Instr} (hring : ∀ fn entry, i ≠ .ringReplyWrite fn entry)
    (hblock : ∀ fn ring, i ≠ .blockWrite fn ring) :
    ∃ g : Dev → Dev, ∀ s : State, exec i s = .next (s.on g) := by
  cases i with
  | ringReplyWrite fn entry => exact absurd rfl (hring fn entry)
  | blockWrite fn ring => exact absurd rfl (hblock fn ring)
  | smbMgmtInvalid => exact ⟨id, fun _ => rfl⟩
  | _ => exact ⟨_, fun _ => rfl⟩

theorem exec_mem {i : Instr} {s t : State} (hring : ∀ fn entry, i ≠ .ringReplyWrite fn entry)
    (hblock : ∀ fn ring, i ≠ .blockWrite fn ring) (h : exec i s = .next t) : t.mem = s.mem := by
  obtain ⟨g, hg⟩ := exec_eq_on hring hblock
  have ht : s.on g = t := Host.Outcome.next.inj ((hg s).symm.trans h)
  rw [← ht, State.on_mem]

/-- Settles O6: a row but the two is a change of the device alone. -/
theorem onlyTwoRowsWriteHostMemory : Obligations.OnlyTwoRowsWriteHostMemory :=
  fun _ _ _ hring hblock h a => congrArg (memRead · a) (exec_mem hring hblock h)

end Sys2Proof.Machine
end

section
/-! The mailbox's requests: what taking one in leaves, the checks of R94 in order, and the commands that run at once
(spec/03_mailbox.md). -/

namespace Sys2Proof.Machine

/-! ### What taking a request in leaves (R106, R573) -/

/-- Taking a request in numbers it and may latch a wake; nothing else differs. -/
theorem Dev.taken_only (d : Dev) (q : Req) :
    d.taken q = { d with
      sys := { d.sys with waking := (d.taken q).sys.waking, wakeCause := (d.taken q).sys.wakeCause,
                          wakeLatched := (d.taken q).sys.wakeLatched },
      tg := { d.tg with nextId := d.tg.nextId + 1 } } := by
  unfold Dev.taken
  split
  · unfold Dev.wakeBy
    split
    · rfl
    · split
      · rfl
      · rfl
  · rfl

section
variable (d : Dev) (q : Req)

@[simp] theorem Dev.taken_log : (d.taken q).log = d.log := by rw [Dev.taken_only d q]
@[simp] theorem Dev.taken_fn (f : Nat) : (d.taken q).fn f = d.fn f := by rw [Dev.taken_only d q]; rfl
@[simp] theorem Dev.taken_chan (c : Nat) : (d.taken q).chan c = d.chan c := by rw [Dev.taken_only d q]; rfl
@[simp] theorem Dev.taken_team (c : Nat) : (d.taken q).team c = d.team c := by rw [Dev.taken_only d q]; rfl
@[simp] theorem Dev.taken_seqBusy (c : Nat) : (d.taken q).seqBusy c = d.seqBusy c := by rw [Dev.taken_only d q]; rfl
@[simp] theorem Dev.taken_calActive (c : Nat) : (d.taken q).calActive c = d.calActive c := by rw [Dev.taken_only d q]; rfl
@[simp] theorem Dev.taken_ranges (c : Nat) (cur : Bool) : (d.taken q).ranges c cur = d.ranges c cur := by
  rw [Dev.taken_only d q]; rfl
@[simp] theorem Dev.taken_noModule (c : Nat) : (d.taken q).noModule c = d.noModule c := by rw [Dev.taken_only d q]; rfl
@[simp] theorem Dev.taken_finished (f : Nat) : (d.taken q).finished f = d.finished f := by rw [Dev.taken_only d q]; rfl
@[simp] theorem Dev.taken_hasOpt (o : Opt) : (d.taken q).hasOpt o = d.hasOpt o := by rw [Dev.taken_only d q]; rfl
@[simp] theorem capFw_taken : capFw (d.taken q) = capFw d := by rw [Dev.taken_only d q]; rfl
@[simp] theorem capDevice_taken : capDevice (d.taken q) = capDevice d := by rw [Dev.taken_only d q]; rfl
@[simp] theorem crashValid_taken : crashValid (d.taken q) = crashValid d := by rw [Dev.taken_only d q]; rfl
@[simp] theorem statusReply_taken (f : Nat) (j : Job) : statusReply (d.taken q) f j = statusReply d f j := by
  rw [Dev.taken_only d q]; rfl
@[simp] theorem resourcesReply_taken (f : Nat) : resourcesReply (d.taken q) f = resourcesReply d f := by
  rw [Dev.taken_only d q]; rfl
@[simp] theorem chanStatusReply_taken (c : Nat) : chanStatusReply (d.taken q) c = chanStatusReply d c := by
  rw [Dev.taken_only d q]; rfl
@[simp] theorem Dev.taken_cfgReq (j : Job) : (d.taken q).cfgReq j = d.cfgReq j := by rw [Dev.taken_only d q]; rfl
@[simp] theorem Dev.taken_chanCmdNames (c : Nat) : (d.taken q).chanCmdNames c = d.chanCmdNames c := by
  rw [Dev.taken_only d q]; rfl
@[simp] theorem logEntryAt_taken (i : Nat) : logEntryAt (d.taken q) i = logEntryAt d i := by rw [Dev.taken_only d q]; rfl
@[simp] theorem Dev.taken_entryHeld (f : Nat) (e : LogEntry) : (d.taken q).entryHeld f e = d.entryHeld f e := by
  rw [Dev.taken_only d q]; rfl

@[simp] theorem logScan_taken (f fuel pos room : Nat) (acc : List LogEntry) :
    logScan (d.taken q) f fuel pos room acc = logScan d f fuel pos room acc := by
  induction fuel generalizing pos room acc with
  | zero => rfl
  | succ k ih => simp only [logScan, Dev.taken_log, logEntryAt_taken, Dev.taken_entryHeld, ih]

end

/-! ### Commands that run at once, in the form of the statements (R111) -/

section
variable {d : Dev} {c : Cmd} {q : Req} {effect : Dev → Dev}

/-- A command that runs at once and ends, whose sheet forms its payload `p'` of the device that has taken the request in. -/
theorem Dev.command_answer {st : Nat} {p p' : List Byte} (h : d.runsNow c q = true)
    (hb : c.body (d.taken q) (d.jobOf c.op q) = (effect (d.taken q), .done st p')) (hp : p' = p) :
    d.command c q = d.answer c.op q effect st p := by
  rw [Dev.command_done d c q st p' h (congrArg Prod.snd hb), hb, hp]
  rfl

theorem Dev.command_goesOn {data : List Int} {names : List Res} (h : d.runsNow c q = true)
    (hb : c.body (d.taken q) (d.jobOf c.op q) = (effect (d.taken q), .later data))
    (hn : c.names (d.taken q) (d.jobOf c.op q) = names) :
    d.command c q = d.goesOn c.op q effect names data := by
  rw [Dev.command_later d c q data h (congrArg Prod.snd hb), hb, hn]
  rfl

end

theorem Dev.observed_congr {d : Dev} {g h : Dev → Dev} (e : g d = h d) : d.observed g = d.observed h := by
  unfold Dev.observed; rw [e]

/-! ### The checks of a request in order (R94) -/

section
variable {c : Cmd} {s : Dev} {j : Job}

theorem firstFail_header (h : headerOk j = false) : firstFail c s j = some stArg := by
  simp [firstFail, h]

theorem firstFail_option (hhdr : headerOk j = true) (h : s.hasOpt c.opt = false) : firstFail c s j = some stOpcode := by
  simp [firstFail, hhdr, h]

theorem firstFail_owner (hhdr : headerOk j = true) (hopt : s.hasOpt c.opt = true) (hc : c.owner = true) (h : j.f ≠ 0) :
    firstFail c s j = some stOwnership := by
  simp [firstFail, hhdr, hopt, hc, h]

/-- Checks 1 to 3 passed: LENGTH and the values are checked next. -/
theorem firstFail_values (hhdr : headerOk j = true) (hopt : s.hasOpt c.opt = true) (hown : c.owner = true → j.f = 0)
    (h : (∃ l, c.len = some l ∧ l ≠ j.q.len) ∨ c.args s j = false) : firstFail c s j = some stArg := by
  have hsession : (c.owner && j.f != 0) = false := by simpa using hown
  obtain ⟨l, hl, hne⟩ | hargs := h
  · simp [firstFail, hhdr, hopt, hsession, hl, hne.symm]
  · simp [firstFail, hhdr, hopt, hsession, hargs]

/-- Checks 1 to 5 passed: holders, readiness and locks decide. -/
theorem firstFail_of_values (hhdr : headerOk j = true) (hopt : s.hasOpt c.opt = true) (hown : c.owner = true → j.f = 0)
    (hlen : ∀ l, c.len = some l → l = j.q.len) (hargs : c.args s j = true) :
    firstFail c s j =
      if !c.held s j then some stOwnership
      else if !(recoveryOk s c.op && c.ready s j) then some stNotReady
      else if !c.unlocked s j then some stLocked
      else none := by
  have hsession : (c.owner && j.f != 0) = false := by simpa using hown
  cases hl : c.len with
  | none => simp [firstFail, hhdr, hopt, hsession, hl, hargs]
  | some l => simp [firstFail, hhdr, hopt, hsession, hl, hlen l hl, hargs]

end

/-- A request that passes checks 1 to 8 and has not to wait gets the status of check 9 where its state does not permit it
(R94). -/
theorem Dev.command_state_refused {d : Dev} {c : Cmd} {q : Req} (hs : d.serves q.fn.val = true)
    (ht : d.takesNow (d.jobOf c.op q) = true) (hpass : firstFail c (d.taken q) (d.jobOf c.op q) = none)
    (hstart : mayStart (d.taken q) (d.jobOf c.op q) (c.names (d.taken q) (d.jobOf c.op q)) = true)
    (hst : c.state (d.taken q) (d.jobOf c.op q) ≠ 0) :
    d.command c q = (d.taken q).done (d.jobOf c.op q) (c.state (d.taken q) (d.jobOf c.op q)) [] := by
  simp [Dev.command, hs, ht, runCmd, hpass, hstart, startCmd, hst]

theorem Dev.takeUp_of_no_sheet {j : Job} (d : Dev) (h : cmdOf j.op = none) :
    d.takeUp j = d.done j (if headerOk j then stOpcode else stArg) [] := by
  simp only [Dev.takeUp, h]

/-- Settles O13: each clause names the check that fails first; the reply is then `command_refused`'s, or that of check 9. -/
theorem requestChecksInOrder : Obligations.RequestChecksInOrder := by
  intro c q d hs j n gives ht
  have refused : ∀ st, firstFail c n j = some st → gives st := fun st h => d.command_refused c q st hs ht h
  have hoptions : n.hasOpt c.opt = d.hasOpt c.opt := d.taken_hasOpt q c.opt
  refine ⟨fun hhdr => refused _ (firstFail_header hhdr),
    fun hhdr hopt => refused _ (firstFail_option hhdr (hoptions.trans hopt)),
    fun hhdr hopt hc hf => refused _ (firstFail_owner hhdr (hoptions.trans hopt) hc hf),
    fun hhdr hopt hown h => refused _ (firstFail_values hhdr (hoptions.trans hopt) hown h),
    fun hhdr hopt hown hlen hargs => ?later, d.takeUp_of_no_sheet⟩
  case later =>
    have hrest := firstFail_of_values hhdr (hoptions.trans hopt) hown hlen hargs
    refine ⟨fun hheld => refused _ ?_, fun hheld hready => refused _ ?_,
      fun hheld hrec hready hlock => refused _ ?_, fun hheld hrec hready hlock hstart hst => ?_⟩
    · simp [hrest, hheld]
    · obtain hrec | hrdy := hready
      · simp [hrest, hheld, hrec]
      · simp [hrest, hheld, hrdy]
    · simp [hrest, hheld, hrec, hready, hlock]
    · have hpass : firstFail c n j = none := by simp [hrest, hheld, hrec, hready, hlock]
      exact Dev.command_state_refused hs ht hpass hstart hst

end Sys2Proof.Machine
end

section
/-! The session and diagnostic commands (spec/03_mailbox.md, R119, R529, R606, R609). -/

namespace Sys2Proof.Machine

section
variable (d : Dev) {j : Job}

/-- LOG_ARCHIVE_READ of source 0 answers the part of the crash record that is asked for. -/
theorem cmdLogArchiveRead_body_crash (h : u8 j.p 0 = 0) :
    cmdLogArchiveRead.body d j = (d, .done stOk (w8 (bit (crashValid d)) ++ w8 (min (u8 j.p 1) (4032 - u32 j.p 4)) ++ zeros 2
      ++ w32 (u32 j.p 4 + min (u8 j.p 1) (4032 - u32 j.p 4)) ++ slice d.log.crash (u32 j.p 4)
        (min (u8 j.p 1) (4032 - u32 j.p 4)))) :=
  if_pos h

theorem cmdLogArchiveRead_body_persistent (h : u8 j.p 0 = 1) : cmdLogArchiveRead.body d j = (d, .later []) := by
  simp [cmdLogArchiveRead, h]

theorem cmdLogArchiveRead_names_persistent (h : u8 j.p 0 = 1) : cmdLogArchiveRead.names d j = [.store] := if_pos h

theorem cmdLogArchiveRead_body_clear (h : u8 j.p 0 = 2) :
    cmdLogArchiveRead.body d j =
      (d.modSys (fun y => { y with bkup := tblSet (fun _ => 0) y.bkup 30 0 }), .done stOk (zeros 8)) := by
  simp only [cmdLogArchiveRead, h]
  rfl

end

/-- Settles O21: each sheet's body, whose reply table is the same before the request is taken in. -/
theorem sessionAndDiagnosticCommands : Obligations.SessionAndDiagnosticCommands := by
  refine ⟨fun q s h => ?info, fun q s h => ?status, fun q s h => ?resources, fun q s h => ?echo, fun q s h => ?logRead,
    fun q s h => ?funcStatus, fun q s h => ?clearLost,
    fun q s h => ⟨fun h0 => ?crash, fun h1 => ?persistent, fun h2 => ?clear⟩⟩
  all_goals refine congrArg _ (State.on_congr ?_)
  case info => exact Dev.command_answer h rfl (by rw [capFw_taken, capDevice_taken, Dev.taken_fn]; rfl)
  case status => exact Dev.command_answer h rfl (statusReply_taken ..)
  case resources => exact Dev.command_answer h rfl (resourcesReply_taken ..)
  case echo => exact Dev.command_answer h rfl rfl
  case logRead => exact Dev.command_answer h rfl (by rw [Dev.taken_log, logScan_taken]; rfl)
  case funcStatus => exact Dev.command_answer h rfl (statusReply_taken ..)
  case clearLost => exact Dev.command_answer h rfl (by rw [Dev.taken_log])
  case crash => exact Dev.command_answer h (cmdLogArchiveRead_body_crash _ h0) (by rw [crashValid_taken, Dev.taken_log]; rfl)
  case persistent =>
    exact Dev.command_goesOn h (cmdLogArchiveRead_body_persistent _ h1) (cmdLogArchiveRead_names_persistent _ h1)
  case clear => exact Dev.command_answer h (cmdLogArchiveRead_body_clear _ h2) rfl

end Sys2Proof.Machine
end

section
/-! The replies that a command adds to its function's queue (R98, R99), and the channel and gang commands
(spec/04_channels.md). -/

namespace Sys2Proof.Machine

/-! ### Replies that a command adds to its function's queue (R98, R99) -/

/-- A device whose function `f` has the replies of another and then more. -/
def AddsReplies (f : Nat) (a b : Dev) : Prop := ∃ l, (b.fn f).replies = (a.fn f).replies ++ l

theorem AddsReplies.refl (f : Nat) (a : Dev) : AddsReplies f a a := ⟨[], (List.append_nil _).symm⟩

theorem AddsReplies.trans {f : Nat} {a b c : Dev} (h : AddsReplies f a b) (k : AddsReplies f b c) : AddsReplies f a c := by
  obtain ⟨l, hl⟩ := h
  obtain ⟨m, hm⟩ := k
  exact ⟨l ++ m, by rw [hm, hl, List.append_assoc]⟩

theorem AddsReplies.modFn (f k : Nat) (d : Dev) {g : Fn → Fn} (hg : ∀ x, ∃ l, (g x).replies = x.replies ++ l) :
    AddsReplies f d (d.modFn k g) := by
  unfold AddsReplies
  rw [Dev.modFn_get]
  split
  · next e => subst e; exact hg _
  · exact ⟨[], (List.append_nil _).symm⟩

/-- A change of a function's registers that leaves its replies. -/
theorem AddsReplies.of_kept (f k : Nat) (d : Dev) {g : Fn → Fn} (hg : ∀ x, (g x).replies = x.replies) :
    AddsReplies f d (d.modFn k g) :=
  AddsReplies.modFn f k d fun x => ⟨[], by rw [hg, List.append_nil]⟩

theorem Dev.post_addsReplies (f : Nat) (d : Dev) (j : Job) (st : Nat) (p : List Byte) (final last : Bool) :
    AddsReplies f d (d.post j st p final last) := by
  unfold Dev.post
  dsimp only
  split
  · exact AddsReplies.modFn _ _ _ fun _ => ⟨_, rfl⟩
  · exact AddsReplies.of_kept _ _ _ fun _ => rfl

theorem Dev.finalReply_addsReplies (f : Nat) (d : Dev) (r : Running) (st : Nat) (p : List Byte) :
    AddsReplies f d (d.finalReply r st p) := by
  unfold Dev.finalReply
  dsimp only
  split
  · exact AddsReplies.refl f d
  · exact AddsReplies.trans (Dev.post_addsReplies f (d.modTg _) r.job st p _ true)
      (AddsReplies.of_kept _ _ _ fun _ => rfl)

theorem Dev.settleAll_addsReplies (f : Nat) (l : List Running) (d : Dev) : AddsReplies f d (d.settleAll l) := by
  induction l generalizing d with
  | nil => exact AddsReplies.refl f d
  | cons r rest ih =>
    refine AddsReplies.trans ?_ (ih _)
    dsimp only
    split
    · exact Dev.finalReply_addsReplies f d r _ _
    · exact AddsReplies.refl f d

/-- The queue of a doorbell command's function after it ends: the final replies of the commands that finished before it, then
its own (R98, R99). -/
theorem Dev.done_replies {d : Dev} {j : Job} (hring : j.q.ring = none) (st : Nat) (p : List Byte) :
    ∃ l : List Reply, (d.finished j.f = [] → l = []) ∧
      ((d.done j st p).fn j.f).replies = (d.fn j.f).replies ++ l ++
        [{ op := BitVec.ofNat 16 j.op, tag := j.q.tag, status := BitVec.ofNat 16 st, final := false, last := true,
           payload := p, arrival := some j.arrival }] := by
  have hdoor : j.doorbell = true := by simp [Job.doorbell, hring]
  have hdone : ((d.done j st p).fn j.f).replies = ((d.settle j.f).fn j.f).replies ++
        [{ op := BitVec.ofNat 16 j.op, tag := j.q.tag, status := BitVec.ofNat 16 st, final := false, last := true,
           payload := p, arrival := some j.arrival }] := by
    simp [Dev.done, hdoor, Dev.post, hring, Job.f]
  by_cases hfin : d.finished j.f = []
  · refine ⟨[], fun _ => rfl, ?_⟩
    rw [hdone, Dev.settle_none d _ hfin, List.append_nil]
  · obtain ⟨l, hl⟩ := Dev.settleAll_addsReplies j.f (d.finished j.f) d
    exact ⟨l, fun h => absurd h hfin, hdone.trans (by rw [Dev.settle, hl])⟩

/-- The queue of a function after a doorbell command of it that runs at once and whose effect leaves the functions and
Tollgate. -/
theorem Dev.answer_replies {d : Dev} {q : Req} {op : Nat} {effect : Dev → Dev} (hring : q.ring = none)
    (hfns : (effect (d.taken q)).fns = (d.taken q).fns) (htg : (effect (d.taken q)).tg = (d.taken q).tg) (st : Nat)
    (p : List Byte) :
    ∃ l : List Reply, (d.finished q.fn.val = [] → l = []) ∧
      ((d.answer op q effect st p).fn q.fn.val).replies = (d.fn q.fn.val).replies ++ l ++
        [{ op := BitVec.ofNat 16 op, tag := q.tag, status := BitVec.ofNat 16 st, final := false, last := true,
           payload := p, arrival := some d.now }] := by
  have hfin : (effect (d.taken q)).finished q.fn.val = d.finished q.fn.val := by
    rw [← Dev.taken_finished d q, Dev.finished, htg]; rfl
  have hfn : (effect (d.taken q)).fn q.fn.val = d.fn q.fn.val := by
    rw [← Dev.taken_fn d q, Dev.fn, hfns]; rfl
  rw [← hfin, ← hfn]
  exact Dev.done_replies (j := d.jobOf op q) hring st p

theorem Dev.observed_replies (d : Dev) (g : Dev → Dev) (f : Nat) :
    ((d.observed g).fn f).replies = ((g d).fn f).replies := by
  rw [Dev.observed_causes d g f]

theorem Dev.observed_chan (d : Dev) (g : Dev → Dev) (c : Nat) : (d.observed g).chan c = (g d).chan c := by
  unfold Dev.chan; rw [Dev.observed_chans]

theorem Dev.done_chan (d : Dev) (j : Job) (st : Nat) (p : List Byte) (c : Nat) : (d.done j st p).chan c = d.chan c := by
  unfold Dev.chan; rw [Dev.done_chans]

/-! ### CHAN_CONFIG and CHAN_SET_STATE case by case (R128, R138) -/

section
variable {d : Dev} {j : Job}

theorem Dev.cfgBody_on_range (hon : 2 ≤ (d.chan j.ch).state)
    (hr : (d.cfgReq j).v ≠ (d.chan j.ch).vr ∨ (d.cfgReq j).i ≠ (d.chan j.ch).ir) :
    d.cfgBody j = (d.rcStart j.ch (d.cfgReq j).v (d.cfgReq j).i (some j.id) d.now, .later []) := by
  have hrange : ((d.cfgReq j).v != (d.chan j.ch).vr || (d.cfgReq j).i != (d.chan j.ch).ir) = true := by simpa using hr
  simp only [Dev.cfgBody, ge_iff_le, hon, if_true, hrange]

theorem Dev.cfgBody_on_kept (hon : 2 ≤ (d.chan j.ch).state) (hv : (d.cfgReq j).v = (d.chan j.ch).vr)
    (hi : (d.cfgReq j).i = (d.chan j.ch).ir) : d.cfgBody j = (d, .done stOk []) := by
  simp [Dev.cfgBody, hon, hv, hi]

/-- A channel in OFF or HIGH_Z with the mode and the sense of a CHAN_CONFIG, where the mode was `fi`: a new mode resets its
values (R128). -/
def Chan.configured (r : CfgReq) (fi : Bool) (y : Chan) : Chan :=
  let z := { y with fi := r.fi, senseLocal := r.loc }
  if r.fi != fi then { z.resetValues with ramp := none } else z

theorem Chan.configured_eq (r : CfgReq) (fi : Bool) :
    Chan.configured r fi = fun y => if r.fi = fi then { y with fi := r.fi, senseLocal := r.loc }
      else { ({ y with fi := r.fi, senseLocal := r.loc } : Chan).resetValues with ramp := none } := by
  funext y
  by_cases hmode : r.fi = fi
  · rw [if_pos hmode]
    exact if_neg (by simp [hmode])
  · rw [if_neg hmode]
    exact if_pos (by simp [hmode])

/-- The channel and its gang in OFF or HIGH_Z with the mode and the sense of a CHAN_CONFIG. -/
def Dev.configured (d : Dev) (j : Job) : Dev :=
  d.forAll (d.team j.ch) (fun s m => s.modChan m (Chan.configured (d.cfgReq j) (d.chan j.ch).fi))

theorem Dev.cfgBody_off_kept (hoff : (d.chan j.ch).state < 2) (hv : (d.cfgReq j).v = (d.chan j.ch).vr)
    (hi : (d.cfgReq j).i = (d.chan j.ch).ir) (hloc : (d.cfgReq j).loc = (d.chan j.ch).senseLocal) :
    d.cfgBody j = (d.configured j, .done stOk []) :=
  (if_neg (by omega)).trans (if_neg (by simp [hv, hi, hloc]))

theorem Dev.cfgBody_off_change (hoff : (d.chan j.ch).state < 2)
    (hr : (d.cfgReq j).v ≠ (d.chan j.ch).vr ∨ (d.cfgReq j).i ≠ (d.chan j.ch).ir ∨
      (d.cfgReq j).loc ≠ (d.chan j.ch).senseLocal) :
    d.cfgBody j =
      ((d.configured j).plainBegin j.ch (d.cfgReq j).v (d.cfgReq j).i ((d.cfgReq j).fi != (d.chan j.ch).fi) (some j.id),
        .later []) :=
  (if_neg (by omega)).trans (if_pos (by simpa [or_assoc] using hr))

theorem Dev.configured_alone (halone : d.team j.ch = [j.ch]) :
    d.configured j = d.modChan j.ch (Chan.configured (d.cfgReq j) (d.chan j.ch).fi) := by
  rw [Dev.configured, halone]
  rfl

/-- The faults that a CHAN_SET_STATE clears on a channel: FAST those of its stage, OFF that of sharing. -/
def Chan.clearFaults (target : Nat) (fast : Bool) (x : Chan) : Chan :=
  { x with stageFault := x.stageFault && !fast, shareFault := x.shareFault && target != 0 }

@[simp] theorem Chan.clearFaults_state (target : Nat) (fast : Bool) (x : Chan) :
    (x.clearFaults target fast).state = x.state := rfl

/-- CHAN_SET_STATE, to another state than OFF, of a channel alone that is in it and makes no transition (R138). -/
theorem Dev.setStateBody_reached (halone : d.team j.ch = [j.ch]) (ht : u8 j.p 1 ≠ 0)
    (hstate : (d.chan j.ch).state = u8 j.p 1) (htrans : (d.chan j.ch).trans = none) (hseq : d.seqBusy j.ch = false) :
    d.setStateBody j =
      (d.modChan j.ch (Chan.clearFaults (u8 j.p 1) (u8 j.p 2 == 1)), .done stOk (w8 (u8 j.p 1) ++ zeros 3)) := by
  have hsame : (if u8 j.p 1 ≤ 1 && d.seqBusy j.ch then d.seqOutput j.ch else d) = d := if_neg (by simp [hseq])
  simp only [Dev.setStateBody, hsame, ht, if_false, halone, Dev.forAll, List.foldl]
  exact if_pos (by simp [ht, hstate, htrans])

end

/-! ### The channel and gang commands -/

section
variable {s : State} {q : Req}

theorem exec_chanInfo_answer (h : s.dev.runsNow cmdChanInfo q = true) :
    exec (.chanInfo q) s = .next (s.on (fun d =>
      let c := (d.job 0x0201 q).ch
      d.answer 0x0201 q id stOk (w8 (d.ranges c false).length ++ w8 (d.ranges c true).length ++ w8 (c / 4)
        ++ w8 (bit (d.noModule c)) ++ (d.ranges c false ++ d.ranges c true).flatMap rangeEntry))) := by
  refine congrArg Host.Outcome.next (State.on_congr (Dev.command_answer h rfl ?_))
  rw [Dev.taken_ranges, Dev.taken_ranges, Dev.taken_noModule]
  rfl

theorem exec_chanConfig_answer {effect : Dev → Dev} (h : s.dev.runsNow cmdChanConfig q = true)
    (hb : (s.dev.taken q).cfgBody (s.dev.job 0x0202 q) = (effect (s.dev.taken q), .done stOk [])) :
    exec (.chanConfig q) s = .next (s.on (fun d => d.observed (fun d => d.answer 0x0202 q effect stOk []))) :=
  congrArg Host.Outcome.next (State.on_congr (Dev.observed_congr (Dev.command_answer h hb rfl)))

theorem exec_chanConfig_goesOn {effect : Dev → Dev} (h : s.dev.runsNow cmdChanConfig q = true)
    (hb : (s.dev.taken q).cfgBody (s.dev.job 0x0202 q) = (effect (s.dev.taken q), .later [])) :
    exec (.chanConfig q) s = .next (s.on (fun d => d.observed (fun d =>
      d.goesOn 0x0202 q effect (d.chanCmdNames (s.dev.job 0x0202 q).ch) []))) :=
  congrArg Host.Outcome.next (State.on_congr (Dev.observed_congr (Dev.command_goesOn h hb (Dev.taken_chanCmdNames ..))))

theorem exec_chanStatus_answer (h : s.dev.runsNow cmdChanStatus q = true) :
    exec (.chanStatus q) s = .next (s.on (fun d =>
      let j := d.job 0x0205 q
      d.answer 0x0205 q (fun d => d.modChan j.ch (fun x => { x with compSeen := x.compSeen && !(u32 j.p 4).testBit 0 }))
        (if d.calActive j.ch then stStale else stOk) (chanStatusReply d j.ch))) := by
  have hst : (if (s.dev.taken q).calActive (s.dev.job 0x0205 q).ch then stStale else stOk) =
      (if s.dev.calActive (s.dev.job 0x0205 q).ch then stStale else stOk) := by rw [Dev.taken_calActive]
  exact congrArg Host.Outcome.next (State.on_congr
    (Dev.command_answer h (Prod.ext rfl (congrArg (Result.done · _) hst)) (chanStatusReply_taken ..)))

/-- The end of a CHAN_SET_STATE whose channel, alone, is in its target already: the channel's state stays, and one reply joins
its function's queue (R138, R98). -/
theorem exec_chanSetState_reached (h : s.dev.runsNow cmdChanSetState q = true)
    (halone : s.dev.team (s.dev.job 0x0204 q).ch = [(s.dev.job 0x0204 q).ch]) (ht : u8 (s.dev.job 0x0204 q).p 1 ≠ 0)
    (hstate : (s.dev.chan (s.dev.job 0x0204 q).ch).state = u8 (s.dev.job 0x0204 q).p 1)
    (htrans : (s.dev.chan (s.dev.job 0x0204 q).ch).trans = none) (hseq : s.dev.seqBusy (s.dev.job 0x0204 q).ch = false) :
    ∃ t : State, exec (.chanSetState q) s = .next t ∧ t.mem = s.mem ∧
      (t.dev.chan (s.dev.job 0x0204 q).ch).state = (s.dev.chan (s.dev.job 0x0204 q).ch).state ∧
      (q.ring = none → ∃ l : List Reply, (s.dev.finished q.fn.val = [] → l = []) ∧
        (t.dev.fn q.fn.val).replies = (s.dev.fn q.fn.val).replies ++ l ++
          [{ op := 0x0204, tag := q.tag, status := 0, final := false, last := true,
             payload := w8 (u8 (s.dev.job 0x0204 q).p 1) ++ zeros 3, arrival := some s.dev.now }]) := by
  have hbody := Dev.setStateBody_reached (d := s.dev.taken q) (j := s.dev.job 0x0204 q) (by rwa [Dev.taken_team]) ht
    (by rwa [Dev.taken_chan]) (by rwa [Dev.taken_chan]) (by rwa [Dev.taken_seqBusy])
  have hcmd : s.dev.command cmdChanSetState q = _ := Dev.command_answer (effect := fun d => d.modChan _ _) h hbody rfl
  refine ⟨s.on (fun d => d.observed (fun d => d.command cmdChanSetState q)), rfl, rfl, ?_, fun hring => ?_⟩
  · rw [State.on_dev, Dev.observed_chan, hcmd, Dev.answer, Dev.done_chan, Dev.modChan_same, Dev.taken_chan,
      Chan.clearFaults_state]
  · obtain ⟨l, hl, hrep⟩ := Dev.answer_replies (d := s.dev) (op := 0x0204)
      (effect := fun d => d.modChan (s.dev.job 0x0204 q).ch _) hring rfl rfl stOk
      (w8 (u8 (s.dev.job 0x0204 q).p 1) ++ zeros 3)
    refine ⟨l, hl, ?_⟩
    rw [State.on_dev, Dev.observed_replies, hcmd]
    exact hrep

end

/-- Settles O22, one command after the other; CHAN_CONFIG by the state of its channel and what it changes. -/
theorem channelCommands : Obligations.ChannelCommands := by
  refine ⟨fun q s h => exec_chanInfo_answer h, fun q s h => ⟨fun hoff halone hv hi hloc => ?configKept,
    fun hon hr => exec_chanConfig_goesOn h ?configRange, fun hon hv hi => exec_chanConfig_answer h ?configNone,
    fun hoff hr => exec_chanConfig_goesOn h ?configChange⟩, fun q s h => ?source,
    fun q s h => ⟨fun halone ht hstate htrans hseq => exec_chanSetState_reached h halone ht hstate htrans hseq,
      fun st p hb => ?stateDone, fun data hb => ?stateLater⟩,
    fun q s h => exec_chanStatus_answer h, fun q s h => ?define, fun q s h => ?dissolve⟩
  case configKept =>
    rw [← Dev.taken_chan _ q] at hoff
    rw [← Dev.taken_team _ q] at halone
    refine exec_chanConfig_answer h ?_
    rw [Dev.cfgBody_off_kept hoff (by simpa using hv) (by simpa using hi) (by simpa using hloc), Dev.configured_alone halone,
      Chan.configured_eq]
    simp only [Dev.taken_cfgReq, Dev.taken_chan]
  case configRange =>
    rw [Dev.cfgBody_on_range (by simpa using hon) (by simpa using hr)]
    simp only [Dev.taken_cfgReq]
  case configNone => exact Dev.cfgBody_on_kept (by simpa using hon) (by simpa using hv) (by simpa using hi)
  case configChange =>
    rw [Dev.cfgBody_off_change (by simpa using hoff) (by simpa using hr), Dev.configured, Chan.configured_eq]
    simp only [Dev.taken_cfgReq, Dev.taken_chan]
  case source => exact congrArg Host.Outcome.next (State.on_congr (Dev.command_answer h rfl rfl))
  case stateDone =>
    exact congrArg Host.Outcome.next (State.on_congr (Dev.observed_congr (Dev.command_answer h (Prod.ext rfl hb) rfl)))
  case stateLater =>
    exact congrArg Host.Outcome.next
      (State.on_congr (Dev.observed_congr (Dev.command_goesOn h (Prod.ext rfl hb) (Dev.taken_chanCmdNames ..))))
  case define => exact congrArg Host.Outcome.next (State.on_congr (Dev.command_answer h rfl rfl))
  case dissolve => exact congrArg Host.Outcome.next (State.on_congr (Dev.command_answer h rfl rfl))

end Sys2Proof.Machine
end

section
/-! A change run for every number of a list, and lists of numbers in ascending order. -/

namespace Sys2Proof.Machine

/-! ### A change for every number of a list -/

section
variable {l : List Nat} {f : Dev → Nat → Dev} {d : Dev}

theorem Dev.forAll_induct {P : Dev → Prop} (h : ∀ e, ∀ x ∈ l, P e → P (f e x)) (hd : P d) : P (d.forAll l f) := by
  induction l generalizing d with
  | nil => exact hd
  | cons x r ih => exact ih (fun e y hy => h e y (List.mem_cons_of_mem x hy)) (h d x List.mem_cons_self hd)

/-- What the change leaves each time, it leaves in the end. -/
theorem Dev.forAll_keeps {α : Type} (p : Dev → α) (h : ∀ e x, p (f e x) = p e := by intros; rfl) : p (d.forAll l f) = p d :=
  Dev.forAll_induct (P := fun e => p e = p d) (fun e x _ he => (h e x).trans he) rfl

theorem Dev.forAll_fixed (h : ∀ x ∈ l, f d x = d) : d.forAll l f = d :=
  Dev.forAll_induct (P := fun e => e = d) (fun _ x hx he => he ▸ h x hx) rfl

/-- What the change sets for one number `i` of the list, and keeps for every other, holds in the end. `I` is kept throughout. -/
theorem Dev.forAll_reaches {I P : Dev → Prop} {i : Nat} (hi : i ∈ l) (hinv : ∀ e, ∀ x ∈ l, I e → I (f e x))
    (hset : ∀ e, I e → P (f e i)) (hkeep : ∀ e, ∀ x ∈ l, I e → P e → P (f e x)) (hd : I d) : P (d.forAll l f) := by
  induction l generalizing d with
  | nil => exact absurd hi List.not_mem_nil
  | cons x r ih =>
    have hinv' : ∀ e, ∀ y ∈ r, I e → I (f e y) := fun e y hy => hinv e y (List.mem_cons_of_mem x hy)
    have hkeep' : ∀ e, ∀ y ∈ r, I e → P e → P (f e y) := fun e y hy => hkeep e y (List.mem_cons_of_mem x hy)
    have hx : I (f d x) := hinv d x List.mem_cons_self hd
    obtain rfl | hr := List.mem_cons.mp hi
    · exact (Dev.forAll_induct (P := fun e => I e ∧ P e)
        (fun e y hy he => ⟨hinv' e y hy he.1, hkeep' e y hy he.1 he.2⟩) ⟨hx, hset d hd⟩).2
    · exact ih hr hinv' hkeep' hx

end

/-- A field of a channel that a change of one channel leaves. -/
theorem Dev.modChan_keeps {α : Type} (p : Chan → α) {g : Chan → Chan} (d : Dev) (k i : Nat)
    (h : ∀ x, p (g x) = p x := by intro; rfl) : p ((d.modChan k g).chan i) = p (d.chan i) := by
  rw [Dev.modChan_get]
  split
  · next e => rw [e, h]
  · rfl

/-! ### Ascending lists without repetition -/

theorem mem_insertNat {x y : Nat} {l : List Nat} : y ∈ sortedFns.insertNat x l ↔ y = x ∨ y ∈ l := by
  induction l with
  | nil => simp [sortedFns.insertNat]
  | cons z r ih =>
    unfold sortedFns.insertNat
    split
    · simp
    · split
      · next e => simp [e]
      · rw [List.mem_cons, ih, List.mem_cons, or_left_comm]

theorem insertNat_sorted {x : Nat} {l : List Nat} (h : l.Pairwise (· < ·)) : (sortedFns.insertNat x l).Pairwise (· < ·) := by
  induction l with
  | nil => simp [sortedFns.insertNat]
  | cons z r ih =>
    obtain ⟨hz, hr⟩ := List.pairwise_cons.mp h
    unfold sortedFns.insertNat
    split
    · next hlt =>
      exact List.pairwise_cons.mpr ⟨fun y hy => (List.mem_cons.mp hy).elim (· ▸ hlt) (fun hy => Nat.lt_trans hlt (hz y hy)), h⟩
    · split
      · exact h
      · refine List.pairwise_cons.mpr ⟨fun y hy => ?_, ih hr⟩
        obtain rfl | hy := mem_insertNat.mp hy
        · omega
        · exact hz y hy

theorem foldl_insertNat_sorted (l a : List Nat) (h : a.Pairwise (· < ·)) :
    (l.foldl (fun a x => sortedFns.insertNat x a) a).Pairwise (· < ·) := by
  induction l generalizing a with
  | nil => exact h
  | cons x r ih => exact ih _ (insertNat_sorted h)

theorem mem_foldl_insertNat (l a : List Nat) (y : Nat) :
    y ∈ l.foldl (fun a x => sortedFns.insertNat x a) a ↔ y ∈ l ∨ y ∈ a := by
  induction l generalizing a with
  | nil => simp
  | cons x r ih => rw [List.foldl_cons, ih, mem_insertNat, List.mem_cons, or_left_comm, or_assoc]

theorem mem_sortedFns {l : List Nat} {y : Nat} : y ∈ sortedFns l ↔ y ∈ l :=
  (mem_foldl_insertNat l [] y).trans (by simp)

theorem sortedFns_nodup (l : List Nat) : (sortedFns l).Nodup :=
  (foldl_insertNat_sorted l [] List.Pairwise.nil).imp (fun h => Nat.ne_of_lt h)

/-- The channels of a module are numbered 4 times the module and on. -/
theorem mem_module_channels {m c : Nat} : c ∈ (List.range 4).map (4 * m + ·) ↔ c / 4 = m := by
  simp only [List.mem_map, List.mem_range]
  constructor
  · rintro ⟨k, hk, rfl⟩
    omega
  · intro h
    exact ⟨c % 4, by omega, by omega⟩

end Sys2Proof.Machine
end

section
/-! Output-state transitions: the settle times that end (spec/04_channels.md, R138, R140, R195). -/

namespace Sys2Proof.Machine

/-! ### What a transition's next step leaves (R138) -/

/-- The clock, the engines, and every channel's output state and generator value stay. -/
structure SameOutputs (a b : Dev) : Prop where
  now : b.now = a.now
  engines : b.engines = a.engines
  state : ∀ m, (b.chan m).state = (a.chan m).state
  gen : ∀ m, (b.chan m).r = (a.chan m).r

theorem SameOutputs.refl (a : Dev) : SameOutputs a a := ⟨rfl, rfl, fun _ => rfl, fun _ => rfl⟩

theorem SameOutputs.trans {a b c : Dev} (h : SameOutputs a b) (k : SameOutputs b c) : SameOutputs a c :=
  ⟨k.now.trans h.now, k.engines.trans h.engines, fun m => (k.state m).trans (h.state m), fun m => (k.gen m).trans (h.gen m)⟩

theorem SameOutputs.ite {a b c : Dev} {p : Prop} [Decidable p] (h : SameOutputs a b) (k : SameOutputs a c) :
    SameOutputs a (if p then b else c) := by
  split
  · exact h
  · exact k

theorem SameOutputs.forAll {f : Dev → Nat → Dev} (h : ∀ e x, SameOutputs e (f e x)) (l : List Nat) (d : Dev) :
    SameOutputs d (d.forAll l f) :=
  Dev.forAll_induct (P := SameOutputs d) (fun e x _ he => he.trans (h e x)) (SameOutputs.refl d)

theorem Dev.modChan_sameOutputs (d : Dev) (c : Nat) {g : Chan → Chan} (hstate : ∀ x, (g x).state = x.state := by intro; rfl)
    (hgen : ∀ x, (g x).r = x.r := by intro; rfl) : SameOutputs d (d.modChan c g) :=
  ⟨rfl, rfl, fun m => Dev.modChan_keeps Chan.state d c m hstate, fun m => Dev.modChan_keeps Chan.r d c m hgen⟩

theorem Dev.transTo_sameOutputs (d : Dev) (c : Nat) (step : TStep) (due : Option Nat) : SameOutputs d (d.transTo c step due) :=
  Dev.modChan_sameOutputs d c

theorem Dev.setHalf_sameOutputs (d : Dev) (c h : Nat) (pre force : Bool) : SameOutputs d (d.setHalf c h pre force) :=
  ⟨rfl, rfl, fun _ => rfl, fun _ => rfl⟩

theorem Dev.teamHalf_sameOutputs (d : Dev) (c : Nat) (en out pre : Bool) : SameOutputs d (d.teamHalf c en out pre) :=
  SameOutputs.forAll (fun e m => Dev.setHalf_sameOutputs e m _ pre false) _ d

/-- The authority requests of a list of channels are set or withdrawn. -/
theorem Dev.requests_sameOutputs (d : Dev) (l : List Nat) (on : Bool) :
    SameOutputs d (d.forAll l (fun s m => s.modChan m (fun x => { x with req := on }))) :=
  SameOutputs.forAll (fun e m => Dev.modChan_sameOutputs e m) l d

theorem Dev.transOff_sameOutputs (d : Dev) (c : Nat) : SameOutputs d (d.transOff c) :=
  (SameOutputs.ite (Dev.requests_sameOutputs d _ false) (SameOutputs.refl d)).trans (Dev.transTo_sameOutputs _ c .off _)

theorem Dev.transEnd_none {d : Dev} {c : Nat} (h : (d.chan c).trans = none) (st : Nat) : d.transEnd c st = d := by
  simp only [Dev.transEnd, h]

theorem Dev.transEnd_eq {d : Dev} {c : Nat} {t : Trans} (h : (d.chan c).trans = some t) (st : Nat) :
    d.transEnd c st = (d.modChan c (fun x => { x with trans := none })).finish? t.cmd st
      (if st = 0 then w8 (d.chan c).state ++ zeros 3 else []) := by
  simp only [Dev.transEnd, h]

theorem Dev.finish?_chan (d : Dev) (id : Option Nat) (st : Nat) (p : List Byte) (m : Nat) :
    (d.finish? id st p).chan m = d.chan m := by
  unfold Dev.chan; rw [Dev.finish?_chans]

theorem Dev.transEnd_sameOutputs (d : Dev) (c st : Nat) : SameOutputs d (d.transEnd c st) := by
  cases h : (d.chan c).trans with
  | none => rw [Dev.transEnd_none h]; exact SameOutputs.refl d
  | some t =>
    rw [Dev.transEnd_eq h]
    refine (Dev.modChan_sameOutputs d c (g := fun x => { x with trans := none })).trans ?_
    exact ⟨Dev.finish?_now .., Dev.finish?_engines .., fun m => by rw [Dev.finish?_chan], fun m => by rw [Dev.finish?_chan]⟩

theorem Dev.transEnd_trans (d : Dev) (c st : Nat) : ((d.transEnd c st).chan c).trans = none := by
  cases h : (d.chan c).trans with
  | none => rw [Dev.transEnd_none h, h]
  | some t => rw [Dev.transEnd_eq h, Dev.finish?_chan, Dev.modChan_same]

theorem Dev.transNext_sameOutputs (d : Dev) (c : Nat) (pre : Bool) : SameOutputs d (d.transNext c pre) := by
  unfold Dev.transNext
  split
  · exact SameOutputs.refl d
  · refine SameOutputs.ite ?off (SameOutputs.ite ?reached (SameOutputs.ite (SameOutputs.ite ?request
      (SameOutputs.ite ?close ?goOn)) (SameOutputs.ite ?rampDown (SameOutputs.ite ?release ?fromHighZ))))
    case off => exact Dev.transOff_sameOutputs d c
    case fromHighZ => exact Dev.transOff_sameOutputs d c
    case reached => exact Dev.transEnd_sameOutputs d c stOk
    case request => exact (Dev.requests_sameOutputs d _ true).trans (Dev.transTo_sameOutputs _ c .request none)
    case close => exact (Dev.teamHalf_sameOutputs d c true true pre).trans (Dev.transTo_sameOutputs _ c .close none)
    case goOn => exact Dev.transTo_sameOutputs d c .goOn _
    case rampDown => exact Dev.transTo_sameOutputs d c .rampDown _
    case release => exact (Dev.teamHalf_sameOutputs d c true false false).trans (Dev.transTo_sameOutputs _ c .release none)

/-- A transition that has reached its target, not OFF, is over (R138). -/
theorem Dev.transNext_reached {d : Dev} {c : Nat} {t : Trans} (h : (d.chan c).trans = some t)
    (hstate : (d.chan c).state = t.target) (htarget : t.target ≠ 0) (pre : Bool) : d.transNext c pre = d.transEnd c stOk := by
  simp [Dev.transNext, h, hstate, htarget]

/-! ### The members of a team -/

theorem Dev.mem_team {d : Dev} {c : Nat} (hc : c < 64) : c ∈ d.team c := by
  unfold Dev.team
  split
  · next p h =>
    obtain ⟨e, -, he⟩ := List.exists_of_findSome?_eq_some h
    split at he
    · next g _ =>
      split at he
      · next hbit =>
        obtain rfl := Option.some.inj he
        exact List.mem_filter.mpr ⟨List.mem_range.mpr hc, hbit⟩
      · exact absurd he (by simp)
    · exact absurd he (by simp)
  · exact List.mem_singleton.mpr rfl

theorem Dev.team_congr {a b : Dev} (h : b.gangs = a.gangs) (c : Nat) : b.team c = a.team c := by
  unfold Dev.team Dev.gangOf; rw [h]

theorem Dev.leader_congr {a b : Dev} (h : b.gangs = a.gangs) (c : Nat) : b.leader c = a.leader c := by
  unfold Dev.leader Dev.gangOf; rw [h]

section
variable (d : Dev) (c st : Nat)

theorem Dev.teamState_now : (d.teamState c st).now = d.now := Dev.forAll_keeps Dev.now

theorem Dev.teamState_engines : (d.teamState c st).engines = d.engines := Dev.forAll_keeps Dev.engines

theorem Dev.teamState_gen (m : Nat) : ((d.teamState c st).chan m).r = (d.chan m).r :=
  Dev.forAll_keeps (fun e => (e.chan m).r) fun e x => Dev.modChan_keeps Chan.r e x m

theorem Dev.teamState_trans (m : Nat) : ((d.teamState c st).chan m).trans = (d.chan m).trans :=
  Dev.forAll_keeps (fun e => (e.chan m).trans) fun e x => Dev.modChan_keeps Chan.trans e x m

variable {d c st}

theorem Dev.teamState_state {m : Nat} (h : m ∈ d.team c) : ((d.teamState c st).chan m).state = st := by
  refine Dev.forAll_reaches (I := fun _ => True) (P := fun e => (e.chan m).state = st) h (fun _ _ _ _ => trivial)
    (fun e _ => ?set) (fun e x _ _ he => ?keep) trivial
  case set => rw [Dev.modChan_same]
  case keep =>
    rw [Dev.modChan_get]
    split
    · rfl
    · exact he

end

/-! ### Engines that start and stop (R195) -/

theorem Dev.innerStart_eng (d : Dev) (c e : Nat) : (d.innerStart c).eng e = if e = 4 * c then (d.eng e).start else d.eng e := by
  rw [Dev.innerStart, Dev.modChan_eng, Dev.modEng_get, engNo, Nat.add_zero]
  split
  · next h => rw [h]
  · rfl

/-- INNER of every member of a team starts. -/
theorem Dev.innerStart_team {d : Dev} {l : List Nat} {m : Nat} (h : m ∈ l) :
    ((d.forAll l Dev.innerStart).eng (4 * m)).st = statesZero ∧ ((d.forAll l Dev.innerStart).eng (4 * m)).out = 0 := by
  refine Dev.forAll_reaches (I := fun _ => True) (P := fun e => (e.eng (4 * m)).st = statesZero ∧ (e.eng (4 * m)).out = 0) h
    (fun _ _ _ _ => trivial) (fun e _ => ?set) (fun e x _ _ he => ?keep) trivial
  case set =>
    rw [Dev.innerStart_eng, if_pos rfl]
    exact ⟨rfl, rfl⟩
  case keep =>
    rw [Dev.innerStart_eng]
    split
    · exact ⟨rfl, rfl⟩
    · exact he

theorem Dev.outerStart_eng (d : Dev) (c : Nat) {role : Nat} (hlo : 1 ≤ role) (hhi : role ≤ 3) :
    ((d.outerStart c).eng (4 * c + role)).st = statesZero ∧ ((d.outerStart c).eng (4 * c + role)).out = 0 := by
  have hmem : role ∈ [1, 2, 3] := by simp; omega
  rw [Dev.outerStart, Dev.modChan_eng]
  refine Dev.forAll_reaches (I := fun _ => True)
    (P := fun e => (e.eng (4 * c + role)).st = statesZero ∧ (e.eng (4 * c + role)).out = 0) hmem
    (fun _ _ _ _ => trivial) (fun e _ => ?set) (fun e x _ _ he => ?keep) trivial
  case set =>
    rw [engNo, Dev.modEng_same]
    exact ⟨rfl, rfl⟩
  case keep =>
    rw [Dev.modEng_get]
    split
    · exact ⟨rfl, rfl⟩
    · exact he

theorem Dev.outerStop_out (d : Dev) (c e : Nat) : ((d.outerStop c).eng e).out = (d.eng e).out := by
  rw [Dev.outerStop, Dev.modChan_eng]
  refine Dev.forAll_keeps (fun x => (x.eng e).out) fun x role => ?_
  rw [Dev.modEng_get]
  split
  · next h => rw [h]; rfl
  · rfl

/-! ### TRANSITION_SETTLE_END (R138) -/

/-- What a start or a stop of engines at the end of a settle time leaves. -/
structure KeepsTransition (a b : Dev) (c : Nat) : Prop where
  now : b.now = a.now
  gangs : b.gangs = a.gangs
  trans : (b.chan c).trans = (a.chan c).trans

theorem Dev.innerStart_keeps (d : Dev) (l : List Nat) (c : Nat) : KeepsTransition d (d.forAll l Dev.innerStart) c :=
  ⟨Dev.forAll_keeps Dev.now, Dev.forAll_keeps Dev.gangs,
    Dev.forAll_keeps (fun e => (e.chan c).trans) fun e x => by
      rw [Dev.innerStart, Dev.modChan_keeps Chan.trans, Dev.modEng_chan]⟩

/-- OUTER, CLAMP and TRIM of a channel changed, and then the channel. -/
theorem Dev.outerChange_keeps (d : Dev) (c : Nat) (g : Engine → Engine) {h : Chan → Chan}
    (hh : ∀ x, (h x).trans = x.trans) :
    KeepsTransition d ((d.forAll [1, 2, 3] (fun s r => s.modEng (engNo c r) g)).modChan c h) c :=
  ⟨Dev.forAll_keeps Dev.now, Dev.forAll_keeps Dev.gangs,
    (Dev.modChan_keeps Chan.trans _ c c hh).trans (Dev.forAll_keeps (fun e => (e.chan c).trans))⟩

theorem Dev.outerStart_keeps (d : Dev) (c : Nat) : KeepsTransition d (d.outerStart c) c :=
  Dev.outerChange_keeps d c Engine.start fun _ => rfl

theorem Dev.outerStop_keeps (d : Dev) (c : Nat) : KeepsTransition d (d.outerStop c) c :=
  Dev.outerChange_keeps d c Engine.stop fun _ => rfl

section
variable {s : State} {ch : ChanId} {t : Trans} {due : Nat}

theorem exec_transitionSettleEnd (ch : ChanId) (s : State) :
    exec (.transitionSettleEnd ch) s = .next (s.on (fun d => d.observed (fun d => d.settleEnd ch.val))) := rfl

/-- A settle time's end, where `x` is the device with the step's engines started or stopped: the team enters the state `st`,
and the transition ends there or goes on to its next step. -/
theorem exec_transitionSettleEnd_step {x : Dev} {st : Nat} {pre : Bool} (htrans : (s.dev.chan ch.val).trans = some t)
    (hx : KeepsTransition (s.dev.advance (s.dev.instantAt due)) x ch.val) (hst : st ≠ 0)
    (hend : s.dev.settleEnd ch.val = (x.teamState ch.val st).transNext ch.val pre) :
    ∃ u : State, exec (.transitionSettleEnd ch) s = .next u ∧ u.mem = s.mem ∧
      u.dev.now = max s.dev.now (s.dev.instantAt due) ∧ (t.target = st → (u.dev.chan ch.val).trans = none) ∧
      (∀ m ∈ s.dev.team ch.val, (u.dev.chan m).state = st) ∧ (∀ e, u.dev.eng e = x.eng e) ∧
      (u.dev.chan ch.val).r = (x.chan ch.val).r := by
  have hteam : x.team ch.val = s.dev.team ch.val := Dev.team_congr hx.gangs ch.val
  have hsame := Dev.transNext_sameOutputs (x.teamState ch.val st) ch.val pre
  have hstate : ∀ m ∈ s.dev.team ch.val, ((x.teamState ch.val st).chan m).state = st :=
    fun m hm => Dev.teamState_state (hteam ▸ hm)
  refine ⟨_, exec_transitionSettleEnd ch s, rfl, ?now, fun htarget => ?done, fun m hm => ?state, fun e => ?eng, ?gen⟩
  all_goals rw [State.on_dev]
  case now => rw [Dev.observed_now, hend, hsame.now, Dev.teamState_now, hx.now]; rfl
  case done =>
    have hreached : ((x.teamState ch.val st).chan ch.val).state = t.target :=
      (hstate _ (Dev.mem_team ch.isLt)).trans htarget.symm
    have ht : ((x.teamState ch.val st).chan ch.val).trans = some t := by rw [Dev.teamState_trans, hx.trans]; exact htrans
    rw [Dev.observed_chan, hend, Dev.transNext_reached ht hreached (htarget ▸ hst), Dev.transEnd_trans]
  case state => rw [Dev.observed_chan, hend, hsame.state, hstate m hm]
  case eng => unfold Dev.eng; rw [Dev.observed_engines, hend, hsame.engines, Dev.teamState_engines]
  case gen => rw [Dev.observed_chan, hend, hsame.gen, Dev.teamState_gen]

variable (htrans : (s.dev.chan ch.val).trans = some t) (hdue : t.due = some due)
include htrans hdue

theorem exec_transitionSettleEnd_enable (hstep : t.step = .enable) :
    ∃ u : State, exec (.transitionSettleEnd ch) s = .next u ∧ u.mem = s.mem ∧
      u.dev.now = max s.dev.now (s.dev.instantAt due) ∧ (t.target = 1 → (u.dev.chan ch.val).trans = none) ∧
      ∀ m ∈ s.dev.team ch.val,
        (u.dev.chan m).state = 1 ∧ (u.dev.eng (4 * m)).st = statesZero ∧ (u.dev.eng (4 * m)).out = 0 := by
  obtain ⟨u, hexec, hmem, hnow, hover, hstate, heng, -⟩ := exec_transitionSettleEnd_step (st := 1) (pre := true) htrans
    (Dev.innerStart_keeps (s.dev.advance (s.dev.instantAt due)) (s.dev.team ch.val) ch.val) (by decide)
    (by simp only [Dev.settleEnd, htrans, hdue, hstep]; rfl)
  refine ⟨u, hexec, hmem, hnow, hover, fun m hm => ⟨hstate m hm, ?_⟩⟩
  rw [heng]
  exact Dev.innerStart_team hm

theorem exec_transitionSettleEnd_close (hstep : t.step = .close) :
    ∃ u : State, exec (.transitionSettleEnd ch) s = .next u ∧ u.mem = s.mem ∧
      u.dev.now = max s.dev.now (s.dev.instantAt due) ∧ (t.target = 2 → (u.dev.chan ch.val).trans = none) ∧
      (∀ m ∈ s.dev.team ch.val, (u.dev.chan m).state = 2) ∧
      ∀ role : Nat, 1 ≤ role → role ≤ 3 →
        (u.dev.eng (4 * ch.val + role)).st = statesZero ∧ (u.dev.eng (4 * ch.val + role)).out = 0 := by
  obtain ⟨u, hexec, hmem, hnow, hover, hstate, heng, -⟩ := exec_transitionSettleEnd_step (st := 2) (pre := false) htrans
    (Dev.outerStart_keeps (s.dev.advance (s.dev.instantAt due)) ch.val) (by decide)
    (by simp only [Dev.settleEnd, htrans, hdue, hstep])
  refine ⟨u, hexec, hmem, hnow, hover, hstate, fun role hlo hhi => ?_⟩
  rw [heng]
  exact Dev.outerStart_eng _ ch.val hlo hhi

theorem exec_transitionSettleEnd_release (hstep : t.step = .release) :
    ∃ u : State, exec (.transitionSettleEnd ch) s = .next u ∧ u.mem = s.mem ∧
      u.dev.now = max s.dev.now (s.dev.instantAt due) ∧ (t.target = 1 → (u.dev.chan ch.val).trans = none) ∧
      (∀ m ∈ s.dev.team ch.val, (u.dev.chan m).state = 1) ∧ (u.dev.chan ch.val).r = 0 ∧
      ∀ role : Nat, role ≤ 3 → (u.dev.eng (4 * ch.val + role)).out = (s.dev.eng (4 * ch.val + role)).out := by
  obtain ⟨u, hexec, hmem, hnow, hover, hstate, heng, hgen⟩ := exec_transitionSettleEnd_step (st := 1) (pre := false) htrans
    (Dev.outerStop_keeps (s.dev.advance (s.dev.instantAt due)) ch.val) (by decide)
    (by simp only [Dev.settleEnd, htrans, hdue, hstep])
  refine ⟨u, hexec, hmem, hnow, hover, hstate, ?_, fun role _ => ?_⟩
  · rw [hgen, Dev.outerStop, Dev.modChan_same]
  · rw [heng, Dev.outerStop_out]; rfl

end

end Sys2Proof.Machine
end

section
/-! What the opening of a traceable session leaves (R405). A latch may open a session, which ends apertures and takes ranges; it
leaves the stage-control bus and the clock. -/

namespace Sys2Proof.Machine

/-- Only channels, what their results pass through, Helon's packets, calibration and pending commands differ. -/
def OnlyOpened (a b : Dev) : Prop :=
  b = { a with fns := b.fns, msgs := b.msgs, tg := b.tg, log := b.log, chans := b.chans, seam := b.seam, fab := b.fab,
               seqs := b.seqs, results := b.results, cal := b.cal, vec := b.vec }

theorem OnlyOpened.refl (a : Dev) : OnlyOpened a a := rfl

theorem OnlyOpened.trans {a b c : Dev} (h : OnlyOpened a b) (k : OnlyOpened b c) : OnlyOpened a c := by
  unfold OnlyOpened at *; rw [k, h]

/-- The last change first, as a definition shows it. -/
theorem OnlyOpened.after {a b c : Dev} (k : OnlyOpened b c) (h : OnlyOpened a b) : OnlyOpened a c := h.trans k

theorem OnlyOpened.foldl {β : Type} (f : Dev → β → Dev) (h : ∀ s x, OnlyOpened s (f s x)) (l : List β) (s : Dev) :
    OnlyOpened s (l.foldl f s) := by
  induction l generalizing s with
  | nil => exact OnlyOpened.refl s
  | cons x r ih => exact OnlyOpened.trans (h s x) (ih _)

theorem OnlyOpened.ite {a b c : Dev} {p : Prop} [Decidable p] (h : OnlyOpened a b) (k : OnlyOpened a c) :
    OnlyOpened a (if p then b else c) := by
  split
  · exact h
  · exact k

theorem Dev.modChan_opened (s : Dev) (c : Nat) (g : Chan → Chan) : OnlyOpened s (s.modChan c g) := rfl
theorem Dev.modSeq_opened (s : Dev) (c : Nat) (g : Seq → Seq) : OnlyOpened s (s.modSeq c g) := rfl
theorem Dev.modRes_opened (s : Dev) (c : Nat) (g : ResChan → ResChan) : OnlyOpened s (s.modRes c g) := rfl
theorem Dev.modFn_opened (s : Dev) (f : Nat) (g : Fn → Fn) : OnlyOpened s (s.modFn f g) := rfl
theorem Dev.modSeam_opened (s : Dev) (g : Seam → Seam) : OnlyOpened s (s.modSeam g) := rfl
theorem Dev.modCal_opened (s : Dev) (g : Cal → Cal) : OnlyOpened s (s.modCal g) := rfl
theorem Dev.detach_opened (s : Dev) (n : Nat) : OnlyOpened s (s.detach n) := rfl

theorem OnlyIrq.opened {a b : Dev} (h : OnlyIrq a b) : OnlyOpened a b := by
  unfold OnlyIrq at h; unfold OnlyOpened; rw [h]

theorem OnlyLog.opened {a b : Dev} (h : OnlyLog a b) : OnlyOpened a b := by
  unfold OnlyLog at h; unfold OnlyOpened; rw [h]

theorem Dev.modStream_opened (s : Dev) (i : Nat) (g : Stream → Stream) : OnlyOpened s (s.modStream i g) := by
  unfold Dev.modStream; split <;> rfl

theorem Dev.insertGap_opened (s : Dev) (i : Nat) : OnlyOpened s (s.insertGap i) := by
  unfold Dev.insertGap
  split
  · exact OnlyOpened.refl s
  · exact OnlyOpened.ite (Dev.modStream_opened ..) (OnlyOpened.refl s)

theorem Dev.lose_opened (s : Dev) (i : Nat) (r : Rec) (n : Nat) : OnlyOpened s (s.lose i r n) := by
  unfold Dev.lose
  exact OnlyOpened.after (Dev.modFn_opened ..) (Dev.modStream_opened ..)

theorem Dev.formRec_opened (s : Dev) (r : Rec) : OnlyOpened s (s.formRec r) := by
  refine OnlyOpened.ite (OnlyOpened.refl s) (OnlyOpened.trans (Dev.insertGap_opened s r.stream) ?_)
  exact OnlyOpened.ite ((Dev.modStream_opened ..).trans (Dev.modStream_opened ..))
    ((Dev.modStream_opened ..).trans (Dev.lose_opened ..))

theorem Dev.readPair_opened (s : Dev) (i : Nat) (r : Rec) : OnlyOpened s (s.readPair i r).1 := by
  unfold Dev.readPair
  dsimp only
  split
  · exact OnlyOpened.refl s
  · exact (Dev.modStream_opened ..).trans (Dev.logIt_only ..).opened

theorem Dev.joinCaravan_opened (s : Dev) (f r : Nat) : OnlyOpened s (s.joinCaravan f r) :=
  OnlyOpened.ite rfl rfl

theorem Dev.closeBlock_opened (s : Dev) (f r : Nat) (flushed : Bool) : OnlyOpened s (s.closeBlock f r flushed) :=
  OnlyOpened.ite (OnlyOpened.refl s) ((Dev.modFn_opened ..).trans (Dev.joinCaravan_opened ..))

theorem Dev.takeOne_opened (s : Dev) (i : Nat) (r : Rec) : OnlyOpened s (s.takeOne i r) :=
  OnlyOpened.after (OnlyOpened.ite (Dev.closeBlock_opened ..) (OnlyOpened.refl _))
    (OnlyOpened.after (Dev.modFn_opened ..) (OnlyOpened.after (Dev.modStream_opened ..) (Dev.readPair_opened s i r)))

theorem Dev.takeList_opened (i : Nat) (l : List Rec) (s : Dev) : OnlyOpened s (s.takeList i l) := by
  induction l generalizing s with
  | nil => exact OnlyOpened.refl s
  | cons r rest ih => exact OnlyOpened.ite ((Dev.takeOne_opened s i r).trans (ih _)) (OnlyOpened.refl s)

theorem Dev.record_opened (s : Dev) (r : Rec) : OnlyOpened s (s.record r) :=
  (Dev.formRec_opened s r).trans (Dev.takeList_opened ..)

theorem Dev.codeErrs_opened (s : Dev) (c : Nat) (diffs : List Nat) : OnlyOpened s (s.codeErrs c diffs) :=
  OnlyOpened.ite (OnlyOpened.refl s) ((Dev.modStream_opened ..).trans (Dev.logIt_only ..).opened)

theorem Dev.formMeas_opened (s : Dev) (c : Nat) (a : Aper) (te : Nat) : OnlyOpened s (s.formMeas c a te) :=
  (Dev.codeErrs_opened s c _).trans (Dev.record_opened ..)

theorem Dev.staleLast_opened (s : Dev) (c : Nat) : OnlyOpened s (s.staleLast c) := rfl

theorem Dev.apersEnd_opened (s : Dev) (c : Nat) : OnlyOpened s (s.apersEnd c) := by
  unfold Dev.apersEnd
  refine OnlyOpened.after (Dev.modSeq_opened ..) (OnlyOpened.after (OnlyOpened.ite (OnlyOpened.refl _) (Dev.detach_opened ..))
    (OnlyOpened.after (Dev.modRes_opened ..) (OnlyOpened.after
      (OnlyOpened.ite (Dev.staleLast_opened ..) (OnlyOpened.refl _)) (OnlyOpened.foldl _ (fun d a => ?cut) _ s))))
  case cut =>
    exact OnlyOpened.ite (OnlyOpened.refl d) (OnlyOpened.ite (Dev.formMeas_opened ..) (Dev.formMeas_opened ..))

theorem OnlyOpened.forAll {f : Dev → Nat → Dev} (h : ∀ e x, OnlyOpened e (f e x)) (l : List Nat) (d : Dev) :
    OnlyOpened d (d.forAll l f) :=
  OnlyOpened.foldl f h l d

theorem Dev.rescaleApers_opened (s : Dev) (c : Nat) (cur : Bool) (f : Frac) : OnlyOpened s (s.rescaleApers c cur f) := by
  unfold Dev.rescaleApers
  exact OnlyOpened.after (Dev.modRes_opened ..) (Dev.modSeq_opened ..)

theorem Dev.takeRange_opened (s : Dev) (c : Nat) (cur : Bool) (old new : Nat) : OnlyOpened s (s.takeRange c cur old new) :=
  OnlyOpened.after (OnlyOpened.forAll (fun e m => Dev.rescaleApers_opened e m ..) _ _)
    (OnlyOpened.after (Dev.modSeq_opened ..) (OnlyOpened.forAll (fun e m => Dev.modChan_opened e m _) _ s))

theorem Dev.plainQty_opened (s : Dev) (c : Nat) (cur : Bool) (old new : Nat) : OnlyOpened s (s.plainQty c cur old new) :=
  OnlyOpened.ite (OnlyOpened.refl s) ((Dev.takeRange_opened s c cur old new).trans
    (OnlyOpened.forAll (fun e m => Dev.modChan_opened e m _) _ _))

theorem Dev.plainApply_opened (s : Dev) (c v i : Nat) : OnlyOpened s (s.plainApply c v i) := by
  unfold Dev.plainApply
  exact OnlyOpened.after (Dev.modSeam_opened ..) (OnlyOpened.after (Dev.plainQty_opened ..) (Dev.plainQty_opened ..))

theorem Dev.traceOpen_opened (s : Dev) : OnlyOpened s s.traceOpen := by
  unfold Dev.traceOpen
  split
  · exact OnlyOpened.refl s
  · exact OnlyOpened.ite (OnlyOpened.refl s) (OnlyOpened.after (Dev.irq_only ..).opened (OnlyOpened.after
      (Dev.modCal_opened ..) (OnlyOpened.after (Dev.plainApply_opened ..) (Dev.apersEnd_opened ..))))

theorem Dev.traceLatched_opened (s : Dev) : OnlyOpened s s.traceLatched := by
  unfold Dev.traceLatched
  split
  · exact OnlyOpened.ite (Dev.traceOpen_opened s) (OnlyOpened.refl s)
  · exact OnlyOpened.refl s

theorem Dev.traceLatched_now (s : Dev) : s.traceLatched.now = s.now := by rw [Dev.traceLatched_opened s]

theorem Dev.traceLatched_stage (s : Dev) (n : Nat) : s.traceLatched.stage n = s.stage n := by
  unfold Dev.stage; rw [Dev.traceLatched_opened s]

end Sys2Proof.Machine
end

section
/-! The stage-control bus: STAGE_WORD_LATCH and STAGE_CONFIRM_TRANSFER (spec/04_channels.md, R135, R146 to R150, R227). -/

namespace Sys2Proof.Machine

theorem Dev.observed_stage (d : Dev) (g : Dev → Dev) (n : Nat) : (d.observed g).stage n = (g d).stage n := by
  unfold Dev.stage; rw [Dev.observed_stages]

/-! ### The leaders of a module's channels -/

theorem Dev.mem_moduleLeaders {d : Dev} {m l : Nat} : l ∈ d.moduleLeaders m ↔ ∃ c, c / 4 = m ∧ d.leader c = l := by
  simp only [Dev.moduleLeaders, mem_sortedFns, List.mem_map, List.mem_range]
  constructor
  · rintro ⟨k, hk, rfl⟩
    exact ⟨4 * m + k, by omega, rfl⟩
  · rintro ⟨c, rfl, rfl⟩
    exact ⟨c % 4, by omega, by rw [Nat.div_add_mod]⟩

theorem Dev.forLeaders_fixed {d : Dev} {m : Nat} {f : Dev → Nat → Dev} (h : ∀ c, c / 4 = m → f d (d.leader c) = d) :
    d.forAll (d.moduleLeaders m) f = d :=
  Dev.forAll_fixed fun l hl => by
    obtain ⟨c, hc, rfl⟩ := Dev.mem_moduleLeaders.mp hl
    exact h c hc

/-! ### The latch of a group (R148, R227) -/

/-- Each round of collecting the modules that latch together keeps those it has. -/
theorem Dev.self_mem_latchGroup (d : Dev) (m : Nat) : m ∈ d.latchGroup m := by
  simp [Dev.latchGroup, mem_sortedFns]

theorem Dev.latchGroup_nodup (d : Dev) (m : Nat) : (d.latchGroup m).Nodup := sortedFns_nodup _

/-- Every module of a list latches once. -/
theorem Dev.latchAll_stage {l : List Nat} (h : l.Nodup) (d : Dev) (t n : Nat) :
    (d.forAll l (fun s n => s.modStage n (fun x => x.latch t))).stage n =
      if n ∈ l then (d.stage n).latch t else d.stage n := by
  induction l generalizing d with
  | nil => rfl
  | cons x r ih =>
    obtain ⟨hx, hr⟩ := List.nodup_cons.mp h
    refine (ih hr _).trans ?_
    rw [Dev.modStage_get]
    by_cases hn : n = x
    · subst hn
      simp [hx]
    · simp [hn]

theorem Stage.latch_word {g : Stage} {w : W64} {e : Nat} (h : g.shift = some (w, e)) (t : Nat) :
    (g.latch t).latched = w ∧ (g.latch t).lastLatch = some t ∧ (g.latch t).unconfirmed = true ∧
      (g.wanted = w → (g.latch t).shift = none) := by
  simp only [Stage.latch, h]
  split
  · exact ⟨rfl, rfl, rfl, fun _ => rfl⟩
  · next hwaits => exact ⟨rfl, rfl, rfl, fun hwanted => absurd (by simp [hwanted]) hwaits⟩

section
variable {d : Dev} {c : Nat}

theorem Dev.transLatched_none (h : (d.chan c).trans = none) : d.transLatched c = d := by
  simp only [Dev.transLatched, h]

theorem Dev.offCheck_none (h : (d.chan c).trans = none) : d.offCheck c = d := by
  simp only [Dev.offCheck, h]

theorem Dev.rcLatched_none (h : (d.chan c).rc = none) : d.rcLatched c = d := by
  simp only [Dev.rcLatched, h]

theorem Dev.rcConfirmed_none (h : (d.chan c).rc = none) : d.rcConfirmed c = d := by
  simp only [Dev.rcConfirmed, h]

theorem Dev.rcRelatch_none (h : (d.chan c).rc = none) (t : Nat) : d.rcRelatch c t = d := by
  simp only [Dev.rcRelatch, h]

theorem Dev.rcDrop_none (h : (d.chan c).rc = none) (st : Nat) : d.rcDrop c st = d := by
  simp only [Dev.rcDrop, h]

end

/-- The latches of a module whose channels have neither a transition nor a range change do nothing for them. -/
theorem Dev.afterLatch_fixed {d : Dev} {m : Nat}
    (h : ∀ c, c / 4 = m → (d.chan (d.leader c)).trans = none ∧ (d.chan (d.leader c)).rc = none) : d.afterLatch m = d :=
  Dev.forLeaders_fixed fun c hc => by
    obtain ⟨htrans, hrc⟩ := h c hc
    rw [Dev.transLatched_none htrans, Dev.rcLatched_none hrc, Dev.offCheck_none htrans]

/-- The device whose modules of a group have latched at `t`. -/
def Dev.groupLatched (d : Dev) (g : List Nat) (t : Nat) : Dev :=
  (d.advance t).forAll g (fun s n => s.modStage n (fun x => x.latch t))

theorem Dev.groupLatched_now (d : Dev) (g : List Nat) (t : Nat) : (d.groupLatched g t).now = max d.now t :=
  Dev.forAll_keeps Dev.now

theorem Dev.groupLatched_chan (d : Dev) (g : List Nat) (t c : Nat) : (d.groupLatched g t).chan c = d.chan c :=
  Dev.forAll_keeps (fun e => e.chan c)

theorem Dev.groupLatched_gangs (d : Dev) (g : List Nat) (t : Nat) : (d.groupLatched g t).gangs = d.gangs :=
  Dev.forAll_keeps Dev.gangs

theorem Dev.stageLatch_quiet {d : Dev} {m t : Nat} (hshift : (d.stage m).shift.isSome = true) (hat : d.groupLatchAt m = some t)
    (h : ∀ c, c / 4 ∈ d.latchGroup m → (d.chan (d.leader c)).trans = none ∧ (d.chan (d.leader c)).rc = none) :
    d.stageLatch m = d.groupLatched (d.latchGroup m) t := by
  have hlatch : d.stageLatch m = (d.groupLatched (d.latchGroup m) t).forAll (d.latchGroup m) Dev.afterLatch := by
    simp only [Dev.stageLatch, hat, Option.isNone_eq_false_iff.mpr hshift]
    rfl
  rw [hlatch]
  refine Dev.forAll_fixed fun n hn => Dev.afterLatch_fixed fun c hc => ?_
  rw [Dev.leader_congr (Dev.groupLatched_gangs ..), Dev.groupLatched_chan]
  exact h c (hc ▸ hn)

theorem exec_stageWordLatch (m : ModId) (s : State) :
    exec (.stageWordLatch m) s = .next (s.on (fun d => d.observed (fun d => (d.stageLatch m.val).traceLatched))) := rfl

theorem exec_stageWordLatch_quiet {m : ModId} {s : State} {t : Nat} (hshift : (s.dev.stage m.val).shift.isSome = true)
    (hat : s.dev.groupLatchAt m.val = some t)
    (h : ∀ c, c / 4 ∈ s.dev.latchGroup m.val →
      (s.dev.chan (s.dev.leader c)).trans = none ∧ (s.dev.chan (s.dev.leader c)).rc = none) :
    ∃ u : State, exec (.stageWordLatch m) s = .next u ∧ u.mem = s.mem ∧ u.dev.now = max s.dev.now t ∧
      ∀ n ∈ s.dev.latchGroup m.val, ∀ (w : W64) (e : Nat), (s.dev.stage n).shift = some (w, e) →
        (u.dev.stage n).latched = w ∧ (u.dev.stage n).lastLatch = some t ∧ (u.dev.stage n).unconfirmed = true ∧
        ((s.dev.stage n).wanted = w → (u.dev.stage n).shift = none) := by
  have hlatch := Dev.stageLatch_quiet hshift hat h
  refine ⟨_, exec_stageWordLatch m s, rfl, ?_, fun n hn w e hw => ?_⟩
  · rw [State.on_dev, Dev.observed_now, Dev.traceLatched_now, hlatch, Dev.groupLatched_now]
  · rw [State.on_dev, Dev.observed_stage, Dev.traceLatched_stage, hlatch, Dev.groupLatched,
      Dev.latchAll_stage (Dev.latchGroup_nodup ..), if_pos hn]
    exact Stage.latch_word (g := (s.dev.advance t).stage n) hw t

/-! ### The check of a latched word (R149, R150) -/

theorem Stage.checkAt_idle {g : Stage} (h : g.shift = none) (t : Nat) : g.checkAt t = t + 4200000 := by
  rw [Stage.checkAt, h]
  exact Nat.add_assoc t 1000000 3200000

/-- A module after its word has passed the check: a word that waited is shifted next. -/
def Stage.confirmed (now : Nat) (g : Stage) : Stage :=
  let g1 := { g with unconfirmed := false, failedOnce := false }
  if g1.shift.isNone && g1.wanted != g1.latched then { g1 with shift := some (g1.wanted, now + shiftPs) } else g1

theorem Stage.confirmed_fields (now : Nat) (g : Stage) :
    (g.confirmed now).unconfirmed = false ∧ (g.confirmed now).failedOnce = false ∧
      (g.confirmed now).latched = g.latched ∧ (g.confirmed now).readback = g.readback := by
  unfold Stage.confirmed
  dsimp only
  split <;> exact ⟨rfl, rfl, rfl, rfl⟩

/-- A module after its word has failed the check for the first time: the same word is shifted again. -/
def Stage.repeated (now : Nat) (g : Stage) : Stage :=
  { g with failedOnce := true, unconfirmed := false, shift := some (g.latched, now + shiftPs) }

/-- A module after its word has failed the check for the second time. -/
def Stage.failed (g : Stage) : Stage := { g with failedOnce := false, unconfirmed := false }

/-- The device at the check of a module's word, with what was read. -/
def Dev.checked (d : Dev) (m : Nat) (rb : W64) (t : Nat) : Dev :=
  (d.advance ((d.stage m).checkAt t)).modStage m (fun g => { g with readback := rb })

/-- The device at a failed check, with its log entry. -/
def Dev.mismatch (d : Dev) (m : Nat) (rb : W64) (t : Nat) : Dev :=
  (d.checked m rb t).logIt (kStageReadback m (d.stage m).failedOnce)
    (halfAt (d.stage m).latched (badHalf rb (d.stage m).latched) + 65536 * bit (d.stage m).failedOnce)

/-- The device whose module has passed the check. -/
def Dev.confirmed (d : Dev) (m : Nat) (rb : W64) (t : Nat) : Dev :=
  (d.checked m rb t).modStage m (Stage.confirmed (d.checked m rb t).now)

/-- The device whose module repeats its word. -/
def Dev.repeated (d : Dev) (m : Nat) (rb : W64) (t : Nat) : Dev :=
  (d.mismatch m rb t).modStage m (Stage.repeated (d.mismatch m rb t).now)

/-- The device with STAGE_FAULT on the channels of a module. -/
def Dev.faulted (d : Dev) (m : Nat) (rb : W64) (t : Nat) : Dev :=
  ((d.mismatch m rb t).modStage m Stage.failed).forAll ((List.range 4).map (4 * m + ·))
    (fun s c => s.modChan c (fun x => { x with stageFault := true }))

/-- One channel of a module whose word has failed the check for the second time. -/
def Dev.faultEnd (d : Dev) (c : Nat) : Dev :=
  if (d.chan c).rc.isSome then d.rcFail c stIntegrity else d.toSafe c stIntegrity stIntegrity 5

section
variable (d : Dev) (m : Nat) (rb : W64) (t : Nat)

theorem Dev.checked_stage : (d.checked m rb t).stage m = { d.stage m with readback := rb } := Dev.modStage_same ..

theorem Dev.mismatch_now : (d.mismatch m rb t).now = max d.now ((d.stage m).checkAt t) := Dev.logIt_now ..

theorem Dev.mismatch_gangs : (d.mismatch m rb t).gangs = d.gangs := Dev.logIt_gangs ..

theorem Dev.mismatch_cal : (d.mismatch m rb t).cal = d.cal := Dev.logIt_cal ..

theorem Dev.mismatch_chan (c : Nat) : (d.mismatch m rb t).chan c = d.chan c :=
  congrArg (tblGet chanInit · c) (Dev.logIt_chans ..)

theorem Dev.mismatch_seq (c : Nat) : (d.mismatch m rb t).seq c = d.seq c :=
  congrArg (tblGet seqInit · c) (Dev.logIt_seqs ..)

theorem Dev.mismatch_stage : (d.mismatch m rb t).stage m = { d.stage m with readback := rb } :=
  (congrArg (tblGet stageInit · m) (Dev.logIt_stages ..)).trans (d.checked_stage m rb t)

theorem Dev.confirmed_stage : (d.confirmed m rb t).stage m =
    ({ d.stage m with readback := rb } : Stage).confirmed (d.checked m rb t).now := by
  rw [Dev.confirmed, Dev.modStage_same, Dev.checked_stage]

theorem Dev.repeated_gangs : (d.repeated m rb t).gangs = d.gangs := d.mismatch_gangs m rb t

theorem Dev.repeated_chan (c : Nat) : (d.repeated m rb t).chan c = d.chan c := d.mismatch_chan m rb t c

theorem Dev.repeated_stage : (d.repeated m rb t).stage m =
    ({ d.stage m with readback := rb } : Stage).repeated (max d.now ((d.stage m).checkAt t)) := by
  rw [Dev.repeated, Dev.modStage_same, Dev.mismatch_stage, Dev.mismatch_now]

theorem Dev.faulted_gangs : (d.faulted m rb t).gangs = d.gangs :=
  (Dev.forAll_keeps Dev.gangs).trans (d.mismatch_gangs m rb t)

theorem Dev.faulted_cal : (d.faulted m rb t).cal = d.cal :=
  (Dev.forAll_keeps Dev.cal).trans (d.mismatch_cal m rb t)

theorem Dev.faulted_seq (c : Nat) : (d.faulted m rb t).seq c = d.seq c :=
  (Dev.forAll_keeps (fun e => e.seq c)).trans (d.mismatch_seq m rb t c)

theorem Dev.faulted_rc (c : Nat) : ((d.faulted m rb t).chan c).rc = (d.chan c).rc :=
  (Dev.forAll_keeps (fun e => (e.chan c).rc) fun e x => Dev.modChan_keeps Chan.rc e x c).trans
    (congrArg Chan.rc (d.mismatch_chan m rb t c))

theorem Dev.faulted_trans (c : Nat) : ((d.faulted m rb t).chan c).trans = (d.chan c).trans :=
  (Dev.forAll_keeps (fun e => (e.chan c).trans) fun e x => Dev.modChan_keeps Chan.trans e x c).trans
    (congrArg Chan.trans (d.mismatch_chan m rb t c))

theorem Dev.faulted_stageFault {c : Nat} (hc : c / 4 = m) : ((d.faulted m rb t).chan c).stageFault = true := by
  refine Dev.forAll_reaches (I := fun _ => True) (P := fun e => (e.chan c).stageFault = true) (mem_module_channels.mpr hc)
    (fun _ _ _ _ => trivial) (fun e _ => ?set) (fun e x _ _ he => ?keep) trivial
  case set => rw [Dev.modChan_same]
  case keep =>
    rw [Dev.modChan_get]
    split
    · rfl
    · exact he

end

/-! ### What a check does, case by case -/

section
variable {d : Dev} {m : Nat} {rb : W64} {t : Nat} (hlast : (d.stage m).lastLatch = some t)
  (hopen : (d.stage m).unconfirmed = true)
include hlast hopen

theorem Dev.stageConfirm_passes (h : rb = (d.stage m).latched) (hrc : ∀ c, c / 4 = m → (d.chan (d.leader c)).rc = none) :
    d.stageConfirm m rb = d.confirmed m rb t := by
  have hbody : d.stageConfirm m rb = (d.confirmed m rb t).forAll ((d.confirmed m rb t).moduleLeaders m) Dev.rcConfirmed := by
    simp only [Dev.stageConfirm, hlast, hopen]
    exact (if_neg (by decide)).trans (if_pos (beq_iff_eq.mpr h))
  rw [hbody]
  exact Dev.forLeaders_fixed fun c hc => Dev.rcConfirmed_none (hrc c hc)

theorem Dev.stageConfirm_repeats (h : rb ≠ (d.stage m).latched) (honce : (d.stage m).failedOnce = false)
    (hrc : ∀ c, c / 4 = m → (d.chan (d.leader c)).rc = none) : d.stageConfirm m rb = d.repeated m rb t := by
  have hbody : d.stageConfirm m rb =
      (d.repeated m rb t).forAll ((d.repeated m rb t).moduleLeaders m) (fun s c => s.rcRelatch c t) := by
    simp only [Dev.stageConfirm, hlast, hopen]
    exact (if_neg (by decide)).trans ((if_neg (by simpa using h)).trans (if_pos (by simp [honce])))
  rw [hbody]
  refine Dev.forLeaders_fixed fun c hc => Dev.rcRelatch_none ?_ t
  rw [Dev.repeated_chan, Dev.leader_congr (d.repeated_gangs m rb t), hrc c hc]

theorem Dev.stageConfirm_faults (h : rb ≠ (d.stage m).latched) (honce : (d.stage m).failedOnce = true)
    (htrace : d.cal.trace = none) :
    d.stageConfirm m rb = (d.faulted m rb t).forAll ((d.faulted m rb t).moduleLeaders m) Dev.faultEnd := by
  have hcal : (d.faulted m rb t).cal.trace = none := by rw [Dev.faulted_cal, htrace]
  simp only [Dev.stageConfirm, hlast, hopen]
  rw [if_neg (by decide), if_neg (by simpa using h), if_neg (by simp [honce])]
  -- no traceable session is open or opening, so the body's branch for one is not taken
  unfold Dev.faulted Dev.mismatch Dev.checked Stage.failed at hcal ⊢
  simp only [hcal]
  rfl

end

/-! ### A module's channels that go to OFF (R135) -/

/-- A channel whose OUTER, CLAMP and TRIM have stopped (R195). -/
def Chan.outerStopped (x : Chan) : Chan :=
  { x with r := 0, r1 := 0, r2 := 0, d1 := 0, d2 := 0, uSel := 0, ramp := none, compliance := false }

/-- A channel that has gone to OFF (R135). -/
def Chan.off (x : Chan) : Chan :=
  { x.outerStopped.repSafe with state := 0, satRun := 0, shareRun := 0, compliance := false, slewStart := false, req := false }

theorem Dev.outerStop_chan (d : Dev) (m c : Nat) :
    (d.outerStop m).chan c = if c = m then (d.chan c).outerStopped else d.chan c := by
  have hchan : ∀ i, (d.forAll [1, 2, 3] (fun s r => s.modEng (engNo m r) Engine.stop)).chan i = d.chan i :=
    fun i => Dev.forAll_keeps (fun e => e.chan i)
  rw [Dev.outerStop, Dev.modChan_get, hchan, hchan]
  split
  · next h => rw [h]; rfl
  · rfl

theorem Dev.memberOff_chan (d : Dev) (m c : Nat) : (d.memberOff m).chan c = if c = m then (d.chan c).off else d.chan c := by
  unfold Dev.memberOff Dev.memberStop
  rw [Dev.modChan_get]
  dsimp only [Dev.setHalf]
  simp only [Dev.modStage_chan, Dev.modChan_get, Dev.modEng_chan, Dev.outerStop_chan]
  split
  · next h => simp only [h, if_true]; rfl
  · rfl

theorem Dev.memberOff_gangs (d : Dev) (m : Nat) : (d.memberOff m).gangs = d.gangs := by
  simp only [Dev.memberOff, Dev.memberStop, Dev.setHalf, Dev.outerStop, Dev.modChan_gangs, Dev.modStage_gangs,
    Dev.modEng_gangs]
  exact Dev.forAll_keeps Dev.gangs

theorem Dev.memberOff_seq (d : Dev) (m c : Nat) : (d.memberOff m).seq c = d.seq c := by
  simp only [Dev.memberOff, Dev.memberStop, Dev.setHalf, Dev.outerStop, Dev.modChan_seq, Dev.modStage_seq, Dev.modEng_seq]
  exact Dev.forAll_keeps (fun e => e.seq c)

/-- A field that going to OFF leaves. -/
theorem Dev.memberOff_keeps {α : Type} (p : Chan → α) (d : Dev) (m c : Nat)
    (h : ∀ x : Chan, p x.off = p x := by intro; rfl) : p ((d.memberOff m).chan c) = p (d.chan c) := by
  rw [Dev.memberOff_chan]
  split
  · exact h _
  · rfl

/-- A channel stands alone, with no range change, transition or sequence, and with STAGE_FAULT. -/
structure FaultAlone (d : Dev) (c : Nat) : Prop where
  rc : (d.chan c).rc = none
  trans : (d.chan c).trans = none
  leader : d.leader c = c
  team : d.team c = [c]
  seq : (d.seq c).state = 0
  fault : (d.chan c).stageFault = true

theorem FaultAlone.memberOff {d : Dev} {c : Nat} (h : FaultAlone d c) (x : Nat) : FaultAlone (d.memberOff x) c where
  rc := (Dev.memberOff_keeps Chan.rc d x c).trans h.rc
  trans := (Dev.memberOff_keeps Chan.trans d x c).trans h.trans
  leader := (Dev.leader_congr (d.memberOff_gangs x) c).trans h.leader
  team := (Dev.team_congr (d.memberOff_gangs x) c).trans h.team
  seq := (congrArg Seq.state (d.memberOff_seq x c)).trans h.seq
  fault := (Dev.memberOff_keeps Chan.stageFault d x c).trans h.fault

theorem Dev.seqEnd_idle {d : Dev} {c : Nat} (h : (d.seq c).state = 0) (reason tx : Nat) : d.seqEnd c reason tx = d :=
  if_neg (by simp [h])

/-- The safe state of such a channel is OFF, and nothing else ends. -/
theorem FaultAlone.toSafe {d : Dev} {c : Nat} (h : FaultAlone d c) (stTrans stRc reason : Nat) :
    d.toSafe c stTrans stRc reason = d.memberOff c := by
  have hoff : d.teamOff c = d.memberOff c := by rw [Dev.teamOff, h.team]; rfl
  have hafter := h.memberOff c
  simp only [Dev.toSafe, h.leader, Dev.rcDrop_none h.rc, hoff, Dev.transEnd_none hafter.trans, Dev.teamSeqEnd, hafter.team]
  exact Dev.seqEnd_idle hafter.seq _ _

theorem FaultAlone.faultEnd {d : Dev} {c : Nat} (h : FaultAlone d c) : d.faultEnd c = d.memberOff c :=
  (if_neg (by simp [h.rc])).trans (h.toSafe ..)

/-- The channels of a module that stand alone go to OFF with STAGE_FAULT. -/
theorem FaultAlone.allOff {d : Dev} {m c : Nat} (h : ∀ x, x / 4 = m → FaultAlone d x) (hc : c / 4 = m) :
    ((d.forAll (d.moduleLeaders m) Dev.faultEnd).chan c).stageFault = true ∧
      ((d.forAll (d.moduleLeaders m) Dev.faultEnd).chan c).state = 0 := by
  have hmem : ∀ x ∈ d.moduleLeaders m, x / 4 = m := fun x hx => by
    obtain ⟨k, hk, rfl⟩ := Dev.mem_moduleLeaders.mp hx
    rw [(h k hk).leader, hk]
  have hinv : ∀ e, ∀ x ∈ d.moduleLeaders m,
      (∀ y, y / 4 = m → FaultAlone e y) → ∀ y, y / 4 = m → FaultAlone (e.faultEnd x) y := fun e x hx he y hy => by
    rw [(he x (hmem x hx)).faultEnd]
    exact (he y hy).memberOff x
  refine ⟨(Dev.forAll_induct (P := fun e => ∀ y, y / 4 = m → FaultAlone e y) hinv h c hc).fault,
    Dev.forAll_reaches (P := fun e => (e.chan c).state = 0) (Dev.mem_moduleLeaders.mpr ⟨c, hc, (h c hc).leader⟩) hinv
      (fun e he => ?set) (fun e x hx he hstate => ?keep) h⟩
  case set =>
    rw [(he c hc).faultEnd, Dev.memberOff_chan, if_pos rfl]
    rfl
  case keep =>
    rw [(he x (hmem x hx)).faultEnd, Dev.memberOff_chan]
    split
    · rfl
    · exact hstate

/-! ### STAGE_CONFIRM_TRANSFER (R149, R150) -/

theorem exec_stageConfirmTransfer (m : ModId) (rb : W64) (s : State) :
    exec (.stageConfirmTransfer m rb) s = .next (s.on (fun d => d.observed (fun d => d.stageConfirm m.val rb))) := rfl

section
variable {m : ModId} {rb : W64} {s : State} {t : Nat} (hlast : (s.dev.stage m.val).lastLatch = some t)
  (hopen : (s.dev.stage m.val).unconfirmed = true)
include hlast hopen

theorem exec_stageConfirmTransfer_passes (h : rb = (s.dev.stage m.val).latched)
    (hrc : ∀ c, c / 4 = m.val → (s.dev.chan (s.dev.leader c)).rc = none) :
    ∃ u : State, exec (.stageConfirmTransfer m rb) s = .next u ∧ u.mem = s.mem ∧
      u.dev.now = max s.dev.now ((s.dev.stage m.val).checkAt t) ∧
      (u.dev.stage m.val).unconfirmed = false ∧ (u.dev.stage m.val).failedOnce = false ∧
      (u.dev.stage m.val).latched = (s.dev.stage m.val).latched ∧ (u.dev.stage m.val).readback = rb := by
  have hconfirm := Dev.stageConfirm_passes hlast hopen h hrc
  refine ⟨_, exec_stageConfirmTransfer m rb s, rfl, ?_, ?_⟩
  · rw [State.on_dev, Dev.observed_now, hconfirm]; rfl
  · rw [State.on_dev, Dev.observed_stage, hconfirm, Dev.confirmed_stage]
    exact Stage.confirmed_fields ..

theorem exec_stageConfirmTransfer_repeats (h : rb ≠ (s.dev.stage m.val).latched)
    (honce : (s.dev.stage m.val).failedOnce = false) (hrc : ∀ c, c / 4 = m.val → (s.dev.chan (s.dev.leader c)).rc = none) :
    ∃ u : State, exec (.stageConfirmTransfer m rb) s = .next u ∧ u.mem = s.mem ∧
      (u.dev.stage m.val).failedOnce = true ∧ (u.dev.stage m.val).latched = (s.dev.stage m.val).latched ∧
      (u.dev.stage m.val).shift =
        some ((s.dev.stage m.val).latched, max s.dev.now ((s.dev.stage m.val).checkAt t) + 3200000) := by
  refine ⟨_, exec_stageConfirmTransfer m rb s, rfl, ?_⟩
  rw [State.on_dev, Dev.observed_stage, Dev.stageConfirm_repeats hlast hopen h honce hrc, Dev.repeated_stage]
  exact ⟨rfl, rfl, rfl⟩

theorem exec_stageConfirmTransfer_faults (h : rb ≠ (s.dev.stage m.val).latched)
    (honce : (s.dev.stage m.val).failedOnce = true) (htrace : s.dev.cal.trace = none)
    (hidle : ∀ c : Nat, c / 4 = m.val → (s.dev.chan c).rc = none ∧ (s.dev.chan c).trans = none ∧ s.dev.leader c = c ∧
      s.dev.team c = [c] ∧ (s.dev.seq c).state = 0) :
    ∃ u : State, exec (.stageConfirmTransfer m rb) s = .next u ∧ u.mem = s.mem ∧
      ∀ c : Nat, c / 4 = m.val → (u.dev.chan c).stageFault = true ∧ (u.dev.chan c).state = 0 := by
  have halone : ∀ c, c / 4 = m.val → FaultAlone (s.dev.faulted m.val rb t) c := fun c hc => by
    obtain ⟨hrc, htrans, hleader, hteam, hseq⟩ := hidle c hc
    exact {
      rc := (s.dev.faulted_rc m.val rb t c).trans hrc
      trans := (s.dev.faulted_trans m.val rb t c).trans htrans
      leader := (Dev.leader_congr (s.dev.faulted_gangs m.val rb t) c).trans hleader
      team := (Dev.team_congr (s.dev.faulted_gangs m.val rb t) c).trans hteam
      seq := (congrArg Seq.state (s.dev.faulted_seq m.val rb t c)).trans hseq
      fault := s.dev.faulted_stageFault m.val rb t hc }
  refine ⟨_, exec_stageConfirmTransfer m rb s, rfl, fun c hc => ?_⟩
  rw [State.on_dev, Dev.observed_chan, Dev.stageConfirm_faults hlast hopen h honce htrace]
  exact FaultAlone.allOff halone hc

end

/-- Settles O23: the settle times step by step, the latch of a group, and the three ends of a check. -/
theorem outputTransitionsAndStageWords : Obligations.OutputTransitionsAndStageWords := by
  refine ⟨fun ch s t d htrans hdue => ?settle, fun m s d hshift hat => ?latch, fun m rb s d hlast hopen => ?confirm⟩
  case settle =>
    exact ⟨exec_transitionSettleEnd_enable htrans hdue, exec_transitionSettleEnd_close htrans hdue,
      exec_transitionSettleEnd_release htrans hdue⟩
  case latch => exact ⟨s.dev.self_mem_latchGroup m.val, exec_stageWordLatch_quiet hshift hat⟩
  case confirm =>
    exact ⟨exec_stageConfirmTransfer_passes hlast hopen, exec_stageConfirmTransfer_repeats hlast hopen,
      fun hidle => Stage.checkAt_idle hidle d, exec_stageConfirmTransfer_faults hlast hopen⟩

end Sys2Proof.Machine
end

section
/-! Rounding, saturation and the output limit of an engine's computation (spec/05_loop_engines.md, R166, R167, R171). -/

namespace Sys2Proof.Machine

/-! ### Rounding to nearest, ties to even (R166) -/

/-- The rounded quotient lies within half a unit of the exact one, and is even where the value lies half-way. -/
theorem rhe_halfEven (n : Int) {d : Nat} (hd : 0 < d) :
    2 * (rhe n d * d - n).natAbs ≤ d ∧ (2 * (rhe n d * d - n).natAbs = d → rhe n d % 2 = 0) := by
  have hdiv : n / (d : Int) * d + n % (d : Int) = n := Int.ediv_mul_add_emod n d
  have hnonneg : 0 ≤ n % (d : Int) := Int.emod_nonneg n (by omega)
  have hlt : n % (d : Int) < d := Int.emod_lt_of_pos n (by omega)
  have hdown : n / (d : Int) * d - n = -(n % d) := by omega
  have hup : (n / (d : Int) + 1) * d - n = d - n % d := by rw [Int.add_mul, Int.one_mul]; omega
  unfold rhe
  dsimp only
  split
  · rw [hdown]; omega
  · split
    · split
      · rw [hdown]; omega
      · rw [hup]; omega
    · rw [hup]; omega

/-- A rounding shift drops `k` bits half to even. -/
theorem rheShift_halfEven (v : Int) (k : Nat) :
    2 * (rheShift v k * (2 ^ k : Nat) - v).natAbs ≤ 2 ^ k ∧
      (2 * (rheShift v k * (2 ^ k : Nat) - v).natAbs = 2 ^ k → rheShift v k % 2 = 0) :=
  rhe_halfEven v (Nat.two_pow_pos k)

/-- Settles O34: both conversions saturate a rounding shift, of 24 bits to a signal and of 14 to a state. -/
theorem conversionsRoundHalfToEven : Obligations.ConversionsRoundHalfToEven := by
  intro acc
  obtain ⟨hsignal, hsignalTie⟩ := rheShift_halfEven acc 24
  obtain ⟨hstate, hstateTie⟩ := rheShift_halfEven acc 14
  exact ⟨rheShift acc 24, rheShift acc 14, rfl, rfl, hsignal, hsignalTie, hstate, hstateTie⟩

/-! ### The output and its limit (R167, R171) -/

/-- A saturated value is one of the format. -/
theorem satN_mem (n : Nat) (v : Int) : -((2 ^ (n - 1) : Nat) : Int) ≤ satN n v ∧ satN n v < (2 ^ (n - 1) : Nat) := by
  have hpos : 0 < 2 ^ (n - 1) := Nat.two_pow_pos (n - 1)
  unfold satN
  dsimp only
  split
  · omega
  · split <;> omega

theorem clampI_eq_min_max {lo hi : Int} (h : lo ≤ hi) (v : Int) : clampI lo hi v = min (max v lo) hi := by
  unfold clampI
  split
  · omega
  · split <;> omega

/-- The cascade reads nothing of the limits. -/
theorem cascade_limits (img : Img) (lo hi et : Int) (secs : List Sec) (j : Nat) (st : List (Int × Int)) (x : Int) :
    cascade { img with limLo := lo, limHi := hi } et j secs st x = cascade img et j secs st x := by
  induction secs generalizing j st x with
  | nil => rfl
  | cons q qs ih => simp only [cascade, ih]

/-- An engine's output before the limit: the cascade's output with the feedforward products, as a signal (R168 to R170). -/
def rawOutput (img : Img) (st : List (Int × Int)) (et a b d1 d2 rail : Int) : Int :=
  (accToSignal ((cascade img et 0 img.secs st (sat32 (a - b))).1 * 16777216 + (if img.ffD1 then coefMul img.kff1 d1 else 0)
    + (if img.ffD2 then coefMul img.kff2 d2 else 0) + (if img.ffRail then coefMul img.kfr rail else 0))).1

section
variable (img : Img) (st : List (Int × Int)) (et a b d1 d2 rail : Int)

theorem rawOutput_limits (lo hi : Int) :
    rawOutput { img with limLo := lo, limHi := hi } st et a b d1 d2 rail = rawOutput img st et a b d1 d2 rail := by
  simp only [rawOutput, cascade_limits]

theorem rawOutput_mem : -2 ^ 31 ≤ rawOutput img st et a b d1 d2 rail ∧ rawOutput img st et a b d1 d2 rail < 2 ^ 31 :=
  satN_mem 32 _

theorem enginePeriod_out :
    (enginePeriod img st et a b d1 d2 rail).out = clampI img.limLo img.limHi (rawOutput img st et a b d1 d2 rail) := rfl

theorem enginePeriod_limit :
    (enginePeriod img st et a b d1 d2 rail).limit = true ↔
      (enginePeriod img st et a b d1 d2 rail).out ≠ rawOutput img st et a b d1 d2 rail := by
  have h : (enginePeriod img st et a b d1 d2 rail).limit =
      !decide ((enginePeriod img st et a b d1 d2 rail).out = rawOutput img st et a b d1 d2 rail) := rfl
  rw [h, Bool.not_eq_true', decide_eq_false_iff_not]

end

/-- Settles O35: the raw output is that of the image with any limits, and the period's output is it, clamped. -/
theorem engineOutputIsLimited : Obligations.EngineOutputIsLimited := by
  intro img st et a b d1 d2 rail
  obtain ⟨hlow, hhigh⟩ := rawOutput_mem img st et a b d1 d2 rail
  refine ⟨rawOutput img st et a b d1 d2 rail, hlow, hhigh, fun lo hi hle => ?_⟩
  have hraw := rawOutput_limits img st et a b d1 d2 rail lo hi
  refine ⟨?_, ?_⟩
  · rw [enginePeriod_out, hraw, clampI_eq_min_max hle]
  · rw [enginePeriod_limit, hraw]

end Sys2Proof.Machine
end

section
/-! The loop-engine commands: images, banks, structure, swap groups and the range library (spec/05_loop_engines.md,
spec/06_loop_structure.md). -/

namespace Sys2Proof.Machine

/-! ### What taking a request in leaves of the engines (R106) -/

section
variable (d : Dev) (q : Req)

@[simp] theorem Dev.taken_eng (e : Nat) : (d.taken q).eng e = d.eng e := by rw [Dev.taken_only d q]; rfl
@[simp] theorem Dev.taken_tb : (d.taken q).tb = d.tb := by rw [Dev.taken_only d q]
@[simp] theorem Dev.taken_swaps : (d.taken q).swaps = d.swaps := by rw [Dev.taken_only d q]
@[simp] theorem Dev.taken_fitsEng (e : Nat) : (d.taken q).fitsEng e = d.fitsEng e := by rw [Dev.taken_only d q]; rfl
@[simp] theorem Dev.taken_cyclesOf (e : Nat) (b : List Byte) : (d.taken q).cyclesOf e b = d.cyclesOf e b := by
  rw [Dev.taken_only d q]; rfl
@[simp] theorem Dev.taken_engRuns (e : Nat) : (d.taken q).engRuns e = d.engRuns e := by rw [Dev.taken_only d q]; rfl
@[simp] theorem Dev.taken_boundaryIn (us : Nat) : (d.taken q).boundaryIn us = d.boundaryIn us := by
  rw [Dev.taken_only d q]; rfl
@[simp] theorem Dev.taken_boundaryAt (t : Nat) : (d.taken q).boundaryAt t = d.boundaryAt t := by rw [Dev.taken_only d q]; rfl
@[simp] theorem Dev.taken_nsAt (t : Nat) : (d.taken q).nsAt t = d.nsAt t := by rw [Dev.taken_only d q]; rfl
@[simp] theorem Dev.taken_monoTarget (ns : Nat) : (d.taken q).monoTarget ns = d.monoTarget ns := by
  rw [Dev.taken_only d q]; rfl
@[simp] theorem Dev.taken_monoInstant (ns : Nat) : (d.taken q).monoInstant ns = d.monoInstant ns := by
  rw [Dev.taken_only d q]; rfl
@[simp] theorem Dev.taken_swapMembers (f g e : Nat) : (d.taken q).swapMembers f g e = d.swapMembers f g e := by
  rw [Dev.taken_only d q]; rfl
@[simp] theorem structReply_taken (c : Nat) : structReply (d.taken q) c = structReply d c := by rw [Dev.taken_only d q]; rfl
@[simp] theorem loadReply_taken_modEng (e : Nat) (g : Engine → Engine) :
    loadReply ((d.taken q).modEng e g) e = loadReply (d.modEng e g) e := by rw [Dev.taken_only d q]; rfl

end

/-! ### The loads of an inactive bank (R183, R189, R191) -/

/-- The status of a load's check is its reply's, with the bank's reply where the check passes. -/
theorem Dev.loaded_eq (d : Dev) (e : Nat) (r : Slot × Nat) :
    d.loaded e r = (d.modEng e (fun g => { g with other := r.1 }),
      .done r.2 (if r.2 = 0 then loadReply (d.modEng e (fun g => { g with other := r.1 })) e else [])) := by
  unfold Dev.loaded
  by_cases h : r.2 = 0
  · simp only [h, if_true]; rfl
  · simp only [h, if_false]

/-- A load that runs at once, of the slot that its sheet checks. -/
theorem Dev.command_loads {d : Dev} {c : Cmd} {q : Req} {e : Nat} {r : Slot × Nat} (h : d.runsNow c q = true)
    (hb : c.body (d.taken q) (d.jobOf c.op q) = (d.taken q).loaded e r) :
    d.command c q = d.answer c.op q (fun d => d.modEng e (fun g => { g with other := r.1 })) r.2
      (if r.2 = 0 then loadReply (d.modEng e (fun g => { g with other := r.1 })) e else []) :=
  Dev.command_answer h (hb.trans (Dev.loaded_eq ..)) (by rw [loadReply_taken_modEng])

/-! ### LOOP_SWAP by its kind, LOOP_SWAP_CANCEL and LOOP_RANGE_STORE (R207, R209, R210, R212) -/

/-- The swap that a LOOP_SWAP arms. -/
def Dev.armedSwap (d : Dev) (j : Job) : Swap :=
  { id := j.id, fn := j.f, group := u8 j.p 0, engines := d.swapMembers j.f (u8 j.p 0) (u16 j.p 2), kind := u8 j.p 1,
    route := u8 j.p 4, target := d.monoTarget (u64 j.p 8),
    boundary := if u8 j.p 1 = 0 then some (d.boundaryIn 2) else none, committed := false }

@[simp] theorem Dev.taken_armedSwap (d : Dev) (q : Req) (j : Job) : (d.taken q).armedSwap j = d.armedSwap j := by
  simp only [Dev.armedSwap, Dev.taken_swapMembers, Dev.taken_monoTarget, Dev.taken_boundaryIn]

/-- The library's slot with the part of a LOOP_RANGE_STORE, as the check leaves it, and the check's status. -/
def Dev.storedSlot (d : Dev) (j : Job) : Slot × Nat :=
  ((tblGet slotInit (d.eng j.eng).lib (libNo (u8 j.p 2 == 1) (u8 j.p 3))).write (u8 j.p 4) (slice j.p 8 192)).check
    (fun _ => true)

@[simp] theorem Dev.taken_storedSlot (d : Dev) (q : Req) (j : Job) : (d.taken q).storedSlot j = d.storedSlot j := by
  simp only [Dev.storedSlot, Dev.taken_eng]

section
variable (d : Dev) {j : Job}

theorem swapArm_next (h : u8 j.p 1 = 0) :
    swapArm d j = ({ d with swaps := d.swaps ++ [d.armedSwap j] }, .done stOk (w64 (d.nsAt (d.boundaryIn 2)))) := by
  simp [swapArm, Dev.armedSwap, h]

theorem swapArm_scheduled (h : u8 j.p 1 = 1) :
    swapArm d j = ({ d with swaps := d.swaps ++ [d.armedSwap j] },
      .done stOk (w64 (d.nsAt (d.boundaryAt (d.monoInstant (d.armedSwap j).target))))) := by
  simp [swapArm, Dev.armedSwap, h]

theorem swapArm_event (h : u8 j.p 1 = 2) :
    swapArm d j = (({ d with swaps := d.swaps ++ [d.armedSwap j] } : Dev).forAll (d.armedSwap j).engines
      (fun d e => d.attach (704 + e) (u8 j.p 4)), .done stOk (w64 0)) := by
  simp [swapArm, Dev.armedSwap, h]

theorem cmdLoopSwapCancel_body_armed {w : Swap}
    (h : d.swaps.find? (fun w => w.isNamed j.f (u8 j.p 0) (u16 j.p 2)) = some w) :
    cmdLoopSwapCancel.body d j = (d.swapGone w, .done stOk []) := by
  simp only [cmdLoopSwapCancel, h]

theorem rangeStore_empties (h : u8 j.p 4 = 0xFF) :
    rangeStore d j = (d.modEng j.eng (fun x => { x with
      lib := tblSet slotInit x.lib (libNo (u8 j.p 2 == 1) (u8 j.p 3)) slotEmpty }), .done stOk (zeros 4)) :=
  if_pos h

/-- LOOP_RANGE_STORE of a part writes the slot as its check leaves it, and answers the check's status. -/
theorem rangeStore_writes (h : u8 j.p 4 ≠ 0xFF) :
    rangeStore d j = (d.modEng j.eng (fun x => { x with
      lib := tblSet slotInit x.lib (libNo (u8 j.p 2 == 1) (u8 j.p 3)) (d.storedSlot j).1 }),
      .done (d.storedSlot j).2 (if (d.storedSlot j).2 = 0 then w8 (d.storedSlot j).1.state ++ zeros 1
        ++ w16 (if (d.storedSlot j).1.state = 2 then d.cyclesOf j.eng (d.storedSlot j).1.bytes else 0) else [])) := by
  have hr : ((tblGet slotInit (d.eng j.eng).lib (libNo (u8 j.p 2 == 1) (u8 j.p 3))).write (u8 j.p 4)
      (slice j.p 8 192)).check (fun _ => true) = d.storedSlot j := rfl
  simp only [rangeStore, h, if_false, hr]
  by_cases hst : (d.storedSlot j).2 = 0
  · simp only [hst, if_true, ne_eq, not_true, if_false]; rfl
  · simp only [hst, if_false, ne_eq, not_false_iff, if_true]

end

/-! ### The commands -/

/-- Settles O24: each sheet's body, which reads of the engines, swaps and boundaries what the device held before the request
was taken in. -/
theorem loopCommands : Obligations.LoopCommands := by
  refine ⟨fun q s h => ?loadImage, fun q s h => ?readImage, fun q s h => ?engineStatus, fun q s h => ?readState,
    fun q s h => ?loadDefault, fun q s h => ?setStructure, fun q s h => ?structStatus, fun q s h => ?swapGroup,
    fun q s h => ⟨fun h0 => ?swapNext, fun h1 => ?swapScheduled, fun h2 => ?swapEvent⟩, fun q s w h hw => ?swapCancel,
    fun q s h => ⟨fun hff => ?storeEmpties, fun hpart => ?storeWrites⟩⟩
  all_goals refine congrArg _ (State.on_congr ?_)
  case loadImage => exact Dev.command_loads h (by rw [← Dev.taken_eng s.dev q, ← Dev.taken_fitsEng s.dev q]; rfl)
  case readImage => exact Dev.command_answer h rfl (by rw [Dev.taken_eng]; rfl)
  case engineStatus =>
    exact Dev.command_answer h rfl (by rw [Dev.taken_eng, Dev.taken_cyclesOf, Dev.taken_tb, Dev.taken_engRuns]; rfl)
  case readState => exact Dev.command_answer h rfl (by rw [Dev.taken_eng]; rfl)
  case loadDefault => exact Dev.command_loads h (by rw [← Dev.taken_fitsEng s.dev q]; rfl)
  case setStructure => exact Dev.command_answer h (by rw [← Dev.taken_boundaryIn s.dev q]; rfl) rfl
  case structStatus => exact Dev.command_answer h (by rw [← Dev.taken_calActive s.dev q]; rfl) (structReply_taken ..)
  case swapGroup => exact Dev.command_answer h rfl rfl
  case swapNext =>
    exact Dev.command_answer h ((swapArm_next _ h0).trans (by rw [Dev.taken_armedSwap]; rfl))
      (by rw [Dev.taken_nsAt, Dev.taken_boundaryIn])
  case swapScheduled =>
    exact Dev.command_answer h ((swapArm_scheduled _ h1).trans (by rw [Dev.taken_armedSwap]; rfl))
      (by rw [Dev.taken_nsAt, Dev.taken_boundaryAt, Dev.taken_monoInstant]; rfl)
  case swapEvent =>
    exact Dev.command_answer h ((swapArm_event _ h2).trans (by rw [Dev.taken_armedSwap]; rfl)) rfl
  case swapCancel =>
    exact Dev.command_answer h (cmdLoopSwapCancel_body_armed _ (by rw [Dev.taken_swaps]; exact hw)) rfl
  case storeEmpties => exact Dev.command_answer h (rangeStore_empties _ hff) rfl
  case storeWrites =>
    exact Dev.command_answer h ((rangeStore_writes _ hpart).trans (by rw [Dev.taken_storedSlot]; rfl))
      (by rw [Dev.taken_cyclesOf]; rfl)

end Sys2Proof.Machine
end

section
/-! The slew limiter of a force DAC: one move toward a code, and n of them (spec/07_converters.md, R258, R259). -/

namespace Sys2Proof.Machine

/-! ### One move toward a code (R258, R365) -/

/-- The move of a code `c` toward `w` by at most `step`, without a bound where `step` is 0. The slew limiter makes it toward
the clamped request (R258), the ramp of hold-then-safe toward the safe code (R365). -/
def slewMove (step : Nat) (w c : Int) : Int :=
  if step ≠ 0 && decide (w - c > step) then c + step
  else if step ≠ 0 && decide (w - c < -(step : Int)) then c - step
  else w

section
variable {step : Nat} {w c : Int}

@[simp] theorem slewMove_zero (w c : Int) : slewMove 0 w c = w := rfl

theorem slewMove_up (hstep : step ≠ 0) (h : step < w - c) : slewMove step w c = c + step := by
  simp [slewMove, hstep, h]

theorem slewMove_down (hstep : step ≠ 0) (h : w - c < -(step : Int)) : slewMove step w c = c - step := by
  have hup : ¬ (step : Int) < w - c := by omega
  simp [slewMove, hstep, h, hup]

theorem slewMove_reaches (h : (w - c).natAbs ≤ step) : slewMove step w c = w := by
  have hup : ¬ (step : Int) < w - c := by omega
  have hdown : ¬ w - c < -(step : Int) := by omega
  simp [slewMove, hup, hdown]

theorem slewMove_cases (hstep : step ≠ 0) (w c : Int) :
    (step < w - c ∧ slewMove step w c = c + step) ∨ (w - c < -(step : Int) ∧ slewMove step w c = c - step) ∨
      ((w - c).natAbs ≤ step ∧ slewMove step w c = w) := by
  obtain h | h | h : (step : Int) < w - c ∨ w - c < -(step : Int) ∨ (w - c).natAbs ≤ step := by omega
  · exact .inl ⟨h, slewMove_up hstep h⟩
  · exact .inr (.inl ⟨h, slewMove_down hstep h⟩)
  · exact .inr (.inr ⟨h, slewMove_reaches h⟩)

/-- Every move shortens the distance by `step`, down to 0. -/
theorem slewMove_dist (hstep : step ≠ 0) (w c : Int) : (w - slewMove step w c).natAbs = (w - c).natAbs - step := by
  have hmove := slewMove_cases hstep w c
  omega

/-- A move ends between where it begins and its aim. -/
theorem slewMove_between (step : Nat) (w c : Int) : min w c ≤ slewMove step w c ∧ slewMove step w c ≤ max w c := by
  by_cases hstep : step = 0
  · rw [hstep, slewMove_zero]; omega
  · have hmove := slewMove_cases hstep w c
    omega

end

/-! ### The limiter at an instant, and at n update instants in a row (R258, R259) -/

/-- A clamped request is a code of the span. -/
theorem clampI_span_mem (span : Nat) (v : Int) :
    cMin span ≤ clampI (cMin span) (cMax span) v ∧ clampI (cMin span) (cMax span) v ≤ cMax span := by
  have hle : cMin span ≤ cMax span := by
    unfold cMin cMax
    split <;> decide
  rw [clampI_eq_min_max hle]
  omega

section
variable {span step divr : Nat} {req c : Int} {cnt : Nat}

theorem slewStep_update (h : cnt % divr = 0) :
    (slewStep span step divr req c cnt).1 = slewMove step (clampI (cMin span) (cMax span) req) c :=
  if_neg (not_not_intro h)

theorem slewStep_between_updates (h : cnt % divr ≠ 0) : (slewStep span step divr req c cnt).1 = c :=
  if_pos h

theorem slewStep_limAct : (slewStep span step divr req c cnt).2.1 = true ↔ (slewStep span step divr req c cnt).1 ≠ req := by
  have h : (slewStep span step divr req c cnt).2.1 = !decide ((slewStep span step divr req c cnt).1 = req) := rfl
  rw [h, Bool.not_eq_true', decide_eq_false_iff_not]

theorem slewStep_mem_span (hlo : cMin span ≤ c) (hhi : c ≤ cMax span) :
    cMin span ≤ (slewStep span step divr req c cnt).1 ∧ (slewStep span step divr req c cnt).1 ≤ cMax span := by
  by_cases h : cnt % divr = 0
  · obtain ⟨hwlo, hwhi⟩ := clampI_span_mem span req
    obtain ⟨hmin, hmax⟩ := slewMove_between step (clampI (cMin span) (cMax span) req) c
    rw [slewStep_update h]
    omega
  · rw [slewStep_between_updates h]
    exact ⟨hlo, hhi⟩

theorem limiterRun_succ (n : Nat) :
    limiterRun span step req (n + 1) c = limiterRun span step req n (slewMove step (clampI (cMin span) (cMax span) req) c) :=
  congrArg (limiterRun span step req n) (slewStep_update (Nat.zero_mod 1))

theorem limiterRun_dist (hstep : step ≠ 0) (n : Nat) (c : Int) :
    (clampI (cMin span) (cMax span) req - limiterRun span step req n c).natAbs =
      (clampI (cMin span) (cMax span) req - c).natAbs - n * step := by
  induction n generalizing c with
  | zero => rw [Nat.zero_mul, Nat.sub_zero, limiterRun]
  | succ n ih => rw [limiterRun_succ, ih, slewMove_dist hstep, Nat.sub_sub, Nat.add_comm step, Nat.succ_mul]

end

/-- Settles O36: an update instant makes one move toward the clamped request, and n of them shorten the distance n times. -/
theorem slewLimiterBounds : Obligations.SlewLimiterBounds :=
  ⟨fun _ _ _ _ _ _ => ⟨slewStep_limAct, rfl, slewStep_between_updates,
    fun hupd hstep => (slewStep_update hupd).trans (by rw [hstep, slewMove_zero]),
    fun hupd _ h => (slewStep_update hupd).trans (slewMove_reaches h),
    fun hupd hstep h => (slewStep_update hupd).trans (slewMove_up hstep h),
    fun hupd hstep h => (slewStep_update hupd).trans (slewMove_down hstep h),
    slewStep_mem_span⟩, fun _ _ n _ c hstep => limiterRun_dist hstep n c⟩

end Sys2Proof.Machine
end

section
/-! Hem's rows, the interlock and hold-then-safe: what they change of Helon's part of each channel (spec/10_seam_and_hem.md,
R354 to R370). -/

namespace Sys2Proof.Machine

/-! ### Changes of Helon's part of one channel -/

theorem Dev.observed_helon (d : Dev) (g : Dev → Dev) (c : Nat) : (d.observed g).helon c = (g d).helon c := by
  unfold Dev.helon; rw [Dev.observed_hel]

theorem Dev.modHelon_congr {d : Dev} {c : Nat} {g h : Helon → Helon} (e : g (d.helon c) = h (d.helon c)) :
    d.modHelon c g = d.modHelon c h := by
  unfold Dev.modHelon; rw [e]

/-- A packet that enters the side channel is there. -/
theorem Dev.sidePacket_sent (d : Dev) (up : Bool) (ch : Option Nat) (msg : SideMsg) :
    ∃ p ∈ (d.sidePacket up ch msg).seam.packets, p.up = up ∧ p.chan = ch ∧ p.msg = msg :=
  ⟨_, List.mem_append_right _ List.mem_cons_self, rfl, rfl, rfl⟩

/-- `f` changes Helon's part of the channel it is run for by `g`, and that of no other. -/
def ChangesHelon (f : Dev → Nat → Dev) (g : Helon → Helon) : Prop :=
  ∀ (e : Dev) (x m : Nat), (f e x).helon m = if m = x then g (e.helon m) else e.helon m

/-- A change made only where Helon's part of the channel meets `p`. -/
theorem changesHelon_where (p : Helon → Bool) (g : Helon → Helon) :
    ChangesHelon (fun e x => if p (e.helon x) then e.modHelon x g else e) (fun h => if p h then g h else h) := by
  intro e x m
  dsimp only
  by_cases hp : p (e.helon x) = true
  · rw [if_pos hp, Dev.modHelon_get]
    split
    · next h => rw [h, if_pos hp]
    · rfl
  · rw [if_neg hp]
    split
    · next h => rw [h, if_neg hp]
    · rfl

theorem changesHelon_modHelon (g : Helon → Helon) : ChangesHelon (fun e x => e.modHelon x g) g :=
  changesHelon_where (fun _ => true) g

/-- Run for every channel of a list without repetition, it changes Helon's part of each of them once. -/
theorem ChangesHelon.forAll {f : Dev → Nat → Dev} {g : Helon → Helon} (hf : ChangesHelon f g) {l : List Nat} (hl : l.Nodup)
    (d : Dev) (m : Nat) : (d.forAll l f).helon m = if m ∈ l then g (d.helon m) else d.helon m := by
  induction l generalizing d with
  | nil => rfl
  | cons x r ih =>
    obtain ⟨hx, hr⟩ := List.nodup_cons.mp hl
    have hstep : (d.forAll (x :: r) f).helon m = _ := ih hr (f d x)
    rw [hstep, hf d x m]
    by_cases hm : m = x
    · subst hm; simp [hx]
    · simp [hm]

/-- Run for every channel of the device. -/
theorem ChangesHelon.everyChan {f : Dev → Nat → Dev} {g : Helon → Helon} (hf : ChangesHelon f g) (d : Dev) {n m : Nat} (h : m < n) :
    (d.forAll (List.range n) f).helon m = g (d.helon m) := by
  rw [hf.forAll List.nodup_range, if_pos (List.mem_range.mpr h)]

/-! ### Trips (R355, R356, R358) -/

/-- Helon's part of a channel once it has tripped: revoked, with the cause unless one is held. -/
def Helon.tripped (cause : TripCause) (h : Helon) : Helon := { h.revoke with trip := some (h.trip.getD cause) }

theorem Helon.tripped_grant_trip (cause : TripCause) (h : Helon) :
    (h.tripped cause).grant = false ∧ (h.tripped cause).trip = some (h.trip.getD cause) := ⟨rfl, rfl⟩

theorem Dev.trip1_changes (cause : TripCause) : ChangesHelon (fun e x => e.trip1 x cause) (Helon.tripped cause) := by
  intro e x m
  have hmod : (e.trip1 x cause).helon m = (e.modHelon x (Helon.tripped cause)).helon m := by
    unfold Dev.trip1
    dsimp only
    split <;> rfl
  exact hmod.trans (changesHelon_modHelon _ e x m)

/-- A channel that holds no trip reports its cause. -/
theorem Dev.trip1_reports {d : Dev} {c : Nat} (h : (d.helon c).trip = none) (cause : TripCause) :
    ∃ p ∈ (d.trip1 c cause).seam.packets, p.up = true ∧ p.chan = some c ∧ p.msg = .tripCause cause.num := by
  have hnew : ¬ (d.helon c).trip.isSome = true := by simp [h]
  rw [Dev.trip1, if_neg hnew]
  exact Dev.sidePacket_sent ..

/-- The other members of a channel's gang trip before it. -/
def Dev.gangTripped (d : Dev) (c : Nat) : Dev :=
  d.forAll ((bitsSet (d.helon c).gang 64).filter (· != c)) (fun s m => s.trip1 m .gang)

theorem Dev.trip_eq (d : Dev) (c : Nat) (cause : TripCause) : d.trip c cause = (d.gangTripped c).trip1 c cause := rfl

theorem Dev.gangTripped_helon (d : Dev) (c m : Nat) :
    (d.gangTripped c).helon m =
      if m ∈ bitsSet (d.helon c).gang 64 ∧ m ≠ c then (d.helon m).tripped .gang else d.helon m := by
  have hnodup : ((bitsSet (d.helon c).gang 64).filter (· != c)).Nodup := (List.nodup_range.filter _).filter _
  have h : (d.gangTripped c).helon m = _ := (Dev.trip1_changes .gang).forAll hnodup d m
  rw [h]
  simp only [List.mem_filter, bne_iff_ne]

theorem Dev.gangTripped_same (d : Dev) (c : Nat) : (d.gangTripped c).helon c = d.helon c := by
  rw [Dev.gangTripped_helon, if_neg (fun h => h.2 rfl)]

theorem Dev.trip_same (d : Dev) (c : Nat) (cause : TripCause) : (d.trip c cause).helon c = (d.helon c).tripped cause := by
  rw [Dev.trip_eq, Dev.trip1_changes cause, if_pos rfl, Dev.gangTripped_same]

theorem Dev.trip_other (d : Dev) {c m : Nat} (h : m ≠ c) (cause : TripCause) :
    (d.trip c cause).helon m = if m ∈ bitsSet (d.helon c).gang 64 then (d.helon m).tripped .gang else d.helon m := by
  rw [Dev.trip_eq, Dev.trip1_changes cause, if_neg h, Dev.gangTripped_helon]
  simp only [h, ne_eq, not_false_eq_true, and_true]

theorem Dev.trip_reports {d : Dev} {c : Nat} (h : (d.helon c).trip = none) (cause : TripCause) :
    ∃ p ∈ (d.trip c cause).seam.packets, p.up = true ∧ p.chan = some c ∧ p.msg = .tripCause cause.num :=
  Dev.trip1_reports ((congrArg Helon.trip (Dev.gangTripped_same d c)).trans h) cause

/-- Every member of the gang, the channel itself among them or not, has lost its grant and holds a trip. -/
theorem Dev.trip_member {d : Dev} {c m : Nat} (hm : m ∈ bitsSet (d.helon c).gang 64) (cause : TripCause) :
    ((d.trip c cause).helon m).grant = false ∧ ((d.trip c cause).helon m).trip.isSome = true := by
  by_cases h : m = c
  · subst h; rw [Dev.trip_same]; exact ⟨rfl, rfl⟩
  · rw [Dev.trip_other d h, if_pos hm]; exact ⟨rfl, rfl⟩

/-- A comparator of Hem in violation trips its channel (R355, R358, R362). -/
def Dev.hemTripped (d : Dev) (c : Nat) (cause : TripCause) : Dev :=
  (d.modHelon c (fun h => { h with violation := some d.now })).trip c cause

section
variable {d : Dev} {c m : Nat}

theorem Dev.hemTripped_same (d : Dev) (c : Nat) (cause : TripCause) : (d.hemTripped c cause).helon c =
    { d.helon c with violation := some d.now, grant := false, off := true, safeBit := true, hold := false,
                     trip := some ((d.helon c).trip.getD cause) } := by
  rw [Dev.hemTripped, Dev.trip_same, Dev.modHelon_same]
  rfl

theorem Dev.hemTripped_reports (h : (d.helon c).trip = none) (cause : TripCause) :
    ∃ p ∈ (d.hemTripped c cause).seam.packets, p.up = true ∧ p.chan = some c ∧ p.msg = .tripCause cause.num :=
  Dev.trip_reports (by rw [Dev.modHelon_same, h]) cause

theorem Dev.hemTripped_member (hm : m ∈ bitsSet (d.helon c).gang 64) (cause : TripCause) :
    ((d.hemTripped c cause).helon m).grant = false ∧ ((d.hemTripped c cause).helon m).trip.isSome = true :=
  Dev.trip_member (by rwa [Dev.modHelon_same]) cause

theorem Dev.hemTripped_outside (hne : m ≠ c) (hm : m ∉ bitsSet (d.helon c).gang 64) (cause : TripCause) :
    (d.hemTripped c cause).helon m = d.helon m := by
  rw [Dev.hemTripped, Dev.trip_other _ hne, Dev.modHelon_same, if_neg hm, Dev.modHelon_get, if_neg hne]

end

/-! ### The rows (R354 to R360) -/

theorem exec_observed_congr {s : State} {g h : Dev → Dev} (e : g s.dev = h s.dev) :
    (Host.Outcome.next (s.on (fun d => d.observed g)) : Out) = .next (s.on (fun d => d.observed h)) :=
  congrArg Host.Outcome.next (State.on_congr (Dev.observed_congr e))

section
variable {s : State} (ch : ChanId) (cmp : Comparator)

theorem exec_hemTrip (hok : s.dev.chanOk ch.val = true) (hon : s.dev.helonOn = true) :
    exec (.hemTrip ch cmp) s = .next (s.on (fun d => d.observed (fun d => d.hemTripped ch.val (compCause cmp)))) :=
  exec_observed_congr (if_neg (by simp [hok, hon]))

/-- A self-test is completed while its quadrant's testing is not suspended. -/
def Dev.selfTested (d : Dev) (c k : Nat) (spare pass : Bool) : Dev :=
  if spare then
    if pass then d
    else (d.modSeam (fun m => { m with spareFail := m.spareFail ||| 2 ^ (c / 16) })).sidePacket true (some c) (.selftest k true)
  else
    if pass then d.modHelon c (fun h => h.tested k pass)
    else ((d.modHelon c (fun h => h.tested k pass)).trip c .selftest).sidePacket true (some c) (.selftest k false)

theorem Dev.selfTested_pass (d : Dev) (c k : Nat) : d.selfTested c k false true = d.modHelon c (fun h => h.tested k true) := rfl

theorem Dev.selfTested_fail (d : Dev) (c k : Nat) : (d.selfTested c k false false).helon c =
    ((d.helon c).tested k false).tripped .selftest := by
  have h : (d.selfTested c k false false).helon c = ((d.modHelon c (fun h => h.tested k false)).trip c .selftest).helon c := rfl
  rw [h, Dev.trip_same, Dev.modHelon_same]

theorem exec_hemSelftest_completed (hquad : s.dev.seam.spareFail.testBit (ch.val / 16) = false) (hon : s.dev.helonOn = true)
    (spare pass : Bool) : exec (.hemSelftest ch cmp spare pass) s =
      .next (s.on (fun d => d.observed (fun d => d.selfTested ch.val (compIdx cmp) spare pass))) :=
  exec_observed_congr (if_neg (by simp [hquad, hon]))

theorem exec_hemSelftest_suspended (h : s.dev.seam.spareFail.testBit (ch.val / 16) = true) (spare pass : Bool) :
    exec (.hemSelftest ch cmp spare pass) s = .next (s.on (fun d => d.observed (fun d => d))) :=
  exec_observed_congr (if_pos (by simp [h]))

/-- While Helon is off or in reset, none of Hem's rows changes anything (R545, R560). -/
theorem exec_hem_of_helonOff (hoff : s.dev.helonOn = false) (spare pass outside : Bool) (k : Fin 4) :
    ∀ c ∈ [Instr.hemTrip ch cmp, .hemSelftest ch cmp spare pass, .selftestOverdue k, .hemClkFault outside],
      exec c s = .next (s.on (fun d => d.observed (fun d => d))) := by
  have hrests : (!s.dev.helonOn) = true := by rw [hoff, Bool.not_false]
  simp only [List.forall_mem_cons, List.not_mem_nil, false_implies, implies_true, and_true]
  exact ⟨exec_observed_congr (if_pos (by rw [hrests, Bool.or_true])), exec_observed_congr (if_pos (by rw [hrests, Bool.or_true])),
    exec_observed_congr (if_pos hrests), exec_observed_congr (if_pos hrests)⟩

end

section
variable {s : State}

/-- The channels of a quadrant that the device has. -/
def Dev.quadrant (d : Dev) (k : Nat) : List Nat := ((List.range 16).map (16 * k + ·)).filter d.chanOk

theorem Dev.quadrant_nodup (d : Dev) (k : Nat) : (d.quadrant k).Nodup := by
  have hmap : ((List.range 16).map (16 * k + ·)).Nodup :=
    List.Pairwise.map _ (fun _ _ hne heq => hne (Nat.add_left_cancel heq)) List.nodup_range
  exact hmap.filter _

theorem Dev.mem_quadrant {d : Dev} {k c : Nat} : c ∈ d.quadrant k ↔ c / 16 = k ∧ d.chanOk c = true := by
  have hmap : c ∈ (List.range 16).map (16 * k + ·) ↔ c / 16 = k := by
    simp only [List.mem_map, List.mem_range]
    constructor
    · rintro ⟨i, hi, rfl⟩
      omega
    · intro h
      exact ⟨c % 16, by omega, by omega⟩
  rw [Dev.quadrant, List.mem_filter, hmap]

theorem exec_selftestOverdue (k : Fin 4) (hon : s.dev.helonOn = true) :
    exec (.selftestOverdue k) s =
      .next (s.on (fun d => d.observed (fun d => d.forAll (d.quadrant k.val) (fun d c => d.trip1 c .selftest)))) :=
  exec_observed_congr (if_neg (by simp [hon]))

/-- Hem's clock outside its limits trips every channel (R360). -/
def Dev.hemClkBad (d : Dev) : Dev :=
  (d.modSeam (fun m => { m with hemClkOk := false })).forAll (List.range d.nChan) (fun d c => d.trip1 c .hemClk)

theorem Dev.trip1_hemClkOk (d : Dev) (c : Nat) (cause : TripCause) : (d.trip1 c cause).seam.hemClkOk = d.seam.hemClkOk := by
  unfold Dev.trip1
  dsimp only
  split <;> rfl

theorem Dev.hemClkBad_clk (d : Dev) : d.hemClkBad.seam.hemClkOk = false :=
  Dev.forAll_keeps (fun e => e.seam.hemClkOk) (fun e x => e.trip1_hemClkOk x .hemClk)

theorem Dev.hemClkBad_helon {d : Dev} {c : Nat} (hc : c < d.nChan) : d.hemClkBad.helon c = (d.helon c).tripped .hemClk :=
  (Dev.trip1_changes .hemClk).everyChan _ hc

theorem exec_hemClkFault_outside (hon : s.dev.helonOn = true) :
    exec (.hemClkFault true) s = .next (s.on (fun d => d.observed Dev.hemClkBad)) :=
  exec_observed_congr (if_neg (by simp [hon]))

theorem exec_hemClkFault_within (hon : s.dev.helonOn = true) : exec (.hemClkFault false) s =
    .next (s.on (fun d => d.observed (fun d => d.modSeam (fun m => { m with hemClkOk := true })))) :=
  exec_observed_congr (if_neg (by simp [hon]))

/-- The interlock asserts: every grant goes (R354). -/
def Dev.intlkAsserted (d : Dev) : Dev :=
  (d.modSeam (fun m => { m with intlk := true })).forAll (List.range d.nChan) (fun d c =>
    if (d.helon c).grant then d.modHelon c Helon.revoke else d)

theorem Dev.intlkAsserted_intlk (d : Dev) : d.intlkAsserted.seam.intlk = true :=
  Dev.forAll_keeps (fun e => e.seam.intlk) (fun e x => by split <;> rfl)

theorem Dev.intlkAsserted_helon {d : Dev} {c : Nat} (hc : c < d.nChan) : d.intlkAsserted.helon c =
    if (d.helon c).grant then (d.helon c).revoke else d.helon c :=
  (changesHelon_where Helon.grant Helon.revoke).everyChan _ hc

theorem Dev.intlkAsserted_grant {d : Dev} {c : Nat} (hc : c < d.nChan) :
    (d.intlkAsserted.helon c).grant = false ∧ (d.intlkAsserted.helon c).trip = (d.helon c).trip := by
  rw [Dev.intlkAsserted_helon hc]
  cases hg : (d.helon c).grant
  · exact ⟨hg, rfl⟩
  · exact ⟨rfl, rfl⟩

theorem exec_intlkAssert : exec .intlkAssert s = .next (s.on (fun d => d.observed Dev.intlkAsserted)) := rfl

end

/-! ### The start of hold-then-safe (R364) -/

theorem Dev.runOver_seam (d : Dev) : d.runOver.seam = d.seam := by
  unfold Dev.runOver
  split
  · rfl
  · exact Dev.finish?_seam ..

theorem Dev.slotAbort_seam (d : Dev) : d.slotAbort.seam = d.seam := by
  unfold Dev.slotAbort
  split
  · rfl
  · exact (Dev.runOver_seam _).trans (Dev.forAll_keeps Dev.seam)

theorem Dev.holdStart_seam (d : Dev) (t : Nat) : (d.holdStart t).seam =
    if d.seam.hold = .none_ then { d.seam with hold := .hold, holdAt := t, rampCnt := 0 } else d.seam := by
  unfold Dev.holdStart
  simp only [beq_iff_eq]
  split
  · exact Dev.slotAbort_seam _
  · rfl

/-- Hold-then-safe runs, from `t` on if it did not run yet. -/
theorem Dev.holdStart_hold (d : Dev) (t : Nat) : (d.holdStart t).seam.hold ≠ .none_ ∧
    (d.seam.hold = .none_ → (d.holdStart t).seam.hold = .hold ∧ (d.holdStart t).seam.holdAt = t) := by
  rw [Dev.holdStart_seam]
  by_cases h : d.seam.hold = .none_
  · rw [if_pos h]; exact ⟨HoldPhase.noConfusion, fun _ => ⟨rfl, rfl⟩⟩
  · rw [if_neg h]; exact ⟨h, fun hn => absurd hn h⟩

/-- Nothing of the Seam but the phase of hold-then-safe, its instant and its count changes. -/
theorem Dev.holdStart_keeps {α : Type} (p : Seam → α) (d : Dev) (t : Nat)
    (h : ∀ m, p { m with hold := .hold, holdAt := t, rampCnt := 0 } = p m := by intros; rfl) :
    p (d.holdStart t).seam = p d.seam := by
  rw [Dev.holdStart_seam]
  split
  · exact h _
  · rfl

/-- The loss of the conversion clock (R360, R364, R367). -/
def Dev.convClkLost (d : Dev) : Dev :=
  ((d.seamDown.modSeam (fun m => { m with substitute := true })).seamLossLog 2).holdStart d.nextSample

/-- The Seam before hold-then-safe starts: down, with the substitute clock. -/
theorem Dev.convClkLost_keeps {α : Type} (p : Seam → α) (d : Dev)
    (h : ∀ (t : Nat) (m : Seam), p { m with hold := .hold, holdAt := t, rampCnt := 0 } = p m := by intros; rfl) :
    p d.convClkLost.seam = p { d.seamDown.seam with substitute := true } :=
  (Dev.holdStart_keeps p _ _ (h _)).trans (congrArg p (Dev.logIt_seam ..))

theorem Dev.convClkLost_hold (d : Dev) : d.convClkLost.seam.hold ≠ .none_ ∧
    (d.seam.hold = .none_ → d.convClkLost.seam.hold = .hold ∧ d.convClkLost.seam.holdAt = d.nextSample) := by
  obtain ⟨hruns, hstarts⟩ :=
    Dev.holdStart_hold ((d.seamDown.modSeam (fun m => { m with substitute := true })).seamLossLog 2) d.nextSample
  exact ⟨hruns, fun h => hstarts (by rw [Dev.seamLossLog, Dev.logIt_seam]; exact h)⟩

theorem exec_convClkLoss {s : State} (hrests : s.dev.seamRests = false) (hon : s.dev.helonOn = true) :
    exec .convClkLoss s = .next (s.on (fun d => d.observed Dev.convClkLost)) :=
  exec_observed_congr (if_neg (by simp [hrests, hon]))

/-! ### The ramp (R263, R365, R368) -/

/-- A held channel's code takes its next value on the ramp; at the safe code the channel is revoked. -/
def Helon.rampTo (v : Int) (h : Helon) : Helon :=
  let h1 := { h with cOut := v, dac := dacCode h.span v, limAct := v != safeCode }
  if v = safeCode then h1.revoke else h1

section
variable (v : Int) (h : Helon)

@[simp] theorem Helon.rampTo_cOut : (h.rampTo v).cOut = v := by
  unfold Helon.rampTo; dsimp only; split <;> rfl

theorem Helon.rampTo_limAct : (h.rampTo v).limAct = true ↔ v ≠ 0 := by
  have hlim : (h.rampTo v).limAct = (v != safeCode) := by
    unfold Helon.rampTo; dsimp only; split <;> rfl
  rw [hlim, bne_iff_ne, safeCode]

theorem Helon.rampTo_safe : (h.rampTo 0).grant = false ∧ (h.rampTo 0).hold = false := ⟨rfl, rfl⟩

end

/-- A move toward the safe code takes `step` off the code's magnitude. -/
theorem slewMove_safe_natAbs {step : Nat} (hstep : step ≠ 0) (c : Int) :
    (slewMove step safeCode c).natAbs = c.natAbs - step := by
  have hdist := slewMove_dist hstep safeCode c
  rwa [safeCode, Int.zero_sub, Int.zero_sub, Int.natAbs_neg, Int.natAbs_neg] at hdist

/-- An instant of the ramp that moves the codes: every held channel's goes one move toward the safe code. -/
theorem Dev.rampStep_moves {d : Dev} (hmove : d.seam.rampCnt % d.seam.safeDiv = 0) (c : Nat) :
    d.rampStep.helon c = (d.forAll (List.range d.nChan) (fun e x =>
      if (e.helon x).hold then e.modHelon x (fun h => h.rampTo (slewMove d.seam.safeStep safeCode h.cOut)) else e)).helon c := by
  refine congrArg (fun f => (d.forAll (List.range d.nChan) f).helon c) (funext fun e => funext fun x => ?_)
  dsimp only
  by_cases hheld : (e.helon x).hold = true
  · rw [if_neg (by simp [hheld]), if_pos hheld]
    refine Dev.modHelon_congr ?_
    simp [Helon.rampTo, slewMove, hmove]
  · rw [if_pos (by simp [hheld]), if_neg hheld]

theorem Dev.rampStep_helon {d : Dev} (hmove : d.seam.rampCnt % d.seam.safeDiv = 0) {c : Nat} (hc : c < d.nChan) :
    d.rampStep.helon c = if (d.helon c).hold then (d.helon c).rampTo (slewMove d.seam.safeStep safeCode (d.helon c).cOut)
      else d.helon c := by
  rw [Dev.rampStep_moves hmove]
  exact (changesHelon_where Helon.hold _).everyChan d hc

theorem Dev.rampStep_now (d : Dev) : d.rampStep.now = d.now :=
  Dev.forAll_keeps Dev.now (fun e x => by dsimp only; split <;> rfl)

theorem Dev.holdCheck_now (d : Dev) : d.holdCheck.now = d.now := by
  unfold Dev.holdCheck; split <;> rfl

theorem Dev.holdCheck_helon (d : Dev) (c : Nat) : d.holdCheck.helon c = d.helon c := by
  unfold Dev.holdCheck; split <;> rfl

/-- At the end of HOLD_TIME the ramp begins, with its first move (R365). -/
def Dev.holdTimeEnded (d : Dev) : Dev :=
  let t := d.instantAt (d.seam.holdAt + d.seam.holdTime * 10000000)
  ((d.advance t).modSeam (fun m => { m with hold := .ramp, rampAt := t, rampCnt := 0 })).rampStep.holdCheck

theorem Dev.holdTimeEnded_now (d : Dev) :
    d.holdTimeEnded.now = max d.now (d.instantAt (d.seam.holdAt + d.seam.holdTime * 10000000)) := by
  rw [Dev.holdTimeEnded, Dev.holdCheck_now, Dev.rampStep_now]
  rfl

theorem Dev.holdTimeEnded_helon {d : Dev} {c : Nat} (hc : c < d.nChan) : d.holdTimeEnded.helon c =
    if (d.helon c).hold then (d.helon c).rampTo (slewMove d.seam.safeStep safeCode (d.helon c).cOut) else d.helon c := by
  rw [Dev.holdTimeEnded, Dev.holdCheck_helon]
  exact Dev.rampStep_helon (Nat.zero_mod _) hc

theorem exec_holdTimeExpiry {s : State} (h : s.dev.seam.hold = .hold) :
    exec .holdTimeExpiry s = .next (s.on (fun d => d.observed Dev.holdTimeEnded)) :=
  exec_observed_congr (if_neg (by simp [h]))

/-- At the ramp's timeout every held channel takes the safe code without grant (R365). -/
def Dev.rampTimedOut (d : Dev) : Dev :=
  let d1 := d.advance (d.instantAt (d.seam.rampAt + 20000000000))
  (d1.forAll (List.range d1.nChan) (fun d c => d.modHelon c (fun h => if h.hold then h.revoke.safe else h))).holdCheck

theorem Dev.rampTimedOut_now (d : Dev) : d.rampTimedOut.now = max d.now (d.instantAt (d.seam.rampAt + 20000000000)) := by
  rw [Dev.rampTimedOut, Dev.holdCheck_now]
  exact Dev.forAll_keeps Dev.now

theorem Dev.rampTimedOut_helon {d : Dev} {c : Nat} (hc : c < d.nChan) :
    d.rampTimedOut.helon c = if (d.helon c).hold then (d.helon c).revoke.safe else d.helon c := by
  rw [Dev.rampTimedOut, Dev.holdCheck_helon]
  exact (changesHelon_modHelon _).everyChan _ hc

theorem exec_holdRampTimeout {s : State} (h : s.dev.seam.hold = .ramp) :
    exec .holdRampTimeout s = .next (s.on (fun d => d.observed Dev.rampTimedOut)) :=
  exec_observed_congr (if_neg (by simp [h]))

/-- Settles O41: each row's change of the device, and what it makes of Helon's part of each channel. -/
theorem hemAndHoldThenSafe : Obligations.HemAndHoldThenSafe := by
  refine ⟨fun ch cmp spare pass outside k s hoff => exec_hem_of_helonOff ch cmp hoff spare pass outside k,
    fun ch cmp s hok hon => ⟨_, exec_hemTrip ch cmp hok hon, rfl, ?tripped, fun hnone => ?reported, fun m hm => ?member,
      fun m hne hm => ?other⟩,
    fun ch cmp s hquad hon => ⟨(exec_hemSelftest_completed ch cmp hquad hon false true).trans ?passes,
      ⟨_, exec_hemSelftest_completed ch cmp hquad hon false false, rfl, ?failed⟩,
      exec_hemSelftest_completed ch cmp hquad hon true true,
      ⟨_, exec_hemSelftest_completed ch cmp hquad hon true false, rfl, ?spareHel, ?spareFail⟩⟩,
    fun ch cmp spare pass s hquad => exec_hemSelftest_suspended ch cmp hquad spare pass,
    fun k s hon => ⟨_, exec_selftestOverdue k hon, rfl, fun c => ?overdue⟩,
    fun s hon => ⟨_, exec_hemClkFault_outside hon, rfl, ?clkBad, fun c hc => ?clkTrips⟩,
    fun s hon => exec_hemClkFault_within hon,
    fun s hrests hon => ⟨_, exec_convClkLoss hrests hon, rfl, ?convLoss⟩,
    fun s => ⟨_, exec_intlkAssert, rfl, ?intlk, fun c hc => ?revoked⟩,
    fun s => rfl,
    fun s hhold => ⟨_, exec_holdTimeExpiry hhold, rfl, ?rampNow, fun c hc => ⟨fun hfree => ?notHeld, fun hheld => ?ramped⟩⟩,
    fun s hramp => ⟨_, exec_holdRampTimeout hramp, rfl, ?endNow, fun c hc => ⟨?released, fun hheld => ?ended⟩⟩⟩
  case passes => exact exec_observed_congr ((Dev.selfTested_pass ..).trans (Dev.modHelon_congr rfl))
  all_goals simp only [State.on_dev, Dev.observed_helon, Dev.observed_seam, Dev.observed_now, Dev.observed_hel]
  case tripped => exact Dev.hemTripped_same ..
  case reported => exact Dev.hemTripped_reports hnone _
  case member => exact Dev.hemTripped_member hm _
  case other => exact Dev.hemTripped_outside hne hm _
  case failed => rw [Dev.selfTested_fail]; exact ⟨rfl, rfl, rfl, rfl⟩
  case spareHel => rfl
  case spareFail => rfl
  case overdue =>
    simp only [(Dev.trip1_changes .selftest).forAll (Dev.quadrant_nodup _ _), Dev.mem_quadrant]
    split
    · exact Helon.tripped_grant_trip ..
    · rfl
  case clkBad => exact s.dev.hemClkBad_clk
  case clkTrips => rw [Dev.hemClkBad_helon hc]; exact Helon.tripped_grant_trip ..
  case convLoss =>
    exact ⟨Dev.convClkLost_keeps Seam.up _, Dev.convClkLost_keeps Seam.upHelon _, Dev.convClkLost_keeps Seam.substitute _,
      Dev.convClkLost_hold _⟩
  case intlk => exact s.dev.intlkAsserted_intlk
  case revoked => exact Dev.intlkAsserted_grant hc
  case rampNow => exact s.dev.holdTimeEnded_now
  case notHeld => rw [Dev.holdTimeEnded_helon hc, hfree]; rfl
  case ramped =>
    rw [Dev.holdTimeEnded_helon hc, if_pos hheld, Helon.rampTo_cOut]
    exact ⟨fun hstep => slewMove_safe_natAbs hstep _, fun hstep => by rw [hstep]; rfl, Helon.rampTo_limAct .., fun hsafe => by
      rw [hsafe]; exact Helon.rampTo_safe _⟩
  case endNow => exact s.dev.rampTimedOut_now
  case released =>
    rw [Dev.rampTimedOut_helon hc]
    cases hheld : (s.dev.helon c).hold
    · exact hheld
    · rfl
  case ended => rw [Dev.rampTimedOut_helon hc, if_pos hheld]; exact ⟨rfl, rfl⟩

end Sys2Proof.Machine
end

section
/-! What the writing of a block leaves of every result ring (spec/09_results.md, R321, R331, R334): Caravan takes records, notes
the fill and signals, and only the block itself moves HEAD and BLOCK_SEQ. -/

namespace Sys2Proof.Machine

/-- Where a ring writes next: HEAD and BLOCK_SEQ. -/
def Ring.place (g : Ring) : Nat × Nat := (g.head, g.blockSeq)

/-- Every ring of every function keeps its HEAD and BLOCK_SEQ. -/
structure KeepsPlaces (a b : Dev) : Prop where
  place_eq : ∀ f r : Nat, ((b.fn f).ring r).place = ((a.fn f).ring r).place

theorem KeepsPlaces.refl (a : Dev) : KeepsPlaces a a := ⟨fun _ _ => rfl⟩

theorem KeepsPlaces.trans {a b c : Dev} (h : KeepsPlaces a b) (k : KeepsPlaces b c) : KeepsPlaces a c :=
  ⟨fun f r => (k.place_eq f r).trans (h.place_eq f r)⟩

/-- The last change first, as a definition shows it. -/
theorem KeepsPlaces.after {a b c : Dev} (k : KeepsPlaces b c) (h : KeepsPlaces a b) : KeepsPlaces a c := h.trans k

theorem KeepsPlaces.ite {a b c : Dev} {p : Prop} [Decidable p] (h : KeepsPlaces a b) (k : KeepsPlaces a c) :
    KeepsPlaces a (if p then b else c) := by
  split
  · exact h
  · exact k

theorem KeepsPlaces.foldl {β : Type} (f : Dev → β → Dev) (h : ∀ s x, KeepsPlaces s (f s x)) (l : List β) (s : Dev) :
    KeepsPlaces s (l.foldl f s) := by
  induction l generalizing s with
  | nil => exact KeepsPlaces.refl s
  | cons x r ih => exact (h s x).trans (ih _)

theorem KeepsPlaces.of_fns {a b : Dev} (h : b.fns = a.fns) : KeepsPlaces a b := by
  constructor; intro f r; unfold Dev.fn; rw [h]

theorem OnlyCauses.keepsPlaces {a b : Dev} (h : OnlyCauses a b) : KeepsPlaces a b := by
  constructor; intro f r; rw [h f]; rfl

theorem Dev.modFn_modRing_get (s : Dev) (f r i j : Nat) (g : Ring → Ring) :
    ((s.modFn f (fun x => x.modRing r g)).fn i).ring j =
      if i = f ∧ j = r then g ((s.fn f).ring r) else (s.fn i).ring j := by
  rw [Dev.modFn_get]
  by_cases hi : i = f
  · subst hi; simp [Fn.modRing_get]
  · simp [hi]

theorem Dev.modRing_places (s : Dev) (f r : Nat) {g : Ring → Ring} (h : ∀ x, (g x).place = x.place) :
    KeepsPlaces s (s.modFn f (fun x => x.modRing r g)) := by
  constructor
  intro i j
  rw [Dev.modFn_modRing_get]
  split
  · next e => rw [h, e.1, e.2]
  · rfl

theorem Dev.modStream_places (s : Dev) (i : Nat) (g : Stream → Stream) : KeepsPlaces s (s.modStream i g) :=
  KeepsPlaces.ite (KeepsPlaces.of_fns rfl) (KeepsPlaces.of_fns rfl)

theorem Dev.readPair_places (s : Dev) (i : Nat) (r : Rec) : KeepsPlaces s (s.readPair i r).1 := by
  unfold Dev.readPair
  dsimp only
  split
  · exact KeepsPlaces.refl s
  · exact (Dev.modStream_places ..).trans (KeepsPlaces.of_fns (Dev.logIt_fns ..))

theorem Dev.joinCaravan_places (s : Dev) (f r : Nat) : KeepsPlaces s (s.joinCaravan f r) :=
  KeepsPlaces.ite (KeepsPlaces.of_fns rfl) (KeepsPlaces.of_fns rfl)

theorem Dev.closeBlock_places (s : Dev) (f r : Nat) (flushed : Bool) : KeepsPlaces s (s.closeBlock f r flushed) :=
  KeepsPlaces.ite (KeepsPlaces.refl s) (KeepsPlaces.after (Dev.joinCaravan_places ..) (Dev.modRing_places s f r fun _ => rfl))

theorem Dev.takeOne_places (s : Dev) (i : Nat) (r : Rec) : KeepsPlaces s (s.takeOne i r) :=
  KeepsPlaces.after (KeepsPlaces.ite (Dev.closeBlock_places ..) (KeepsPlaces.refl _))
    (KeepsPlaces.after (Dev.modRing_places _ _ _ fun _ => rfl)
      (KeepsPlaces.after (Dev.modStream_places ..) (Dev.readPair_places s i r)))

theorem Dev.takeList_places (i : Nat) (l : List Rec) (s : Dev) : KeepsPlaces s (s.takeList i l) := by
  induction l generalizing s with
  | nil => exact KeepsPlaces.refl s
  | cons r rest ih => exact KeepsPlaces.ite ((Dev.takeOne_places s i r).trans (ih _)) (KeepsPlaces.refl s)

theorem Dev.takeAll_places (s : Dev) (f : Nat) : KeepsPlaces s (s.takeAll f) :=
  KeepsPlaces.foldl _ (fun d i => Dev.takeList_places i _ d) _ s

theorem Dev.freeSlots_places (s : Dev) (l : List Rec) : KeepsPlaces s (s.freeSlots l) :=
  KeepsPlaces.foldl _ (fun _ _ => Dev.modStream_places ..) l s

theorem Dev.irq_places (s : Dev) (f b : Nat) : KeepsPlaces s (s.irq f b) := (Dev.irq_causes s f b).keepsPlaces

theorem Dev.ringNote_places (s : Dev) (f r : Nat) (wasFull : Bool) : KeepsPlaces s (s.ringNote f r wasFull) :=
  KeepsPlaces.after (KeepsPlaces.ite (Dev.irq_places ..) (KeepsPlaces.refl _))
    (KeepsPlaces.after (KeepsPlaces.ite (Dev.irq_places ..) (KeepsPlaces.refl _)) (Dev.modRing_places s f r fun _ => rfl))

/-- What follows a block's writes: its slots free, the ring's occurrence, the fill's account, and the records that Caravan takes. -/
theorem Dev.blockEnd_places (s : Dev) (f r mode : Nat) (l : List Rec) (wasFull : Bool) :
    KeepsPlaces s (((if mode = 1 then (s.freeSlots l).irq f (8 + r) else s.freeSlots l).ringNote f r wasFull).takeAll f) :=
  KeepsPlaces.after (Dev.takeAll_places ..) (KeepsPlaces.after (Dev.ringNote_places ..)
    (KeepsPlaces.after (KeepsPlaces.ite (Dev.irq_places ..) (KeepsPlaces.refl _)) (Dev.freeSlots_places s l)))

end Sys2Proof.Machine
end

section
/-! The flush timer, Caravan's admission, and the writes of a block to host memory (spec/09_results.md, R331 to R334;
spec/18_sessions.md, R541 to R544). -/

namespace Sys2Proof.Machine

/-! ### The flush timer (R333) -/

theorem Dev.flushTimer_expires {d : Dev} {f r t0 : Nat} (hopen : ((d.fn f).ring r).openSince = some t0)
    (hset : ((d.fn f).ring r).flushUs ≠ 0) :
    d.flushTimer f r = (d.advance (t0 + ((d.fn f).ring r).flushUs * 1000000)).closeBlock f r true := by
  simp [Dev.flushTimer, hopen, hset]

/-! ### Admission (R541 to R544) -/

/-- The caravans that may be admitted, in the order in which they closed. -/
def Dev.carWaiting (d : Dev) : List Caravan :=
  d.tg.caravans.filter (fun c => !c.admitted && d.carCredit c.fn && (d.fn c.fn).flr == .idle)

/-- The functions with a waiting caravan of the highest effective class. -/
def Dev.carFns (d : Dev) : List Nat :=
  sortedFns ((d.carWaiting.filter (fun c => c.eff == d.carWaiting.foldl (fun m c => max m c.eff) 0)).map (·.fn))

/-- The blocks of a function's first waiting caravan. -/
def Dev.carNeed (d : Dev) (f : Nat) : Nat :=
  match d.carWaiting.find? (fun c => c.fn == f) with
  | some c => c.rings.length
  | none => 0

/-- The weight that a function's first waiting caravan started waiting with. -/
def Dev.carWeight (d : Dev) (f : Nat) : Nat :=
  match d.carWaiting.find? (fun c => c.fn == f) with
  | some c => c.weight
  | none => 0

/-- The deficit round robin's answer over those functions, from the last served one on. -/
def Dev.carServed (d : Dev) : Dev × Option Nat :=
  d.drrCaravan (9 * d.carFns.length + 1) d.tg.lastCar d.carFns d.carNeed d.carWeight

/-- The first caravan of a function that waits is admitted, and the function is the last served one. -/
def Dev.carAdmitted (d : Dev) (f : Nat) : Dev :=
  let take := updFirst (fun (c : Caravan) => c.fn == f && !c.admitted) (fun c => { c with admitted := true })
  d.modTg (fun t => { t with lastCar := f, caravans := take t.caravans })

theorem Dev.carAdmitted_fn (d : Dev) (f i : Nat) : (d.carAdmitted f).fn i = d.fn i := rfl

theorem Dev.caravanAdmit_eq (d : Dev) :
    d.caravanAdmit = if d.carWaiting.isEmpty || d.sys.blockReset.any (fun p => p.1 == 16) then d
      else match d.carServed.2 with
        | none => d.carServed.1
        | some f => d.carServed.1.carAdmitted f := rfl

theorem Dev.caravanAdmit_served {d : Dev} {f : Nat} (hw : d.carWaiting ≠ [])
    (hreset : d.sys.blockReset.any (fun p => p.1 == 16) = false) (hf : d.carServed.2 = some f) :
    d.caravanAdmit = d.carServed.1.carAdmitted f := by
  rw [Dev.caravanAdmit_eq, hf, hreset]
  simp [hw]

/-- The last served function goes on while its deficit covers its caravan. -/
theorem Dev.drrCaravan_stays {d : Dev} {cur : Nat} {fs : List Nat} {need : Nat → Nat} (hmem : cur ∈ fs)
    (hneed : need cur ≤ (d.fn cur).deficitCar) (k : Nat) (weight : Nat → Nat) :
    d.drrCaravan (k + 1) cur fs need weight =
      (d.modFn cur (fun r => { r with deficitCar := r.deficitCar - need cur }), some cur) := by
  simp [Dev.drrCaravan, hmem, hneed]

/-- A class that no caravan exceeds stays the highest. -/
theorem foldl_max_eff_stays {l : List Caravan} {m : Nat} (h : ∀ x ∈ l, x.eff ≤ m) :
    l.foldl (fun m c => max m c.eff) m = m := by
  induction l with
  | nil => rfl
  | cons x rest ih =>
    obtain ⟨hx, hrest⟩ := List.forall_mem_cons.mp h
    rw [List.foldl_cons, Nat.max_eq_left hx, ih hrest]

/-- A caravan of no lower class than the others has the highest class. -/
theorem foldl_max_eff {l : List Caravan} {k : Caravan} (hk : k ∈ l) (hmax : ∀ x ∈ l, x.eff ≤ k.eff) {m : Nat}
    (hm : m ≤ k.eff) : l.foldl (fun m c => max m c.eff) m = k.eff := by
  induction l generalizing m with
  | nil => exact absurd hk List.not_mem_nil
  | cons x rest ih =>
    obtain ⟨hx, hrest⟩ := List.forall_mem_cons.mp hmax
    rw [List.foldl_cons]
    cases List.mem_cons.mp hk with
    | inl hkx => rw [← hkx, Nat.max_eq_right hm, foldl_max_eff_stays hrest]
    | inr hkrest => exact ih hkrest hrest (Nat.max_le.mpr ⟨hm, hx⟩)

/-- The first entry that meets a test is the first one equal to it. -/
theorem updFirst_of_find? {α : Type} [DecidableEq α] {p : α → Bool} {l : List α} {c : α} (h : l.find? p = some c)
    (g : α → α) : updFirst p g l = updFirst (fun x => x == c) g l := by
  induction l with
  | nil => rfl
  | cons a r ih =>
    cases hp : p a with
    | true =>
      obtain rfl : a = c := by simpa [hp] using h
      simp [updFirst, hp]
    | false =>
      rw [List.find?_cons_of_neg (by simp [hp])] at h
      have hne : a ≠ c := fun e => by simp [e, List.find?_some h] at hp
      simp [updFirst, hp, hne, ih h]

/-- A caravan that may be admitted: it waits, its function has a credit and no reset runs in it. -/
def Dev.CarMay (d : Dev) (x : Caravan) : Prop :=
  x.admitted = false ∧ d.carCredit x.fn = true ∧ (d.fn x.fn).flr = .idle

section
variable {d : Dev} {c : Caravan}

theorem Dev.mem_carWaiting {x : Caravan} : x ∈ d.carWaiting ↔ x ∈ d.tg.caravans ∧ d.CarMay x := by
  simp [Dev.carWaiting, Dev.CarMay, and_assoc]

/-- A function's first waiting caravan is its first that may be admitted: credit and reset are the function's. -/
theorem Dev.find?_carWaiting (hfirst : d.tg.caravans.find? (fun x => x.fn == c.fn && !x.admitted) = some c)
    (hmay : d.CarMay c) : d.carWaiting.find? (fun x => x.fn == c.fn) = some c := by
  obtain ⟨-, hcredit, hidle⟩ := hmay
  rw [Dev.carWaiting, List.find?_filter, ← hfirst]
  congr 1
  funext x
  by_cases hx : x.fn = c.fn
  · simp [hx, hcredit, hidle]
  · simp [hx]

theorem Dev.carNeed_first (h : d.carWaiting.find? (fun x => x.fn == c.fn) = some c) :
    d.carNeed c.fn = c.rings.length := by
  rw [Dev.carNeed, h]

/-- A function with a waiting caravan of no lower class than the others is among those that deficit round robin serves. -/
theorem Dev.mem_carFns {k : Caravan} (hk : k ∈ d.carWaiting) (hmax : ∀ x ∈ d.carWaiting, x.eff ≤ k.eff) :
    k.fn ∈ d.carFns := by
  rw [Dev.carFns, mem_sortedFns, foldl_max_eff hk hmax (Nat.zero_le _)]
  exact List.mem_map_of_mem (List.mem_filter.mpr ⟨hk, by simp⟩)

/-- The last served function goes on while it has the highest class and its deficit covers its first caravan (R542). -/
theorem Dev.carServed_stays (hfirst : d.carWaiting.find? (fun x => x.fn == c.fn) = some c) (hlast : c.fn = d.tg.lastCar)
    (hcovers : c.rings.length ≤ (d.fn c.fn).deficitCar) (htop : c.fn ∈ d.carFns) :
    d.carServed = (d.modFn c.fn (fun r => { r with deficitCar := r.deficitCar - c.rings.length }), some c.fn) := by
  rw [Dev.carServed, ← hlast, Dev.drrCaravan_stays htop (by rwa [Dev.carNeed_first hfirst]), Dev.carNeed_first hfirst]

end

/-! ### The writes of a block (R331, R334) -/

theorem memRead_memWrites_other (ws : List (Nat × List Byte)) (m : List Host.Cell) {i : Nat}
    (h : ∀ w ∈ ws, ∀ k < w.2.length, i ≠ (w.1 + k) % 2 ^ 64) : memRead (memWrites m ws) i = memRead m i := by
  induction ws generalizing m with
  | nil => rfl
  | cons w rest ih =>
    obtain ⟨hw, hrest⟩ := List.forall_mem_cons.mp h
    exact (ih _ hrest).trans (memRead_memWriteBytes_other m w.1 i w.2 hw)

/-- The memory writes of a block of a ring: the records, the header with the seal, and the write-back where it is set. -/
def Ring.blockWrites (g : Ring) (b : Block) (f r : Nat) : List (Nat × List Byte) :=
  let hdr := blockHeader b g.sealOn r f g.blockSeq (g.space + 4096 * g.head)
  let a := g.base + 4096 * g.head
  [(a + 64, blockRecs b), (a, hdr ++ w32 (blockSeal hdr (blockRecs b) b g.sealOn))] ++
    if g.wbAddr = 0 then [] else [(g.wbAddr, w32 ((g.head + 1) % 2 ^ g.size) ++ w32 g.blockSeq)]

/-- The caravans after a block of a ring has left the first admitted one that holds it. -/
def Dev.blockLeft (d : Dev) (f r : Nat) : Dev :=
  let left := updFirst (fun (c : Caravan) => c.fn == f && c.admitted && c.rings.contains r)
    (fun c => { c with rings := eraseOne r c.rings }) d.tg.caravans
  d.modTg (fun t => { t with caravans := left.filter (fun c => !c.rings.isEmpty) })

section
variable {d : Dev} {f r : Nat} {b : Block} {rest : List Block}

theorem Dev.writeBlock_writes (h : ((d.fn f).ring r).closed = b :: rest) :
    (d.writeBlock f r).2 = ((d.fn f).ring r).blockWrites b f r := by
  simp only [Dev.writeBlock, h]
  rfl

/-- Only the block itself moves its ring on: HEAD by one modulo the size, BLOCK_SEQ by one (R331, R334). -/
theorem Dev.writeBlock_place (h : ((d.fn f).ring r).closed = b :: rest) :
    (((d.writeBlock f r).1.fn f).ring r).place =
      ((((d.fn f).ring r).head + 1) % 2 ^ ((d.fn f).ring r).size, ((d.fn f).ring r).blockSeq + 1) := by
  simp only [Dev.writeBlock, h]
  refine ((Dev.blockEnd_places ..).place_eq f r).trans ?_
  rw [Dev.modFn_modRing_get, if_pos ⟨rfl, rfl⟩]
  rfl

variable {c : Caravan} (hfind : d.tg.caravans.find? (fun x => x.fn == f && x.admitted && x.rings.contains r) = some c)
  (hturn : d.blockTurn f r c.rings = true) (hclosed : ((d.fn f).ring r).closed = b :: rest)
include hfind hturn

theorem Dev.blockWrite_eq : d.blockWrite f r = (d.blockLeft f r).writeBlock f r := by
  simp only [Dev.blockWrite, hfind, hturn, Bool.not_true, Bool.false_eq_true, if_false]
  rfl

include hclosed

theorem Dev.blockWrite_writes : (d.blockWrite f r).2 = ((d.fn f).ring r).blockWrites b f r := by
  rw [Dev.blockWrite_eq hfind hturn]
  exact Dev.writeBlock_writes (d := d.blockLeft f r) hclosed

theorem Dev.blockWrite_place : (((d.blockWrite f r).1.fn f).ring r).place =
    ((((d.fn f).ring r).head + 1) % 2 ^ ((d.fn f).ring r).size, ((d.fn f).ring r).blockSeq + 1) := by
  rw [Dev.blockWrite_eq hfind hturn]
  exact Dev.writeBlock_place (d := d.blockLeft f r) hclosed

end

/-- Settles O33: the flush timer closes; a covered last function of the highest class, else the round robin's choice, has its
first caravan admitted; and a block's writes are exactly the three. -/
theorem caravanAndBlocks : Obligations.CaravanAndBlocks := by
  refine ⟨fun fn ring s t0 hopen hset => congrArg _ (State.on_congr (Dev.flushTimer_expires hopen hset)),
    fun s c hfirst hmay hlast hcovers hreset htop => ?stays,
    fun s f hw hreset hserved => ⟨_, rfl, rfl, ?served⟩,
    fun fn ring s c b rest hfind hturn hclosed => ⟨_, rfl, ?written⟩⟩
  case stays =>
    obtain ⟨k, hk, hkfn, hkwaits, hkmax⟩ := htop
    have hwfirst := Dev.find?_carWaiting hfirst hmay
    have hkw : k ∈ s.dev.carWaiting := Dev.mem_carWaiting.mpr ⟨hk, hkwaits, hkfn ▸ hmay.2⟩
    have hfns : c.fn ∈ s.dev.carFns :=
      hkfn ▸ Dev.mem_carFns hkw fun x hx => (Dev.mem_carWaiting.mp hx).elim fun hmem hx => hkmax x hmem hx
    have hserved := Dev.carServed_stays hwfirst hlast hcovers hfns
    have hadmit := Dev.caravanAdmit_served (List.ne_nil_of_mem hkw) hreset (congrArg Prod.snd hserved)
    rw [hserved] at hadmit
    refine ⟨_, rfl, rfl, ?_⟩
    rw [State.on_dev, hadmit, Dev.carAdmitted_fn, Dev.modFn_same]
    exact ⟨updFirst_of_find? hfirst _, rfl⟩
  case served =>
    rw [State.on_dev, Dev.caravanAdmit_served hw hreset hserved]
    exact ⟨rfl, rfl⟩
  case written =>
    rw [State.onWith_mem, State.onWith_dev, Dev.blockWrite_writes hfind hturn hclosed]
    have hplace := Dev.blockWrite_place hfind hturn hclosed
    exact ⟨rfl, fun i => memRead_memWrites_other _ s.mem, congrArg Prod.fst hplace, congrArg Prod.snd hplace⟩

end Sys2Proof.Machine
end

section
/-! The Seam's training, its side channel and the heartbeat (spec/10_seam_and_hem.md, R337, R338, R341, R345 to R348, R364). -/

namespace Sys2Proof.Machine

/-! ### What the start of hold-then-safe and the end of a calibration slot leave (R364, R399) -/

theorem Dev.runOver_now (d : Dev) : d.runOver.now = d.now := by
  unfold Dev.runOver
  split
  · rfl
  · exact Dev.finish?_now ..

theorem Dev.slotAbort_now (d : Dev) : d.slotAbort.now = d.now := by
  unfold Dev.slotAbort
  split
  · rfl
  · exact (Dev.runOver_now _).trans (Dev.forAll_keeps Dev.now)

theorem Dev.holdStart_now (d : Dev) (t : Nat) : (d.holdStart t).now = d.now := by
  unfold Dev.holdStart
  split
  · exact Dev.slotAbort_now _
  · rfl

/-! ### The heartbeat (R347, R348, R364) -/

/-- Helon finds the heartbeat lost, 500 µs after its last change, and logs cause 1. -/
def Dev.heartbeatMissed (d : Dev) : Dev :=
  ((d.advance (d.seam.hbChangedAt + 500000000)).modSeam (fun m => { m with hbLost := true })).seamLossLog 1

/-- The loss of the heartbeat starts hold-then-safe. -/
def Dev.heartbeatLost (d : Dev) : Dev := d.heartbeatMissed.holdStart d.nextSample

theorem Dev.heartbeatMissed_seam (d : Dev) : d.heartbeatMissed.seam = { d.seam with hbLost := true } := Dev.logIt_seam ..

theorem exec_heartbeatLoss {s : State} (hrests : s.dev.seamRests = false) (hon : s.dev.helonOn = true) :
    exec .heartbeatLoss s = .next (s.on (fun d => d.observed Dev.heartbeatLost)) :=
  exec_observed_congr (if_neg (by simp [hrests, hon]))

theorem Dev.heartbeatLost_now (d : Dev) : d.heartbeatLost.now = max d.now (d.seam.hbChangedAt + 500000000) :=
  (Dev.holdStart_now ..).trans (Dev.logIt_now ..)

theorem Dev.heartbeatLost_hbLost (d : Dev) : d.heartbeatLost.seam.hbLost = true :=
  (Dev.holdStart_keeps Seam.hbLost ..).trans (congrArg Seam.hbLost d.heartbeatMissed_seam)

theorem Dev.heartbeatLost_hold (d : Dev) : d.heartbeatLost.seam.hold ≠ .none_ ∧
    (d.seam.hold = .none_ → d.heartbeatLost.seam.hold = .hold ∧ d.heartbeatLost.seam.holdAt = d.nextSample) := by
  obtain ⟨hruns, hstarts⟩ := Dev.holdStart_hold d.heartbeatMissed d.nextSample
  exact ⟨hruns, fun h => hstarts ((congrArg Seam.hold d.heartbeatMissed_seam).trans h)⟩

theorem exec_heartbeatIncrement {s : State} (h : s.dev.seam.hbRunning = true) :
    exec .heartbeatIncrement s = .next (s.on (fun d => d.modSeam (fun m => { m with hb := (m.hb + 1) % 65536 }))) :=
  congrArg Host.Outcome.next (State.on_congr (if_pos h))

/-! ### The Seam comes up (R337) -/

theorem exec_seamUp {s : State} (hon : s.dev.seamOn = true) (hup : 16 ≤ s.dev.seam.goodUp) (hdn : 16 ≤ s.dev.seam.goodDn) :
    exec .seamUp s = .next (s.on (fun d => d.observed (fun d => d.modSeam (fun m =>
      { m with up := true, upHelon := true, locked := true, enterHold := false, lossAt := none, badUp := 0, badDn := 0 })))) :=
  exec_observed_congr (if_pos (by simp [hon, hup, hdn]))

/-! ### A packet that is received (R345, R346, R590) -/

/-- A received packet is noted for SC_ACK, and is in flight no longer. -/
def Dev.sideNoted (d : Dev) (p : SidePacket) : Dev :=
  d.modSeam (fun m =>
    { m with scAckUp := if p.up then p.seq else m.scAckUp, scAckDn := if p.up then m.scAckDn else p.seq,
             packets := updFirst (fun x => x.up == p.up && x.seq == p.seq)
               (fun x => { x with flying := false, received := true }) m.packets })

section
variable {d : Dev} {p : SidePacket} {c f : Nat}

theorem Dev.sideReceive_eq (d : Dev) (p : SidePacket) :
    d.sideReceive p = if p.received then d.sideNoted p else (d.sideNoted p).sideAct p := rfl

/-- A packet received before, or about no channel, is noted only. -/
theorem Dev.sideReceive_noted (h : p.received = true ∨ p.chan = none) : d.sideReceive p = d.sideNoted p := by
  rw [Dev.sideReceive_eq]
  split
  · rfl
  · next hfirst => simp only [Dev.sideAct, h.resolve_left hfirst]

/-- The first time, the receiver of its direction acts on the packet: Denrix on a report, Helon on a downstream packet. -/
theorem Dev.sideReceive_first (hfirst : p.received = false) : d.sideReceive p = (d.sideNoted p).sideAct p :=
  if_neg (by simp [hfirst])

theorem Dev.sideAct_up (hchan : p.chan = some c) (hup : p.up = true) : d.sideAct p = d.upAct c p.msg := by
  simp only [Dev.sideAct, hchan, if_pos hup]

theorem Dev.sideAct_down (hchan : p.chan = some c) (hdn : p.up = false) : d.sideAct p = d.downAct c p := by
  simp only [Dev.sideAct, hchan, hdn, Bool.false_eq_true, if_false]

theorem Dev.downAct_safe (h : p.msg = .safe) : d.downAct c p = d.safeAt c := by
  unfold Dev.downAct
  rw [h]

theorem Dev.downAct_write (h : p.msg ≠ .safe) (hnamed : p.named = none) : d.downAct c p = d.helonTake c p.msg := by
  unfold Dev.downAct
  rw [hnamed]
  split
  · next hsafe => exact absurd hsafe h
  · rfl
  · next hsome _ => exact nomatch hsome

theorem Dev.downAct_named (h : p.msg ≠ .safe) (hnamed : p.named = some f) : d.downAct c p =
    if (d.seam.nextSeq + 65535 - f) % 65536 < 32768 then d
    else d.modSeam (fun m => { m with timed := m.timed ++ [(f, c, p.msg)] }) := by
  unfold Dev.downAct
  rw [hnamed]
  split
  · next hsafe => exact absurd hsafe h
  · next hnone _ => exact nomatch hnone
  · next hsome _ => obtain rfl := Option.some.inj hsome; rfl

end

/-! ### A packet that is sent again (R346, R399) -/

/-- A packet is sent again 4 µs after it was sent. -/
def Dev.sideAgain (d : Dev) (p : SidePacket) : Dev :=
  let d1 := d.advance (p.sentAt + 4000000)
  let again := fun (x : SidePacket) => { x with attempts := x.attempts + 1, sentAt := d1.now, flying := true }
  d1.modSeam (fun m => { m with packets := updFirst (fun x => x.up == p.up && x.seq == p.seq) again m.packets })

/-- A packet is dropped and logged, and a calibration slot ends. -/
def Dev.sideDropped (d : Dev) (p : SidePacket) : Dev :=
  (((d.advance (p.sentAt + 4000000)).modSeam (fun m =>
    { m with packets := m.packets.filter (fun x => !(x.up == p.up && x.seq == p.seq)) })).logIt kSideChannel p.seq).slotAbort

/-- The range change that a dropped packet's channel is in fails. -/
def Dev.sideFails (d : Dev) (ch : Option Nat) : Dev :=
  match ch with
  | some c => if (d.chan (d.leader c)).rc.isSome then d.rcFail (d.leader c) stIntegrity else d
  | none => d

section
variable {d : Dev} {ch : Option Nat}

theorem Dev.sideFails_free (h : ∀ c : Nat, ch = some c → (d.chan (d.leader c)).rc = none) : d.sideFails ch = d := by
  cases ch with
  | none => rfl
  | some c => exact if_neg (by simp [h c rfl])

theorem Dev.sideFails_changing {c : Nat} (hchan : ch = some c) (hrc : (d.chan (d.leader c)).rc ≠ none) :
    d.sideFails ch = d.rcFail (d.leader c) stIntegrity := by
  subst hchan
  exact if_pos (Option.isSome_iff_ne_none.mpr hrc)

end

/-! ### The rows -/

section
variable {s : State} {up : Bool} {seq : W16} {p : SidePacket}
  (hfind : s.dev.seam.packets.find? (fun p => p.up == up && p.seq == seq.toNat) = some p)
include hfind

theorem sidePacket_up_of_find : p.up = up := by
  have h := List.find?_some hfind
  simp only [Bool.and_eq_true, beq_iff_eq] at h
  exact h.1

theorem exec_sideChannelPacket_landed (hfly : p.flying = false) :
    exec (.sideChannelPacket up seq) s = .next (s.on (fun d => d.observed (fun d => d))) :=
  exec_observed_congr (by simp [hfind, hfly])

theorem exec_sideChannelPacket_flying (hfly : p.flying = true) :
    exec (.sideChannelPacket up seq) s = .next (s.on (fun d => d.observed (fun d => d.sideReceive p))) :=
  exec_observed_congr (by simp [hfind, hfly])

theorem exec_sideChannelRetransmit_again (h : p.attempts < 8) :
    exec (.sideChannelRetransmit up seq) s = .next (s.on (fun d => d.observed (fun d => d.sideAgain p))) := by
  obtain rfl := sidePacket_up_of_find hfind
  exact exec_observed_congr (by simp only [hfind, if_pos h]; rfl)

/-- After the eighth attempt the packet is dropped, and a range change of its channel fails. -/
theorem exec_sideChannelRetransmit_last (h : 8 ≤ p.attempts) :
    exec (.sideChannelRetransmit up seq) s = .next (s.on (fun d => d.observed (fun d => (d.sideDropped p).sideFails p.chan))) := by
  obtain rfl := sidePacket_up_of_find hfind
  exact exec_observed_congr (by simp only [hfind, if_neg (Nat.not_lt.mpr h)]; rfl)

end

/-- Settles O40: each row's change of the device; a packet by what became of it before and what it carries, a retransmission by
its attempts and its channel's range change. -/
theorem seamAndSideChannel : Obligations.SeamAndSideChannel := by
  refine ⟨fun s hon hup hdn => exec_seamUp hon hup hdn, fun s => rfl,
    fun up seq s p hfind => ⟨exec_sideChannelPacket_landed hfind, fun hfly h => ?noted,
      fun c hfly hfirst hchan => ⟨fun hup => ?report, fun hdn hsafe => ?safe, fun hdn hmsg hnamed => ?write,
        fun f hdn hmsg hnamed => ⟨fun hpassed => ?passed, fun hahead => ?staged⟩⟩,
      fun hfew => ?again, fun hmany hfree => ?dropped, fun hmany c hchan hrc => ?failed⟩,
    fun s hrun => exec_heartbeatIncrement hrun,
    fun s hrests hon => ⟨_, exec_heartbeatLoss hrests hon, rfl, ?lost⟩⟩
  case lost =>
    simp only [State.on_dev, Dev.observed_seam, Dev.observed_now]
    exact ⟨Dev.heartbeatLost_now _, Dev.heartbeatLost_hbLost _, Dev.heartbeatLost_hold _⟩
  all_goals obtain rfl := sidePacket_up_of_find hfind
  case again => exact (exec_sideChannelRetransmit_again hfind hfew).trans (exec_observed_congr rfl)
  case dropped => exact (exec_sideChannelRetransmit_last hfind hmany).trans (exec_observed_congr (Dev.sideFails_free hfree))
  case failed => exact (exec_sideChannelRetransmit_last hfind hmany).trans (exec_observed_congr (Dev.sideFails_changing hchan hrc))
  all_goals refine (exec_sideChannelPacket_flying hfind hfly).trans (exec_observed_congr ?_)
  case noted => exact Dev.sideReceive_noted h
  all_goals refine (Dev.sideReceive_first hfirst).trans ?_
  case report => exact Dev.sideAct_up hchan hup
  all_goals refine (Dev.sideAct_down hchan hdn).trans ?_
  case safe => exact Dev.downAct_safe hsafe
  case write => exact Dev.downAct_write hmsg hnamed
  case passed => exact (Dev.downAct_named hmsg hnamed).trans (if_pos hpassed)
  case staged => exact (Dev.downAct_named hmsg hnamed).trans (if_neg hahead)

end Sys2Proof.Machine
end

section
/-! What a step does with the queue and with host memory, whichever command stands in front
(spec/00_scope.md, spec/95_what_each_step_holds.md, R103, R331). -/

namespace Sys2Proof.Machine

theorem execRingReplyWrite_writes (fn : FnId) (entry : Nat) (s : State) :
    ∃ (t : State) (ws : List (Nat × List Byte)),
      execRingReplyWrite fn entry s = .next t ∧ t.pending = s.pending ∧ t.mem = memWrites s.mem ws := by
  unfold execRingReplyWrite
  split
  · exact ⟨s, [], rfl, rfl, rfl⟩
  · exact ⟨_, _, rfl, State.onWith_pending .., State.onWith_mem ..⟩

/-- Every command answers a next state with the queue as it was, and sends host memory the writes of a list (none, but for
the reply of a ring entry and a block of results). -/
theorem exec_next_writes (i : Instr) (s : State) :
    ∃ (t : State) (ws : List (Nat × List Byte)), exec i s = .next t ∧ t.pending = s.pending ∧ t.mem = memWrites s.mem ws := by
  by_cases hring : ∃ fn entry, i = .ringReplyWrite fn entry
  · obtain ⟨fn, entry, rfl⟩ := hring
    exact execRingReplyWrite_writes fn entry s
  by_cases hblock : ∃ fn ring, i = .blockWrite fn ring
  · obtain ⟨fn, ring, rfl⟩ := hblock
    exact ⟨_, _, rfl, rfl, rfl⟩
  obtain ⟨g, hg⟩ := exec_eq_on (fun fn entry e => hring ⟨fn, entry, e⟩) (fun fn ring e => hblock ⟨fn, ring, e⟩)
  exact ⟨s.on g, [], hg s, rfl, rfl⟩

theorem exec_keeps_inv (i : Instr) {s : State} (h : s.Inv) : ∃ t : State, exec i s = .next t ∧ t.Inv := by
  obtain ⟨t, ws, ht, -, hmem⟩ := exec_next_writes i s
  exact ⟨t, ht, (congrArg Memory.wf hmem).trans (memWrites_wf s.mem ws h)⟩

theorem step_cons {c : Instr} {rest : List Instr} {s : State} (h : s.pending = c :: rest) :
    step s = exec c { s with pending := rest } := by
  simp only [step, h]

theorem step_idle {s : State} (h : s.pending = []) : step s = .next s := by
  simp only [step, h]

/-- Settles O4: an idle step keeps the state, and a command only adds writes, each of which keeps the canonical form. -/
theorem everyStepKeepsInvariant : Obligations.EveryStepKeepsInvariant := by
  intro s h
  cases hq : s.pending with
  | nil => exact ⟨s, step_idle hq, h⟩
  | cons c rest =>
    rw [step_cons hq]
    exact exec_keeps_inv c (s := { s with pending := rest }) h

/-- Settles O5. -/
theorem commandsLeaveTheQueue : Obligations.CommandsLeaveTheQueue := fun i s =>
  let ⟨t, _, ht, hq, _⟩ := exec_next_writes i s
  ⟨t, ht, hq⟩

/-- Settles O1. -/
theorem stepRunsTheFrontCommand : Obligations.StepRunsTheFrontCommand :=
  ⟨fun _ _ => step_cons rfl, fun _ => step_idle⟩

/-- Settles O3: no cell of host memory is listed at reset. -/
theorem resetHasInvariant : Obligations.ResetHasInvariant :=
  ⟨rfl, rfl, fun _ => rfl⟩

end Sys2Proof.Machine
end

section
/-! Which waiting request Tollgate serves next (spec/18_sessions.md, R106, R542, R543). -/

namespace Sys2Proof.Machine

/-! ### The highest class of a list of requests (R542) -/

theorem foldl_max_eff_bounds (l : List Job) (m : Nat) :
    m ≤ l.foldl (fun m j => max m j.eff) m ∧ (∀ x ∈ l, x.eff ≤ l.foldl (fun m j => max m j.eff) m) ∧
      (l.foldl (fun m j => max m j.eff) m = m ∨ ∃ x ∈ l, x.eff = l.foldl (fun m j => max m j.eff) m) := by
  induction l generalizing m with
  | nil => exact ⟨Nat.le_refl m, by simp, .inl rfl⟩
  | cons a r ih =>
    obtain ⟨hle, hall, hat⟩ := ih (max m a.eff)
    rw [List.foldl_cons]
    refine ⟨le_trans (le_max_left ..) hle, List.forall_mem_cons.mpr ⟨le_trans (le_max_right ..) hle, hall⟩, ?_⟩
    obtain hmax | ⟨x, hx, he⟩ := hat
    · rw [hmax]
      obtain h | h := max_choice m a.eff
      · exact .inl h
      · exact .inr ⟨a, List.mem_cons_self, h.symm⟩
    · exact .inr ⟨x, List.mem_cons_of_mem a hx, he⟩

theorem le_topClass {l : List Job} {x : Job} (h : x ∈ l) : x.eff ≤ topClass l := (foldl_max_eff_bounds l 0).2.1 x h

theorem exists_topClass {l : List Job} (h : l ≠ []) : ∃ x ∈ l, x.eff = topClass l := by
  obtain hzero | hat := (foldl_max_eff_bounds l 0).2.2
  · obtain ⟨x, hx⟩ := List.exists_mem_of_ne_nil l h
    exact ⟨x, hx, Nat.le_antisymm (le_topClass hx) (hzero.trans_le (Nat.zero_le _))⟩
  · exact hat

/-! ### The pick (R106, R542, R543) -/

/-- Deficit round robin serves a function of its list. -/
theorem drrPick_mem (last deficit : Nat) {fs : List Nat} (h : fs ≠ []) : (drrPick last deficit fs).1 ∈ fs := by
  unfold drrPick
  split
  · next hstay => simpa using (Bool.and_eq_true_iff.mp hstay).2
  · cases hlater : fs.filter (fun f => decide (f > last)) with
    | nil => cases fs with
      | nil => exact absurd rfl h
      | cons a r => exact List.mem_cons_self
    | cons a r => exact (List.mem_filter.mp (hlater ▸ List.mem_cons_self)).1

/-- The waiting requests whose functions have a credit left (R543). -/
def Dev.credited (d : Dev) : List Job := d.tg.waiting.filter (fun j => d.mailCredit j.f)

theorem Dev.mem_credited {d : Dev} {j : Job} : j ∈ d.credited ↔ j ∈ d.tg.waiting ∧ d.mailCredit j.f = true := List.mem_filter

/-- Those of the highest effective class (R542). -/
def Dev.topJobs (d : Dev) : List Job := d.credited.filter (fun j => j.eff == topClass d.credited)

theorem Dev.mem_topJobs {d : Dev} {j : Job} : j ∈ d.topJobs ↔ j ∈ d.credited ∧ j.eff = topClass d.credited := by
  simp [Dev.topJobs]

/-- The function that deficit round robin serves, and whether its quantum starts anew (R542). -/
def Dev.servedFn (d : Dev) : Nat × Bool :=
  drrPick d.tg.lastFn (d.fn d.tg.lastFn).deficit (sortedFns (d.topJobs.map Job.f))

theorem tollgateNext_eq (d : Dev) :
    tollgateNext d = if d.credited = [] then none
      else (d.topJobs.find? (fun j => j.f == d.servedFn.1)).bind (fun j =>
        (d.credited.find? (fun x => x.f == j.f && x.doorbell == j.doorbell)).map (·, d.servedFn.2)) := by
  unfold tollgateNext
  split
  · next h => exact (if_pos h).symm
  · next w hw =>
    have hcred : d.credited ≠ [] := hw
    rw [if_neg hcred]
    change (match d.topJobs.find? (fun j => j.f == d.servedFn.1) with | none => none | some j => _) = _
    cases d.topJobs.find? (fun j => j.f == d.servedFn.1) with
    | none => rfl
    | some j =>
      change (match d.credited.find? (fun x => x.f == j.f && x.doorbell == j.doorbell) with | none => none | some x => _) =
        (d.credited.find? (fun x => x.f == j.f && x.doorbell == j.doorbell)).map _
      cases d.credited.find? (fun x => x.f == j.f && x.doorbell == j.doorbell) <;> rfl

/-- A pick is the first waiting request of its function and transport, and its function has a request of the highest class. -/
theorem tollgateNext_some {d : Dev} {j : Job} {fresh : Bool} (h : tollgateNext d = some (j, fresh)) :
    ∃ k ∈ d.topJobs, k.f = j.f ∧ d.credited.find? (fun x => x.f == j.f && x.doorbell == j.doorbell) = some j := by
  rw [tollgateNext_eq] at h
  split at h
  · exact absurd h (by simp)
  · obtain ⟨k, hk, hj⟩ := Option.bind_eq_some_iff.mp h
    obtain ⟨x, hx, hpair⟩ := Option.map_eq_some_iff.mp hj
    obtain rfl : x = j := congrArg Prod.fst hpair
    have hsame := List.find?_some hx
    simp only [Bool.and_eq_true, beq_iff_eq] at hsame
    obtain ⟨hf, hdoor⟩ := hsame
    exact ⟨k, List.mem_of_find?_eq_some hk, hf.symm, by rw [hf, hdoor]; exact hx⟩

theorem tollgateNext_isSome {d : Dev} (h : d.credited ≠ []) : (tollgateNext d).isSome = true := by
  rw [tollgateNext_eq, if_neg h]
  have hfns : sortedFns (d.topJobs.map Job.f) ≠ [] := by
    obtain ⟨x, hx, htop⟩ := exists_topClass h
    exact List.ne_nil_of_mem (mem_sortedFns.mpr (List.mem_map_of_mem (Dev.mem_topJobs.mpr ⟨hx, htop⟩)))
  obtain ⟨j, hj, hf⟩ := List.mem_map.mp (mem_sortedFns.mp (drrPick_mem d.tg.lastFn (d.fn d.tg.lastFn).deficit hfns))
  obtain ⟨k, hk⟩ := Option.isSome_iff_exists.mp
    (List.find?_isSome.mpr ⟨j, hj, beq_iff_eq.mpr hf⟩ : (d.topJobs.find? (fun j => j.f == d.servedFn.1)).isSome = true)
  have hfirst : (d.credited.find? (fun x => x.f == k.f && x.doorbell == k.doorbell)).isSome = true :=
    List.find?_isSome.mpr ⟨k, (Dev.mem_topJobs.mp (List.mem_of_find?_eq_some hk)).1, by simp⟩
  rw [hk, Option.bind_some, Option.isSome_map]
  exact hfirst

/-- No request of its function and transport stands before the first credited one: they share the credit. -/
theorem Dev.credited_first {d : Dev} {j : Job}
    (h : d.credited.find? (fun x => x.f == j.f && x.doorbell == j.doorbell) = some j) :
    ∃ before after : List Job, d.tg.waiting = before ++ j :: after ∧ ∀ x ∈ before, ¬(x.f = j.f ∧ x.doorbell = j.doorbell) := by
  have hcredit := (Dev.mem_credited.mp (List.mem_of_find?_eq_some h)).2
  rw [Dev.credited, List.find?_filter] at h
  obtain ⟨-, before, after, hsplit, hbefore⟩ := List.find?_eq_some_iff_append.mp h
  refine ⟨before, after, hsplit, fun x hx hsame => ?_⟩
  simpa [hsame, hcredit] using hbefore x hx

/-- Settles O15: the pick is a credited request, first of its transport; its function's highest request is of the top class. -/
theorem tollgatePicksHighestClass : Obligations.TollgatePicksHighestClass := by
  refine fun d => ⟨fun j fresh h => ?_, fun ⟨x, hx, hcredit⟩ => ?_, fun f => ?_⟩
  · obtain ⟨k, hk, hf, hfirst⟩ := tollgateNext_some h
    obtain ⟨hjw, hjc⟩ := Dev.mem_credited.mp (List.mem_of_find?_eq_some hfirst)
    obtain ⟨hkc, htop⟩ := Dev.mem_topJobs.mp hk
    refine ⟨hjw, hjc, ⟨k, (Dev.mem_credited.mp hkc).1, hf, fun x hx hc => ?_⟩, Dev.credited_first hfirst⟩
    exact htop ▸ le_topClass (Dev.mem_credited.mpr ⟨hx, hc⟩)
  · exact tollgateNext_isSome (List.ne_nil_of_mem (Dev.mem_credited.mpr ⟨hx, hcredit⟩))
  · simp [Dev.mailCredit]

end Sys2Proof.Machine
end

section
/-! What Tollgate serves and ages, and how pending commands start, end and time out (spec/03_mailbox.md, spec/18_sessions.md,
R94, R99, R107, R111, R112, R541, R542). -/

namespace Sys2Proof.Machine

/-! ### Taking a request up (R94, R542) -/

section
variable {d : Dev} {c : Cmd} {j : Job}

theorem Dev.tollgateServe_picked {fresh : Bool} (hawake : d.sys.power ≠ 3) (hpick : tollgateNext d = some (j, fresh)) :
    d.tollgateServe = (d.takeJob j fresh).takeUp j := by
  simp only [Dev.tollgateServe, hawake, if_false, hpick]

theorem Dev.takeUp_sheet (h : cmdOf j.op = some c) : d.takeUp j = runCmd c d j := by
  simp only [Dev.takeUp, h]

theorem runCmd_refused {st : Nat} (h : firstFail c d j = some st) : runCmd c d j = d.done j st [] := by
  simp only [runCmd, h]

theorem Dev.startsNow_iff : d.startsNow c j = true ↔
    firstFail c d j = none ∧ mayStart d j (c.names d j) = true ∧ c.state d j = 0 := by
  simp [Dev.startsNow, and_assoc]

theorem runCmd_starts (h : d.startsNow c j = true) : runCmd c d j = startCmd c d j := by
  obtain ⟨hpass, hstart, -⟩ := Dev.startsNow_iff.mp h
  simp [runCmd, hpass, hstart]

theorem runCmd_done {st : Nat} {p : List Byte} (h : d.startsNow c j = true) (hb : (c.body d j).2 = .done st p) :
    runCmd c d j = (c.body d j).1.done j st p := by
  rw [runCmd_starts h]
  simp [startCmd, (Dev.startsNow_iff.mp h).2.2, hb]

theorem runCmd_later {x : List Int} (h : d.startsNow c j = true) (hb : (c.body d j).2 = .later x) :
    runCmd c d j = (c.body d j).1.pend j true (c.names d j) x := by
  rw [runCmd_starts h]
  simp [startCmd, (Dev.startsNow_iff.mp h).2.2, hb]

end

theorem exec_tollgateServe_picked {s : State} {j : Job} {fresh : Bool} {g : Dev → Dev} (hawake : s.dev.sys.power ≠ 3)
    (hpick : tollgateNext s.dev = some (j, fresh)) (h : (s.dev.takeJob j fresh).takeUp j = g s.dev) :
    exec .tollgateServe s = .next (s.on (fun d => d.observed g)) :=
  congrArg Host.Outcome.next (State.on_congr (Dev.observed_congr ((Dev.tollgateServe_picked hawake hpick).trans h)))

/-! ### Ageing (R541) -/

theorem ageDue_below {eff : Nat} (h : eff < 7) (ages : List Nat) (agedAt : Nat) :
    ageDue eff ages agedAt = some (agedAt + ages.getD eff 50 * 1000000) :=
  if_pos h

theorem exec_tollgateAge_request {s : State} {pos : Nat} {j : Job} (hpos : s.dev.tg.waiting[pos]? = some j) (hlow : j.eff < 7) :
    exec (.tollgateAge false pos) s = .next (s.on (fun d =>
      (d.advance (j.agedAt + j.ages.getD j.eff 50 * 1000000)).modTg (fun g => { g with
        waiting := modAt g.waiting pos (fun x => { x with eff := x.eff + 1, agedAt := j.agedAt + j.ages.getD j.eff 50 * 1000000 }) }))) := by
  refine congrArg Host.Outcome.next (State.on_congr ?_)
  simp only [Bool.false_eq_true, if_false, hpos, ageDue_below hlow]

theorem exec_tollgateAge_caravan {s : State} {pos : Nat} {c : Caravan} (hpos : s.dev.tg.caravans[pos]? = some c) (hlow : c.eff < 7)
    (hwaits : c.admitted = false) :
    exec (.tollgateAge true pos) s = .next (s.on (fun d =>
      (d.advance (c.agedAt + c.ages.getD c.eff 50 * 1000000)).modTg (fun g => { g with
        caravans := modAt g.caravans pos (fun x => { x with eff := x.eff + 1, agedAt := c.agedAt + c.ages.getD c.eff 50 * 1000000 }) }))) := by
  refine congrArg Host.Outcome.next (State.on_congr ?_)
  simp only [if_true, hpos, ageDue_below hlow, hwaits, Bool.false_eq_true, if_false]

/-! ### The pending list -/

theorem updFirst_find? {α : Type} {p : α → Bool} {g : α → α} (hg : ∀ x, p x = true → p (g x) = true) (l : List α) :
    (updFirst p g l).find? p = (l.find? p).map g := by
  induction l with
  | nil => rfl
  | cons a r ih =>
    cases hp : p a with
    | true => simp [updFirst, hp, hg a hp]
    | false => simp [updFirst, hp, ih]

/-- A pending command marked as started is the one it was, with the names it then has (R107). -/
theorem Dev.begun_running? (d : Dev) (id : Nat) (names : List Res) :
    (d.begun id names).running? id = (d.running? id).map (fun x => { x with started := true, names := names }) :=
  updFirst_find? (p := fun x : Running => x.job.id == id) (g := fun x : Running => { x with started := true, names := names })
    (fun _ h => h) d.tg.running

/-- A pending command without a result has the one that finishes it (R111). -/
theorem Dev.finish_running? {d : Dev} {id : Nat} {r : Running} (h : d.running? id = some r) (hlive : r.live = true) (st : Nat)
    (p : List Byte) : (d.finish id st p).running? id = some { r with result := some (st, p) } := by
  have hid : r.job.id = id := by simpa [Dev.running?] using List.find?_some h
  have hnone : r.result.isSome = false := by simpa [Running.live] using hlive
  have hfinish : d.finish id st p = d.modTg (fun t => { t with
      running := d.tg.running.filter (fun x => x.job.id != id) ++ [{ r with result := some (st, p) }] }) := by
    simp [Dev.finish, h, hnone]
  have hothers : (d.tg.running.filter (fun x => x.job.id != id)).find? (fun x => x.job.id == id) = none := by simp
  rw [hfinish, Dev.running?, Dev.modTg_tg, List.find?_append, hothers]
  simp [hid]

/-! ### A command that waited starts (R107, R142) -/

section
variable {d : Dev} {c : Cmd} {r : Running}

theorem Dev.waitRelease_sheet {id : Nat} (hawake : d.sys.power ≠ 3) (hrun : d.running? id = some r) (hc : cmdOf r.job.op = some c) :
    d.waitRelease id =
      if (r.job.op == 0x0202 || r.job.op == 0x0204) && (releaseCmd c d r).offBehind r then
        (releaseCmd c d r).preemptOff ((releaseCmd c d r).leader r.job.ch)
      else releaseCmd c d r := by
  simp only [Dev.waitRelease, hawake, if_false, hrun, hc]

theorem Dev.waitRelease_alone {id : Nat} (hawake : d.sys.power ≠ 3) (hrun : d.running? id = some r) (hc : cmdOf r.job.op = some c)
    (hoff : (releaseCmd c d r).offBehind r = false ∨ (r.job.op ≠ 0x0202 ∧ r.job.op ≠ 0x0204)) :
    d.waitRelease id = releaseCmd c d r := by
  rw [Dev.waitRelease_sheet hawake hrun hc]
  refine if_neg ?_
  obtain hnone | ⟨hcfg, hset⟩ := hoff
  · simp [hnone]
  · simp [hcfg, hset]

variable (hlive : r.live = true) (hwaits : r.started = false)
include hlive hwaits

theorem releaseCmd_refused {st : Nat} (hmay : mayStart d r.job (c.names d r.job) = true) (hfail : firstFail c d r.job = some st) :
    releaseCmd c d r = (d.begun r.job.id []).finish r.job.id st [] := by
  simp [releaseCmd, hlive, hwaits, hmay, hfail, Dev.begun]

theorem releaseCmd_done {st : Nat} {p : List Byte} (h : d.startsNow c r.job = true) (hb : (c.body d r.job).2 = .done st p) :
    releaseCmd c d r = ((c.body d r.job).1.begun r.job.id []).finish r.job.id st p := by
  obtain ⟨hpass, hmay, hst⟩ := Dev.startsNow_iff.mp h
  simp [releaseCmd, hlive, hwaits, hmay, hpass, hst, hb, Dev.begun]

theorem releaseCmd_later {x : List Int} (h : d.startsNow c r.job = true) (hb : (c.body d r.job).2 = .later x) :
    releaseCmd c d r = ((c.body d r.job).1.begun r.job.id (c.names d r.job)).setData r.job.id x := by
  obtain ⟨hpass, hmay, hst⟩ := Dev.startsNow_iff.mp h
  simp [releaseCmd, hlive, hwaits, hmay, hpass, hst, hb, Dev.begun]

end

theorem exec_commandWaitRelease {s : State} {id : Nat} {g : Dev → Dev} (h : s.dev.waitRelease id = g s.dev) :
    exec (.commandWaitRelease id) s = .next (s.on (fun d => d.observed g)) :=
  congrArg Host.Outcome.next (State.on_congr (Dev.observed_congr h))

/-! ### Final replies (R99, R112) -/

section
variable {d : Dev} {id : Nat} {r : Running}

theorem Dev.finalRow_result {st : Nat} {p : List Byte} (hawake : d.asleep = false) (hrun : d.running? id = some r)
    (hres : r.result = some (st, p)) (x : Ext) : d.finalRow id x = d.leaves r st p := by
  simp [Dev.finalRow, hawake, hrun, hres]

theorem Dev.finalRow_completes {x : Ext} {e : Dev × Nat × List Byte} (hawake : d.asleep = false) (hrun : d.running? id = some r)
    (hres : r.result = none) (hstarted : r.started = true) (he : d.complete r x = some e) :
    d.finalRow id x = e.1.leaves r e.2.1 e.2.2 := by
  simp [Dev.finalRow, hawake, hrun, hres, hstarted, he]

/-- No command of the function has finished before a command that leaves, or the command is a ring entry's. -/
theorem Dev.leaves_first (st : Nat) (p : List Byte)
    (h : (d.finished r.job.f).takeWhile (fun y => y.job.id != r.job.id) = [] ∨ r.job.doorbell = false) :
    d.leaves r st p = d.finalReply r st p := by
  obtain hnone | hring := h
  · simp [Dev.leaves, hnone, Dev.settleAll]
  · simp [Dev.leaves, hring]

variable (hsilent : r.silent = false) (st : Nat) (p : List Byte)
include hsilent

theorem Dev.finalReply_running : (d.finalReply r st p).tg.running = d.tg.running.filter (fun x => x.job.id != r.job.id) := by
  simp only [Dev.finalReply, hsilent, Bool.false_eq_true, if_false, Dev.modFn_tg, Dev.post]
  split <;> rfl

theorem Dev.finalReply_fn_doorbell (hring : r.job.q.ring = none) :
    (d.finalReply r st p).fn r.job.q.fn.val =
      { d.fn r.job.q.fn.val with
        replies := (d.fn r.job.q.fn.val).replies ++
          [{ op := BitVec.ofNat 16 r.job.op, tag := r.job.q.tag, status := BitVec.ofNat 16 st, final := !r.direct, last := true,
             payload := p, arrival := if r.direct then some r.job.arrival else none }],
        completed := ((d.fn r.job.q.fn.val).completed + 1) % 2 ^ 32 } := by
  cases hdirect : r.direct <;> simp [Dev.finalReply, hsilent, Dev.post, hring, Job.f, hdirect]

theorem Dev.finalReply_fn_ring {e : Nat} (hring : r.job.q.ring = some e) :
    ∃ y : RingReply, (d.finalReply r st p).fn r.job.q.fn.val =
      { d.fn r.job.q.fn.val with
        ringReplies := (d.fn r.job.q.fn.val).ringReplies ++ [y],
        completed := ((d.fn r.job.q.fn.val).completed + 1) % 2 ^ 32 } ∧ y.entry = e ∧
      y.notify = r.job.q.flags.getLsbD 1 ∧ y.reply.status = BitVec.ofNat 16 st ∧ y.reply.payload = p ∧ y.reply.final = false := by
  refine ⟨{ entry := e, notify := r.job.q.flags.getLsbD 1, reply :=
      { op := BitVec.ofNat 16 r.job.op, tag := r.job.q.tag, status := BitVec.ofNat 16 st, final := false, last := true,
        payload := p, arrival := if r.direct then some r.job.arrival else none } }, ?_, rfl, rfl, rfl, rfl, rfl⟩
  cases hdirect : r.direct <;> simp [Dev.finalReply, hsilent, Dev.post, hring, Job.f, hdirect]

end

theorem exec_finalReply {s : State} {id : Nat} {x : Ext} {g : Dev → Dev} (h : s.dev.finalRow id x = g s.dev) :
    exec (.finalReply id x) s = .next (s.on (fun d => d.observed g)) :=
  congrArg Host.Outcome.next (State.on_congr (Dev.observed_congr h))

/-! ### Timeouts (R112) -/

section
variable {d : Dev} {id : Nat} {r : Running} (hrun : d.running? id = some r) (hlive : r.live = true)
include hrun hlive

theorem Dev.timeoutRow_waits (hwaits : r.started = false) (hdirect : r.direct = false) :
    d.timeoutRow id = d.finish id stTimeout [] := by
  simp [Dev.timeoutRow, hrun, hlive, hwaits, hdirect, Running.lasts]

theorem Dev.timeoutRow_started (hstarted : r.started = true) (hends : r.lasts = false) :
    d.timeoutRow id = ((d.finish id stTimeout (d.timeoutEffect r).2).timeoutEffect r).1 := by
  simp [Dev.timeoutRow, hrun, hlive, hstarted, hends]

end

theorem exec_commandTimeout {s : State} {id : Nat} {g : Dev → Dev} (h : s.dev.timeoutRow id = g s.dev) :
    exec (.commandTimeout id) s = .next (s.on (fun d => d.observed g)) :=
  congrArg Host.Outcome.next (State.on_congr (Dev.observed_congr h))

theorem Dev.observed_running? (d : Dev) (g : Dev → Dev) (id : Nat) : (d.observed g).running? id = (g d).running? id := by
  unfold Dev.running?; rw [Dev.observed_tg]

/-- Settles O14, row by row. -/
theorem tollgateServesAndCommandsEnd : Obligations.TollgateServesAndCommandsEnd := by
  refine ⟨fun s j fresh hawake hpick => ⟨exec_tollgateServe_picked hawake hpick rfl,
      fun hno => exec_tollgateServe_picked hawake hpick (Dev.takeUp_of_no_sheet _ hno),
      fun c hc => ⟨fun st hfail => ?refused, fun hstart => ⟨fun st p hb => ?done, fun x hb => ?later⟩⟩⟩,
    fun s pos j hpos hlow => ⟨_, exec_tollgateAge_request hpos hlow, rfl, rfl, rfl, rfl⟩,
    fun s pos c hpos hlow hwaits => ⟨_, exec_tollgateAge_caravan hpos hlow hwaits, rfl, rfl, rfl, rfl⟩,
    fun s id r c st hawake hrun hc hlive hwaits hmay hfail hoff => ?releaseRefused,
    fun s id r c hawake hrun hc hlive hwaits hstart hoff => ⟨fun st p hb => ?releaseDone, fun x hb => ?releaseLater⟩,
    fun s id r c hawake hrun hc hop hoff => ?releasePreempted,
    fun s id r x st p hawake hrun hres => ⟨exec_finalReply (Dev.finalRow_result hawake hrun hres x), fun hsilent hfirst => ?final⟩,
    fun s id r x e hawake hrun hres hstarted he => exec_finalReply (Dev.finalRow_completes hawake hrun hres hstarted he),
    fun s id r hrun hlive hwaits hdirect => exec_commandTimeout (Dev.timeoutRow_waits hrun hlive hwaits hdirect),
    fun s id r hrun hlive hstarted hends => exec_commandTimeout (Dev.timeoutRow_started hrun hlive hstarted hends)⟩
  case refused => exact exec_tollgateServe_picked hawake hpick ((Dev.takeUp_sheet hc).trans (runCmd_refused hfail))
  case done => exact exec_tollgateServe_picked hawake hpick ((Dev.takeUp_sheet hc).trans (runCmd_done hstart hb))
  case later => exact exec_tollgateServe_picked hawake hpick ((Dev.takeUp_sheet hc).trans (runCmd_later hstart hb))
  case releaseRefused =>
    have hid : r.job.id = id := by simpa [Dev.running?] using List.find?_some hrun
    have hrel := (Dev.waitRelease_alone hawake hrun hc hoff).trans (releaseCmd_refused hlive hwaits hmay hfail)
    have hbegun : (s.dev.begun r.job.id []).running? r.job.id = some { r with started := true, names := [] } := by
      rw [Dev.begun_running?, hid, hrun]; rfl
    refine ⟨_, exec_commandWaitRelease (g := fun d => (d.begun r.job.id []).finish r.job.id st []) hrel, rfl,
      { r with started := true, names := [], result := some (st, []) }, ?_, rfl, rfl⟩
    rw [State.on_dev, Dev.observed_running?, Dev.finish_running? hbegun hlive]
  case releaseDone =>
    exact exec_commandWaitRelease ((Dev.waitRelease_alone hawake hrun hc hoff).trans (releaseCmd_done hlive hwaits hstart hb))
  case releaseLater =>
    exact exec_commandWaitRelease ((Dev.waitRelease_alone hawake hrun hc hoff).trans (releaseCmd_later hlive hwaits hstart hb))
  case releasePreempted =>
    refine exec_commandWaitRelease ((Dev.waitRelease_sheet hawake hrun hc).trans (if_pos ?_))
    simpa [hoff] using hop
  case final =>
    have hleaves := (Dev.finalRow_result hawake hrun hres x).trans (Dev.leaves_first st p hfirst)
    refine ⟨_, exec_finalReply (g := fun d => d.finalReply r st p) hleaves, rfl, ?_, fun hring => ?_, fun e hring => ?_, ?_⟩
    all_goals rw [State.on_dev]
    · rw [Dev.observed_tg, Dev.finalReply_running hsilent]
    · rw [Dev.observed_causes, Dev.finalReply_fn_doorbell hsilent st p hring]
    · obtain ⟨y, hy, hfields⟩ := Dev.finalReply_fn_ring (d := s.dev) hsilent st p hring
      exact ⟨y, by rw [Dev.observed_causes, hy], hfields⟩
    · rw [Dev.observed_causes]
      cases hring : r.job.q.ring with
      | none => rw [Dev.finalReply_fn_doorbell hsilent st p hring]
      | some e =>
        obtain ⟨y, hy, -⟩ := Dev.finalReply_fn_ring (d := s.dev) hsilent st p hring
        rw [hy]

end Sys2Proof.Machine
end

section
/-! Further fields and reads that taking a request in leaves (R106, R573), and fields of a message read back (R11). -/

namespace Sys2Proof.Machine

section
variable (d : Dev) (q : Req)

@[simp] theorem Dev.taken_now : (d.taken q).now = d.now := by rw [Dev.taken_only d q]
@[simp] theorem Dev.taken_fns : (d.taken q).fns = d.fns := by rw [Dev.taken_only d q]
@[simp] theorem Dev.taken_svy : (d.taken q).svy = d.svy := by rw [Dev.taken_only d q]

end

/-! ### Fields of a message (R11) -/

@[simp] theorem toLe_length (n v : Nat) : (toLe n v).length = n := by
  induction n generalizing v with
  | zero => rfl
  | succ n ih => rw [toLe, List.length_cons, ih]

theorem leN_append_right (a b : List Byte) (o n : Nat) : leN (a ++ b) (a.length + o) n = leN b o n := by
  induction n generalizing o with
  | zero => rfl
  | succ n ih =>
    have hbyte : u8 (a ++ b) (a.length + o) = u8 b o := by
      simp [u8, List.getD_eq_getElem?_getD, List.getElem?_append_right]
    rw [leN, leN, hbyte, Nat.add_assoc, ih]

/-- A number written with `n` bytes reads back modulo its width. -/
theorem leN_toLe_append (n v : Nat) (rest : List Byte) : leN (toLe n v ++ rest) 0 n = v % 256 ^ n := by
  induction n generalizing v with
  | zero => simp [leN, Nat.mod_one]
  | succ n ih =>
    have hrest := leN_append_right [BitVec.ofNat 8 v] (toLe n (v / 256) ++ rest) 0 n
    rw [toLe, List.cons_append, leN, show leN (BitVec.ofNat 8 v :: (toLe n (v / 256) ++ rest)) (0 + 1) n = _ from hrest, ih]
    rw [pow_succ', Nat.mod_mul]
    simp [u8]

/-- A field read at its place. -/
theorem leN_field (a rest : List Byte) (n v : Nat) : leN (a ++ (toLe n v ++ rest)) a.length n = v % 256 ^ n :=
  (leN_append_right a _ 0 n).trans (leN_toLe_append n v rest)

end Sys2Proof.Machine
end

section
/-! The survey commands (spec/11_survey.md, R376 to R379, R382, R385 to R387, R391, R393). -/

namespace Sys2Proof.Machine

section
variable {d : Dev} {j : Job}

/-- The configuration that a SVY_CONFIG describes (R382). -/
def svyCfgOf (p : List Byte) : SvyCfg :=
  { mode := u8 p 0, nent := u16 p 2, startDelay := u32 p 4, timerUs := u32 p 8, watchdogUs := u32 p 12 }

theorem cmdSvyConfig_body_idle (h : d.svy.scanning = false) :
    cmdSvyConfig.body d j = (d.svyApply (svyCfgOf j.p) d.now, .done stOk []) := by
  simp only [cmdSvyConfig, h, Bool.not_false, if_true]
  rfl

theorem cmdSvyConfig_body_waits (h : d.svy.scanning = true) (hm : (svyCfgOf j.p).mode ≠ 0 ∨ d.svy.run.isSome = true) :
    cmdSvyConfig.body d j = (d.modSvy (fun y => { y with newCfg := some (svyCfgOf j.p) }), .done stOk []) := by
  have hgoes : ¬((svyCfgOf j.p).mode = 0 && d.svy.run.isNone) = true := by
    cases hrun : d.svy.run <;> simp_all
  simp only [cmdSvyConfig, h, Bool.not_true, Bool.false_eq_true, if_false]
  exact congrArg (·, _) (if_neg hgoes)

theorem cmdSvyConfig_body_stops (h : d.svy.scanning = true) (hm : (svyCfgOf j.p).mode = 0) (hrun : d.svy.run = none) :
    cmdSvyConfig.body d j =
      ((d.modSvy (fun y => { y with newCfg := some (svyCfgOf j.p) })).scanEnd d.now, .done stOk []) := by
  simp only [cmdSvyConfig, h, Bool.not_true, Bool.false_eq_true, if_false, hrun]
  exact congrArg (·, _) (if_pos (by rw [Bool.and_eq_true, decide_eq_true_eq]; exact ⟨hm, rfl⟩))

/-- A change of MODE discards the waiting starts and counts scans anew (R382, R385). -/
theorem Dev.svyApply_mode {c : SvyCfg} (h : c.mode ≠ d.svy.cfg.mode) (t : Nat) :
    (d.svyApply c t).svy.starts = [] ∧ (d.svyApply c t).svy.scans = 0 := by
  simp [Dev.svyApply, Survey.apply, h]

theorem Dev.svyQueue_busy {k : SvyConv} (h : d.svy.run.isSome = true) :
    d.svyQueue k = d.modSvy (fun y => { y with urgent := y.urgent ++ [k] }) :=
  if_pos h

theorem Dev.svyQueue_free {k : SvyConv} (h : d.svy.run = none) :
    d.svyQueue k = (d.modSvy (fun y => { y with urgent := y.urgent ++ [k] })).svyNext (d.edgeAfter d.now) :=
  if_neg (by simp [h])

theorem cmdSvyData_body_own (h : u16 j.p 0 = 0xFFFF) :
    cmdSvyData.body d j = (d.modFn j.f (fun x => { x with surveyUnread := false, surveyOverrun := false }),
      .done stOk (svyReply (d.fn j.f).survey (d.fn j.f).surveyOverrun)) :=
  if_pos h

theorem cmdSvyData_body_entry (h : u16 j.p 0 ≠ 0xFFFF) :
    cmdSvyData.body d j = (d, .done stOk (svyReply (tblGet (fun _ => svyNone) d.svy.results (u16 j.p 0)) false)) :=
  if_neg h

end

/-- SVY_STATUS's table (R376, R387). -/
def svyStatusReply (d : Dev) (f : Nat) : List Byte :=
  let y := d.svy
  let mode := match y.newCfg with | some c => c.mode | none => y.cfg.mode
  let cur := match y.run with | some r => if r.conv.cmd.isNone then r.conv.entry else y.next | none => 0
  let fl := bitAt y.fellBack 0 + bitAt (decide (y.starts.length > (if y.scanning then 0 else 1))) 1
    + bitAt (y.shadow != y.active) 2 + bitAt d.svyDegraded 3
  w8 mode ++ w8 (svyState d) ++ w8 cur ++ w8 fl ++ w32 y.scans ++ w32 y.missed ++ w32 y.lost ++ w32 (d.fn f).surveyOverruns ++ zeros 4

theorem svyStatusReply_taken (d : Dev) (q : Req) (f : Nat) : svyStatusReply (d.taken q) f = svyStatusReply d f := by
  rw [Dev.taken_only d q]; rfl

theorem svyState_lt (d : Dev) : svyState d < 256 := by
  unfold svyState
  dsimp only
  repeat' split
  all_goals decide

theorem svyStatusReply_state (d : Dev) (f : Nat) : u8 (svyStatusReply d f) 1 = svyState d :=
  Nat.mod_eq_of_lt (svyState_lt d)

theorem svyStatusReply_scans (d : Dev) (f : Nat) : u32 (svyStatusReply d f) 4 = d.svy.scans % 2 ^ 32 := by
  simp only [svyStatusReply, List.append_assoc]
  exact leN_field (w8 _ ++ w8 _ ++ w8 _ ++ w8 _) _ 4 d.svy.scans

theorem svyStatusReply_missed (d : Dev) (f : Nat) : u32 (svyStatusReply d f) 8 = d.svy.missed % 2 ^ 32 := by
  simp only [svyStatusReply, List.append_assoc]
  exact leN_field (w8 _ ++ w8 _ ++ w8 _ ++ w8 _ ++ w32 _) _ 4 d.svy.missed

/-- Settles O42, one sheet after the other; SVY_CONFIG by whether a scan runs. -/
theorem surveyCommands : Obligations.SurveyCommands := by
  refine ⟨fun q s h => ?write, fun q s h => ?read,
    fun q s h => ⟨fun hidle => ?configIdle, fun hscan hm => ?configWaits, fun hscan hm hrun => ?configStops,
      fun t0 hm => Dev.svyApply_mode hm t0⟩,
    fun q s h => ⟨fun hown => ?dataOwn, fun hentry => ?dataEntry⟩,
    fun q s h => ⟨fun hbusy => ?urgentBusy, fun hfree => ?urgentFree⟩,
    fun q s h => ⟨_, svyStatusReply s.dev q.fn.val, ?status, rfl, rfl, svyStatusReply_state .., svyStatusReply_scans ..,
      svyStatusReply_missed ..⟩⟩
  all_goals refine congrArg Host.Outcome.next (State.on_congr ?_)
  case write => exact Dev.command_answer h rfl rfl
  case read => exact Dev.command_answer h rfl (by rw [Dev.taken_svy]; rfl)
  case configIdle =>
    exact Dev.command_answer (effect := fun d => d.svyApply _ d.now) h
      (cmdSvyConfig_body_idle (by rwa [Dev.taken_svy])) rfl
  case configWaits =>
    exact Dev.command_answer (effect := fun d => d.modSvy _) h
      (cmdSvyConfig_body_waits (by rwa [Dev.taken_svy]) (by rw [Dev.taken_svy]; exact hm)) rfl
  case configStops =>
    exact Dev.command_answer (effect := fun d => (d.modSvy _).scanEnd d.now) h
      (cmdSvyConfig_body_stops (by rwa [Dev.taken_svy]) hm (by rwa [Dev.taken_svy])) rfl
  case dataOwn =>
    exact Dev.command_answer (effect := fun d => d.modFn q.fn.val _) h (cmdSvyData_body_own hown) (by rw [Dev.taken_fn]; rfl)
  case dataEntry => exact Dev.command_answer h (cmdSvyData_body_entry hentry) (by rw [Dev.taken_svy]; rfl)
  case urgentBusy =>
    refine Dev.command_goesOn h (Prod.ext ?_ rfl) rfl
    refine (Dev.svyQueue_busy (by rwa [Dev.taken_svy])).trans ?_
    rw [Dev.taken_svy]
    rfl
  case urgentFree =>
    refine Dev.command_goesOn h (Prod.ext ?_ rfl) rfl
    refine (Dev.svyQueue_free (by rwa [Dev.taken_svy])).trans ?_
    rw [Dev.taken_svy]
    rfl
  case status => exact Dev.command_answer h rfl (svyStatusReply_taken ..)

end Sys2Proof.Machine
end

section
/-! The survey converter's scans, conversions and results (spec/11_survey.md, R203, R379, R380, R382 to R384, R386 to R389,
R392). -/

namespace Sys2Proof.Machine

/-! ### Starts and the watchdog (R382 to R384) -/

section
variable {d : Dev}

/-- The converter after a start at an instant (R383, R384): fallback ends, and the start waits or is missed. -/
def Survey.started (y : Survey) (t0 : Nat) : Survey :=
  let full := (if y.scanning then 1 else 2) ≤ y.starts.length
  { y with fallback := false, wdFrom := t0, missed := if full then sat32n (y.missed + 1) else y.missed,
           starts := if full then y.starts else y.starts ++ [t0 + y.cfg.startDelay * tickPs] }

theorem Dev.svyStart_eq (d : Dev) (t0 : Nat) :
    d.svyStart t0 = (d.modSvy (fun y => y.started t0), decide ((if d.svy.scanning then 1 else 2) ≤ d.svy.starts.length)) := by
  simp [Dev.svyStart, Dev.modSvy, Survey.started]

/-- The instant of the next timer tick (R382). -/
def Survey.tickAt (y : Survey) : Nat := y.modeAt + (y.ticks + 1) * y.cfg.timerUs * 1000000

theorem Dev.svyTick_runs (hm : d.svy.cfg.mode = 2) (hf : d.svy.faultState = false) :
    d.svyTick = ((d.advance d.svy.tickAt).modSvy (fun y => { y with ticks := y.ticks + 1 })).modSvy
      (fun y => y.started d.svy.tickAt) := by
  simp only [Dev.svyTick, hm, ne_eq, not_true_eq_false, if_false, hf, Bool.false_eq_true, Dev.svyStart_eq]
  rfl

theorem Dev.svyTick_fault (hm : d.svy.cfg.mode = 2) (hf : d.svy.faultState = true) :
    d.svyTick = (d.advance d.svy.tickAt).modSvy (fun y => { y with ticks := y.ticks + 1 }) := by
  simp only [Dev.svyTick, hm, ne_eq, not_true_eq_false, if_false, hf, if_true]
  rfl

theorem Dev.svyEvent_runs (hm : d.svy.cfg.mode = 3) (hf : d.svy.faultState = false) (he : d.hasEdge 14 = true) :
    d.svyEvent =
      let s1 := (d.takeEdge 14).modSvy (fun y => y.started (d.latchOf 14))
      if (if d.svy.scanning then 1 else 2) ≤ d.svy.starts.length then s1.setOverrun 14 else s1 := by
  have hmode : ((d.takeEdge 14).svy.cfg.mode ≠ 3 || (d.takeEdge 14).svy.faultState) = false := by
    simp [Dev.takeEdge, hm, hf]
  simp only [Dev.svyEvent, he, Bool.not_true, Bool.false_eq_true, if_false, hmode, Dev.svyStart_eq, decide_eq_true_eq]
  rfl

theorem Dev.svyWatchdog_expires (hm : 2 ≤ d.svy.cfg.mode) (hw : d.svy.cfg.watchdogUs ≠ 0) (hfb : d.svy.fallback = false)
    (hp : d.svyPaused = false) (hf : d.svy.faultState = false) :
    d.svyWatchdog =
      let s1 := (d.advance (d.svy.wdFrom + d.svy.cfg.watchdogUs * 1000000)).modSvy
        (fun y => { y with fallback := true, fellBack := true })
      (s1.logIt (key (s1.freeVal % 65536) 10 (s1.freeVal / 65536 % 4) 0 0) 0).freeNext := by
  simp [Dev.svyWatchdog, Nat.not_lt.mpr hm, hw, hfb, hp, hf]

end

/-! ### What the next conversion leaves (R380, R391) -/

/-- Only the running conversion, the urgent queue, pending commands and the counter of free values differ. -/
def OnlyConverts (a b : Dev) : Prop :=
  b = { a with fns := b.fns, tg := b.tg, freeCtr := b.freeCtr,
               svy := { a.svy with run := b.svy.run, urgent := b.svy.urgent, urgentRan := b.svy.urgentRan } }

theorem OnlyConverts.trans {a b c : Dev} (h : OnlyConverts a b) (k : OnlyConverts b c) : OnlyConverts a c := by
  unfold OnlyConverts at *; rw [k, h]

theorem OnlyMbx.converts {a b : Dev} (h : OnlyMbx a b) : OnlyConverts a b := by
  unfold OnlyMbx at h; unfold OnlyConverts; rw [h]

theorem Dev.svyRun_only (d : Dev) (k : SvyConv) (t : Nat) : OnlyConverts d (d.svyRun k t) := rfl

theorem Dev.svyRefuse_only (d : Dev) : OnlyConverts d d.svyRefuse :=
  OnlyConverts.trans (b := d.modSvy (fun y => { y with urgent := [] })) rfl
    (OnlyMbx.foldl _ (fun e _ => Dev.finish?_only e _ _ _) _ _).converts

theorem Dev.svyNext_only (d : Dev) (t : Nat) : OnlyConverts d (d.svyNext t) := by
  unfold Dev.svyNext
  dsimp only
  by_cases hstop : (d.svyPaused || d.svy.faultState) = true
  · rw [if_pos hstop]
    exact Dev.svyRefuse_only d
  · rw [if_neg hstop]
    repeat' split
    all_goals rfl

section
variable (d : Dev) (t : Nat)

@[simp] theorem Dev.svyNext_now : (d.svyNext t).now = d.now := by rw [Dev.svyNext_only d t]
@[simp] theorem Dev.svyNext_flights : (d.svyNext t).svy.flights = d.svy.flights := by rw [Dev.svyNext_only d t]
@[simp] theorem Dev.svyNext_pair : (d.svyNext t).svy.pair = d.svy.pair := by rw [Dev.svyNext_only d t]
@[simp] theorem Dev.svyNext_active : (d.svyNext t).svy.active = d.svy.active := by rw [Dev.svyNext_only d t]
@[simp] theorem Dev.svyNext_scanning : (d.svyNext t).svy.scanning = d.svy.scanning := by rw [Dev.svyNext_only d t]
@[simp] theorem Dev.svyNext_scans : (d.svyNext t).svy.scans = d.svy.scans := by rw [Dev.svyNext_only d t]
@[simp] theorem Dev.svyNext_win : (d.svyNext t).svy.win = d.svy.win := by rw [Dev.svyNext_only d t]

end

/-- Within a scan, just after an urgent request, the table's next entry converts (R380, R391). -/
theorem Dev.svyNext_table {d : Dev} (hp : d.svyPaused = false) (hf : d.svy.faultState = false) (hs : d.svy.scanning = true)
    (hu : d.svy.urgentRan = true) (t : Nat) : (d.svyNext t).svy.run.isSome = true := by
  unfold Dev.svyNext
  simp only [hp, hf, hs, hu, Bool.or_self, Bool.false_eq_true, if_false, Bool.true_or, Bool.and_self, Bool.not_true, if_true]
  split <;> rfl

/-! ### The beginning of a scan (R379, R383) -/

section
variable {d : Dev} {due : Nat}

/-- A scan that is due finds the table running. -/
theorem Dev.scanDue_runs (h : d.scanDue = some due) : d.svyPaused = false ∧ d.svy.faultState = false := by
  by_contra hne
  have hstop : d.svyPaused = true ∨ d.svy.faultState = true := by
    cases hp : d.svyPaused <;> cases hf : d.svy.faultState <;> simp_all
  have hnone : d.scanDue = none := if_pos (by obtain h | h := hstop <;> simp [h])
  exact absurd (hnone.symm.trans h) (by simp)

/-- The converter as a scan begins at an edge: the shadow is the table, and changed entries have no window state. -/
def Survey.scanBegun (y : Survey) (t : Nat) : Survey :=
  { y with win := y.win.filter (fun p => svyEntry y.shadow p.1 == svyEntry y.active p.1), active := y.shadow,
           scanning := true, scanFb := y.fallback, scans := (y.scans + 1) % 2 ^ 32, next := 0, last := none,
           starts := if y.starts.head?.any (fun x => decide (x ≤ t)) then y.starts.tail else y.starts, urgentRan := true }

theorem Dev.scanBegin_due (h : d.scanDue = some due) (hrun : d.svy.run = none) :
    d.scanBegin =
      (((d.advance (d.edgeAt (max d.now due))).modSvy (fun y => y.scanBegun (d.edgeAt (max d.now due)))).svyNext
        (d.edgeAt (max d.now due))) := by
  simp only [Dev.scanBegin, h, hrun, Option.isSome_none, Bool.false_eq_true, if_false]
  rfl

theorem Dev.scanBegin_converts (h : d.scanDue = some due) (hrun : d.svy.run = none) :
    d.scanBegin.svy.run.isSome = true := by
  obtain ⟨hp, hf⟩ := Dev.scanDue_runs h
  rw [Dev.scanBegin_due h hrun]
  exact Dev.svyNext_table (d := (d.advance _).modSvy (fun y => y.scanBegun _)) hp hf rfl rfl _

end

/-! ### The end of a conversion (R380, R381) -/

/-- The result of a conversion that ends, as it leaves for Denrix (R380, R381). -/
def Dev.svyFlight (d : Dev) (r : SvyRun) (ticks : List RawPair) : SvyFlight :=
  let k := r.conv
  let s1 := d.advance r.endAt
  let m := s1.svyMeasure k ticks
  let prev := match s1.svy.last with | some l => if l.1 + 1 = k.entry then some l.2 else none | none => none
  let diff := k.cmd.isNone && svyDiff k.bytes
  let code := if diff then satN 24 (m.1 - (match prev with | some q => q.1 | none => 0)) else m.1
  let sat := m.2.1 || (diff && (match prev with | some q => q.2 | none => false))
  let first := r.endAt - (s1.svyTicks k - u16 k.bytes 2) * tickPs
  { conv := k, code := code, scan := s1.svy.scans, saturated := sat, suppressed := r.supp || s1.svySuppressed k.bytes,
    degraded := m.2.2.2.faultyA || m.2.2.2.faultyB, fallback := k.cmd.isNone && s1.svy.scanFb,
    timeNs := s1.nsAt (first + m.2.2.1 * (tickPs / 2)), epoch := s1.epochAt (first + m.2.2.1 * (tickPs / 2)) }

/-- The device as a conversion ends, before what follows it: its result is on its way. -/
def Dev.svySent (d : Dev) (r : SvyRun) (ticks : List RawPair) : Dev :=
  let s1 := d.advance r.endAt
  let s2 := ((s1.freeNext).svyCores (s1.svyMeasure r.conv ticks).2.2.2).modSvy (fun y =>
    { y with run := none, flights := y.flights ++ [d.svyFlight r ticks] })
  if r.conv.cmd.isNone then s2.modSvy (fun y =>
    { y with last := some (r.conv.entry, (s1.svyMeasure r.conv ticks).1, (s1.svyMeasure r.conv ticks).2.1), next := y.next + 1 })
  else s2

/-- The clock, the results on their way and the pair of cores: what the scan's end and the next conversion leave. -/
def Dev.svySending (d : Dev) : Nat × List SvyFlight × Pair := (d.now, d.svy.flights, d.svy.pair)

theorem Dev.svySending_next (d : Dev) (t : Nat) : (d.svyNext t).svySending = d.svySending := by
  simp [Dev.svySending]

theorem Dev.svySending_scanEnd (d : Dev) (t : Nat) : (d.scanEnd t).svySending = d.svySending := by
  have hpulse : ∀ e : Dev, (e.pulse 960).svySending = e.svySending := fun e => by rw [Dev.svySending, Dev.pulse_only e 960]; rfl
  unfold Dev.scanEnd
  dsimp only
  split
  · exact hpulse _
  · exact hpulse _

theorem Dev.svySending_svySent (d : Dev) (r : SvyRun) (ticks : List RawPair) :
    (d.svySent r ticks).svySending =
      (max d.now r.endAt, d.svy.flights ++ [d.svyFlight r ticks], (d.svyMeasure r.conv ticks).2.2.2) := by
  have hcores : ∀ (e : Dev) (p : Pair), (e.svyCores p).svySending = (e.now, e.svy.flights, p) := by
    intro e p
    unfold Dev.svyCores Dev.svySending
    dsimp only
    split
    · rw [Dev.logIt_only]; rfl
    · rfl
  have hfields := hcores ((d.advance r.endAt).freeNext) ((d.advance r.endAt).svyMeasure r.conv ticks).2.2.2
  simp only [Dev.svySending, Prod.mk.injEq] at hfields
  obtain ⟨hnow, hflights, hpair⟩ := hfields
  unfold Dev.svySent
  dsimp only
  split <;> exact Prod.ext hnow (Prod.ext (congrArg (· ++ [d.svyFlight r ticks]) hflights) hpair)

theorem Dev.svyEntryEnd_sending {d : Dev} {r : SvyRun} (h : d.svy.run = some r) (ticks : List RawPair) :
    (d.svyEntryEnd ticks).svySending =
      (max d.now r.endAt, d.svy.flights ++ [d.svyFlight r ticks], (d.svyMeasure r.conv ticks).2.2.2) := by
  have hends : ∃ ends : Bool, d.svyEntryEnd ticks =
      (if ends then (d.svySent r ticks).scanEnd r.endAt else d.svySent r ticks).svyNext r.endAt := by
    unfold Dev.svyEntryEnd
    rw [h]
    exact ⟨_, rfl⟩
  obtain ⟨ends, hends⟩ := hends
  rw [hends, Dev.svySending_next]
  cases ends with
  | true => exact (Dev.svySending_scanEnd ..).trans (Dev.svySending_svySent ..)
  | false => exact Dev.svySending_svySent ..

/-- A conversion without DIFF carries its own code and saturation. -/
theorem Dev.svyFlight_plain {r : SvyRun} (d : Dev) (h : svyDiff r.conv.bytes = false) (ticks : List RawPair) :
    (d.svyFlight r ticks).code = (d.svyMeasure r.conv ticks).1 ∧
      (d.svyFlight r ticks).saturated = (d.svyMeasure r.conv ticks).2.1 := by
  simp only [Dev.svyFlight, h, Bool.and_false, Bool.false_eq_true, if_false, Bool.false_and, Bool.or_false]
  exact ⟨rfl, rfl⟩

/-- With no step of device time kept, every instant has the present epoch (R489). -/
theorem Dev.epochAt_of_no_steps {d : Dev} (h : d.tb.steps = []) (t : Nat) : d.epochAt t = d.tb.epoch := by
  simp [Dev.epochAt, Dev.stepAt, h]

/-! ### A result arrives (R203, R386 to R388) -/

/-- A change for every number of a list without repetition reaches a number of the list once. -/
theorem Dev.forAll_once {α : Type} (p : Dev → α) (g : α → α) {i : Nat} {f : Dev → Nat → Dev}
    (hset : ∀ e, p (f e i) = g (p e)) (hother : ∀ e x, x ≠ i → p (f e x) = p e) {l : List Nat} (hi : i ∈ l)
    (hnd : l.Nodup) (d : Dev) : p (d.forAll l f) = g (p d) := by
  obtain ⟨a, b, rfl⟩ := List.append_of_mem hi
  have hab := List.nodup_middle.mp hnd
  have hskip : ∀ (m : List Nat) (e : Dev), i ∉ m → p (e.forAll m f) = p e := fun m e hm =>
    Dev.forAll_induct (P := fun e' => p e' = p e) (fun e' x hx he => (hother e' x (fun h => hm (h ▸ hx))).trans he) rfl
  have hnot : i ∉ a ++ b := (List.nodup_cons.mp hab).1
  rw [List.mem_append, not_or] at hnot
  rw [Dev.forAll, List.foldl_append, List.foldl_cons]
  exact (hskip b _ hnot.2).trans ((hset _).trans (congrArg g (hskip a d hnot.1)))

theorem Dev.functions_nodup (d : Dev) : d.functions.Nodup := by
  unfold Dev.functions
  split
  · refine List.nodup_cons.mpr ⟨by simp, List.Nodup.map (fun _ _ h => by simpa using h) List.nodup_range⟩
  · simp

/-- SURVEY_DATA of a function, with its UNREAD and OVERRUN (R386, R387). -/
def Dev.surveyData (d : Dev) (f : Nat) : SvyResult × Bool × Bool :=
  ((d.fn f).survey, (d.fn f).surveyUnread, (d.fn f).surveyOverrun)

theorem OnlyCauses.surveyData {a b : Dev} (h : OnlyCauses a b) (f : Nat) : b.surveyData f = a.surveyData f := by
  rw [Dev.surveyData, h f]; rfl

theorem Dev.svyPlace_surveyData (d : Dev) (f v : Nat) (r : SvyResult) :
    (d.svyPlace f r).surveyData v =
      if v = f then (r, true, (d.fn f).surveyOverrun || (d.fn f).surveyUnread) else d.surveyData v := by
  have hirq : (d.svyPlace f r).surveyData v = (d.modFn f (fun x =>
      { x with survey := r, surveyUnread := true, surveyOverrun := x.surveyOverrun || (d.fn f).surveyUnread,
               surveyOverruns := if (d.fn f).surveyUnread then sat32n (x.surveyOverruns + 1) else x.surveyOverruns })).surveyData v := by
    unfold Dev.svyPlace
    dsimp only
    split
    · exact (Dev.irq_causes _ _ _).surveyData v
    · rfl
  rw [hirq, Dev.surveyData, Dev.modFn_get]
  split <;> rfl

/-- The windows, the latest results and the results on their way: what the places of a result besides the store leave. -/
def Dev.svyKept (d : Dev) : Tbl Nat × Tbl SvyResult × List SvyFlight := (d.svy.win, d.svy.results, d.svy.flights)

theorem Dev.svyPlace_kept (d : Dev) (f : Nat) (r : SvyResult) : (d.svyPlace f r).svyKept = d.svyKept := by
  unfold Dev.svyPlace Dev.svyKept
  dsimp only
  split
  · rw [Dev.irq_svy]; rfl
  · rfl

theorem Dev.svyRails_keeps {α : Type} (p : Dev → α) (hchan : ∀ e c g, p (e.modChan c g) = p e)
    (hrails : ∀ (e : Dev) (t : Tbl (Option (Nat × Nat))), p (e.modSvy (fun y => { y with rails := t })) = p e) (d : Dev) (e v : Nat) :
    p (d.svyRails e v) = p d := by
  refine (Dev.forAll_keeps p (fun e' c => ?_)).trans (hrails d _)
  split
  · exact hchan ..
  · rfl

/-- What the notices of a left window leave: the rails and then the interrupts and the pulse. -/
theorem Dev.svyStore_keeps {α : Type} (p : Dev → α) (hchan : ∀ e c g, p (e.modChan c g) = p e)
    (hrails : ∀ (e : Dev) (t : Tbl (Option (Nat × Nat))), p (e.modSvy (fun y => { y with rails := t })) = p e)
    (hirq : ∀ e f b, p (Dev.irq e f b) = p e) (hpulse : ∀ e n, p (Dev.pulse e n) = p e) (d : Dev) (f : SvyFlight) {win : Nat}
    (hwin : win = if svyWinEn f.conv.bytes then
      winMove (tblGet (fun _ => 0) d.svy.win f.conv.entry) (s32 f.conv.bytes 8) (s32 f.conv.bytes 12) (svyHyst f.conv.bytes) f.code
      else 0) :
    p (d.svyStore f) = p ((d.modSvy (fun y =>
      { y with win := tblSet (fun _ => 0) y.win f.conv.entry win,
               results := tblSet (fun _ => svyNone) y.results f.conv.entry (f.result win) })).forAll (d.svyViewers f.conv.entry)
        (fun s v => s.svyPlace v (f.result win))) := by
  have hirqs : ∀ (l : List Nat) (e : Dev), p (e.forAll l (fun s v => s.irq v irqSurvey)) = p e := fun l e =>
    Dev.forAll_keeps p (fun e' v => hirq e' v irqSurvey)
  unfold Dev.svyStore
  dsimp only
  rw [← hwin]
  split
  · rw [hpulse, hirqs]
    split
    · rfl
    · exact Dev.svyRails_keeps p hchan hrails ..
  · split
    · rfl
    · exact Dev.svyRails_keeps p hchan hrails ..

theorem Dev.svyResult_lost {d : Dev} {f : SvyFlight} {rest : List SvyFlight} (h : d.svy.flights = f :: rest) :
    d.svyResult false = d.modSvy (fun y => { y with flights := rest, lost := sat32n (y.lost + 1) }) := by
  simp only [Dev.svyResult, h]
  rfl

theorem Dev.svyResult_table {d : Dev} {f : SvyFlight} {rest : List SvyFlight} (h : d.svy.flights = f :: rest)
    (hc : f.conv.cmd = none) : d.svyResult true = (d.modSvy (fun y => { y with flights := rest })).svyStore f := by
  simp [Dev.svyResult, h, hc]

/-- The window state that a table result gives its entry (R389). -/
def Dev.svyWin (d : Dev) (f : SvyFlight) : Nat :=
  if svyWinEn f.conv.bytes then
    winMove (tblGet (fun _ => 0) d.svy.win f.conv.entry) (s32 f.conv.bytes 8) (s32 f.conv.bytes 12) (svyHyst f.conv.bytes) f.code
  else 0

theorem Dev.svyStore_kept (d : Dev) (f : SvyFlight) :
    (d.svyStore f).svyKept =
      (tblSet (fun _ => 0) d.svy.win f.conv.entry (d.svyWin f),
        tblSet (fun _ => svyNone) d.svy.results f.conv.entry (f.result (d.svyWin f)), d.svy.flights) := by
  rw [Dev.svyStore_keeps Dev.svyKept (fun _ _ _ => rfl) (fun _ _ => rfl) (fun e g b => by rw [Dev.svyKept, Dev.irq_svy]; rfl)
    (fun e n => by rw [Dev.svyKept, Dev.pulse_only e n]; rfl) d f rfl]
  exact Dev.forAll_keeps Dev.svyKept (fun e v => Dev.svyPlace_kept e v _)

theorem Dev.svyStore_surveyData {d : Dev} {f : SvyFlight} {v : Nat} (hv : v ∈ d.svyViewers f.conv.entry) :
    (d.svyStore f).surveyData v =
      (f.result (d.svyWin f), true, (d.fn v).surveyOverrun || (d.fn v).surveyUnread) := by
  rw [Dev.svyStore_keeps (Dev.surveyData · v) (fun _ _ _ => rfl) (fun _ _ => rfl) (fun e g b => (Dev.irq_causes e g b).surveyData v)
    (fun e n => by rw [Dev.pulse_only e n]; rfl) d f rfl]
  refine Dev.forAll_once (Dev.surveyData · v) (fun x => (f.result (d.svyWin f), true, x.2.2 || x.2.1))
    (fun e => ?_) (fun e x hx => ?_) hv (d.functions_nodup.filter _) _
  · rw [Dev.svyPlace_surveyData, if_pos rfl]; rfl
  · rw [Dev.svyPlace_surveyData, if_neg (Ne.symm hx)]

/-- What a table result that arrives leaves behind: no longer on its way, its window and the result in the store, and
SURVEY_DATA of each function that sees the entry (R386 to R389). -/
theorem exec_surveyResult_table {s : State} {f : SvyFlight} {rest : List SvyFlight} (h : s.dev.svy.flights = f :: rest)
    (hc : f.conv.cmd = none) :
    ∃ t : State, exec (.surveyResult true) s = .next t ∧ t.mem = s.mem ∧ t.dev.svy.flights = rest ∧
      tblGet (fun _ => 0) t.dev.svy.win f.conv.entry = s.dev.svyWin f ∧
      tblGet (fun _ => svyNone) t.dev.svy.results f.conv.entry = f.result (s.dev.svyWin f) ∧
      ∀ v ∈ s.dev.svyViewers f.conv.entry, (t.dev.fn v).survey = f.result (s.dev.svyWin f) ∧ (t.dev.fn v).surveyUnread = true ∧
        (t.dev.fn v).surveyOverrun = ((s.dev.fn v).surveyOverrun || (s.dev.fn v).surveyUnread) := by
  have hkept : (s.dev.svyResult true).svyKept = _ := (congrArg Dev.svyKept (Dev.svyResult_table h hc)).trans (Dev.svyStore_kept ..)
  simp only [Dev.svyKept, Prod.mk.injEq] at hkept
  obtain ⟨hwin, hresults, hflights⟩ := hkept
  refine ⟨_, rfl, rfl, ?_, ?_, ?_, fun v hv => ?_⟩
  · rw [State.on_dev, Dev.observed_svy, hflights]; rfl
  · rw [State.on_dev, Dev.observed_svy, hwin, tblGet_set_same]; rfl
  · rw [State.on_dev, Dev.observed_svy, hresults, tblGet_set_same]; rfl
  · have hdata : (s.dev.observed (Dev.svyResult · true)).surveyData v = _ :=
      ((Dev.observed_causes s.dev (Dev.svyResult · true)).surveyData v).trans
        ((congrArg (Dev.surveyData · v) (Dev.svyResult_table h hc)).trans
          (Dev.svyStore_surveyData (d := s.dev.modSvy _) hv))
    simp only [Dev.surveyData, Prod.mk.injEq] at hdata
    obtain ⟨hsurvey, hunread, hoverrun⟩ := hdata
    exact ⟨hsurvey, hunread, hoverrun⟩

/-! ### The rows -/

theorem Dev.setOverrun_overrun (d : Dev) (n : Nat) : tblGet (fun _ => false) (d.setOverrun n).fab.overrun n = true := by
  simp [Dev.setOverrun]

section
variable {s : State}

theorem exec_surveyTimerTick_runs (hm : s.dev.svy.cfg.mode = 2) (hf : s.dev.svy.faultState = false) :
    ∃ t : State, exec .surveyTimerTick s = .next t ∧ t.mem = s.mem ∧ t.dev.now = max s.dev.now s.dev.svy.tickAt ∧
      t.dev.svy = { s.dev.svy.started s.dev.svy.tickAt with ticks := s.dev.svy.ticks + 1 } := by
  refine ⟨_, rfl, rfl, ?_⟩
  rw [State.on_dev, Dev.svyTick_runs hm hf]
  exact ⟨rfl, rfl⟩

theorem exec_surveyStart_runs (hm : s.dev.svy.cfg.mode = 3) (hf : s.dev.svy.faultState = false) (he : s.dev.hasEdge 14 = true) :
    ∃ t : State, exec .surveyStart s = .next t ∧ t.mem = s.mem ∧ t.dev.fab.edges = (s.dev.takeEdge 14).fab.edges ∧
      t.dev.svy = s.dev.svy.started (s.dev.latchOf 14) ∧
      ((if s.dev.svy.scanning then 1 else 2) ≤ s.dev.svy.starts.length → tblGet (fun _ => false) t.dev.fab.overrun 14 = true) := by
  refine ⟨_, rfl, rfl, ?_⟩
  rw [State.on_dev, Dev.svyEvent_runs hm hf he]
  by_cases hfull : (if s.dev.svy.scanning then 1 else 2) ≤ s.dev.svy.starts.length
  · rw [if_pos hfull]
    exact ⟨rfl, rfl, fun _ => Dev.setOverrun_overrun ..⟩
  · rw [if_neg hfull]
    exact ⟨rfl, rfl, fun h => absurd h hfull⟩

theorem exec_scanBegin_due {due : Nat} (h : s.dev.scanDue = some due) (hrun : s.dev.svy.run = none) :
    ∃ t : State, exec .scanBegin s = .next t ∧ t.mem = s.mem ∧ t.dev.now = max s.dev.now (s.dev.edgeAt (max s.dev.now due)) ∧
      t.dev.svy.active = s.dev.svy.shadow ∧ t.dev.svy.scanning = true ∧ t.dev.svy.scans = (s.dev.svy.scans + 1) % 2 ^ 32 ∧
      t.dev.svy.win = s.dev.svy.win.filter (fun p => svyEntry s.dev.svy.shadow p.1 == svyEntry s.dev.svy.active p.1) ∧
      t.dev.svy.run.isSome = true := by
  refine ⟨_, rfl, rfl, ?_, ?_, ?_, ?_, ?_, Dev.scanBegin_converts h hrun⟩
  all_goals rw [State.on_dev, Dev.scanBegin_due h hrun]
  · rw [Dev.svyNext_now]; rfl
  · rw [Dev.svyNext_active]; rfl
  · rw [Dev.svyNext_scanning]; rfl
  · rw [Dev.svyNext_scans]; rfl
  · rw [Dev.svyNext_win]; rfl

theorem exec_surveyEntryEnd_sends {r : SvyRun} (h : s.dev.svy.run = some r) (ticks : List RawPair) :
    ∃ t : State, exec (.surveyEntryEnd ticks) s = .next t ∧ t.mem = s.mem ∧ t.dev.now = max s.dev.now r.endAt ∧
      t.dev.svy.flights = s.dev.svy.flights ++ [s.dev.svyFlight r ticks] ∧
      t.dev.svy.pair = (s.dev.svyMeasure r.conv ticks).2.2.2 := by
  have hsent := Dev.svyEntryEnd_sending h ticks
  simp only [Dev.svySending, Prod.mk.injEq] at hsent
  obtain ⟨hnow, hflights, hpair⟩ := hsent
  exact ⟨_, rfl, rfl, hnow, hflights, hpair⟩

theorem exec_surveyWatchdog_expires (hm : 2 ≤ s.dev.svy.cfg.mode) (hw : s.dev.svy.cfg.watchdogUs ≠ 0)
    (hfb : s.dev.svy.fallback = false) (hp : s.dev.svyPaused = false) (hf : s.dev.svy.faultState = false) :
    ∃ t : State, exec .surveyWatchdog s = .next t ∧ t.mem = s.mem ∧
      t.dev.now = max s.dev.now (s.dev.svy.wdFrom + s.dev.svy.cfg.watchdogUs * 1000000) ∧
      t.dev.svy = { s.dev.svy with fallback := true, fellBack := true } := by
  refine ⟨_, rfl, rfl, ?_⟩
  rw [State.on_dev, Dev.svyWatchdog_expires hm hw hfb hp hf]
  dsimp only
  rw [Dev.freeNext_now, Dev.logIt_now, Dev.freeNext_svy, Dev.logIt_svy]
  exact ⟨rfl, rfl⟩

end

/-- The window state follows R389: by the state before, and where the code stands to the limits and the hysteresis. -/
theorem winMove_cases (st : Nat) (lo hi h code : Int) (hlim : lo ≤ hi) (hh : 0 ≤ h) (hst : st ≤ 3) (hhys : lo + h ≤ hi - h) :
    (lo + h ≤ code → code ≤ hi - h → winMove st lo hi h code = 1) ∧
    (hi < code → winMove st lo hi h code = 2) ∧ (code < lo → winMove st lo hi h code = 3) ∧
    (st = 2 → hi - h < code → winMove st lo hi h code = 2) ∧ (st = 3 → code < lo + h → winMove st lo hi h code = 3) ∧
    (st ≤ 1 → lo ≤ code → code ≤ hi → winMove st lo hi h code = 1) := by
  simp only [winMove, Bool.and_eq_true, decide_eq_true_eq]
  refine ⟨fun _ _ => ?_, fun _ => ?_, fun _ => ?_, fun _ _ => ?_, fun _ _ => ?_, fun _ _ _ => ?_⟩
  all_goals split_ifs <;> omega

/-- Settles O43, row by row. -/
theorem surveyScans : Obligations.SurveyScans := by
  refine ⟨fun s hm hf => exec_surveyTimerTick_runs hm hf,
    fun s hm hf => congrArg Host.Outcome.next (State.on_congr (Dev.svyTick_fault hm hf)),
    fun s hm hf he => exec_surveyStart_runs hm hf he, fun s due h hrun => exec_scanBegin_due h hrun, fun ticks s r h => ?entryEnd,
    fun s f rest h => ⟨congrArg Host.Outcome.next (State.on_congr (Dev.observed_congr (Dev.svyResult_lost h))),
      fun hc => exec_surveyResult_table h hc⟩,
    fun s hm hw hfb hp hf => exec_surveyWatchdog_expires hm hw hfb hp hf, winMove_cases⟩
  case entryEnd =>
    obtain ⟨t, ht, hmem, hnow, hflights, hpair⟩ := exec_surveyEntryEnd_sends h ticks
    exact ⟨t, s.dev.svyFlight r ticks, ht, hmem, hnow, hflights, rfl, rfl, fun hsteps => Dev.epochAt_of_no_steps hsteps _, hpair,
      rfl, fun hplain => Dev.svyFlight_plain s.dev hplain ticks⟩

end Sys2Proof.Machine
end

section
/-! The calibration commands (spec/12_calibration.md, R395, R400, R405 to R407, R409, R415 to R418). -/

namespace Sys2Proof.Machine

section
variable (d : Dev) (q : Req)

@[simp] theorem Dev.taken_cal : (d.taken q).cal = d.cal := by rw [Dev.taken_only d q]
@[simp] theorem Dev.taken_calPlan (scope mask : Nat) (skipLive : Bool) :
    (d.taken q).calPlan scope mask skipLive = d.calPlan scope mask skipLive := by rw [Dev.taken_only d q]; rfl
@[simp] theorem Dev.taken_newAper (mode len ta idx : Nat) : (d.taken q).newAper mode len ta idx = d.newAper mode len ta idx := by
  rw [Dev.taken_only d q]; rfl

end

/-- CAL_STATUS's table (R415). -/
def calStatusReply (d : Dev) (c : Nat) : List Byte :=
  let x := (d.calChan c).self
  let fl := bitAt (d.calAwaiting c) 0 + bitAt (d.calActive c) 1 + bitAt (d.tracing c) 2 + bitAt x.valid 3 + bitAt x.dac 4
    + bitAt (d.serialMismatch c) 5 + bitAt (d.calRequired c) 6 + bitAt d.cal.defaults 7
  w16 fl ++ w16 (ofSigned 16 x.temp) ++ w64 x.timeNs ++ w64 ((List.range 18).foldl (fun a k => a + d.rsrc c k * 4 ^ k) 0)
    ++ w32 d.cal.storeSeq ++ zeros 8

theorem calStatusReply_taken (d : Dev) (q : Req) (c : Nat) : calStatusReply (d.taken q) c = calStatusReply d c := by
  rw [Dev.taken_only d q]; rfl

/-! ### Sessions of traceable calibration (R405, R406) -/

section
variable {d : Dev} {t : Trace}

/-- The opening of a session keeps the ranges and values that its channel had (R95, R405). -/
theorem Dev.traceOpen_trace (h : d.cal.trace = some t) (hnew : t.before = none) :
    d.traceOpen.cal.trace = some { t with before := some {
      vr := (d.chan t.ch).vr, ir := (d.chan t.ch).ir, setpoint := (d.chan t.ch).setpoint, compPos := (d.chan t.ch).compPos,
      compNeg := (d.chan t.ch).compNeg, compUse := (d.chan t.ch).compUse } } := by
  simp only [Dev.traceOpen, h, hnew, Option.isSome_none, Bool.false_eq_true, if_false, Dev.irq_cal]
  rfl

theorem cmdCalTracePoint_body (h : d.cal.trace = some t) (j : Job) :
    cmdCalTracePoint.body d j =
      let r : TraceRun := { cmd := j.id, k := 2 * u8 j.p 0 + u8 j.p 1, ref := u64 j.p 8,
                            aper := d.newAper 3 t.nplc (d.boundaryIn t.settleUs) 0 }
      (d.modCal (fun k => { k with trace := some { t with run := some r } }), .later []) := by
  simp [cmdCalTracePoint, Dev.modCal, h]

theorem Dev.traceNames_some (h : d.cal.trace = some t) : d.traceNames = [Res.chan t.ch] := by
  simp only [Dev.traceNames, h]

theorem cmdCalTraceEnd_body_close {j : Job} (h : d.cal.trace = some t) (hact : u8 j.p 0 = 0) :
    cmdCalTraceEnd.body d j = (d.traceClose, .done stOk []) := by
  simp [cmdCalTraceEnd, h, hact]

/-- A session that closes is gone, and nothing else of calibration changes (R405). -/
theorem Dev.traceClose_cal (h : d.cal.trace = some t) : d.traceClose.cal = { d.cal with trace := none } := by
  simp only [Dev.traceClose, h, Dev.setHalf, Dev.modStage_cal, Dev.slotLeave]
  split
  all_goals
    split
    · exact Dev.finish_cal ..
    · rfl

end

/-! ### The image of the working copy (R411, R413, R416) -/

/-- A copy that carries the CRC of its bytes, was written whole and is of format 1 is valid for every firmware (R413). -/
theorem CalCopy.valid_sealed (c : CalCopy) (hok : c.ok = true) (hformat : c.format = 1) {m : Nat} (hm : 1 ≤ m) :
    ({ c with crc := c.crcNow } : CalCopy).valid m = true := by
  have hcrc : ({ c with crc := c.crcNow } : CalCopy).crcNow = c.crcNow := by
    simp only [CalCopy.crcNow, CalCopy.head, CalCopy.body]
  rw [CalCopy.valid, hcrc]
  simp [hok, hformat, hm]

theorem Dev.storeImage_valid (d : Dev) {m : Nat} (hm : 1 ≤ m) : d.storeImage.valid m = true :=
  CalCopy.valid_sealed _ rfl rfl hm

theorem exec_calTraceEnd_close {s : State} {q : Req} {t : Trace} (h : s.dev.runsNow cmdCalTraceEnd q = true)
    (ht : s.dev.cal.trace = some t) (hact : u8 (s.dev.job 0x0705 q).p 0 = 0) :
    exec (.calTraceEnd q) s = .next (s.on (fun d => d.answer 0x0705 q Dev.traceClose stOk [])) :=
  congrArg Host.Outcome.next (State.on_congr
    (Dev.command_answer h (cmdCalTraceEnd_body_close (t := t) (by rwa [Dev.taken_cal]) hact) rfl))

/-- Settles O44, one sheet after the other. -/
theorem calibrationCommands : Obligations.CalibrationCommands := by
  refine ⟨fun q s h => congrArg Host.Outcome.next (State.on_congr ?self),
    fun q s h => congrArg Host.Outcome.next (State.on_congr ?status),
    fun q s h => congrArg Host.Outcome.next (State.on_congr ?begin),
    fun s t h hnew => Dev.traceOpen_trace h hnew,
    fun q s t h ht => congrArg Host.Outcome.next (State.on_congr ?point),
    fun q s t h ht => ⟨fun hact => exec_calTraceEnd_close h ht hact, fun hact u hu => ?closed⟩,
    fun q s h => ⟨congrArg Host.Outcome.next (State.on_congr ?store), rfl, fun m hm => Dev.storeImage_valid _ hm, rfl⟩⟩
  case self =>
    refine Dev.command_goesOn h (Prod.ext ?_ rfl) rfl
    dsimp only [cmdCalSelf, Dev.calQueue]
    rw [Dev.taken_calPlan]
  case status => exact Dev.command_answer h rfl (calStatusReply_taken ..)
  case begin =>
    refine Dev.command_goesOn h (Prod.ext ?_ rfl) rfl
    dsimp only [cmdCalTraceBegin, Dev.traceCodes]
    simp only [Dev.taken_chan]
  case point =>
    refine Dev.command_goesOn h ((cmdCalTracePoint_body (t := t) (by rwa [Dev.taken_cal]) _).trans ?_)
      (Dev.traceNames_some (by rwa [Dev.taken_cal]))
    rw [Dev.taken_newAper, Dev.taken_boundaryIn]
    rfl
  case closed =>
    obtain rfl := Host.Outcome.next.inj ((exec_calTraceEnd_close h ht hact).symm.trans hu)
    have hcal : (s.dev.answer 0x0705 q Dev.traceClose stOk []).cal = { s.dev.cal with trace := none } :=
      (Dev.done_cal ..).trans ((Dev.traceClose_cal (t := t) (by rwa [Dev.taken_cal])).trans (by rw [Dev.taken_cal]))
    rw [State.on_dev, hcal]
    exact ⟨rfl, rfl⟩
  case store => exact Dev.command_goesOn h rfl rfl

end Sys2Proof.Machine
end

section
/-! What the forming of records and the early end of apertures leave, whatever is read of the device (spec/09_results.md,
R305 to R321, R252, R318). -/

namespace Sys2Proof.Machine

/-! ### Choices and folds -/

/-- What both branches leave, a choice between them leaves. -/
theorem ite_kept {α : Type} (p : Dev → α) {c : Prop} [Decidable c] {a b d : Dev} (ha : p a = p d) (hb : p b = p d) :
    p (if c then a else b) = p d := by
  split
  · exact ha
  · exact hb

/-- What each step of a fold leaves, the fold leaves. -/
theorem foldl_kept {α β : Type} (p : Dev → α) {f : Dev → β → Dev} (hf : ∀ e a, p (f e a) = p e) (l : List β) (d : Dev) :
    p (l.foldl f d) = p d := by
  induction l generalizing d with
  | nil => rfl
  | cons a rest ih => exact (ih _).trans (hf d a)

/-- What holds of both branches holds of the choice. -/
theorem ite_holds (P : Dev → Prop) {c : Prop} [Decidable c] {a b : Dev} (ha : P a) (hb : P b) : P (if c then a else b) := by
  split
  · exact ha
  · exact hb

/-- What each step of a fold preserves, the fold preserves. -/
theorem foldl_holds {β : Type} (P : Dev → Prop) {f : Dev → β → Dev} (hf : ∀ e a, P e → P (f e a)) (l : List β) {d : Dev} (hd : P d) :
    P (l.foldl f d) := by
  induction l generalizing d with
  | nil => exact hd
  | cons a rest ih => exact ih (hf d a hd)

/-! ### What records preserve -/

/-- A predicate of the device that the streams, the rings, the caravans and the log preserve. -/
structure StableByRecords (P : Dev → Prop) : Prop where
  stream : ∀ d i g, P d → P (Dev.modStream d i g)
  ring : ∀ d f r g, P d → P (Dev.modFn d f (fun x => x.modRing r g))
  caravans : ∀ d (l : List Caravan), P d → P (d.modTg (fun t => { t with caravans := l }))
  log : ∀ d k a e, P d → P (Dev.logIt d k a e)

namespace StableByRecords

variable {P : Dev → Prop} (h : StableByRecords P) {d : Dev}
include h

theorem insertGap (hd : P d) (i : Nat) : P (d.insertGap i) := by
  unfold Dev.insertGap
  split
  · exact hd
  · split
    · exact h.stream _ _ _ hd
    · exact hd

theorem lose (hd : P d) (i : Nat) (r : Rec) (n : Nat) : P (d.lose i r n) := h.ring _ _ _ _ (h.stream _ _ _ hd)

theorem formRec (hd : P d) (r : Rec) : P (d.formRec r) := by
  unfold Dev.formRec
  dsimp only
  split
  · exact hd
  · split
    · exact h.stream _ _ _ (h.stream _ _ _ (h.insertGap hd _))
    · exact h.lose (h.stream _ _ _ (h.insertGap hd _)) ..

theorem readPair (hd : P d) (i : Nat) (r : Rec) : P (d.readPair i r).1 := by
  unfold Dev.readPair
  dsimp only
  split
  · exact hd
  · exact h.log _ _ _ _ (h.stream _ _ _ hd)

theorem joinCaravan (hd : P d) (f r : Nat) : P (d.joinCaravan f r) := by
  unfold Dev.joinCaravan
  dsimp only
  split
  · exact h.caravans d _ hd
  · exact h.caravans d _ hd

theorem closeBlock (hd : P d) (f r : Nat) (flushed : Bool) : P (d.closeBlock f r flushed) := by
  unfold Dev.closeBlock
  dsimp only
  split
  · exact hd
  · exact h.joinCaravan (h.ring _ _ _ _ hd) ..

theorem takeOne (hd : P d) (i : Nat) (r : Rec) : P (d.takeOne i r) := by
  unfold Dev.takeOne
  extract_lets f p s1 s2
  have h2 : P s2 := h.ring _ _ _ _ (h.stream _ _ _ (h.readPair hd i r))
  exact ite_holds P (h.closeBlock h2 ..) h2

theorem takeList (i : Nat) (l : List Rec) (hd : P d) : P (d.takeList i l) := by
  induction l generalizing d with
  | nil => exact hd
  | cons r rest ih => exact ite_holds P (ih (h.takeOne hd i r)) hd

theorem record (hd : P d) (r : Rec) : P (d.record r) := h.takeList _ _ (h.formRec hd r)

end StableByRecords

/-! ### What records leave of a reading -/

/-- A reading of the device that the streams, the rings, the caravans and the log leave. -/
structure KeptByRecords {α : Type} (p : Dev → α) : Prop where
  stream : ∀ d i g, p (Dev.modStream d i g) = p d
  ring : ∀ d f r g, p (Dev.modFn d f (fun x => x.modRing r g)) = p d
  caravans : ∀ d (l : List Caravan), p (d.modTg (fun t => { t with caravans := l })) = p d
  log : ∀ d k a e, p (Dev.logIt d k a e) = p d

section
variable {α : Type} {p : Dev → α} (h : KeptByRecords p)
include h

/-- A reading that is left has the value that it had. -/
theorem KeptByRecords.stable (a : α) : StableByRecords (fun d => p d = a) where
  stream := fun _ _ _ hd => (h.stream ..).trans hd
  ring := fun _ _ _ _ hd => (h.ring ..).trans hd
  caravans := fun _ _ hd => (h.caravans ..).trans hd
  log := fun _ _ _ _ hd => (h.log ..).trans hd

theorem KeptByRecords.lose (d : Dev) (i : Nat) (r : Rec) (n : Nat) : p (d.lose i r n) = p d := (h.stable _).lose rfl i r n

theorem KeptByRecords.record (d : Dev) (r : Rec) : p (d.record r) = p d := (h.stable _).record rfl r

theorem KeptByRecords.formMeas (d : Dev) (c : Nat) (a : Aper) (te : Nat) : p (d.formMeas c a te) = p d := by
  refine (h.record ..).trans ?_
  unfold Dev.codeErrs
  extract_lets
  exact ite_kept p rfl ((h.log ..).trans (h.stream ..))

/-- The early end of a channel's apertures is kept besides by what leaves result channels, sequencers and attachments. -/
theorem KeptByRecords.apersEnd (hres : ∀ d c g, p (Dev.modRes d c g) = p d) (hseq : ∀ d c g, p (Dev.modSeq d c g) = p d)
    (hdetach : ∀ d n, p (Dev.detach d n) = p d) (hmark : ∀ d c g, p (Dev.markRecs d c g) = p d) (d : Dev) (c : Nat) :
    p (d.apersEnd c) = p d := by
  unfold Dev.apersEnd
  extract_lets te cut r q meas s3 s4 s5
  have hcut : ∀ (e : Dev) (a : Aper), p (cut e a) = p e := fun e a =>
    ite_kept p rfl (ite_kept p (h.formMeas ..) (h.formMeas ..))
  have h3 : p s3 = p d := foldl_kept p hcut _ d
  have h4 : p s4 = p d := (hres ..).trans (ite_kept p ((hmark ..).trans h3) h3)
  exact (hseq ..).trans (ite_kept p h4 ((hdetach ..).trans h4))

end

theorem Dev.modStream_keeps {α : Type} (p : Dev → α) (hres : ∀ d c g, p (Dev.modRes d c g) = p d)
    (hfails : ∀ (d : Dev) (t : Tbl Stream), p (d.modVec (fun v => { v with fails := t })) = p d) (d : Dev) (i : Nat)
    (g : Stream → Stream) : p (d.modStream i g) = p d := by
  unfold Dev.modStream
  split
  · exact hres ..
  · exact hfails ..

end Sys2Proof.Machine
end

section
/-! Settles O45: the parts of a self-calibration run (spec/12_calibration.md, R395 to R403). -/

namespace Sys2Proof.Machine

/-! ### The active run -/

theorem Dev.activeRun_of_cal {a b : Dev} (h : a.cal = b.cal) : a.activeRun = b.activeRun := by
  unfold Dev.activeRun; rw [h]

/-- A change of the active run that leaves it active. -/
theorem Dev.modRun_activeRun {d : Dev} {r : CalRun} (h : d.activeRun = some r) {g : CalRun → CalRun}
    (hg : ∀ x : CalRun, (x.part != .waiting) = true → ((g x).part != .waiting) = true) :
    (d.modRun g).activeRun = some (g r) := by
  unfold Dev.activeRun at h ⊢
  exact (updFirst_find? hg d.cal.runs).trans (by rw [h]; rfl)

@[simp] theorem Dev.modRun_wc (d : Dev) (g : CalRun → CalRun) : (d.modRun g).cal.wc = d.cal.wc := rfl

@[simp] theorem Dev.setNames_cal (d : Dev) (id : Option Nat) (l : List Res) : (d.setNames id l).cal = d.cal := by
  cases id <;> rfl

@[simp] theorem Dev.setNames_chans (d : Dev) (id : Option Nat) (l : List Res) : (d.setNames id l).chans = d.chans := by
  cases id <;> rfl

/-- No survey part follows while a run has channels to do. -/
theorem Dev.calAfterSlots_todo {d : Dev} {r : CalRun} (h : d.activeRun = some r) (hr : r.part ≠ .between ∨ r.todo ≠ 0) :
    d.calAfterSlots = d := by
  unfold Dev.calAfterSlots
  simp only [h]
  rw [if_pos (by simpa using hr)]

/-- The end of a run keeps the working copy. -/
theorem Dev.runOver_wc (d : Dev) : d.runOver.cal.wc = d.cal.wc := by
  unfold Dev.runOver
  split
  · rfl
  · rw [Dev.finish?_cal]; rfl

/-- The end of a run keeps the survey converter. -/
theorem Dev.runOver_svy (d : Dev) : d.runOver.svy = d.svy := by
  unfold Dev.runOver
  split
  · rfl
  · rw [Dev.finish?_only _ _ _ _]; rfl

/-! ### Start and reference check (R395 to R397) -/

/-- A run that begins its reference check. -/
def CalRun.checksFrom (r : CalRun) (t : Nat) : CalRun := { r with startAt := t, partAt := t, part := .reference }

theorem Dev.calRunStart_full {d : Dev} {r : CalRun} {rest : List CalRun} (h : d.activeRun = none) (hruns : d.cal.runs = r :: rest)
    (hscope : r.scope = 0) :
    d.calRunStart = (d.advance (d.boundaryAt d.now)).modCal (fun k =>
      { k with runs := r.checksFrom (max d.now (d.boundaryAt d.now)) :: rest }) := by
  unfold Dev.calRunStart
  simp only [h, hruns, if_pos hscope, Option.isSome_none, if_neg Bool.false_ne_true]
  exact Dev.calAfterSlots_todo (d := (d.advance (d.boundaryAt d.now)).modCal (fun k =>
    { k with runs := r.checksFrom (max d.now (d.boundaryAt d.now)) :: rest })) rfl (.inl nofun)

section
variable {d : Dev} {r : CalRun} (h : d.activeRun = some r) (hpart : r.part = .reference) {ref cal : Int}
include h hpart

theorem Dev.refCheckEnd_agrees (hagree : (ref - cal).natAbs * 2000 ≤ cal.natAbs) (htodo : r.todo ≠ 0) :
    d.refCheckEnd ref cal = (d.advance (d.partEnd r 4)).modRun (fun x => { x with part := .between }) := by
  unfold Dev.refCheckEnd
  simp only [h, hpart, refAgrees, hagree, decide_true, if_pos, bne_self_eq_false, if_neg Bool.false_ne_true]
  exact Dev.calAfterSlots_todo (Dev.modRun_activeRun (d := d.advance _) h (fun _ _ => rfl)) (.inr htodo)

theorem Dev.refCheckEnd_differs (hdiffer : cal.natAbs < (ref - cal).natAbs * 2000) :
    d.refCheckEnd ref cal = ((d.advance (d.partEnd r 4)).modRun (fun x => { x with refFail := true })).runOver := by
  unfold Dev.refCheckEnd
  simp only [h, hpart, refAgrees, decide_eq_false (Nat.not_le.mpr hdiffer), bne_self_eq_false, if_neg Bool.false_ne_true]

end

/-- A run that failed its reference check ends with ST_CAL_PLAUS, with ST_INTEGRITY where that came before (R397, R399). -/
theorem CalRun.status_refFail (r : CalRun) :
    ({ r with refFail := true } : CalRun).status = if r.integrity then stIntegrity else stCalPlaus := by
  simp [CalRun.status]

/-- The command of the run that ends has the run's status. -/
theorem Dev.runOver_running? {d : Dev} {r : CalRun} {id : Nat} {x : Running} (h : d.activeRun = some r) (hcmd : r.cmd = some id)
    (hx : d.running? id = some x) (hlive : x.live = true) :
    d.runOver.running? id = some { x with result := some (r.status, calReply d r) } := by
  unfold Dev.runOver
  simp only [h, hcmd]
  exact Dev.finish_running? (d := d.modCal _) hx hlive _ _

/-! ### Slots (R398, R401, R402) -/

/-- The early end of apertures keeps calibration. -/
theorem Dev.apersEnd_cal (d : Dev) (c : Nat) : (d.apersEnd c).cal = d.cal :=
  KeptByRecords.apersEnd (p := Dev.cal)
    { stream := Dev.modStream_keeps Dev.cal (fun _ _ _ => rfl) (fun _ _ => rfl), ring := fun _ _ _ _ => rfl,
      caravans := fun _ _ => rfl, log := fun d k a e => Dev.logIt_cal d k a e }
    (fun _ _ _ => rfl) (fun _ _ _ => rfl) (fun _ _ => rfl) (fun _ _ _ => rfl) d c

/-- A run with the channels `m` of group `g` in their slot. -/
def CalRun.inSlot (r : CalRun) (g t m dac : Nat) : CalRun :=
  { r with part := .slot g, partAt := t, slotChans := m, todo := r.todo - m, dacChans := dac }

/-- A run's next group goes into its slot. -/
theorem Dev.slotStart_run {d : Dev} {r : CalRun} {g : Nat} (h : d.activeRun = some r) (hpart : r.part = .between)
    (hg : nextGroup r.todo = some g)
    (hfree : ∀ x ∈ d.tg.running, x.live = true → x.started = true →
      ∀ c ∈ chansIn (r.todo &&& (255 * 2 ^ (8 * g))), Res.chan c ∉ x.names) :
    ∃ dac, d.slotStart.activeRun = some
        (r.inSlot g (d.advance (d.instantAt d.now)).now (r.todo &&& (255 * 2 ^ (8 * g))) dac) ∧
      d.slotStart.cal.wc = d.cal.wc := by
  have hholds : (d.tg.running.any fun x => x.live && x.started && x.names.any fun n =>
      (chansIn (r.todo &&& (255 * 2 ^ (8 * g)))).any fun c => n == Res.chan c) = false := by
    rw [List.any_eq_false]
    intro x hx hall
    simp only [Bool.and_eq_true, List.any_eq_true, beq_iff_eq] at hall
    obtain ⟨⟨hlive, hstarted⟩, n, hn, c, hc, rfl⟩ := hall
    exact hfree x hx hlive hstarted c hc hn
  unfold Dev.slotStart
  simp only [h, hg, hpart, bne_self_eq_false, hholds, Bool.or_self, if_neg Bool.false_ne_true]
  have hends : ∀ l : List Nat, ((d.advance (d.instantAt d.now)).forAll l Dev.apersEnd).cal = d.cal := fun l =>
    Dev.forAll_keeps Dev.cal Dev.apersEnd_cal
  have hirq : ∀ (l : List Nat) (e : Dev), (e.forAll l (fun s c => s.irq (s.chanHolder c) irqChan)).cal = e.cal := fun l e =>
    Dev.forAll_keeps Dev.cal (fun e x => Dev.irq_cal e _ _)
  refine ⟨_, (Dev.activeRun_of_cal ((hirq _ _).trans (Dev.setNames_cal ..))).trans
    (Dev.modRun_activeRun ((Dev.activeRun_of_cal (hends _)).trans h) (fun _ _ => rfl)), ?_⟩
  rw [hirq, Dev.setNames_cal, Dev.modRun_wc, hends]

/-- What follows the channels' results at the end of a slot. -/
def Dev.slotClose (d : Dev) (cmd : Option Nat) (cs : List Nat) : Dev :=
  ((d.modRun (fun r => { r with part := .between, slotChans := 0, dacChans := 0 })).setNames cmd []).forAll cs Dev.slotLeave

theorem Dev.slotLeave_cal (d : Dev) (c : Nat) : (d.slotLeave c).cal = d.cal := rfl

theorem Dev.slotClose_run {d : Dev} {v : CalRun} (h : d.activeRun = some v) (cmd : Option Nat) (cs : List Nat) :
    (d.slotClose cmd cs).activeRun = some { v with part := .between, slotChans := 0, dacChans := 0 } :=
  (Dev.activeRun_of_cal ((Dev.forAll_keeps Dev.cal Dev.slotLeave_cal).trans (Dev.setNames_cal ..))).trans
    (Dev.modRun_activeRun h (fun _ _ => rfl))

@[simp] theorem Dev.slotClose_wc (d : Dev) (cmd : Option Nat) (cs : List Nat) : (d.slotClose cmd cs).cal.wc = d.cal.wc := by
  unfold Dev.slotClose
  rw [Dev.forAll_keeps (f := Dev.slotLeave) (fun e => e.cal.wc) (fun _ _ => rfl), Dev.setNames_cal]
  rfl

@[simp] theorem Dev.slotClose_required (d : Dev) (cmd : Option Nat) (cs : List Nat) :
    (d.slotClose cmd cs).cal.required = d.cal.required := by
  unfold Dev.slotClose
  rw [Dev.forAll_keeps (f := Dev.slotLeave) (fun e => e.cal.required) (fun _ _ => rfl), Dev.setNames_cal]
  rfl

@[simp] theorem Dev.slotClose_chans (d : Dev) (cmd : Option Nat) (cs : List Nat) : (d.slotClose cmd cs).chans = d.chans :=
  (Dev.forAll_keeps (f := Dev.slotLeave) Dev.chans (fun _ _ => rfl)).trans (Dev.setNames_chans ..)

/-- The end of a slot of one channel, of a run with channels left to do. -/
theorem Dev.slotEnd_single {d : Dev} {r v : CalRun} {g c : Nat} {l : List CalResult} (h : d.activeRun = some r)
    (hpart : r.part = .slot g) (hc : chansIn r.slotChans = [c])
    (hv : ((d.advance (d.partEnd r 19)).slotResult l r.dacChans c).activeRun = some v) (htodo : v.todo ≠ 0) :
    d.slotEnd l = ((d.advance (d.partEnd r 19)).slotResult l r.dacChans c).slotClose r.cmd [c] := by
  unfold Dev.slotEnd
  simp only [h, hpart, hc]
  exact Dev.calAfterSlots_todo (Dev.slotClose_run hv r.cmd [c]) (.inr htodo)

/-- A channel's plausible result. -/
theorem Dev.slotResult_pass {d : Dev} {r : CalRun} {x : CalResult} {dacs : Nat} (h : d.activeRun = some r)
    (hbad : slotBad x (d.calChan x.ch.val) (dacs.testBit x.ch.val) = none) (hhit : r.failed.testBit x.ch.val = false) :
    d.slotResult [x] dacs x.ch.val = (d.slotPass x.ch.val x (dacs.testBit x.ch.val)).modRun
      (fun r => { r with passed := r.passed ||| 2 ^ x.ch.val }) := by
  unfold Dev.slotResult
  simp [h, hbad, hhit]

/-- A channel's result that fails a check, of cores without a fault. -/
theorem Dev.slotResult_bad {d : Dev} {x : CalResult} {dacs k : Nat}
    (hbad : slotBad x (d.calChan x.ch.val) (dacs.testBit x.ch.val) = some k) (hfaulty : x.faulty.val = 0) :
    d.slotResult [x] dacs x.ch.val = (d.logIt (kCalFail 1 x.ch.val) k).modRun
      (fun r => { r with failed := r.failed ||| 2 ^ x.ch.val }) := by
  unfold Dev.slotResult
  simp [hbad, hfaulty, Dev.slotCores]

section
variable (d : Dev) (c : Nat) (x : CalResult) (dac : Bool)

theorem Dev.helonTake_factors_cal (cur : Bool) (p : PairCal) : (d.helonTake c (.factors cur p)).cal = d.cal := rfl

theorem Dev.helonTake_factors_chans (cur : Bool) (p : PairCal) : (d.helonTake c (.factors cur p)).chans = d.chans := rfl

theorem Dev.slotPass_activeRun : (d.slotPass c x dac).activeRun = d.activeRun := by
  simp [Dev.activeRun, Dev.slotPass, Dev.helonTake_factors_cal, Dev.modCalChan]

theorem Dev.slotPass_calChan : ((d.slotPass c x dac).calChan c).v = pairOf x.factors 0 ∧
    ((d.slotPass c x dac).calChan c).i = pairOf x.factors 37 ∧ ((d.slotPass c x dac).calChan c).here = true := by
  cases dac <;> simp [Dev.calChan, Dev.slotPass, Dev.helonTake_factors_cal, Dev.modCalChan, tblGet_set_same]

/-- The number of a bit that is taken off. -/
theorem testBit_sub_pow {n c : Nat} (h : n.testBit c = true) : (n - 2 ^ c).testBit c = false := by
  have hle : 2 ^ c ≤ n := Nat.ge_two_pow_of_testBit h
  have hsum := Nat.testBit_two_pow_add_eq (n - 2 ^ c) c
  rw [Nat.add_sub_cancel' hle, h] at hsum
  simpa using hsum.symm

theorem Dev.slotPass_calRequired : (d.slotPass c x dac).calRequired c = false := by
  have hput : (d.slotPass c x dac).cal.required = putBit d.cal.required c false := by
    by_cases h : d.cal.required.testBit c = true <;> simp [Dev.slotPass, Dev.helonTake_factors_cal, Dev.modCalChan, putBit, h]
  rw [Dev.calRequired, hput, putBit, if_neg Bool.false_ne_true]
  split
  · next h => exact testBit_sub_pow h
  · next h => simpa using h

theorem Dev.slotPass_degraded : ((d.slotPass c x dac).chan c).degraded = false := by
  simp [Dev.chan, Dev.slotPass, Dev.modChan, tblGet_set_same]

end

section
variable {d : Dev} {r : CalRun} {g : Nat} {x : CalResult} (h : d.activeRun = some r) (hpart : r.part = .slot g)
  (hone : chansIn r.slotChans = [x.ch.val]) (htodo : r.todo ≠ 0)
include h hpart hone htodo

/-- The slot of one channel ends with factors that pass. -/
theorem Dev.slotEnd_pass (hbad : slotBad x (d.calChan x.ch.val) (r.dacChans.testBit x.ch.val) = none)
    (hhit : r.failed.testBit x.ch.val = false) :
    ∃ u, (d.slotEnd [x]).activeRun = some u ∧ u.passed = r.passed ||| 2 ^ x.ch.val ∧ u.failed = r.failed ∧ u.part = .between ∧
      u.slotChans = 0 ∧ ((d.slotEnd [x]).calChan x.ch.val).v = pairOf x.factors 0 ∧
      ((d.slotEnd [x]).calChan x.ch.val).i = pairOf x.factors 37 ∧ ((d.slotEnd [x]).calChan x.ch.val).here = true ∧
      (d.slotEnd [x]).calRequired x.ch.val = false ∧ ((d.slotEnd [x]).chan x.ch.val).degraded = false := by
  have hactive := Dev.modRun_activeRun ((Dev.slotPass_activeRun (d.advance (d.partEnd r 19)) x.ch.val x
    (r.dacChans.testBit x.ch.val)).trans h) (g := fun r : CalRun => { r with passed := r.passed ||| 2 ^ x.ch.val }) (fun _ hx => hx)
  have hres := Dev.slotResult_pass (d := d.advance (d.partEnd r 19)) h hbad hhit
  have hend := Dev.slotEnd_single h hpart hone (l := [x]) ((congrArg Dev.activeRun hres).trans hactive) htodo
  rw [hend, hres]
  obtain ⟨hv, hi, hhere⟩ := Dev.slotPass_calChan (d.advance (d.partEnd r 19)) x.ch.val x (r.dacChans.testBit x.ch.val)
  have hrequired := Dev.slotPass_calRequired (d.advance (d.partEnd r 19)) x.ch.val x (r.dacChans.testBit x.ch.val)
  have hdegraded := Dev.slotPass_degraded (d.advance (d.partEnd r 19)) x.ch.val x (r.dacChans.testBit x.ch.val)
  generalize (d.advance (d.partEnd r 19)).slotPass x.ch.val x (r.dacChans.testBit x.ch.val) = e at *
  refine ⟨_, Dev.slotClose_run hactive .., rfl, rfl, rfl, rfl, ?_⟩
  simp only [Dev.calChan, Dev.slotClose_wc, Dev.calRequired, Dev.slotClose_required, Dev.chan, Dev.slotClose_chans]
  exact ⟨hv, hi, hhere, hrequired, hdegraded⟩

/-- The slot of one channel ends with factors that fail. -/
theorem Dev.slotEnd_fails (hbad : (slotBad x (d.calChan x.ch.val) (r.dacChans.testBit x.ch.val)).isSome = true)
    (hfaulty : x.faulty.val = 0) :
    ∃ u, (d.slotEnd [x]).activeRun = some u ∧ u.failed = r.failed ||| 2 ^ x.ch.val ∧ u.passed = r.passed ∧ u.part = .between ∧
      (d.slotEnd [x]).cal.wc = d.cal.wc := by
  obtain ⟨k, hk⟩ := Option.isSome_iff_exists.mp hbad
  have hactive := Dev.modRun_activeRun (d := (d.advance (d.partEnd r 19)).logIt (kCalFail 1 x.ch.val) k)
    ((Dev.activeRun_of_cal (Dev.logIt_cal ..)).trans h)
    (g := fun r : CalRun => { r with failed := r.failed ||| 2 ^ x.ch.val }) (fun _ hx => hx)
  have hres := Dev.slotResult_bad (d := d.advance (d.partEnd r 19)) hk hfaulty
  have hend := Dev.slotEnd_single h hpart hone (l := [x]) ((congrArg Dev.activeRun hres).trans hactive) htodo
  rw [hend, hres]
  refine ⟨_, Dev.slotClose_run hactive .., rfl, rfl, rfl, ?_⟩
  rw [Dev.slotClose_wc, Dev.modRun_wc, Dev.logIt_cal, Dev.advance_cal]

end

/-! ### The survey slot (R401 to R403, R393) -/

theorem firstBad_four {a b c e : Bool} : firstBad [a, b, c, e] = none ↔ a = true ∧ b = true ∧ c = true ∧ e = true := by
  revert a b c e; decide

/-- The survey slot's checks: neither core of the pair is faulty, and each of the four kinds of factors passes. -/
theorem firstBad_survey {f : Nat} {a b c e : Bool} : firstBad [f % 4 == 0 && a, b, c, e] = none ↔
    f % 4 = 0 ∧ a = true ∧ b = true ∧ c = true ∧ e = true := by
  rw [firstBad_four]
  simp [and_assoc]

/-- A pause that begins or ends keeps calibration and FAULT, and is the pause asked for. -/
theorem Dev.svyPause_frame (d : Dev) (cal pwr : Bool) : (d.svyPause cal pwr).cal = d.cal ∧
    (d.svyPause cal pwr).svy.faultState = d.svy.faultState ∧ (d.svyPause cal pwr).svy.pausedCal = cal := by
  have hc : ∀ {a b : Dev}, OnlyConverts a b → b.cal = a.cal ∧ b.svy.faultState = a.svy.faultState ∧
      b.svy.pausedCal = a.svy.pausedCal := fun h => by rw [h]; exact ⟨rfl, rfl, rfl⟩
  unfold Dev.svyPause
  extract_lets was en s1 s2 s3
  split
  · split
    · exact hc (Dev.svyRefuse_only s2)
    · exact ⟨rfl, rfl, rfl⟩
  · split
    · split
      · exact hc (Dev.svyNext_only s3 _)
      · exact ⟨rfl, rfl, rfl⟩
    · exact ⟨rfl, rfl, rfl⟩

/-- Faulty cores of the survey pair keep calibration. -/
theorem Dev.svyCores_cal (d : Dev) (p : Pair) : (d.svyCores p).cal = d.cal := by
  unfold Dev.svyCores
  extract_lets was new s1
  split
  · exact Dev.logIt_cal ..
  · rfl

section
variable {d : Dev} {r : CalRun} (h : d.activeRun = some r) (hpart : r.part = .survey) (x : CalResult)
include h hpart

/-- What ends the survey part, after its result. -/
theorem Dev.surveyCalEnd_of {e : Dev}
    (he : (match firstBad [x.faulty.val % 4 == 0 && ofsOk (pairOf x.factors 0) d.cal.wc.svy d.cal.wc.svyHere,
        gainsOk (pairOf x.factors 0) d.cal.wc.svy d.cal.wc.svyHere, skewOk (pairOf x.factors 0) d.cal.wc.svy d.cal.wc.svyHere,
        linOk (pairOf x.factors 0) d.cal.wc.svy d.cal.wc.svyHere] with
      | none => ((d.advance (d.partEnd r 24)).svyPass x).modRun (fun y => { y with survey := 1 })
      | some k => (((d.advance (d.partEnd r 24)).svyCores { d.svy.pair with
            faultyA := d.svy.pair.faultyA || x.faulty.val.testBit 0,
            faultyB := d.svy.pair.faultyB || x.faulty.val.testBit 1 }).logIt kSvyCalFail k).modRun
          (fun y => { y with survey := 2 })) = e) :
    d.surveyCalEnd x = (e.svyPause false e.svy.pausedPwr).runOver := by
  subst he
  unfold Dev.surveyCalEnd
  simp only [h, hpart, bne_self_eq_false, if_neg Bool.false_ne_true]
  rfl

end

/-- What a survey part leaves after its result. -/
theorem Dev.surveyCalEnd_frame {d e : Dev} {x : CalResult} (h : d.surveyCalEnd x = (e.svyPause false e.svy.pausedPwr).runOver) :
    (d.surveyCalEnd x).cal.wc = e.cal.wc ∧ (d.surveyCalEnd x).svy.faultState = e.svy.faultState ∧
      (d.surveyCalEnd x).svy.pausedCal = false := by
  obtain ⟨hcal, hfault, hpaused⟩ := Dev.svyPause_frame e false e.svy.pausedPwr
  rw [h, Dev.runOver_svy, Dev.runOver_wc, hcal]
  exact ⟨rfl, hfault, hpaused⟩

end Sys2Proof.Machine

open Sys2Proof.Machine

/-- Settles O45, by the state of the active run after each part. -/
theorem calibrationRuns : Obligations.CalibrationRuns := by
  unfold Obligations.CalibrationRuns
  refine ⟨?start, ?reference, ?slotStart, ?slotEnd, ?survey⟩
  case start =>
    intro s r rest hnone hruns hscope
    refine congrArg Host.Outcome.next (State.on_congr ?_)
    exact Dev.calRunStart_full hnone hruns hscope
  case reference =>
    intro s r hr hpart
    refine ⟨fun ref cal hagree htodo => ?_, fun ref cal id hdiffer hcmd => ?_⟩
    · exact congrArg Host.Outcome.next (State.on_congr (Dev.refCheckEnd_agrees hr hpart hagree htodo))
    · have hover := Dev.refCheckEnd_differs hr hpart hdiffer
      have hactive := Dev.modRun_activeRun (d := s.dev.advance (s.dev.partEnd r 4)) hr
        (g := fun x : CalRun => { x with refFail := true }) (fun _ hx => hx)
      refine ⟨_, rfl, rfl, ?_, fun x hx hresult => ?_⟩
      · exact (congrArg (fun e : Dev => e.cal.wc) hover).trans (Dev.runOver_wc _)
      · have hlive : x.live = true := by simp [Running.live, hresult]
        have hfin := Dev.runOver_running? hactive hcmd (x := x) hx hlive
        rw [CalRun.status_refFail] at hfin
        exact ⟨_, _, (congrArg (fun e : Dev => e.running? id) hover).trans hfin, rfl⟩
  case slotStart =>
    intro s r g hr hpart hg hfree
    obtain ⟨dac, hactive, hwc⟩ := Dev.slotStart_run hr hpart hg hfree
    exact ⟨_, _, rfl, rfl, hwc, hactive, rfl, rfl, rfl, rfl, rfl⟩
  case slotEnd =>
    intro s r g x hr hpart hone htodo
    dsimp only
    refine ⟨fun hbad hhit => ?_, fun hbad hfaulty => ?_⟩
    · obtain ⟨u, hu, hfacts⟩ := Dev.slotEnd_pass hr hpart hone htodo hbad hhit
      refine ⟨_, u, rfl, rfl, ?_⟩
      simp only [State.on_dev, Dev.activeRun, Dev.calChan, Dev.calRequired, Dev.chan, Dev.observed_cal, Dev.observed_chans]
      obtain ⟨hpassed, hfailed, hbetween, hempty, hchan⟩ := hfacts
      exact ⟨hu, hpassed, hfailed, hbetween, hempty, hchan⟩
    · obtain ⟨u, hu, hfacts⟩ := Dev.slotEnd_fails hr hpart hone htodo hbad hfaulty
      refine ⟨_, u, rfl, rfl, ?_⟩
      simp only [State.on_dev, Dev.activeRun, Dev.observed_cal]
      exact ⟨hu, hfacts⟩
  case survey =>
    intro s r x hr hpart
    dsimp only
    refine ⟨fun hgood => ?_, fun hbad => ?_⟩
    · obtain ⟨hwc, hfault, hpaused⟩ := Dev.surveyCalEnd_frame
        (Dev.surveyCalEnd_of hr hpart x (by rw [firstBad_survey.mpr hgood]))
      exact ⟨_, rfl, rfl, congrArg CalCopy.svy hwc, congrArg CalCopy.svyHere hwc, hfault, hpaused⟩
    · obtain ⟨k, hk⟩ := Option.ne_none_iff_exists'.mp (fun hnone => hbad (firstBad_survey.mp hnone))
      obtain ⟨hwc, -, hpaused⟩ := Dev.surveyCalEnd_frame (Dev.surveyCalEnd_of hr hpart x (by rw [hk]))
      refine ⟨_, rfl, rfl, hwc.trans ?_, hpaused⟩
      rw [Dev.modRun_wc, Dev.logIt_cal, Dev.svyCores_cal, Dev.advance_cal]
end

section
/-! The vector commands (spec/13_vectors.md, R425 to R444). -/

namespace Sys2Proof.Machine

/-- A segment without a word listed fails check 3 at its first word, and the commit leaves its state as it was (R433). -/
theorem Dev.vCommit_empty {d : Dev} (h : d.vec.words = []) (i : Nat) :
    d.vCommit i = (d, stArg, w32 (segWords * i) ++ w8 3 ++ zeros 3) := by
  unfold Dev.vCommit
  rw [h]
  rfl

end Sys2Proof.Machine

open Sys2Proof.Machine

/-- Refutes O46: after reset segment 0 is EMPTY with no word stored. Its commit answers ST_ARG and leaves it EMPTY, where the
statement's last clause has it LOADING. -/
theorem not_vectorCommands : ¬ Obligations.VectorCommands := by
  unfold Obligations.VectorCommands
  intro h
  obtain ⟨-, -, -, -, -, -, -, -, -, -, hcommit⟩ := h
  obtain ⟨-, -, -, hstate⟩ := hcommit State.reset.dev 0 rfl
  rw [Dev.vCommit_empty rfl] at hstate
  exact absurd hstate (by decide)

end

section
/-! The vector player's cycles and ends (spec/13_vectors.md, R422, R424, R432, R435 to R445). -/

namespace Sys2Proof.Machine

/-! ### What the parts of a cycle leave -/

/-- Where a function's pattern stands: the instant, the word with its cycles left, the player's state, and the cycles counted. -/
structure InWord where
  now : Nat
  word : Option Nat
  state : PState
  left : Nat
  cycles : Nat

/-- Where function `f`'s pattern stands. -/
def Dev.inWord (f : Nat) (d : Dev) : InWord :=
  { now := d.now, word := d.vec.player.word, state := d.vec.player.state, left := d.vec.player.left, cycles := (d.vstat f).cycles }

/-- What the log, the fabric and waiting records leave. -/
def Dev.vSeen (d : Dev) : Nat × Vec_ := (d.now, { d.vec with fails := [] })

theorem vSeen_keptByRecords : KeptByRecords Dev.vSeen where
  stream := Dev.modStream_keeps Dev.vSeen (fun _ _ _ => rfl) (fun _ _ => rfl)
  ring := fun _ _ _ _ => rfl
  caravans := fun _ _ => rfl
  log := fun d k a e => by unfold Dev.vSeen; rw [Dev.logIt_now, Dev.logIt_vec]

section
variable {a b : Dev} (h : a.vSeen = b.vSeen)
include h

theorem Dev.now_of_vSeen : a.now = b.now := congrArg Prod.fst h

theorem Dev.player_of_vSeen : a.vec.player = b.vec.player := congrArg (fun x : Nat × Vec_ => x.2.player) h

theorem Dev.vstat_of_vSeen (f : Nat) : a.vstat f = b.vstat f :=
  congrArg (fun x : Nat × Vec_ => tblGet vstatInit x.2.stats f) h

theorem Dev.inWord_of_vSeen (f : Nat) : a.inWord f = b.inWord f := by
  unfold Dev.inWord
  rw [Dev.now_of_vSeen h, Dev.player_of_vSeen h, Dev.vstat_of_vSeen h]

end

theorem Dev.modPlayer_inWord {d : Dev} {f : Nat} {g : Player → Player}
    (h : (g d.vec.player).word = d.vec.player.word ∧ (g d.vec.player).state = d.vec.player.state ∧
      (g d.vec.player).left = d.vec.player.left) : (d.modPlayer g).inWord f = d.inWord f := by
  obtain ⟨hword, hstate, hleft⟩ := h
  unfold Dev.inWord
  change InWord.mk d.now (g d.vec.player).word (g d.vec.player).state (g d.vec.player).left _ = _
  rw [hword, hstate, hleft]
  rfl

theorem Dev.modVstat_inWord {d : Dev} {f k : Nat} {g : VStat → VStat} (h : ∀ x, (g x).cycles = x.cycles) :
    (d.modVstat k g).inWord f = d.inWord f := by
  have hcycles : ((d.modVstat k g).vstat f).cycles = (d.vstat f).cycles := by
    rw [Dev.modVstat_get]
    split
    · next e => rw [h, e]
    · rfl
  unfold Dev.inWord
  rw [hcycles]
  rfl

theorem Dev.pulseFor_vSeen (d : Dev) (n t w : Nat) : (d.pulseFor n t w).vSeen = d.vSeen := by
  unfold Dev.vSeen; rw [Dev.pulseFor_now, Dev.pulseFor_vec]

theorem Dev.pulseAt_vSeen (d : Dev) (n t : Nat) : (d.pulseAt n t).vSeen = d.vSeen := by
  unfold Dev.vSeen; rw [Dev.pulseAt_now, Dev.pulseAt_vec]

theorem Dev.vEmit_now (d : Dev) (a w t : Nat) : (d.vEmit a w t).now = d.now := by
  unfold Dev.vEmit
  exact ite_kept Dev.now (Dev.pulseFor_now ..) rfl

@[simp] theorem Dev.vEmit_vec (d : Dev) (a w t : Nat) : (d.vEmit a w t).vec = d.vec := by
  unfold Dev.vEmit
  exact ite_kept Dev.vec (Dev.pulseFor_vec ..) rfl

theorem Dev.vEmit_vSeen (d : Dev) (a w t : Nat) : (d.vEmit a w t).vSeen = d.vSeen := by
  unfold Dev.vEmit
  exact ite_kept Dev.vSeen (Dev.pulseFor_vSeen ..) rfl

/-- Fetching changes what is prefetched alone (R424, R432). -/
theorem Dev.vFill_only (n : Nat) : ∀ d : Dev, d.vFill n = d.modPlayer (fun y =>
    { y with pf := (d.vFill n).vec.player.pf, fetch := (d.vFill n).vec.player.fetch,
             blocked := (d.vFill n).vec.player.blocked, res := (d.vFill n).vec.player.res }) := by
  induction n with
  | zero => exact fun d => rfl
  | succ k ih =>
    intro d
    unfold Dev.vFill
    extract_lets q
    split
    · rfl
    · split
      · rfl
      · split
        · rfl
        · extract_lets r
          rw [ih]
          rfl

/-- A function's fields are the others' counts and its own after a failing cycle (R442). -/
def VStat.failed (x : VStat) (g a cyc mask : Nat) : VStat :=
  { x with failCycles := x.failCycles.set g (sat32n (x.failCycles.getD g 0 + 1)), failedPins := x.failedPins ||| mask * 2 ^ (32 * g),
           firstFail := some (x.firstFail.getD (a, cyc)) }

section
variable (d : Dev) (f a t mask g : Nat)

theorem Dev.vFailGroup_inWord : (d.vFailGroup f a t mask g).inWord f = d.inWord f := by
  unfold Dev.vFailGroup
  extract_lets q cyc s1 mode rec_ r st s2 lim
  refine ite_kept (Dev.inWord f) rfl ?_
  have h1 : s1.inWord f = d.inWord f := Dev.modVstat_inWord (fun _ => rfl)
  have h2 : s2.inWord f = s1.inWord f := Dev.inWord_of_vSeen (ite_kept Dev.vSeen (vSeen_keptByRecords.record ..) rfl) f
  refine (Dev.modPlayer_inWord ?_).trans (h2.trans h1)
  dsimp only
  split <;> exact ⟨rfl, rfl, rfl⟩

theorem Dev.vFailGroup_pass : d.vFailGroup f a t 0 g = d := if_pos rfl

theorem Dev.vFailGroup_vstat (hmask : mask ≠ 0) :
    (d.vFailGroup f a t mask g).vstat f = (d.vstat f).failed g a (d.vstat f).cycles mask := by
  unfold Dev.vFailGroup
  rw [if_neg hmask]
  extract_lets q cyc s1 mode rec_ r st s2 lim
  have h2 : s2.vstat f = s1.vstat f := Dev.vstat_of_vSeen (ite_kept Dev.vSeen (vSeen_keptByRecords.record ..) rfl) f
  have h1 : s1.vstat f = (d.vstat f).failed g a (d.vstat f).cycles mask := by
    rw [Dev.modVstat_get, if_pos rfl]
    rfl
  exact h2.trans h1

theorem Dev.vDriveCheck_parts (pins recv : Nat) : (d.vDriveCheck f pins recv t).inWord f = d.inWord f ∧
    ((d.vDriveCheck f pins recv t).vstat f).failCycles = (d.vstat f).failCycles := by
  unfold Dev.vDriveCheck
  extract_lets bad s1 s2
  have hlog : s2.vSeen = s1.vSeen := foldl_kept Dev.vSeen (fun e _ => vSeen_keptByRecords.log ..) bad s1
  have h1 : s1.inWord f = d.inWord f := Dev.modVstat_inWord (fun _ => rfl)
  have h2 : s2.inWord f = d.inWord f := (Dev.inWord_of_vSeen hlog f).trans h1
  have hfails : (s2.vstat f).failCycles = (d.vstat f).failCycles := by
    rw [Dev.vstat_of_vSeen hlog, Dev.modVstat_get, if_pos rfl]
  split
  · exact ⟨rfl, rfl⟩
  · split
    · exact ⟨(Dev.modPlayer_inWord ⟨rfl, rfl, rfl⟩).trans h2, hfails⟩
    · exact ⟨h2, hfails⟩

end

/-! ### One cycle (R420 to R422, R442) -/

/-- What the four groups count in a cycle. -/
def Dev.vGroups (d : Dev) (f a t : Nat) (masks : List Nat) : Dev :=
  d.forAll (List.range 4) (fun e g => e.vFailGroup f a t (masks.getD g 0) g)

/-- A group's failing cycles and the number of counters, after a cycle with its fail mask. -/
def failCount (mask g : Nat) (x : Nat × Nat) : Nat × Nat :=
  if mask = 0 ∨ x.2 ≤ g then x else (sat32n (x.1 + 1), x.2)

/-- A group's failing cycles, with the number of counters. -/
def Dev.failCounts (f g : Nat) (d : Dev) : Nat × Nat := ((d.vstat f).failCycles.getD g 0, (d.vstat f).failCycles.length)

theorem Dev.vFailGroup_failCounts (d : Dev) (f a t mask g : Nat) :
    (d.vFailGroup f a t mask g).failCounts f g = failCount mask g (d.failCounts f g) := by
  by_cases hmask : mask = 0
  · rw [hmask, Dev.vFailGroup_pass, failCount, if_pos (.inl rfl)]
  · by_cases hin : (d.vstat f).failCycles.length ≤ g
    · simp [Dev.failCounts, failCount, Dev.vFailGroup_vstat _ _ _ _ _ _ hmask, VStat.failed, hin]
    · simp [Dev.failCounts, failCount, Dev.vFailGroup_vstat _ _ _ _ _ _ hmask, VStat.failed, hin, hmask, Nat.not_le.mp hin]

theorem Dev.vFailGroup_failCounts_other (d : Dev) (f a t mask : Nat) {g x : Nat} (hx : x ≠ g) :
    (d.vFailGroup f a t mask x).failCounts f g = d.failCounts f g := by
  by_cases hmask : mask = 0
  · rw [hmask, Dev.vFailGroup_pass]
  · simp [Dev.failCounts, Dev.vFailGroup_vstat _ _ _ _ _ _ hmask, VStat.failed, hx]

theorem Dev.vGroups_failCycles (d : Dev) (f a t : Nat) (masks : List Nat) {g : Nat} (hg : g < 4)
    (hlen : (d.vstat f).failCycles.length = 4) :
    ((d.vGroups f a t masks).vstat f).failCycles.getD g 0 =
      if masks.getD g 0 = 0 then (d.vstat f).failCycles.getD g 0 else sat32n ((d.vstat f).failCycles.getD g 0 + 1) := by
  have honce := Dev.forAll_once (Dev.failCounts f g) (failCount (masks.getD g 0) g)
    (f := fun e x => e.vFailGroup f a t (masks.getD x 0) x) (fun e => Dev.vFailGroup_failCounts ..)
    (fun e x hx => Dev.vFailGroup_failCounts_other _ _ _ _ _ hx) (List.mem_range.mpr hg) List.nodup_range d
  refine (congrArg Prod.fst honce).trans ?_
  simp only [failCount, Dev.failCounts, hlen, Nat.not_le.mpr hg, or_false]
  split <;> rfl

theorem Dev.vGroups_inWord (d : Dev) (f a t : Nat) (masks : List Nat) : (d.vGroups f a t masks).inWord f = d.inWord f :=
  foldl_kept (Dev.inWord f) (fun _ _ => Dev.vFailGroup_inWord ..) _ d

/-- What a cycle counts and checks, before it is itself counted. -/
def Dev.vCompares (d : Dev) (f a t recv : Nat) : Dev :=
  let pins := leN (d.vWord a) 0 48
  let masks := (List.range 4).map (d.vMask f pins recv t)
  let s1 := d.vGroups f a t masks
  (if masks.any (· != 0) then s1.pulseAt 73 t else s1).vDriveCheck f pins recv t

theorem Dev.vCompares_inWord (d : Dev) (f a t recv : Nat) : (d.vCompares f a t recv).inWord f = d.inWord f := by
  refine (Dev.vDriveCheck_parts ..).1.trans (ite_kept (Dev.inWord f) ?_ (Dev.vGroups_inWord ..))
  exact (Dev.inWord_of_vSeen (Dev.pulseAt_vSeen ..) f).trans (Dev.vGroups_inWord ..)

theorem Dev.vCompares_failCycles (d : Dev) (f a t recv : Nat) {g : Nat} (hg : g < 4)
    (hlen : (d.vstat f).failCycles.length = 4) :
    ((d.vCompares f a t recv).vstat f).failCycles.getD g 0 =
      if d.vMask f (leN (d.vWord a) 0 48) recv t g = 0 then (d.vstat f).failCycles.getD g 0
      else sat32n ((d.vstat f).failCycles.getD g 0 + 1) := by
  have hmask : ((List.range 4).map (d.vMask f (leN (d.vWord a) 0 48) recv t)).getD g 0 =
      d.vMask f (leN (d.vWord a) 0 48) recv t g := by simp [hg]
  have hgroups := Dev.vGroups_failCycles d f a t ((List.range 4).map (d.vMask f (leN (d.vWord a) 0 48) recv t)) hg hlen
  rw [hmask] at hgroups
  refine Eq.trans ?_ hgroups
  refine congrArg (fun l : List Nat => l.getD g 0) ((Dev.vDriveCheck_parts ..).2.trans ?_)
  exact ite_kept (fun e : Dev => (e.vstat f).failCycles)
    (congrArg VStat.failCycles (Dev.vstat_of_vSeen (Dev.pulseAt_vSeen ..) f)) rfl

section
variable (d : Dev) (f a t recv : Nat)

/-- A cycle counts what it compares and then itself. -/
theorem Dev.vPlay_eq : ∃ pull pins, d.vPlay f a t recv =
    ((d.vCompares f a t recv).modVstat f (fun x => { x with cycles := x.cycles + 1, addr := a })).modPlayer (fun q =>
      { q with left := q.left - 1, edge := d.vEdgeAfter t, pull := pull, pins := pins }) := ⟨_, _, rfl⟩

theorem Dev.vPlay_vstat : (d.vPlay f a t recv).vstat f =
    { (d.vCompares f a t recv).vstat f with cycles := ((d.vCompares f a t recv).vstat f).cycles + 1, addr := a } := by
  obtain ⟨pull, pins, heq⟩ := Dev.vPlay_eq d f a t recv
  rw [heq]
  exact (Dev.modVstat_get (d.vCompares f a t recv) f f (fun x => { x with cycles := x.cycles + 1, addr := a })).trans (if_pos rfl)

theorem Dev.vPlay_edge : (d.vPlay f a t recv).vec.player.edge = d.vEdgeAfter t := rfl

theorem Dev.vPlay_addr : ((d.vPlay f a t recv).vstat f).addr = a := by rw [Dev.vPlay_vstat]

theorem Dev.vPlay_failCycles {g : Nat} (hg : g < 4) (hlen : (d.vstat f).failCycles.length = 4) :
    ((d.vPlay f a t recv).vstat f).failCycles.getD g 0 =
      if d.vMask f (leN (d.vWord a) 0 48) recv t g = 0 then (d.vstat f).failCycles.getD g 0
      else sat32n ((d.vstat f).failCycles.getD g 0 + 1) := by
  rw [Dev.vPlay_vstat]
  exact Dev.vCompares_failCycles d f a t recv hg hlen

/-- Where a pattern stands after one cycle. -/
theorem Dev.vPlay_inWord : (d.vPlay f a t recv).inWord f =
    { d.inWord f with left := (d.inWord f).left - 1, cycles := (d.inWord f).cycles + 1 } := by
  rw [← Dev.vCompares_inWord d f a t recv]
  unfold Dev.inWord
  rw [Dev.vPlay_vstat]
  rfl

end

/-! ### A new word (R424, R432, R437) -/

/-- Where function `f`'s pattern stands as a word of `n` cycles begins. -/
def InWord.begins (x : InWord) (a n : Nat) : InWord := { x with word := some a, state := .playing, left := n }

/-- A word that waits for no trigger, or for one that has come, plays its first cycle. -/
theorem Dev.vBegin_plays {d : Dev} {f a t recv : Nat} (hgo : u8 (d.vWord a) 52 % 8 = 0 ∨
      d.vec.player.pend.testBit (u8 (d.vWord a) 52 % 8 - 1) = true ∧
      tblGet (fun _ => 0) d.vec.player.pendAt (u8 (d.vWord a) 52 % 8 - 1) ≤ t) :
    ∃ e : Dev, d.vBegin f a t recv = e.vPlay f a t recv ∧ e.inWord f = (d.inWord f).begins a (u16 (d.vWord a) 50) := by
  unfold Dev.vBegin
  extract_lets b w s1 e s2
  by_cases hw : w = 0
  · rw [if_pos hw]
    exact ⟨_, rfl, Dev.inWord_of_vSeen (Dev.vEmit_vSeen ..) f⟩
  · obtain ⟨hpend, hat⟩ := hgo.resolve_left hw
    rw [if_neg hw, if_pos (show s1.vec.player.pend.testBit (w - 1) = true from hpend), if_pos (show e ≤ t from hat)]
    exact ⟨_, rfl, (Dev.inWord_of_vSeen (Dev.vEmit_vSeen ..) f).trans rfl⟩

/-- A word whose trigger has not come waits for it. -/
theorem Dev.vBegin_waits {d : Dev} {f a t recv : Nat} (hw : u8 (d.vWord a) 52 % 8 ≠ 0)
    (hpend : d.vec.player.pend.testBit (u8 (d.vWord a) 52 % 8 - 1) = false) :
    (d.vBegin f a t recv).vec.player = { d.vec.player with
      word := some a, left := u16 (d.vWord a) 50, failedWord := 0, edge := t, state := .waiting,
      waitIn := u8 (d.vWord a) 52 % 8 - 1 } := by
  unfold Dev.vBegin
  extract_lets b w s1 e s2
  rw [if_neg hw, if_neg (show ¬s1.vec.player.pend.testBit (w - 1) = true from ne_true_of_eq_false hpend)]
  rfl

/-- The next prefetched word of a player that has none playing begins. -/
theorem Dev.vNextWord_first {d : Dev} {a : Nat} {r : List Nat} (hword : d.vec.player.word = none) (hpf : d.vec.player.pf = a :: r)
    (hecc : d.vec.player.ecc.contains a = false) (f t recv : Nat) :
    d.vNextWord f t recv false = ((d.modPlayer (fun q => { q with pf := r })).vFill 64).vBegin f a t recv := by
  have hgood : d.vNextBad false = false := by rw [Dev.vNextBad, hpf]; exact hecc
  simp [Dev.vNextWord, hword, hpf, hgood]

/-- A pattern without a word left ends: HALT, or SEG where a segment blocks the prefetcher. -/
theorem Dev.vNextWord_none {d : Dev} (hpf : d.vec.player.pf = []) (f t recv : Nat) (bad : Bool) :
    ∃ e : Dev, e.vec = d.vec ∧ e.now = d.now ∧ d.vNextWord f t recv bad = e.vEnd (if d.vec.player.blocked then 3 else 1) t := by
  unfold Dev.vNextWord
  cases hword : d.vec.player.word with
  | none => exact ⟨d, rfl, rfl, by simp [hpf]⟩
  | some a => exact ⟨d.vEmit a 1 t, Dev.vEmit_vec .., Dev.vEmit_now .., by simp [hpf]⟩

/-- The player idle after a pattern of function `f` that ended at an edge for a reason. -/
def Dev.vIdled (d : Dev) (f reason t : Nat) : Dev :=
  (d.modVstat f (fun x => { x with reason := reason })).modPlayer (fun q =>
    { playerInit with lastEnd := t, pend := q.pend, pendAt := q.pendAt })

theorem Dev.vIdled_reason (d : Dev) (f reason t : Nat) : ((d.vIdled f reason t).vstat f).reason = reason :=
  congrArg VStat.reason ((Dev.modVstat_get d f f (fun x => { x with reason := reason })).trans (if_pos rfl))

theorem Dev.vIdled_now (d : Dev) (f reason t : Nat) : (d.vIdled f reason t).now = d.now := rfl

theorem Dev.clearOverrun_now (d : Dev) (n : Nat) : (d.clearOverrun n).now = d.now := rfl
theorem Dev.clearOverrun_vec (d : Dev) (n : Nat) : (d.clearOverrun n).vec = d.vec := rfl
theorem Dev.detach_now (d : Dev) (n : Nat) : (d.detach n).now = d.now := rfl
theorem Dev.detach_vec (d : Dev) (n : Nat) : (d.detach n).vec = d.vec := rfl

section
variable {d : Dev} {f : Nat} (h : d.vec.player.fn = some f) (reason t : Nat)
include h

theorem Dev.vEnd_eq : d.vEnd reason t = (((d.vIdled f reason t).detach 52).clearOverrun 52).pulseAt 72 t := by
  simp only [Dev.vEnd, h, Dev.vIdled]

theorem Dev.vEnd_now : (d.vEnd reason t).now = d.now := by
  rw [Dev.vEnd_eq h, Dev.pulseAt_now, Dev.clearOverrun_now, Dev.detach_now, Dev.vIdled_now]

theorem Dev.vEnd_vec : (d.vEnd reason t).vec = (d.vIdled f reason t).vec := by
  rw [Dev.vEnd_eq h, Dev.pulseAt_vec, Dev.clearOverrun_vec, Dev.detach_vec]

/-- The end of a pattern leaves the player idle, with its pending triggers. -/
theorem Dev.vEnd_player : (d.vEnd reason t).vec.player =
    { playerInit with lastEnd := t, pend := d.vec.player.pend, pendAt := d.vec.player.pendAt } := by
  rw [Dev.vEnd_vec h]
  rfl

theorem Dev.vEnd_reason : ((d.vEnd reason t).vstat f).reason = reason := by
  rw [Dev.vstat, Dev.vEnd_vec h]
  exact Dev.vIdled_reason ..

end

/-! ### Ends that the pattern comes to (R441, R443) -/

/-- The last cycle of the present word is over at the edge `t`. -/
def Dev.vAtEnd (d : Dev) (t : Nat) : Prop := d.vec.player.state = .playing ∧ d.vec.player.left = 0 ∧ d.vec.player.edge = t

/-- A pattern ends, after what shows outside alone. -/
def Dev.EndsAs (d : Dev) (reason t : Nat) (r : Dev) : Prop := ∃ e : Dev, e.vec = d.vec ∧ e.now = d.now ∧ r = e.vEnd reason t

theorem Dev.endsAs_vEnd (d : Dev) (reason t : Nat) : d.EndsAs reason t (d.vEnd reason t) := ⟨d, rfl, rfl, rfl⟩

theorem Dev.EndsAs.parts {d r : Dev} {reason t f : Nat} (h : d.EndsAs reason t r) (hfn : d.vec.player.fn = some f) :
    r.now = d.now ∧ r.vec.player = { playerInit with lastEnd := t, pend := d.vec.player.pend, pendAt := d.vec.player.pendAt } ∧
      (r.vstat f).reason = reason := by
  obtain ⟨e, hvec, hnow, rfl⟩ := h
  have hfn' : e.vec.player.fn = some f := by rw [hvec]; exact hfn
  refine ⟨(Dev.vEnd_now hfn' reason t).trans hnow, ?_, Dev.vEnd_reason hfn' reason t⟩
  rw [Dev.vEnd_player hfn', hvec]

section
variable {d : Dev} (f : Nat) {t : Nat} (bad : Bool)

/-- A limit's end that has come stands (R443, R446). -/
theorem Dev.vOwnEnd_limit {e : Nat × Nat} (he : d.vec.player.endFrom = some e) (hstop : e.2 ≠ 2) (hcome : e.1 ≤ t) :
    ∃ r, d.vOwnEnd f t bad = some r ∧ d.EndsAs e.2 (min t (d.vEdgeAt e.1)) r := by
  unfold Dev.vOwnEnd
  simp only [he, hstop, hcome, ne_eq, not_false_eq_true, decide_true, Bool.and_true, if_pos]
  refine ⟨_, rfl, ?_⟩
  cases hword : d.vec.player.word with
  | none => exact Dev.endsAs_vEnd ..
  | some a =>
    dsimp only
    split
    · exact ⟨_, Dev.vEmit_vec .., Dev.vEmit_now .., rfl⟩
    · exact Dev.endsAs_vEnd ..

/-- A pattern within a word that no limit has ended goes on. -/
theorem Dev.vOwnEnd_goesOn (h : ¬d.vAtEnd t)
    (hnone : ∀ e, d.vec.player.endFrom = some e → e.2 = 2 ∨ t < e.1) : d.vOwnEnd f t bad = none := by
  have hat : (d.vec.player.state == .playing && d.vec.player.left == 0 && d.vec.player.edge == t) = false := by
    simpa [Dev.vAtEnd] using h
  unfold Dev.vOwnEnd
  simp only [hat, Bool.false_and, if_neg Bool.false_ne_true]
  cases he : d.vec.player.endFrom with
  | none => rfl
  | some e =>
    dsimp only
    rw [if_neg]
    rcases hnone e he with hstop | hlate
    · simp [hstop]
    · simp [hlate]

/-- A pattern without a word after the last cycle ends, unless a limit has ended it. -/
theorem Dev.vOwnEnd_noWord (h : d.vAtEnd t) (hpf : d.vec.player.pf = [])
    (hnone : ∀ e, d.vec.player.endFrom = some e → e.2 = 2) :
    ∃ r, d.vOwnEnd f t bad = some r ∧ d.EndsAs (if d.vec.player.blocked then 3 else 1) t r := by
  obtain ⟨hstate, hleft, hedge⟩ := h
  have hown : d.vOwnEnd f t bad = some (d.vNextWord f t 0 bad) := by
    unfold Dev.vOwnEnd
    cases he : d.vec.player.endFrom with
    | none => simp [he, hstate, hleft, hedge, hpf]
    | some e => simp [he, hnone e he, hstate, hleft, hedge, hpf]
  exact ⟨_, hown, Dev.vNextWord_none hpf f t 0 bad⟩

/-- Of a pattern within a word, what its own end or another one at its instant brings. -/
theorem Dev.vOwnEnd_else (h : ¬d.vAtEnd t) {e : Nat × Nat} (he : d.vec.player.endFrom = some e) (ht : t = d.vEdgeAt e.1) :
    d.EndsAs e.2 t ((d.vOwnEnd f t false).getD (d.vEnd e.2 t)) := by
  by_cases hlimit : e.2 ≠ 2 ∧ e.1 ≤ t
  · obtain ⟨r, hr, hends⟩ := Dev.vOwnEnd_limit f false he hlimit.1 hlimit.2
    rw [hr]
    rwa [← ht, Nat.min_self] at hends
  · rw [Dev.vOwnEnd_goesOn f false h (fun e' he' => by
      obtain rfl := Option.some.inj (he.symm.trans he')
      exact or_iff_not_imp_left.mpr fun hne => Nat.not_le.mp fun hle => hlimit ⟨hne, hle⟩)]
    exact Dev.endsAs_vEnd ..

end

/-! ### The rows -/

section
variable {d : Dev} {f : Nat} (hfn : d.vec.player.fn = some f)
include hfn

theorem Dev.vCycle_armed {t0 : Nat} (hpower : d.sys.power % 2 = 0) (hstate : d.vec.player.state = .armed)
    (hstart : d.vec.player.startAt = some t0) (recv : Nat) (bad : Bool) :
    d.vCycle recv bad = (((d.advance (d.vEdgeAt t0)).detach 52).clearOverrun 52).vNextWord f (d.vEdgeAt t0) recv bad := by
  simp [Dev.vCycle, hfn, hpower, hstate, hstart]

theorem Dev.vCycle_playing (hpower : d.sys.power % 2 = 0) (hstate : d.vec.player.state = .playing)
    (hnone : d.vec.player.endFrom = none) (recv : Nat) (bad : Bool) :
    d.vCycle recv bad = ((d.advance d.vec.player.edge).vOwnEnd f d.vec.player.edge bad).getD
      ((d.advance d.vec.player.edge).vGoOn f d.vec.player.edge recv bad) := by
  simp only [Dev.vCycle, hfn, hpower, hstate, hnone, if_neg Nat.zero_ne_one]
  cases (d.advance d.vec.player.edge).vOwnEnd f d.vec.player.edge bad <;> rfl

theorem Dev.vLimitEnd_at {e : Nat × Nat} (he : d.vec.player.endFrom = some e)
    (hedge : ¬(d.vec.player.state = .playing ∧ d.vec.player.edge < d.vEdgeAt e.1)) :
    d.vLimitEnd = ((d.advance (d.vEdgeAt e.1)).vOwnEnd f (d.vEdgeAt e.1) false).getD
      ((d.advance (d.vEdgeAt e.1)).vEnd e.2 (d.vEdgeAt e.1)) := by
  unfold Dev.vLimitEnd
  simp only [he, hfn]
  exact if_neg (by simpa using hedge)

theorem Dev.vLimitEnd_early {e : Nat × Nat} (he : d.vec.player.endFrom = some e) (hstate : d.vec.player.state = .playing)
    (hedge : d.vec.player.edge < d.vEdgeAt e.1) : d.vLimitEnd = d := by
  unfold Dev.vLimitEnd
  simp only [he, hfn, hstate, hedge]
  rfl

/-- A stop of an ARMED player before its start edge (R441). -/
theorem Dev.vStop_beforeStart {ep : Nat} (hstate : d.vec.player.state = .armed)
    (hbefore : ∀ t0, d.vec.player.startAt = some t0 → ep ≤ d.vEdgeAt t0) : d.vStop ep = d.vEnd 10 ep := by
  unfold Dev.vStop
  simp only [hfn, hstate]
  cases hstart : d.vec.player.startAt with
  | none => rfl
  | some t0 => exact if_neg (Nat.not_lt.mpr (hbefore t0 hstart))

theorem Dev.vStop_afterStart {ep t0 : Nat} (hstate : d.vec.player.state = .armed) (hstart : d.vec.player.startAt = some t0)
    (hafter : d.vEdgeAt t0 < ep) : d.vStop ep = d.vStopAt ep := by
  unfold Dev.vStop
  simp only [hfn, hstate, hstart]
  exact if_pos hafter

theorem Dev.vStop_playingBefore {ep : Nat} (hstate : d.vec.player.state = .playing) (hedge : d.vec.player.edge < ep) :
    d.vStop ep = d.vStopAt ep := by
  unfold Dev.vStop
  simp only [hfn, hstate]
  exact if_pos hedge

theorem Dev.vStop_playing {ep : Nat} (hstate : d.vec.player.state = .playing) (hedge : ep ≤ d.vec.player.edge) :
    d.vStop ep = (d.vOwnEnd f ep false).getD (d.vEnd 2 ep) := by
  unfold Dev.vStop
  simp only [hfn, hstate]
  exact if_neg (Nat.not_lt.mpr hedge)

theorem Dev.vStop_waiting {ep : Nat} (hstate : d.vec.player.state = .waiting) :
    d.vStop ep = (d.vOwnEnd f ep false).getD (d.vEnd 2 ep) := by
  unfold Dev.vStop
  simp only [hfn, hstate]

end

/-- A stop without another end pending is the pattern's end from its edge on. -/
theorem Dev.vStopAt_none {d : Dev} (h : d.vec.player.endFrom = none) (ep : Nat) :
    d.vStopAt ep = d.modPlayer (fun y => { y with endFrom := some (ep, 2) }) := by
  simp only [Dev.vStopAt, Dev.modPlayer, Dev.modVec, h]

/-- The first word of an ARMED player that plays at once. -/
theorem Dev.vCycle_plays {d : Dev} {f a t0 : Nat} {r : List Nat} (hpower : d.sys.power % 2 = 0)
    (hfn : d.vec.player.fn = some f) (hstate : d.vec.player.state = .armed) (hstart : d.vec.player.startAt = some t0)
    (hword : d.vec.player.word = none) (hpf : d.vec.player.pf = a :: r) (hecc : d.vec.player.ecc.contains a = false)
    (hgo : u8 (d.vWord a) 52 % 8 = 0 ∨ d.vec.player.pend.testBit (u8 (d.vWord a) 52 % 8 - 1) = true ∧
      tblGet (fun _ => 0) d.vec.player.pendAt (u8 (d.vWord a) 52 % 8 - 1) ≤ d.vEdgeAt t0) (recv : Nat) :
    (d.vCycle recv false).inWord f =
      { now := max d.now (d.vEdgeAt t0), word := some a, state := .playing, left := u16 (d.vWord a) 50 - 1,
        cycles := (d.vstat f).cycles + 1 } ∧ ((d.vCycle recv false).vstat f).addr = a := by
  let d1 := ((d.advance (d.vEdgeAt t0)).detach 52).clearOverrun 52
  let d2 := d1.modPlayer (fun q => { q with pf := r })
  have hfill := Dev.vFill_only 64 d2
  have hcycle : d.vCycle recv false = (d2.vFill 64).vBegin f a (d.vEdgeAt t0) recv :=
    (Dev.vCycle_armed hfn hpower hstate hstart recv false).trans (Dev.vNextWord_first (d := d1) hword hpf hecc _ _ _)
  have hgo2 : u8 ((d2.vFill 64).vWord a) 52 % 8 = 0 ∨
      (d2.vFill 64).vec.player.pend.testBit (u8 ((d2.vFill 64).vWord a) 52 % 8 - 1) = true ∧
      tblGet (fun _ => 0) (d2.vFill 64).vec.player.pendAt (u8 ((d2.vFill 64).vWord a) 52 % 8 - 1) ≤ d.vEdgeAt t0 := by
    rw [hfill]
    exact hgo
  obtain ⟨e, hplay, he⟩ := Dev.vBegin_plays (f := f) (recv := recv) hgo2
  rw [hcycle, hplay, Dev.vPlay_inWord, Dev.vPlay_addr, he, hfill]
  exact ⟨rfl, rfl⟩

/-- The first word of an ARMED player that waits for its trigger. -/
theorem Dev.vCycle_waits {d : Dev} {f a t0 : Nat} {r : List Nat} (hpower : d.sys.power % 2 = 0)
    (hfn : d.vec.player.fn = some f) (hstate : d.vec.player.state = .armed) (hstart : d.vec.player.startAt = some t0)
    (hword : d.vec.player.word = none) (hpf : d.vec.player.pf = a :: r) (hecc : d.vec.player.ecc.contains a = false)
    (hw : u8 (d.vWord a) 52 % 8 ≠ 0) (hpend : d.vec.player.pend.testBit (u8 (d.vWord a) 52 % 8 - 1) = false) (recv : Nat) :
    (d.vCycle recv false).vec.player.word = some a ∧ (d.vCycle recv false).vec.player.state = .waiting ∧
      (d.vCycle recv false).vec.player.waitIn = u8 (d.vWord a) 52 % 8 - 1 ∧
      (d.vCycle recv false).vec.player.left = u16 (d.vWord a) 50 := by
  let d1 := ((d.advance (d.vEdgeAt t0)).detach 52).clearOverrun 52
  let d2 := d1.modPlayer (fun q => { q with pf := r })
  have hfill := Dev.vFill_only 64 d2
  have hcycle : d.vCycle recv false = (d2.vFill 64).vBegin f a (d.vEdgeAt t0) recv :=
    (Dev.vCycle_armed hfn hpower hstate hstart recv false).trans (Dev.vNextWord_first (d := d1) hword hpf hecc _ _ _)
  have hvec : (d2.vFill 64).vWord a = d.vWord a := by rw [hfill]; rfl
  have hplayer := Dev.vBegin_waits (d := d2.vFill 64) (f := f) (a := a) (t := d.vEdgeAt t0) (recv := recv)
    (by rwa [hvec]) (by rw [hvec, hfill]; exact hpend)
  rw [hcycle, hplayer, hvec]
  exact ⟨rfl, rfl, rfl, rfl⟩

theorem Dev.vEmit_assign (d : Dev) (a w t : Nat) : (d.vEmit a w t).assign = d.assign := by
  unfold Dev.vEmit
  exact ite_kept Dev.assign (Dev.pulseFor_assign ..) rfl

theorem Dev.vGoOn_word {d : Dev} {a : Nat} (hleft : d.vec.player.left ≠ 0) (hword : d.vec.player.word = some a)
    (f t recv : Nat) (bad : Bool) : d.vGoOn f t recv bad =
      (if d.vec.player.left = u16 (d.vWord a) 50 then d.vEmit a 0 t else d).vPlay f a t recv := by
  unfold Dev.vGoOn
  simp only [hword]
  exact if_pos (Nat.pos_of_ne_zero hleft)

/-- One more cycle of the present word. -/
theorem Dev.vCycle_goesOn {d : Dev} {f a : Nat} (hpower : d.sys.power % 2 = 0) (hfn : d.vec.player.fn = some f)
    (hstate : d.vec.player.state = .playing) (hnone : d.vec.player.endFrom = none) (hleft : d.vec.player.left ≠ 0)
    (hword : d.vec.player.word = some a) (recv : Nat) (bad : Bool) :
    ∃ e : Dev, e.vec = d.vec ∧ e.now = max d.now d.vec.player.edge ∧ e.assign = d.assign ∧
      d.vCycle recv bad = e.vPlay f a d.vec.player.edge recv := by
  have hown := Dev.vOwnEnd_goesOn (d := d.advance d.vec.player.edge) f (t := d.vec.player.edge) bad (fun h => hleft h.2.1)
    (fun e he => nomatch hnone.symm.trans he)
  rw [Dev.vCycle_playing hfn hpower hstate hnone, hown, Option.getD_none]
  rw [Dev.vGoOn_word (d := d.advance d.vec.player.edge) hleft hword]
  by_cases hfirst : (d.advance d.vec.player.edge).vec.player.left = u16 ((d.advance d.vec.player.edge).vWord a) 50
  · rw [if_pos hfirst]
    exact ⟨_, (Dev.vEmit_vec ..).trans (Dev.advance_vec ..), (Dev.vEmit_now ..).trans (Dev.advance_now ..),
      (Dev.vEmit_assign ..).trans (Dev.advance_assign ..), rfl⟩
  · rw [if_neg hfirst]
    exact ⟨_, Dev.advance_vec .., Dev.advance_now .., Dev.advance_assign .., rfl⟩

/-- A row that ends the pattern, at an instant at which the device stands as in `d`. -/
theorem exec_ends {i : Instr} {g : Dev → Dev} {s : State} (hexec : exec i s = .next (s.on g)) {d r : Dev} {f reason t : Nat}
    (hrow : g s.dev = r) (hends : d.EndsAs reason t r) (hfn : d.vec.player.fn = some f) :
    ∃ u : State, exec i s = .next u ∧ u.mem = s.mem ∧ u.dev.now = d.now ∧
      u.dev.vec.player = { playerInit with lastEnd := t, pend := d.vec.player.pend, pendAt := d.vec.player.pendAt } ∧
      (u.dev.vstat f).reason = reason := by
  refine ⟨_, hexec, rfl, ?_⟩
  rw [State.on_dev, hrow]
  exact hends.parts hfn

theorem Dev.vMask_of_vec {a b : Dev} (hvec : a.vec = b.vec) (hassign : a.assign = b.assign) (f pins recv t g : Nat) :
    a.vMask f pins recv t g = b.vMask f pins recv t g := by
  simp only [Dev.vMask, Dev.vPinFails, Dev.vPinOn, Dev.vbank, Dev.pinHolder, Dev.vStrobe, Dev.vDrive, Dev.vPeriods, Dev.vFreq,
    Dev.vPull, hvec, hassign]
  rfl

/-! ### Events (R435 to R438) -/

/-- A start event at the ARMED player that waits for one. -/
theorem Dev.vStartEvent_armed {d : Dev} (hedge : d.hasEdge 52 = true) (hstate : d.vec.player.state = .armed)
    (hkind : d.vec.player.kind = 2) (hstart : d.vec.player.startAt = none) :
    d.vStartEvent = (d.takeEdge 52).modPlayer (fun y =>
      { y with startAt := some (d.vEdgeAfter (d.vLatch (d.edgeTime 52))) }) := by
  unfold Dev.vStartEvent
  rw [if_neg (by simp [hedge])]
  exact if_pos (show (d.vec.player.state == .armed && d.vec.player.kind == 2 && d.vec.player.startAt.isNone) = true by
    rw [hstate, hkind, hstart]; rfl)

section
variable {d : Dev} {k : Nat} (hedge : d.hasEdge (54 + k) = true)
include hedge

/-- The trigger that the player waits for. -/
theorem Dev.vTrig_waiting (hstate : d.vec.player.state = .waiting) (hin : d.vec.player.waitIn = k) :
    d.vTrig k = (d.takeEdge (54 + k)).modPlayer (fun y =>
      { y with state := .playing, edge := d.vEdgeAfter (max (d.vLatch (d.edgeTime (54 + k))) y.edge) }) := by
  unfold Dev.vTrig
  rw [if_neg (by simp [hedge])]
  exact if_pos (show (d.vec.player.state == .waiting && d.vec.player.waitIn == k) = true by simp [hstate, hin])

section
variable (hstate : d.vec.player.state ≠ .waiting)
include hstate

/-- A trigger that nothing waits for stays pending. -/
theorem Dev.vTrig_pends (hpend : d.vec.player.pend.testBit k = false) :
    d.vTrig k = (d.takeEdge (54 + k)).modPlayer (fun y =>
      { y with pend := y.pend ||| 2 ^ k, pendAt := tblSet (fun _ => 0) y.pendAt k (d.vLatch (d.edgeTime (54 + k))) }) := by
  unfold Dev.vTrig
  rw [if_neg (by simp [hedge])]
  refine (if_neg (show ¬(d.vec.player.state == .waiting && d.vec.player.waitIn == k) = true by simp [hstate])).trans ?_
  exact if_neg (show ¬d.vec.player.pend.testBit k = true by simp [hpend])

/-- A second pending trigger counts as missed (R438). -/
theorem Dev.vTrig_missed {f : Nat} (hfn : d.vec.player.fn = some f) (hpend : d.vec.player.pend.testBit k = true) :
    (d.vTrig k).vec.player = d.vec.player ∧ ((d.vTrig k).vstat f).missed = min ((d.vstat f).missed + 1) 0xFFFF := by
  have hmiss : d.vTrig k = (d.takeEdge (54 + k)).vMissed (54 + k) ((d.edgeRoute (54 + k)).getD 0) := by
    unfold Dev.vTrig
    rw [if_neg (by simp [hedge])]
    refine (if_neg (show ¬(d.vec.player.state == .waiting && d.vec.player.waitIn == k) = true by simp [hstate])).trans ?_
    exact if_pos hpend
  have hfn' : (d.takeEdge (54 + k)).vec.player.fn = some f := hfn
  rw [hmiss, Dev.vMissed, hfn']
  refine ⟨rfl, congrArg VStat.missed ((Dev.modVstat_get (d.takeEdge (54 + k)) f f
    (fun x => { x with missed := min (x.missed + 1) 0xFFFF })).trans (if_pos rfl))⟩

end
end

end Sys2Proof.Machine

open Sys2Proof.Machine

/-- Settles O47, row by row. -/
theorem vectorPlayer : Obligations.VectorPlayer := by
  unfold Obligations.VectorPlayer
  refine ⟨?armed, ?playing, ?limit, ?startEvent, ?stopEvent, ?trig⟩
  case armed =>
    intro recv s f a t0 r
    dsimp only
    intro hpower hfn hstate hstart hword hpf hecc
    refine ⟨fun hgo => ?_, fun hw hpend => ?_⟩
    · obtain ⟨hin, haddr⟩ := Dev.vCycle_plays hpower hfn hstate hstart hword hpf hecc hgo recv.toNat
      exact ⟨_, rfl, rfl, congrArg InWord.now hin, congrArg InWord.word hin, congrArg InWord.state hin,
        congrArg InWord.left hin, congrArg InWord.cycles hin, haddr⟩
    · exact ⟨_, rfl, rfl, Dev.vCycle_waits hpower hfn hstate hstart hword hpf hecc hw hpend recv.toNat⟩
  case playing =>
    intro recv bad s f a
    dsimp only
    intro hpower hfn hstate hnone
    refine ⟨fun hleft hword hlen => ?_, fun hleft hpf => ?_⟩
    · obtain ⟨e, hvec, hnow, hassign, heq⟩ := Dev.vCycle_goesOn hpower hfn hstate hnone hleft hword recv.toNat bad
      have hin := Dev.vPlay_inWord e f a s.dev.vec.player.edge recv.toNat
      have hvstat : e.vstat f = s.dev.vstat f := by rw [Dev.vstat, hvec]; rfl
      refine ⟨_, rfl, rfl, ?_⟩
      change (s.dev.vCycle recv.toNat bad).now = _ ∧ (s.dev.vCycle recv.toNat bad).vec.player.left = _ ∧
        (s.dev.vCycle recv.toNat bad).vec.player.edge = _ ∧ ((s.dev.vCycle recv.toNat bad).vstat f).cycles = _ ∧
        ((s.dev.vCycle recv.toNat bad).vstat f).addr = _ ∧ ∀ g, g < 4 →
          ((s.dev.vCycle recv.toNat bad).vstat f).failCycles.getD g 0 = _
      rw [heq]
      refine ⟨(congrArg InWord.now hin).trans hnow, (congrArg InWord.left hin).trans ?_, ?_, (congrArg InWord.cycles hin).trans ?_,
        Dev.vPlay_addr .., fun g hg => ?_⟩
      · exact congrArg (fun v : Vec_ => v.player.left - 1) hvec
      · exact congrArg (fun v : Vec_ => ({ s.dev with vec := v } : Dev).vEdgeAfter s.dev.vec.player.edge) hvec
      · exact congrArg (fun x : VStat => x.cycles + 1) hvstat
      · rw [Dev.vPlay_failCycles _ _ _ _ _ hg (by rwa [hvstat]), hvstat, Dev.vWord, hvec, Dev.vMask_of_vec hvec hassign]
        rfl
    · obtain ⟨r, hown, hends⟩ := Dev.vOwnEnd_noWord (d := s.dev.advance s.dev.vec.player.edge) f
        (t := s.dev.vec.player.edge) bad ⟨hstate, hleft, rfl⟩ hpf
        (fun e he => nomatch hnone.symm.trans he)
      have hcycle : s.dev.vCycle recv.toNat bad = r :=
        (Dev.vCycle_playing hfn hpower hstate hnone recv.toNat bad).trans (by rw [hown, Option.getD_some])
      obtain ⟨t, hexec, hmem, -, hplayer, hreason⟩ := exec_ends (i := .vectorCycle recv bad) rfl hcycle hends hfn
      exact ⟨t, hexec, hmem, hplayer, hreason⟩
  case limit =>
    intro s f e hfn he
    dsimp only
    refine ⟨fun hstate hedge => congrArg Host.Outcome.next (State.on_of_fixed (Dev.vLimitEnd_early hfn he hstate hedge)),
      fun hedge hin => ?_, fun hstate hleft hedge hstop hcome => ?_, fun hstate hleft hedge hstop hpf => ?_⟩
    · exact exec_ends (i := .failLimitEnd) rfl (Dev.vLimitEnd_at hfn he hedge)
        (Dev.vOwnEnd_else (d := s.dev.advance (s.dev.vEdgeAt e.1)) f hin he rfl) hfn
    · obtain ⟨r, hown, hends⟩ := Dev.vOwnEnd_limit (d := s.dev.advance (s.dev.vEdgeAt e.1)) f false he hstop hcome
      rw [show (s.dev.advance (s.dev.vEdgeAt e.1)).vEdgeAt e.1 = s.dev.vEdgeAt e.1 from rfl, Nat.min_self] at hends
      refine exec_ends (i := .failLimitEnd) rfl ?_ hends hfn
      rw [Dev.vLimitEnd_at hfn he (fun h => Nat.lt_irrefl _ (hedge ▸ h.2)), hown, Option.getD_some]
    · obtain ⟨r, hown, hends⟩ := Dev.vOwnEnd_noWord (d := s.dev.advance (s.dev.vEdgeAt e.1)) f false ⟨hstate, hleft, hedge⟩ hpf
        (fun e' he' => Option.some.inj (he'.symm.trans he) ▸ hstop)
      refine exec_ends (i := .failLimitEnd) rfl ?_ hends hfn
      rw [Dev.vLimitEnd_at hfn he (fun h => Nat.lt_irrefl _ (hedge ▸ h.2)), hown, Option.getD_some]
  case startEvent =>
    intro s hedge hstate hkind hstart
    refine congrArg Host.Outcome.next (State.on_congr (Dev.vStartEvent_armed hedge hstate hkind hstart))
  case stopEvent =>
    intro s f hedge hfn
    dsimp only
    have hrow : ∀ {r : Dev}, (s.dev.takeEdge 53).vStop (s.dev.vLatch (s.dev.edgeTime 53)) = r →
        (fun d : Dev => if d.hasEdge 53 then (d.takeEdge 53).vStop (d.vLatch (d.edgeTime 53)) else d) s.dev = r :=
      fun h => (if_pos hedge).trans h
    have hstops : ∀ {reason ep : Nat} {r : Dev}, (s.dev.takeEdge 53).vStop (s.dev.vLatch (s.dev.edgeTime 53)) = r →
        (s.dev.takeEdge 53).EndsAs reason ep r → ∃ t : State, exec .vecStopEvent s = .next t ∧ t.mem = s.mem ∧
          t.dev.vec.player.state = .idle ∧ (t.dev.vstat f).reason = reason := by
      intro reason ep r h hends
      obtain ⟨t, hexec, hmem, -, hplayer, hreason⟩ := exec_ends (i := .vecStopEvent) rfl (hrow h) hends hfn
      exact ⟨t, hexec, hmem, congrArg Player.state hplayer, hreason⟩
    refine ⟨fun hstate hbefore => ?_, fun hstate hnone hlate => ?_, fun t0 hstate hnone hstart hlate => ?_,
      fun hstate hnone hsoon hleft => ?_, fun hstate hnone => ?_, fun e hstate he hstop hcome => ?_⟩
    · exact hstops (Dev.vStop_beforeStart (d := s.dev.takeEdge 53) hfn hstate hbefore) (Dev.endsAs_vEnd ..)
    · exact congrArg Host.Outcome.next (State.on_congr (hrow ((Dev.vStop_playingBefore (d := s.dev.takeEdge 53) hfn hstate hlate).trans
        (Dev.vStopAt_none (d := s.dev.takeEdge 53) hnone _))))
    · exact congrArg Host.Outcome.next (State.on_congr (hrow ((Dev.vStop_afterStart (d := s.dev.takeEdge 53) hfn hstate hstart hlate).trans
        (Dev.vStopAt_none (d := s.dev.takeEdge 53) hnone _))))
    · refine hstops ((Dev.vStop_playing (d := s.dev.takeEdge 53) hfn hstate hsoon).trans ?_)
        (Dev.endsAs_vEnd _ 2 (s.dev.vLatch (s.dev.edgeTime 53)))
      rw [Dev.vOwnEnd_goesOn (d := s.dev.takeEdge 53) f false (fun h => hleft h.2.1) (fun e he => nomatch hnone.symm.trans he), Option.getD_none]
    · refine hstops ((Dev.vStop_waiting (d := s.dev.takeEdge 53) hfn hstate).trans ?_)
        (Dev.endsAs_vEnd _ 2 (s.dev.vLatch (s.dev.edgeTime 53)))
      rw [Dev.vOwnEnd_goesOn (d := s.dev.takeEdge 53) f false (fun h => nomatch hstate.symm.trans h.1) (fun e he => nomatch hnone.symm.trans he),
        Option.getD_none]
    · obtain ⟨r, hown, hends⟩ := Dev.vOwnEnd_limit (d := s.dev.takeEdge 53) f false he hstop hcome
      exact hstops ((Dev.vStop_waiting (d := s.dev.takeEdge 53) hfn hstate).trans (by rw [hown, Option.getD_some])) hends
  case trig =>
    intro k s f hedge hfn
    dsimp only
    refine ⟨fun hstate hin => ?_, fun hstate hpend => ?_, fun hstate hpend => ?_⟩
    · exact congrArg Host.Outcome.next (State.on_congr (Dev.vTrig_waiting hedge hstate hin))
    · exact congrArg Host.Outcome.next (State.on_congr (Dev.vTrig_pends hedge hstate hpend))
    · obtain ⟨hplayer, hmissed⟩ := Dev.vTrig_missed hedge hstate hfn hpend
      exact ⟨_, rfl, rfl, hplayer, hmissed⟩

end

section
/-! What the fabric's pulses and edges leave, whatever is read of the device (spec/14_events.md, R452 to R456, R467). -/

namespace Sys2Proof.Machine

/-- A reading of the device that counted fires, waiting edges, known pulses with the drives of lines, and wakes leave. -/
structure KeptByPulses {α : Type} (p : Dev → α) : Prop where
  fires : ∀ d r (n : Route → Nat), p (d.modRoute r (fun x => { x with fires := n x })) = p d
  waits : ∀ (d : Dev) e l t u, p (d.modFab (fun f => { f with edges := e, pulses := l, drove := t, fireFrom := u })) = p d
  wake : ∀ d c, p (d.wakeBy c) = p d

/-- A reading that what this device drives leaves besides: lines that are negated are neither STUCK nor HELD. -/
structure KeptByFabric {α : Type} (p : Dev → α) : Prop extends KeptByPulses p where
  lines : ∀ (d : Dev) (a b : Nat) t, p (d.modFab (fun f => { f with stuck := a, held := b, drove := t })) = p d

section
variable {α : Type} {p : Dev → α}

section
variable (h : KeptByPulses p)
include h

theorem KeptByPulses.edges (d : Dev) (g : List (Nat × Nat × Nat) → List (Nat × Nat × Nat)) :
    p (d.modFab (fun f => { f with edges := g f.edges })) = p d :=
  h.waits d (g d.fab.edges) d.fab.pulses d.fab.drove d.fab.fireFrom

theorem KeptByPulses.edgeTo (d : Dev) (r n t : Nat) : p (d.edgeTo r n t) = p d := by
  unfold Dev.edgeTo
  extract_lets wakes s1
  have h1 : p s1 = p d := h.edges d _
  exact ite_kept p rfl (ite_kept p rfl (ite_kept p ((h.wake ..).trans h1) h1))

theorem KeptByPulses.arrive (d : Dev) (rising held : List Nat) (t w : Nat → Nat) : p (d.arrive rising held t w) = p d := by
  unfold Dev.arrive
  extract_lets s1
  have h1 : p s1 = p d := foldl_kept p (fun e r => h.fires e r _) rising d
  refine (foldl_kept p (fun e r => foldl_kept p (fun e n => ?_) _ e) rising s1).trans h1
  exact ite_kept p rfl (h.edgeTo ..)

theorem KeptByPulses.takeBack (d : Dev) (gone : List Nat) (u : Nat) : p (d.takeBack gone u) = p d :=
  (h.edges _ (fun l => if gone.isEmpty then l else l.filter (fun e => !(gone.contains e.2.1 && e.2.2 == u)))).trans
    (foldl_kept p (fun e r => h.fires e r _) gone d)

theorem KeptByPulses.cut (d : Dev) (l : List (Nat × Nat × Nat)) (x : Nat × Nat × Nat) (anew : Bool) (u : Nat) :
    p (d.cut l x anew u).1 = p d := (h.arrive ..).trans (h.takeBack ..)

theorem KeptByPulses.cuts (l : List (Nat × Nat × Nat)) (x : Nat × Nat × Nat) (anew : Bool) (us : List Nat)
    (y : Dev × List (Nat × Nat)) :
    p (us.foldl (fun (a : Dev × List (Nat × Nat)) u => let b := a.1.cut l x anew u; (b.1, a.2 ++ b.2)) y).1 = p y.1 := by
  induction us generalizing y with
  | nil => rfl
  | cons u r ih => exact (ih _).trans (h.cut ..)

/-- A pulse with all that it makes routes do. -/
theorem KeptByPulses.pulseGo (fuel : Nat) (d : Dev) (n t w : Nat) (anew : Bool) : p (Dev.pulseGo fuel d n t w anew) = p d := by
  induction fuel generalizing d n t w anew with
  | zero => rfl
  | succ k ih =>
    unfold Dev.pulseGo
    extract_lets l s1 turns r
    have h1 : p s1 = p d := h.waits d _ _ _ d.fab.fireFrom
    exact (foldl_kept p (fun e x => ih e _ _ _ _) r.2 r.1).trans ((h.cuts ..).trans h1)

theorem KeptByPulses.pulseFor (d : Dev) (n t w : Nat) : p (d.pulseFor n t w) = p d :=
  ite_kept p rfl (h.pulseGo ..)

theorem KeptByPulses.fire (d : Dev) (r : Nat) : p (d.fire r) = p d :=
  (h.pulseGo ..).trans (h.waits d d.fab.edges d.fab.pulses d.fab.drove _)

end

/-- What a change of source levels makes of the fabric. -/
theorem KeptByFabric.fabricNote (h : KeptByFabric p) (new old : Dev) : p (new.fabricNote old) = p new := by
  unfold Dev.fabricNote Dev.linesNote
  extract_lets on still rising held at_ s1 ended on'
  exact (h.lines _ _ _ _).trans ((foldl_kept p (fun e n => h.pulseGo ..) _ s1).trans (h.arrive ..))

end

/-- A reading of the fabric's settings. -/
theorem keptByFabric_of_fab {α : Type} (p : Fabric → α) (hfires : ∀ f t, p { f with routes := t } = p f)
    (hwaits : ∀ f e l t u, p { f with edges := e, pulses := l, drove := t, fireFrom := u } = p f)
    (hlines : ∀ f a b t, p { f with stuck := a, held := b, drove := t } = p f) : KeptByFabric (fun d : Dev => p d.fab) where
  fires := fun d _ _ => hfires d.fab _
  waits := fun d e l t u => hwaits d.fab e l t u
  lines := fun d a b t => hlines d.fab a b t
  wake := fun d c => by
    unfold Dev.wakeBy
    exact ite_kept (fun d : Dev => p d.fab) rfl (ite_kept (fun d : Dev => p d.fab) rfl rfl)

/-! ### Maps of bits -/

theorem bitMap_lt (f : Nat → Bool) (n : Nat) : bitMap f n < 2 ^ n := by
  induction n with
  | zero => exact Nat.one_pos
  | succ m ih =>
    have hbit : bitAt (f m) m ≤ 2 ^ m := by unfold bitAt; split <;> simp
    rw [bitMap, Nat.pow_succ]
    omega

theorem testBit_bitMap (f : Nat → Bool) (n i : Nat) : (bitMap f n).testBit i = (decide (i < n) && f i) := by
  induction n with
  | zero => simp [bitMap]
  | succ m ih =>
    have hlt := bitMap_lt f m
    cases hf : f m with
    | false =>
      rw [bitMap, hf, show bitAt false m = 0 from rfl, Nat.add_zero, ih]
      by_cases him : i = m
      · simp [him, hf]
      · simp [show i < m + 1 ↔ i < m by omega]
    | true =>
      rw [bitMap, hf, show bitAt true m = 2 ^ m from rfl, Nat.add_comm]
      rcases Nat.lt_trichotomy i m with him | rfl | him
      · rw [Nat.testBit_two_pow_add_gt him, ih]
        simp [him, Nat.lt_succ_of_lt him]
      · rw [Nat.testBit_two_pow_add_eq, ih]
        simp [hf]
      · have hsum : 2 ^ m + bitMap f m < 2 ^ i :=
          calc 2 ^ m + bitMap f m < 2 ^ (m + 1) := by rw [Nat.pow_succ]; omega
            _ ≤ 2 ^ i := Nat.pow_le_pow_right Nat.two_pos him
        rw [Nat.testBit_lt_two_pow hsum]
        simp [show ¬i < m + 1 by omega]

/-! ### What the outputs of routes and the levels of lines depend on (R452, R454, R467) -/

/-- Two states with the same sources, routes and known pulses. -/
structure SameSources (a b : Dev) : Prop where
  base : ∀ n, baseLevel a n = baseLevel b n
  routes : a.fab.routes = b.fab.routes
  configured : a.fab.configured = b.fab.configured
  fpDir : a.fab.fpDir = b.fab.fpDir
  ext : a.fab.ext = b.fab.ext
  pulses : a.fab.pulses = b.fab.pulses
  now : a.now = b.now
  intlk : a.seam.intlk = b.seam.intlk

section
variable {a b : Dev} (h : SameSources a b)
include h

theorem SameSources.route : a.route = b.route := by
  funext r
  rw [Dev.route, h.routes]
  rfl

theorem SameSources.routeOut (fuel : Nat) (on : List Nat) : routeOut fuel a on = routeOut fuel b on := by
  induction fuel with
  | zero => rfl
  | succ k ih =>
    funext r
    unfold Machine.routeOut
    rw [ih, h.route, h.routes, h.configured, h.fpDir, show baseLevel a = baseLevel b from funext h.base]

theorem SameSources.outNow : a.outNow = b.outNow := by
  unfold Dev.outNow Dev.pulsing
  rw [h.pulses, h.now, h.routeOut]

theorem SameSources.levelOut : a.levelOut = b.levelOut := by
  unfold Dev.levelOut Dev.liveRoutes
  rw [h.routes, h.route, h.configured, h.outNow]

theorem SameSources.drivesLine : a.drivesLine = b.drivesLine := by
  unfold Dev.drivesLine Dev.pulsing
  rw [h.pulses, h.now, h.fpDir, h.configured, h.levelOut]

theorem SameSources.lineOn : a.lineOn = b.lineOn := by
  unfold Dev.lineOn
  rw [h.intlk, h.fpDir, h.ext, h.drivesLine]

end

end Sys2Proof.Machine
end

section
/-! The event commands (spec/14_events.md, R452 to R472). -/

namespace Sys2Proof.Machine

theorem Dev.withFabric_congr {d : Dev} {g h : Dev → Dev} (e : g d = h d) : d.withFabric g = d.withFabric h := by
  unfold Dev.withFabric; rw [e]

section
variable (d : Dev) (q : Req)

@[simp] theorem Dev.taken_fab : (d.taken q).fab = d.fab := by rw [Dev.taken_only d q]
@[simp] theorem Dev.taken_edgeAt (t : Nat) : (d.taken q).edgeAt t = d.edgeAt t := by rw [Dev.taken_only d q]; rfl
@[simp] theorem Dev.taken_overrunOf (f : Nat) : (d.taken q).overrunOf f = d.overrunOf f := by rw [Dev.taken_only d q]; rfl
@[simp] theorem Dev.taken_consumerHeld (f : Nat) : (d.taken q).consumerHeld f = d.consumerHeld f := by
  rw [Dev.taken_only d q]; rfl

end

/-- EVT_ROUTE_STATUS's table (R471). -/
def routeStatusReply (d : Dev) (r : Nat) : List Byte :=
  let x := d.route r
  w8 r ++ w8 (bitAt x.enable 0 + bitAt x.invSrc 1 + bitAt x.invGate 2) ++ w16 x.source ++ w16 x.gate ++ zeros 2
    ++ toLe 128 x.consumers ++ w32 x.fires ++ w8 (bitAt x.fault 0 + bitAt (d.outNow r) 1
      + bitAt (d.fab.attached.any (fun a => a.2 == r)) 2) ++ zeros 3

theorem routeStatusReply_taken (d : Dev) (q : Req) (r : Nat) : routeStatusReply (d.taken q) r = routeStatusReply d r := by
  rw [Dev.taken_only d q]; rfl

/-! ### EVT_LINE_CONFIG (R467, R469) -/

/-- What a request sets of the lines, beside the polarities. -/
def lineSettings (p : List Byte) (x : Fabric) : Fabric :=
  { x with fpDir := if (u8 p 0).testBit 0 then u8 p 1 else x.fpDir,
           stuckMs := if (u8 p 0).testBit 2 then u32 p 4 else x.stuckMs }

/-- What EVT_LINE_CONFIG answers. -/
def linesReply (d : Dev) : List Byte := w16 (bitMap d.lineOn 15) ++ w16 d.fab.stuck ++ w16 d.fab.held ++ zeros 2

theorem linesReply_taken (d : Dev) (q : Req) (p : List Byte) :
    linesReply ((d.taken q).modFab (lineSettings p)) = linesReply (d.modFab (lineSettings p)) := by
  have hsame : SameSources ((d.taken q).modFab (lineSettings p)) (d.modFab (lineSettings p)) := by
    rw [Dev.taken_only d q]
    exact { base := fun n => rfl, routes := rfl, configured := rfl, fpDir := rfl, ext := rfl, pulses := rfl, now := rfl, intlk := rfl }
  simp only [linesReply, hsame.lineOn, Dev.modFab_fab, Dev.taken_fab]

theorem cmdEvtLineConfig_body_settings {j : Job} (d : Dev) (h : (u8 j.p 0).testBit 1 = false) :
    cmdEvtLineConfig.body d j =
      (d.modFab (lineSettings j.p), .done stOk (linesReply (d.modFab (lineSettings j.p)))) := by
  have hset : (if (u8 j.p 0).testBit 2 = true then
        (if (u8 j.p 0).testBit 0 = true then d.modFab (fun x => { x with fpDir := u8 j.p 1 }) else d).modFab
          (fun x => { x with stuckMs := u32 j.p 4 })
      else if (u8 j.p 0).testBit 0 = true then d.modFab (fun x => { x with fpDir := u8 j.p 1 }) else d) =
      d.modFab (lineSettings j.p) := by
    cases hdir : (u8 j.p 0).testBit 0 <;> cases hstuck : (u8 j.p 0).testBit 2 <;>
      simp [lineSettings, Dev.modFab, hdir, hstuck]
  dsimp only [cmdEvtLineConfig]
  rw [h]
  simp only [if_neg Bool.false_ne_true]
  rw [hset]
  rfl

/-- The settings of the lines: direction and polarities of the front panel, the star's polarity, STUCK_TIME. -/
def Fabric.lineSetup (x : Fabric) : Nat × Nat × Bool × Nat := (x.fpDir, x.fpPol, x.starPol, x.stuckMs)

theorem lineSetup_keptByFabric : KeptByFabric (fun d : Dev => d.fab.lineSetup) :=
  keptByFabric_of_fab Fabric.lineSetup (fun _ _ => rfl) (fun _ _ _ _ _ => rfl) (fun _ _ _ _ => rfl)

/-- A change of polarity sets both polarities, whatever lines it asserts or negates. -/
theorem cmdEvtLineConfig_body_polarity {j : Job} (d : Dev) (h : (u8 j.p 0).testBit 1 = true) :
    ∃ d1 p, cmdEvtLineConfig.body d j = (d1, .done stOk p) ∧
      d1.fab.lineSetup = (if (u8 j.p 0).testBit 0 then u8 j.p 1 else d.fab.fpDir, u8 j.p 2 % 16, (u8 j.p 2).testBit 4,
        if (u8 j.p 0).testBit 2 then u32 j.p 4 else d.fab.stuckMs) := by
  have hlines : ∀ (l : List Nat) (e : Dev),
      (e.forAll l (fun s n => s.modFab (fun x => x.setLine n (!x.ext.testBit n) s.now))).fab.lineSetup = e.fab.lineSetup :=
    fun l e => Dev.forAll_keeps (fun d : Dev => d.fab.lineSetup) (fun _ _ => rfl)
  have hdir : ∀ (l : List Nat) (e : Dev), (e.forAll l (fun s n => s.modFab (fun x => x.setLine n (!x.ext.testBit n) s.now))).fab.fpDir
      = e.fab.fpDir := fun l e => congrArg Prod.fst (hlines l e)
  have hstuck : ∀ (l : List Nat) (e : Dev), (e.forAll l (fun s n => s.modFab (fun x => x.setLine n (!x.ext.testBit n) s.now))).fab.stuckMs
      = e.fab.stuckMs := fun l e => congrArg (fun x => x.2.2.2) (hlines l e)
  dsimp only [cmdEvtLineConfig]
  rw [h]
  simp only [if_pos]
  refine ⟨_, _, rfl, ?_⟩
  cases (u8 j.p 0).testBit 0 <;> cases (u8 j.p 0).testBit 2 <;> simp [Fabric.lineSetup, hdir, hstuck]

theorem exec_evtLineConfig_polarity {s : State} {q : Req} (h : s.dev.runsNow cmdEvtLineConfig q = true)
    (hpol : (u8 (s.dev.job 0x0905 q).p 0).testBit 1 = true) :
    ∃ t : State, exec (.evtLineConfig q) s = .next t ∧ t.mem = s.mem ∧ t.dev.fab.lineSetup =
      (if (u8 (s.dev.job 0x0905 q).p 0).testBit 0 then u8 (s.dev.job 0x0905 q).p 1 else s.dev.fab.fpDir,
        u8 (s.dev.job 0x0905 q).p 2 % 16, (u8 (s.dev.job 0x0905 q).p 2).testBit 4,
        if (u8 (s.dev.job 0x0905 q).p 0).testBit 2 then u32 (s.dev.job 0x0905 q).p 4 else s.dev.fab.stuckMs) := by
  obtain ⟨d1, p, hbody, hsetup⟩ := cmdEvtLineConfig_body_polarity (j := s.dev.jobOf 0x0905 q) (s.dev.taken q) hpol
  have hcommand := Dev.command_answer (effect := fun _ => d1) h hbody rfl
  refine ⟨_, rfl, rfl, ?_⟩
  refine (lineSetup_keptByFabric.fabricNote _ s.dev).trans ?_
  refine (congrArg (fun e : Dev => e.fab.lineSetup) hcommand).trans ?_
  rw [Dev.taken_fab] at hsetup
  exact (congrArg Fabric.lineSetup (Dev.done_fab ..)).trans hsetup

/-! ### EVT_TIMER (R472, R488) -/

/-- The edge at which a timer that a request starts makes its first pulse. -/
def Dev.timerStart (d : Dev) (p : List Byte) : Nat :=
  d.edgeAt (if u64 p 8 = 0 then d.now + 2000000 else max d.now (d.monoInstant (d.monoTarget (u64 p 8))))

theorem Dev.taken_timerStart (d : Dev) (q : Req) (p : List Byte) : (d.taken q).timerStart p = d.timerStart p := by
  simp only [Dev.timerStart, Dev.taken_edgeAt, Dev.taken_now, Dev.taken_monoInstant, Dev.taken_monoTarget]

theorem cmdEvtTimer_body_start {j : Job} (d : Dev) (q : Req) (h : u8 j.p 1 ≠ 0) :
    cmdEvtTimer.body (d.taken q) j =
      ((d.taken q).setTimer (u8 j.p 0) { enable := true, period := u32 j.p 4, next := d.timerStart j.p },
        .done stOk (w64 (d.nsAt (d.timerStart j.p)))) := by
  rw [← Dev.taken_timerStart d q, ← Dev.taken_nsAt d q]
  exact if_neg h

end Sys2Proof.Machine

open Sys2Proof.Machine

/-- Settles O48, one sheet after the other. -/
theorem eventFabricCommands : Obligations.EventFabricCommands := by
  refine ⟨fun q s h => congrArg Host.Outcome.next (State.on_congr (Dev.withFabric_congr ?route)),
    fun q s h => congrArg Host.Outcome.next (State.on_congr ?status),
    fun q s h => congrArg Host.Outcome.next (State.on_congr ?overrun),
    fun q s h => congrArg Host.Outcome.next (State.on_congr ?read),
    fun q s h hpol => congrArg Host.Outcome.next (State.on_congr (Dev.withFabric_congr ?lines)),
    fun q s h hpol => ?polarity,
    fun q s h => ⟨fun hoff => congrArg Host.Outcome.next (State.on_congr ?stop),
      fun hon => congrArg Host.Outcome.next (State.on_congr ?start)⟩⟩
  case route => exact Dev.command_answer h rfl rfl
  case status => exact Dev.command_answer h rfl (routeStatusReply_taken ..)
  case overrun =>
    refine Dev.command_answer h rfl ?_
    rw [Dev.taken_overrunOf]
    rfl
  case read =>
    refine Dev.command_answer h (Prod.ext ?_ rfl) ?_
    · dsimp only [cmdEvtRead]
      rw [Dev.taken_fn]
    · rw [Dev.taken_fn]
      rfl
  case lines =>
    refine Dev.command_answer h (cmdEvtLineConfig_body_settings _ hpol) ?_
    exact linesReply_taken ..
  case polarity =>
    obtain ⟨t, hexec, hmem, hsetup⟩ := exec_evtLineConfig_polarity h hpol
    exact ⟨t, hexec, hmem, congrArg (fun x => x.2.1) hsetup, congrArg (fun x => x.2.2.1) hsetup,
      congrArg (fun x => x.2.2.2) hsetup, congrArg Prod.fst hsetup⟩
  case stop =>
    refine Dev.command_answer h ?_ rfl
    exact if_pos hoff
  case start => exact Dev.command_answer h (cmdEvtTimer_body_start _ _ hon) rfl

end

section
/-! The rows of the event fabric (spec/14_events.md, R454 to R472). -/

namespace Sys2Proof.Machine

/-! ### Maps of bits -/

/-- A bit taken off a number leaves the others. -/
theorem testBit_sub_pow_ne {m n k : Nat} (h : m.testBit n = true) (hk : k ≠ n) : (m - 2 ^ n).testBit k = m.testBit k := by
  have hlt : m % 2 ^ (n + 1) < 2 ^ (n + 1) := Nat.mod_lt _ (Nat.two_pow_pos _)
  have hlow : (m % 2 ^ (n + 1)).testBit n = true := by simp [h]
  have hge : 2 ^ n ≤ m % 2 ^ (n + 1) := Nat.ge_two_pow_of_testBit hlow
  obtain ⟨c, hc⟩ := Nat.exists_eq_add_of_le hge
  have hcn : c < 2 ^ n := by rw [Nat.pow_succ] at hlt hc; omega
  have hm : m = 2 ^ (n + 1) * (m / 2 ^ (n + 1)) + (2 ^ n + c) := by rw [← hc, Nat.div_add_mod]
  generalize m / 2 ^ (n + 1) = a at hm
  subst hm
  rw [show 2 ^ (n + 1) * a + (2 ^ n + c) - 2 ^ n = 2 ^ (n + 1) * a + c by omega,
    Nat.testBit_two_pow_mul_add _ (by rw [Nat.pow_succ]; omega), Nat.testBit_two_pow_mul_add _ (by rw [Nat.pow_succ]; omega)]
  by_cases hkn : k < n + 1
  · rw [if_pos hkn, if_pos hkn, Nat.testBit_two_pow_add_gt (by omega)]
  · rw [if_neg hkn, if_neg hkn]

theorem testBit_putBit (m n : Nat) (on : Bool) : (putBit m n on).testBit n = on := by
  cases on with
  | true => simp [putBit]
  | false =>
    unfold putBit
    rw [if_neg Bool.false_ne_true]
    split
    · next h => exact testBit_sub_pow h
    · next h => simpa using h

theorem testBit_putBit_ne {m n k : Nat} (on : Bool) (hk : k ≠ n) : (putBit m n on).testBit k = m.testBit k := by
  cases on with
  | true => simp [putBit, hk.symm]
  | false =>
    unfold putBit
    rw [if_neg Bool.false_ne_true]
    split
    · next h => exact testBit_sub_pow_ne h hk
    · rfl
/-! ### CHASSIS_LINE_EDGE (R454, R467, R469) -/

theorem Dev.skewEdge_only (d : Dev) : OnlyMbx d d.skewEdge := by
  unfold Dev.skewEdge
  extract_lets back on o
  refine OnlyMbx.foldl _ (fun e r => ?_) _ d
  dsimp only
  split
  · exact Dev.setData_only ..
  · exact (Dev.setData_only ..).trans (Dev.finish_only ..)

/-- What an edge at a line leaves of the device, before sources are followed. -/
def Dev.lineEdge (d : Dev) (l : LineId) (high : Bool) : Dev :=
  let d1 := d.modFab (fun x => x.setLine (LineId.num l) (d.asserts l high) d.now)
  if LineId.num l == 8 && d.asserts l high && !d.fab.ext.testBit 8 then d1.skewEdge else d1

theorem Dev.lineEdge_fab (d : Dev) (l : LineId) (high : Bool) :
    (d.lineEdge l high).fab = d.fab.setLine (LineId.num l) (d.asserts l high) d.now := by
  unfold Dev.lineEdge
  extract_lets d1
  split
  · rw [Dev.skewEdge_only d1]
    rfl
  · rfl

theorem LineId.num_lt (l : LineId) : LineId.num l < 14 := by
  cases l with
  | bus n => exact Nat.lt_trans n.isLt (by decide)
  | star => decide
  | fp n => simp only [LineId.num]; omega
  | sync => decide

/-- Lines from outside, with the instants at which they became asserted. -/
theorem ext_keptByFabric : KeptByFabric (fun d : Dev => (d.fab.ext, d.fab.since)) :=
  keptByFabric_of_fab (fun f => (f.ext, f.since)) (fun _ _ => rfl) (fun _ _ _ _ _ => rfl) (fun _ _ _ _ => rfl)

theorem Dev.observed_keptByFabric {α : Type} (p : Fabric → α) (h : KeptByFabric (fun d : Dev => p d.fab)) (d : Dev)
    (g : Dev → Dev) : p (d.observed g).fab = p (g d).fab :=
  (congrArg p (Dev.gstatNote_fab ..)).trans (h.fabricNote (g d) d)

theorem Dev.linesNote_sameSources (new old : Dev) : SameSources (new.linesNote old) new where
  base := fun _ => rfl
  routes := rfl
  configured := rfl
  fpDir := rfl
  ext := rfl
  pulses := rfl
  now := rfl
  intlk := rfl

theorem Dev.gstatNote_sameSources (new old : Dev) : SameSources (new.gstatNote old) new := by
  rw [Dev.gstatNote_only new old]
  exact { base := fun _ => rfl, routes := rfl, configured := rfl, fpDir := rfl, ext := rfl, pulses := rfl, now := rfl, intlk := rfl }

theorem SameSources.trans {a b c : Dev} (h : SameSources a b) (k : SameSources b c) : SameSources a c where
  base := fun n => (h.base n).trans (k.base n)
  routes := h.routes.trans k.routes
  configured := h.configured.trans k.configured
  fpDir := h.fpDir.trans k.fpDir
  ext := h.ext.trans k.ext
  pulses := h.pulses.trans k.pulses
  now := h.now.trans k.now
  intlk := h.intlk.trans k.intlk

/-- A line that nothing asserts is not on. -/
theorem Dev.lineOn_negated {d : Dev} {n : Nat} (hn : n ≠ 14) (hext : d.fab.ext.testBit n = false) (hdrives : d.drivesLine n = false) :
    d.lineOn n = false := by
  unfold Dev.lineOn
  rw [if_neg hn, hext, hdrives]
  split <;> rfl

/-- After a row that is observed, a line that is off is neither STUCK nor HELD (R468, R469). -/
theorem Dev.observed_negated {d : Dev} {g : Dev → Dev} {n : Nat} (hn : n < 14) (hext : (d.observed g).fab.ext.testBit n = false)
    (hdrives : (d.observed g).drivesLine n = false) :
    (d.observed g).fab.stuck.testBit n = false ∧ (d.observed g).fab.held.testBit n = false := by
  unfold Dev.observed at hext hdrives ⊢
  unfold Dev.fabricNote at hext hdrives ⊢
  dsimp only at hext hdrives ⊢
  generalize List.foldl _ _ _ = y at hext hdrives ⊢
  have hsame : SameSources ((y.linesNote d).gstatNote d) y :=
    (Dev.gstatNote_sameSources ..).trans (Dev.linesNote_sameSources ..)
  have hoff : y.lineOn n = false := by
    rw [← hsame.lineOn]
    exact Dev.lineOn_negated (by omega) hext hdrives
  rw [Dev.gstatNote_fab]
  have hbit : (bitMap y.lineOn 15).testBit n = false := by rw [testBit_bitMap, hoff, Bool.and_false]
  exact ⟨by simp [Dev.linesNote, hbit], by simp [Dev.linesNote, hbit]⟩

/-! ### TIMER_PULSE (R472) -/

theorem timers_keptByFabric : KeptByFabric (fun d : Dev => d.fab.timers) :=
  keptByFabric_of_fab Fabric.timers (fun _ _ => rfl) (fun _ _ _ _ _ => rfl) (fun _ _ _ _ => rfl)

theorem Dev.timerPulse_running {d : Dev} {k : Nat} (h : (d.timer k).enable = true) (hpower : d.sys.power ≠ 3) :
    d.timerPulse k = ((d.advance (d.timer k).next).setTimer k { d.timer k with
      next := (d.timer k).next + (d.timer k).period * tickPs }).pulseFor (24 + k) (d.timer k).next tickPs := by
  unfold Dev.timerPulse
  extract_lets x
  exact if_neg (by simp [x, h, hpower])

theorem Dev.setTimer_timer (d : Dev) (k i : Nat) (x : Timer) :
    (d.setTimer k x).timer i = if i = k then x else d.timer i := tblGet_set ..

/-! ### Occurrences and messages (R81 to R83) -/

theorem Dev.modVec_irqCause (d : Dev) (f v i : Nat) (g : Vec → Vec) :
    ((d.modFn f (fun r => r.modVec v g)).fn i).irqCause = (d.fn i).irqCause := by
  rw [Dev.modFn_get]
  split
  · next e => rw [e]; rfl
  · rfl

/-- A message leaves causes of functions. -/
theorem Dev.signal_irqCause (d : Dev) (f v i : Nat) : ((d.signal f v).fn i).irqCause = (d.fn i).irqCause := by
  unfold Dev.signal
  extract_lets r clear
  split
  · exact Dev.modVec_irqCause ..
  · split
    · exact Dev.modVec_irqCause ..
    · exact Dev.modVec_irqCause d f v i (fun x => { clear x with pba := false, edge := false })

/-- An occurrence sets its cause at the function that it reaches. -/
theorem Dev.irq_irqCause {d : Dev} {f b v : Nat} (h : vecOf (d.irqTarget f) b = some v) :
    ((d.irq f b).fn (d.irqTarget f)).irqCause = (d.fn (d.irqTarget f)).irqCause ||| 2 ^ b := by
  have hset : ((d.modFn (d.irqTarget f) (fun r => { r with irqCause := r.irqCause ||| 2 ^ b })).fn (d.irqTarget f)).irqCause =
      (d.fn (d.irqTarget f)).irqCause ||| 2 ^ b := by rw [Dev.modFn_get, if_pos rfl]
  unfold Dev.irq
  simp only [h]
  split
  · split
    · exact (Dev.signal_irqCause ..).trans ((Dev.modVec_irqCause ..).trans hset)
    · exact (Dev.modVec_irqCause ..).trans hset
  · exact hset

theorem vecOf_event (f : Nat) : vecOf f irqEvent = some 1 := by
  unfold vecOf
  split <;> rfl

section
variable {d : Dev} {f v : Nat} (hmsix : (d.fn f).msixEnable = true) (hidle : (d.fn f).flr = .idle)
include hmsix hidle

theorem Dev.signal_sends (hmask : (d.fn f).funcMask = false) (hvec : ((d.fn f).vec v).mask = false) :
    (d.signal f v).msgs = (f, v) :: d.msgs := by
  simp [Dev.signal, hmsix, hidle, hmask, hvec]

theorem Dev.signal_blocks (h : (d.fn f).funcMask = true ∨ ((d.fn f).vec v).mask = true) :
    (d.signal f v).msgs = d.msgs ∧ (((d.signal f v).fn f).vec v).pba = true := by
  have hblocked : ((d.fn f).funcMask || ((d.fn f).vec v).mask) = true := by simpa using h
  simp [Dev.signal, hmsix, hidle, hblocked, Fn.modVec_get]

end

/-! ### HOST (R464) -/

/-- The entry of an edge of the instant `t`. -/
def Dev.hostEntryAt (d : Dev) (r t fl : Nat) : EvtEntry :=
  { timeNs := d.nsAt t, frac := d.timeAt t % 256, epoch := d.epochAt t, route := r, flags := fl }

/-- HOST takes its edge out of the list. -/
def Dev.tookHost (d : Dev) (e : Nat × Nat × Nat) : Dev := d.modFab (fun x => { x with edges := x.edges.erase e })

section
variable {d : Dev} {f r : Nat} {e : Nat × Nat × Nat} (hholder : d.routeHolder r = f)
  (hedge : d.fab.edges.find? (fun e => e.1 == 13 && e.2.1 == r) = some e)
include hholder hedge

theorem Dev.hostEvent_edge : d.hostEvent f r = (d.tookHost e).hostEntry f r e.2.2 := by
  unfold Dev.hostEvent
  simp only [hedge, hholder, ne_eq, not_true_eq_false, if_false]
  rfl

theorem Dev.hostEvent_awake (hroom : (d.fn f).events.length < 32) (hpower : d.sys.power ≠ 3) :
    d.hostEvent f r = ((d.tookHost e).modFn f (fun x =>
      { x with events := x.events ++ [d.hostEntryAt r e.2.2 0], evtDeep := x.evtDeep + 0 })).irq f irqEvent := by
  have hdeep : (d.sys.power == 3) = false := by simpa using hpower
  rw [Dev.hostEvent_edge hholder hedge]
  refine (if_neg (Nat.not_le.mpr hroom)).trans ?_
  simp only [Dev.tookHost, Dev.modFab_sys, hdeep, if_neg Bool.false_ne_true]
  rfl

theorem Dev.hostEvent_deep (hroom : (d.fn f).events.length < 32) (hpower : d.sys.power = 3) :
    d.hostEvent f r = (d.tookHost e).modFn f (fun x =>
      { x with events := x.events ++ [d.hostEntryAt r (e.2.2 / 40000 * 40000) 1], evtDeep := x.evtDeep + 1 }) := by
  have hdeep : (d.sys.power == 3) = true := by simpa using hpower
  rw [Dev.hostEvent_edge hholder hedge]
  refine (if_neg (Nat.not_le.mpr hroom)).trans ?_
  simp only [Dev.tookHost, Dev.modFab_sys, hdeep, if_pos]
  rfl

theorem Dev.hostEvent_full (hfull : 32 ≤ (d.fn f).events.length) :
    d.hostEvent f r = (d.tookHost e).modFn f (fun x => { x with evtLost := sat32n (x.evtLost + 1), overrunHost := 1 }) :=
  (Dev.hostEvent_edge hholder hedge).trans (if_pos hfull)

end

/-- An occurrence leaves the event queues. -/
theorem OnlyCauses.events {a b : Dev} (h : OnlyCauses a b) (i : Nat) : (b.fn i).events = (a.fn i).events := by rw [h i]

theorem Dev.irq_event (d : Dev) (f : Nat) : ((d.irq f irqEvent).fn (d.irqTarget f)).irqCause.testBit 1 = true := by
  rw [Dev.irq_irqCause (vecOf_event _), Nat.testBit_or, show Nat.testBit (2 ^ irqEvent) 1 = true from rfl, Bool.or_true]

/-- An entry joins a function's queue, and its occurrence reaches the function or PF0. -/
theorem Dev.queued_irq (d : Dev) (f : Nat) (x : EvtEntry) :
    let e := (d.modFn f (fun y => { y with events := y.events ++ [x], evtDeep := y.evtDeep + 0 })).irq f irqEvent
    (e.fn f).events = (d.fn f).events ++ [x] ∧ (e.fn (d.irqTarget f)).irqCause.testBit 1 = true := by
  intro e
  refine ⟨(OnlyCauses.events (Dev.irq_causes _ _ _) f).trans ?_, ?_⟩
  · rw [Dev.modFn_get, if_pos rfl]
  · have h := Dev.irq_event (d.modFn f (fun y => { y with events := y.events ++ [x], evtDeep := y.evtDeep + 0 })) f
    rwa [show Dev.irqTarget (d.modFn f _) f = d.irqTarget f by simp [Dev.irqTarget]] at h

/-! ### PF_VEC (R81, R465) -/

/-- PF_VEC's edge taken, and kept at its vector. -/
def Dev.tookVec (d : Dev) (v : Nat) : Dev :=
  (d.takeEdge (16 + v)).modFn 0 (fun r => r.modVec (32 + v) (fun x => { x with edge := true }))

theorem Dev.pfVec_edge {d : Dev} {v : Nat} (hpower : d.sys.power ≠ 3) (hedge : d.hasEdge (16 + v) = true) :
    d.pfVec v = (d.tookVec v).signal 0 (32 + v) := if_neg (by simp [hpower, hedge])

theorem Dev.tookVec_fn (d : Dev) (v : Nat) :
    ((d.tookVec v).fn 0).msixEnable = (d.fn 0).msixEnable ∧ ((d.tookVec v).fn 0).flr = (d.fn 0).flr ∧
      ((d.tookVec v).fn 0).funcMask = (d.fn 0).funcMask ∧
      (((d.tookVec v).fn 0).vec (32 + v)).mask = ((d.fn 0).vec (32 + v)).mask := by
  have hfn : (d.tookVec v).fn 0 = (d.fn 0).modVec (32 + v) (fun x => { x with edge := true }) :=
    (Dev.modFn_get ..).trans (if_pos rfl)
  rw [hfn, Fn.modVec_get, if_pos rfl]
  exact ⟨rfl, rfl, rfl, rfl⟩

/-! ### CHAN_OFF and ROUTE_FAULT (R466, R471) -/

theorem Dev.chanOffAct_leads {d : Dev} {c : Nat} (hleads : d.leader c = c)
    (h : (d.chan c).state ≠ 0 ∨ (d.chan c).trans.isSome = true) :
    d.chanOffAct c = (((d.forAll (d.team c) (fun d m => d.seqHaltAt m (d.edgeAt d.now) 6)).rcDrop c stState).transEnd c
      stState).transBegin c 0 true none := by
  unfold Dev.chanOffAct
  rw [hleads]
  refine if_neg ?_
  rcases h with h | h
  · simp [h]
  · simp only [Bool.and_eq_true, not_and, Option.isNone_iff_eq_none]
    exact fun _ hnone => by simp [hnone] at h

section
variable {α : Type} {p : Fabric → α}

theorem keptByRecords_of_fab : KeptByRecords (fun d : Dev => p d.fab) where
  stream := Dev.modStream_keeps (fun d : Dev => p d.fab) (fun _ _ _ => rfl) (fun _ _ => rfl)
  ring := fun _ _ _ _ => rfl
  caravans := fun _ _ => rfl
  log := fun d k a e => congrArg p (Dev.logIt_fab d k a e)

theorem Dev.rcDrop_fab (d : Dev) (c st : Nat) : (d.rcDrop c st).fab = d.fab := by
  unfold Dev.rcDrop
  split
  · rfl
  · exact (Dev.finish?_fab ..).trans (Dev.forAll_keeps Dev.fab)

theorem Dev.transEnd_fab (d : Dev) (c st : Nat) : (d.transEnd c st).fab = d.fab := by
  unfold Dev.transEnd
  split
  · rfl
  · exact Dev.finish?_fab ..

theorem Dev.svyTap_fab (d : Dev) : d.svyTap.fab = d.fab := by
  unfold Dev.svyTap
  split
  · exact ite_kept Dev.fab rfl rfl
  · rfl

theorem Dev.transNew_fab (d : Dev) (c target : Nat) (fast : Bool) (cmd : Option Nat) :
    (d.transNew c target fast cmd).fab = d.fab :=
  (Dev.svyTap_fab _).trans (ite_kept Dev.fab (Dev.forAll_keeps Dev.fab) rfl)

theorem Dev.transOff_fab (d : Dev) (c : Nat) : (d.transOff c).fab = d.fab :=
  ite_kept Dev.fab (Dev.forAll_keeps Dev.fab) rfl

theorem Dev.teamHalf_fab (d : Dev) (c : Nat) (en out pre : Bool) : (d.teamHalf c en out pre).fab = d.fab :=
  Dev.forAll_keeps Dev.fab

theorem Dev.transNext_fab (d : Dev) (c : Nat) (pre : Bool) : (d.transNext c pre).fab = d.fab := by
  unfold Dev.transNext
  split
  · rfl
  · refine ite_kept Dev.fab (Dev.transOff_fab ..) (ite_kept Dev.fab (Dev.transEnd_fab ..) (ite_kept Dev.fab ?_ ?_))
    · exact ite_kept Dev.fab (Dev.forAll_keeps Dev.fab) (ite_kept Dev.fab (Dev.teamHalf_fab ..) rfl)
    · exact ite_kept Dev.fab rfl (ite_kept Dev.fab (Dev.teamHalf_fab ..) (Dev.transOff_fab ..))

theorem Dev.startCancel_fab (d : Dev) (id : Nat) : (d.startCancel id).fab = d.fab :=
  (Dev.finish_fab ..).trans (Dev.forAll_keeps Dev.fab (fun _ _ => ite_kept Dev.fab rfl rfl))

theorem Dev.hsNote_fab (d : Dev) (c tx : Nat) : (d.hsNote c tx).fab = d.fab :=
  Dev.forAll_keeps Dev.fab (fun _ _ => ite_kept Dev.fab rfl rfl)

section
variable (h : KeptByPulses (fun d : Dev => p d.fab))
include h

theorem KeptByPulses.seqEnd (d : Dev) (c reason tx : Nat) : p (d.seqEnd c reason tx).fab = p d.fab := by
  unfold Dev.seqEnd
  extract_lets q s0 s1 s2 s3
  refine ite_kept (fun d : Dev => p d.fab) ?_ rfl
  have h0 : p s0.fab = p d.fab := ite_kept (fun d : Dev => p d.fab) (congrArg p (Dev.rcDrop_fab ..)) rfl
  have h2 : p s2.fab = p s0.fab := keptByRecords_of_fab.record s1 _
  have h3 : s3.fab = s2.fab := by
    unfold s3
    split
    · exact ite_kept Dev.fab (Dev.startCancel_fab ..) rfl
    · rfl
  refine (congrArg p (Dev.irq_fab ..)).trans ((h.pulseFor ..).trans ?_)
  rw [Dev.hsNote_fab, h3, h2, h0]

theorem KeptByPulses.seqHaltAt (d : Dev) (c e reason : Nat) : p (d.seqHaltAt c e reason).fab = p d.fab := by
  unfold Dev.seqHaltAt
  extract_lets q s1
  refine ite_kept (fun d : Dev => p d.fab) (h.seqEnd ..) (ite_kept (fun d : Dev => p d.fab) ?_ rfl)
  have h1 : p s1.fab = p d.fab := h.seqEnd ..
  refine ite_kept (fun d : Dev => p d.fab) (ite_kept (fun d : Dev => p d.fab) h1 h1)
    (ite_kept (fun d : Dev => p d.fab) (h.seqEnd ..) (ite_kept (fun d : Dev => p d.fab) rfl (h.seqEnd ..)))

/-- What turns a channel off through the fabric leaves the fabric, but for the pulses that it makes. -/
theorem KeptByPulses.chanOffAct (d : Dev) (c : Nat) : p (d.chanOffAct c).fab = p d.fab := by
  unfold Dev.chanOffAct
  extract_lets l s1
  refine ite_kept (fun d : Dev => p d.fab) rfl ?_
  have h1 : p s1.fab = p d.fab := foldl_kept (fun d : Dev => p d.fab) (fun e m => h.seqHaltAt ..) _ d
  rw [Dev.transBegin, Dev.transNext_fab, Dev.transNew_fab, Dev.transEnd_fab, Dev.rcDrop_fab]
  exact h1

end
end

/-- What configures a route, and its fault. -/
def Fabric.routeSetup (r : Nat) (x : Fabric) : Bool × Nat × Nat :=
  ((tblGet routeInit x.routes r).fault, (tblGet routeInit x.routes r).consumers, (tblGet routeInit x.routes r).source)

theorem Dev.modRoute_routeSetup (d : Dev) (k r : Nat) (n : Route → Nat) :
    (d.modRoute k (fun x => { x with fires := n x })).fab.routeSetup r = d.fab.routeSetup r := by
  change ((Dev.route _ r).fault, (Dev.route _ r).consumers, (Dev.route _ r).source) = _
  rw [Dev.modRoute_get]
  split
  · next e => rw [e]; rfl
  · rfl

theorem routeSetup_keptByFabric (r : Nat) : KeptByFabric (fun d : Dev => d.fab.routeSetup r) where
  fires := fun d k n => Dev.modRoute_routeSetup d k r n
  waits := fun _ _ _ _ _ => rfl
  lines := fun _ _ _ _ => rfl
  wake := fun d c => by
    unfold Dev.wakeBy
    exact ite_kept (fun d : Dev => d.fab.routeSetup r) rfl (ite_kept (fun d : Dev => d.fab.routeSetup r) rfl rfl)

/-- The fault of a route is set, and its configuration stays (R471). -/
theorem Dev.routeFault_setup {d : Dev} {r : Nat} (h : (d.route r).fault = false) :
    (d.routeFault r).fab.routeSetup r = (true, (d.route r).consumers, (d.route r).source) := by
  unfold Dev.routeFault
  rw [if_neg (by simp [h])]
  extract_lets off s1 s2
  have h2 : s2.fab.routeSetup r = s1.fab.routeSetup r :=
    foldl_kept (fun d : Dev => d.fab.routeSetup r) (fun e n => (routeSetup_keptByFabric r).chanOffAct e (n - 640)) off s1
  have h1 : s1.route r = { d.route r with fault := true } := (Dev.modRoute_get ..).trans (if_pos rfl)
  rw [Dev.irq_fab, Dev.logIt_fab, h2]
  change ((s1.route r).fault, (s1.route r).consumers, (s1.route r).source) = _
  rw [h1]

/-! ### LINE_STUCK (R469) -/

/-- A line that has been asserted from outside for STUCK_TIME. -/
theorem Dev.lineStuck_marks {d : Dev} {l : LineId} (hext : d.fab.ext.testBit (LineId.num l) = true)
    (hstuck : d.fab.stuck.testBit (LineId.num l) = false) (hbus : ¬(LineId.num l < 8 ∧ d.levelOut (LineId.num l) = true))
    (hinput : ¬(9 ≤ LineId.num l ∧ LineId.num l < 13 ∧ d.fab.fpDir.testBit (LineId.num l - 9) = true)) :
    (d.lineStuck l).now = max d.now (max (tblGet (fun _ => 0) d.fab.since (LineId.num l))
        (tblGet (fun _ => 0) d.fab.drove (LineId.num l)) + d.fab.stuckMs * 1000000000) ∧
      (d.lineStuck l).fab = { d.fab with stuck := d.fab.stuck ||| 2 ^ LineId.num l } := by
  unfold Dev.lineStuck
  extract_lets n input from_ s1 s2
  have hgo : ¬(!d.fab.ext.testBit n || d.fab.stuck.testBit n || (decide (n < 8) && d.levelOut n) || !input) = true := by
    have hin : input = true := by
      by_contra hne
      exact hinput (by simpa [input, n, and_assoc] using hne)
    have hout : (decide (n < 8) && d.levelOut n) = false := by simpa [n] using hbus
    rw [hext, hstuck, hout, hin]
    decide
  rw [if_neg hgo]
  have hnow : s2.now = s1.now := (Dev.irq_now ..).trans (Dev.logIt_now ..)
  have hfab : s2.fab = s1.fab := (Dev.irq_fab ..).trans (Dev.logIt_fab ..)
  exact ⟨(ite_kept (d := s2) Dev.now (Dev.irq_now ..) rfl).trans hnow, (ite_kept (d := s2) Dev.fab (Dev.irq_fab ..) rfl).trans hfab⟩

end Sys2Proof.Machine

open Sys2Proof.Machine

/-- Settles O49, row by row. -/
theorem eventFabricRows : Obligations.EventFabricRows := by
  unfold Obligations.EventFabricRows
  refine ⟨?line, ?timer, ?host, ?vec, ?off, ?fault, ?stuck⟩
  case line =>
    intro l high s
    dsimp only
    have hfab : (fun x : Fabric => (x.ext, x.since)) (s.dev.observed (fun d => d.lineEdge l high)).fab =
        ((s.dev.fab.setLine (LineId.num l) (s.dev.asserts l high) s.dev.now).ext,
          (s.dev.fab.setLine (LineId.num l) (s.dev.asserts l high) s.dev.now).since) :=
      (Dev.observed_keptByFabric (fun x : Fabric => (x.ext, x.since)) ext_keptByFabric s.dev (fun d => d.lineEdge l high)).trans
        (by rw [Dev.lineEdge_fab])
    have hext := congrArg Prod.fst hfab
    have hsince := congrArg Prod.snd hfab
    have hbit : (s.dev.observed (fun d => d.lineEdge l high)).fab.ext.testBit (LineId.num l) = s.dev.asserts l high := by
      dsimp only at hext
      rw [hext]
      exact testBit_putBit ..
    refine ⟨_, rfl, rfl, hbit, fun k hk => ?_, fun hon hdrives => ?_, fun hon hoff => ?_⟩
    · exact (congrArg (fun m : Nat => m.testBit k) hext).trans (testBit_putBit_ne _ hk)
    · exact Dev.observed_negated (g := fun d => d.lineEdge l high) (LineId.num_lt l) (hbit.trans hon) hdrives
    · refine (congrArg (fun t => tblGet (fun _ => 0) t (LineId.num l)) hsince).trans ?_
      simp [Fabric.setLine, hon, hoff, tblGet_set_same]
  case timer =>
    intro k s hrun hpower
    have hpulse := Dev.timerPulse_running hrun hpower
    have htimer : ∀ i, (s.dev.timerPulse k.val).timer i = if i = k.val then { s.dev.timer k.val with
        next := (s.dev.timer k.val).next + (s.dev.timer k.val).period * tickPs } else s.dev.timer i := by
      intro i
      rw [hpulse]
      exact (congrArg (fun t => tblGet timerInit t i) (timers_keptByFabric.pulseFor ..)).trans (Dev.setTimer_timer ..)
    refine ⟨_, rfl, rfl, ?_, (htimer k.val).trans (if_pos rfl), fun i hi => (htimer i).trans (if_neg hi)⟩
    exact (congrArg Dev.now hpulse).trans (Dev.pulseFor_now ..)
  case host =>
    intro fn r s e hholder hedge
    dsimp only
    refine ⟨fun hroom hpower => ?_, fun hroom hpower => ?_, fun hfull => ?_⟩
    · have hrow := Dev.hostEvent_awake hholder hedge hroom hpower
      refine ⟨_, rfl, rfl, ?_⟩
      rw [State.on_dev, hrow]
      obtain ⟨hevents, hcause⟩ := Dev.queued_irq (s.dev.tookHost e) fn.val (s.dev.hostEntryAt r.val e.2.2 0)
      exact ⟨congrArg Fabric.edges (Dev.irq_fab ..), hevents, hcause⟩
    · exact congrArg Host.Outcome.next (State.on_congr (Dev.hostEvent_deep hholder hedge hroom hpower))
    · exact congrArg Host.Outcome.next (State.on_congr (Dev.hostEvent_full hholder hedge hfull))
  case vec =>
    intro v s hpower hedge
    dsimp only
    obtain ⟨hmsix, hflr, hfunc, hmask⟩ := Dev.tookVec_fn s.dev v.val
    have hrow := Dev.pfVec_edge hpower hedge
    refine ⟨_, rfl, rfl, (congrArg (fun e : Dev => e.fab.edges) hrow).trans ?_, fun hm hidle hopen hclear => ?_,
      fun hm hidle hshut => ?_⟩
    · exact congrArg Fabric.edges (Dev.signal_fab ..)
    · exact (congrArg Dev.msgs hrow).trans
        (Dev.signal_sends (hmsix.trans hm) (hflr.trans hidle) (hfunc.trans hopen) (hmask.trans hclear))
    · have hblocks := Dev.signal_blocks (d := s.dev.tookVec v.val) (f := 0) (v := 32 + v.val) (hmsix.trans hm)
        (hflr.trans hidle) (by rwa [hfunc, hmask])
      exact ⟨(congrArg Dev.msgs hrow).trans hblocks.1,
        (congrArg (fun e : Dev => ((e.fn 0).vec (32 + v.val)).pba) hrow).trans hblocks.2⟩
  case off =>
    intro ch s hedge hleads hstate
    refine congrArg Host.Outcome.next (State.on_congr (Dev.observed_congr ?_))
    exact (if_pos hedge).trans (Dev.chanOffAct_leads (d := s.dev.takeEdge (640 + ch.val)) hleads hstate)
  case fault =>
    intro r s hnone
    have hsetup := (Dev.observed_keptByFabric (Fabric.routeSetup r.val) (routeSetup_keptByFabric r.val) s.dev
      (fun d => d.routeFault r.val)).trans (Dev.routeFault_setup hnone)
    exact ⟨_, rfl, rfl, congrArg Prod.fst hsetup, congrArg (fun x => x.2.1) hsetup, congrArg (fun x => x.2.2) hsetup⟩
  case stuck =>
    intro l s
    dsimp only
    intro hext hstuck hbus hinput
    obtain ⟨hnow, hfab⟩ := Dev.lineStuck_marks hext hstuck hbus hinput
    exact ⟨_, rfl, rfl, congrArg Fabric.stuck hfab, hnow, (congrArg Fabric.ext hfab).trans rfl⟩

end

section
/-! The time commands (spec/15_timebase.md, R473 to R489). -/

namespace Sys2Proof.Machine

theorem timeReply_taken (d : Dev) (q : Req) : timeReply (d.taken q) = timeReply d := by
  rw [Dev.taken_only d q]; rfl

/-! ### TIME_REF_CONFIG (R473, R474) -/

theorem Dev.refSelect_same (d : Dev) : d.refSelect d.tb.refSel = d := if_pos rfl

/-- Another reference is picked and acquired. -/
theorem Dev.refSelect_tb {d : Dev} {sel : Nat} (h : sel ≠ d.tb.refSel) : (d.refSelect sel).tb = (d.tb.refPick sel).reacquire := by
  unfold Dev.refSelect Dev.setLock
  rw [if_neg h]
  exact ite_kept (d := d.modTb (fun b => (b.refPick sel).reacquire)) Dev.tb rfl (Dev.irqEvery_tb ..)

theorem Timebase.reacquire_tstate (b : Timebase) : b.reacquire.tstate =
    if b.reacquire.hasRef b.refSel then .locking else if b.wasLocked then .holdover else .free := rfl

theorem Dev.taken_refSelect_tb (d : Dev) (q : Req) (sel : Nat) : ((d.taken q).refSelect sel).tb = (d.refSelect sel).tb := by
  by_cases hsel : sel = d.tb.refSel
  · have htaken : (d.taken q).refSelect sel = d.taken q := if_pos (hsel.trans (by rw [Dev.taken_tb]))
    rw [htaken, hsel, Dev.refSelect_same, Dev.taken_tb]
  · rw [Dev.refSelect_tb (by rwa [Dev.taken_tb]), Dev.refSelect_tb hsel, Dev.taken_tb]

theorem exec_timeRefConfig {s : State} {q : Req} (h : s.dev.runsNow cmdTimeRefConfig q = true) :
    ∃ t : State, exec (.timeRefConfig q) s = .next t ∧ t.mem = s.mem ∧
      t.dev.tb = (s.dev.refSelect (u8 (s.dev.job 0x0A02 q).p 0)).tb := by
  have hcommand := Dev.command_answer
    (effect := fun d => d.withGstat (fun e => e.refSelect (u8 (s.dev.jobOf 0x0A02 q).p 0))) (p := []) h rfl rfl
  refine ⟨_, rfl, rfl, ?_⟩
  rw [State.on_dev, Dev.withFabric_tb]
  refine (congrArg Dev.tb hcommand).trans ?_
  rw [Dev.answer, Dev.done_tb, Dev.withGstat_tb]
  exact Dev.taken_refSelect_tb ..

/-! ### TIME_SYNC_CONFIG (R480, R481) -/

/-- MODE as a request sets it. -/
def Timebase.withMode (b : Timebase) (p : List Byte) : Timebase :=
  if (u8 p 0).testBit 0 then { b with syncMode := u8 p 1 } else b

theorem Timebase.withMode_skew (b : Timebase) (p : List Byte) :
    (b.withMode p).skewPending = b.skewPending ∧ (b.withMode p).skew = b.skew := by
  unfold Timebase.withMode
  split <;> exact ⟨rfl, rfl⟩

/-- A SKEW that waits for the next realignment; the one in force waits for none. -/
def Timebase.skewWaits (b : Timebase) (k : Nat) : Timebase :=
  { b with skewPending := if k = b.skew then none else some k, aligned := false }

section
variable {j : Job} (d : Dev)

theorem cmdTimeSyncConfig_body_mode (h : (u8 j.p 0).testBit 1 = false) :
    cmdTimeSyncConfig.body d j = (d.modTb (fun _ => d.tb.withMode j.p), .done stOk []) := by
  dsimp only [cmdTimeSyncConfig, Dev.modTb]
  rw [h, if_neg Bool.false_ne_true]
  rfl

theorem cmdTimeSyncConfig_body_same (h : (u8 j.p 0).testBit 1 = true) (hsame : u16 j.p 2 = d.tb.skewPending.getD d.tb.skew) :
    cmdTimeSyncConfig.body d j = (d.modTb (fun _ => d.tb.withMode j.p), .done stOk []) := by
  obtain ⟨hpending, hskew⟩ := d.tb.withMode_skew j.p
  have hset : u16 j.p 2 = (d.tb.withMode j.p).skewPending.getD (d.tb.withMode j.p).skew := by rw [hpending, hskew, hsame]
  dsimp only [cmdTimeSyncConfig, Dev.modTb]
  rw [h, if_pos rfl]
  exact congrArg (fun b : Timebase => (({ d with tb := b } : Dev), Result.done stOk [])) (if_pos hset)

theorem cmdTimeSyncConfig_body_new (h : (u8 j.p 0).testBit 1 = true) (hnew : u16 j.p 2 ≠ d.tb.skewPending.getD d.tb.skew) :
    cmdTimeSyncConfig.body d j = (d.modTb (fun _ => { d.tb.withMode j.p with
      skewPending := if u16 j.p 2 = d.tb.skew then none else some (u16 j.p 2), aligned := false }), .done stOk []) := by
  obtain ⟨hpending, hskew⟩ := d.tb.withMode_skew j.p
  have hset : u16 j.p 2 ≠ (d.tb.withMode j.p).skewPending.getD (d.tb.withMode j.p).skew := by rwa [hpending, hskew]
  have hwaits : ({ d.tb.withMode j.p with skewPending := if u16 j.p 2 = d.tb.skew then none else some (u16 j.p 2),
                                          aligned := false } : Timebase) = (d.tb.withMode j.p).skewWaits (u16 j.p 2) := by
    unfold Timebase.skewWaits
    dsimp only
    rw [hskew]
  rw [hwaits]
  dsimp only [cmdTimeSyncConfig, Dev.modTb]
  rw [h, if_pos rfl]
  exact congrArg (fun b : Timebase => (({ d with tb := b } : Dev), Result.done stOk [])) (if_neg hset)

end

end Sys2Proof.Machine

open Sys2Proof.Machine

/-- Settles O50, one sheet after the other. -/
theorem timeCommands : Obligations.TimeCommands := by
  refine ⟨fun q s h => congrArg Host.Outcome.next (State.on_congr ?status), fun q s h => ?ref,
    fun q s h => congrArg Host.Outcome.next (State.on_congr ?rate),
    fun q s h => ⟨fun hkeep => congrArg Host.Outcome.next (State.on_congr ?keep),
      fun hskew hsame => congrArg Host.Outcome.next (State.on_congr ?same),
      fun hskew hnew => congrArg Host.Outcome.next (State.on_congr ?new)⟩,
    fun q s h => congrArg Host.Outcome.next (State.on_congr ?set),
    fun q s h => congrArg Host.Outcome.next (State.on_congr ?measure),
    fun q s h => congrArg Host.Outcome.next (State.on_congr ?pair)⟩
  case status => exact Dev.command_answer h rfl (timeReply_taken ..)
  case ref =>
    obtain ⟨t, hexec, hmem, htb⟩ := exec_timeRefConfig h
    refine ⟨t, hexec, hmem, ?_⟩
    by_cases hsel : u8 (s.dev.job 0x0A02 q).p 0 = s.dev.tb.refSel
    · have hsame : t.dev.tb = s.dev.tb :=
        htb.trans (congrArg Dev.tb ((congrArg s.dev.refSelect hsel).trans (Dev.refSelect_same s.dev)))
      exact ⟨(congrArg Timebase.refSel hsame).trans hsel.symm, fun _ => hsame, fun h => absurd hsel h, fun h => absurd hsel h⟩
    · rw [htb, Dev.refSelect_tb hsel]
      refine ⟨rfl, fun h => absurd h hsel, fun _ hpresent => ?_, fun _ habsent => ?_⟩
      · rw [Timebase.reacquire_tstate]
        exact if_pos hpresent
      · rw [Timebase.reacquire_tstate]
        exact if_neg (ne_true_of_eq_false habsent)
  case rate =>
    refine Dev.command_goesOn h (Prod.ext ?_ rfl) rfl
    dsimp only [cmdTimeSetRate]
  case keep =>
    refine Dev.command_answer h ((cmdTimeSyncConfig_body_mode _ hkeep).trans ?_) rfl
    rw [Dev.taken_tb]
    rfl
  case same =>
    refine Dev.command_answer h ((cmdTimeSyncConfig_body_same _ hskew (by rwa [Dev.taken_tb])).trans ?_) rfl
    rw [Dev.taken_tb]
    rfl
  case new =>
    refine Dev.command_answer h ((cmdTimeSyncConfig_body_new _ hskew (by rwa [Dev.taken_tb])).trans ?_) rfl
    rw [Dev.taken_tb]
    rfl
  case set =>
    refine Dev.command_goesOn h (Prod.ext ?_ rfl) rfl
    dsimp only [cmdTimeSet]
  case measure => exact Dev.command_goesOn h rfl rfl
  case pair => exact Dev.command_answer h rfl rfl

end

section
/-! The matrix commands (spec/16_matrix.md, R499 to R511). -/

namespace Sys2Proof.Machine

theorem andNot_testBit (a b i : Nat) : (andNot a b).testBit i = (a.testBit i && !b.testBit i) := by
  unfold andNot
  refine (Nat.testBit_xor a (a &&& b) i).trans ?_
  rw [Nat.testBit_and]
  cases a.testBit i <;> cases b.testBit i <;> rfl

section
variable (d : Dev) (q : Req)

@[simp] theorem Dev.taken_mxSets : (d.taken q).mxSets = d.mxSets := by rw [Dev.taken_only d q]
@[simp] theorem Dev.taken_mxChains : (d.taken q).mxChains = d.mxChains := by rw [Dev.taken_only d q]
@[simp] theorem Dev.taken_chain (k : Nat) : (d.taken q).chain k = d.chain k := by rw [Dev.taken_only d q]; rfl
@[simp] theorem Dev.taken_xset (r : Nat) : (d.taken q).xset r = d.xset r := by rw [Dev.taken_only d q]; rfl
@[simp] theorem Dev.taken_rmod (k pos : Nat) : (d.taken q).rmod k pos = d.rmod k pos := by rw [Dev.taken_only d q]; rfl
@[simp] theorem Dev.taken_lockedBeside (f r : Nat) : (d.taken q).lockedBeside f r = d.lockedBeside f r := by
  rw [Dev.taken_only d q]; rfl
@[simp] theorem Dev.taken_chainsOfSets (l : List Nat) : (d.taken q).chainsOfSets l = d.chainsOfSets l := by
  rw [Dev.taken_only d q]; rfl

end

/-! ### MX_SET_MEMBERS (R510) -/

/-- The members of a set at one position as MX_SET_MEMBERS leaves them. -/
def membersAfter (old op mask : Nat) : Nat := if op = 0 then mask else if op = 1 then old ||| mask else andNot old mask

section
variable (x : XSet) (k pos op mask free : Nat)

theorem XSet.setMembers_mem_same : (x.setMembers k pos op mask free).mem pos = membersAfter (x.mem pos) op mask :=
  tblGet_set_same ..

theorem XSet.setMembers_mem_other {n : Nat} (h : n ≠ pos) : (x.setMembers k pos op mask free).mem n = x.mem n :=
  tblGet_set_other _ _ _ h

/-- A member that stays keeps its target. -/
theorem XSet.setMembers_target_testBit {i : Nat} (hold : (x.mem pos).testBit i = true)
    (hnew : (membersAfter (x.mem pos) op mask).testBit i = true) :
    ((x.setMembers k pos op mask free).target pos).testBit i = (x.target pos).testBit i := by
  have htarget : (x.setMembers k pos op mask free).target pos =
      (x.target pos &&& x.mem pos &&& membersAfter (x.mem pos) op mask) |||
        (free &&& andNot (membersAfter (x.mem pos) op mask) (x.mem pos)) := tblGet_set_same ..
  rw [htarget, Nat.testBit_or, Nat.testBit_and, Nat.testBit_and, Nat.testBit_and, andNot_testBit, hold, hnew]
  simp

/-- What MX_SET_MEMBERS makes of its set. -/
def XSet.requested (x : XSet) (p : List Byte) (free : Nat) : XSet :=
  if u8 p 4 = 0xFF then x.setMembers (u8 p 1) (u8 p 2) (u8 p 3) (leN p 8 64) free
  else { x.setMembers (u8 p 1) (u8 p 2) (u8 p 3) (leN p 8 64) free with keepOnLoss := u8 p 4 == 1 }

variable (p : List Byte)

theorem XSet.requested_only :
    x.requested p free = { x.setMembers (u8 p 1) (u8 p 2) (u8 p 3) (leN p 8 64) free with
      keepOnLoss := if u8 p 4 = 0xFF then x.keepOnLoss else u8 p 4 == 1 } := by
  unfold XSet.requested
  split <;> rfl

theorem XSet.requested_mem_same : (x.requested p free).mem (u8 p 2) = membersAfter (x.mem (u8 p 2)) (u8 p 3) (leN p 8 64) := by
  rw [XSet.requested_only]
  exact x.setMembers_mem_same (u8 p 1) _ _ _ free

theorem XSet.requested_mem_other {n : Nat} (h : n ≠ u8 p 2) : (x.requested p free).mem n = x.mem n := by
  rw [XSet.requested_only]
  exact x.setMembers_mem_other (u8 p 1) _ _ _ free h

theorem XSet.requested_target_testBit {i : Nat} (hold : (x.mem (u8 p 2)).testBit i = true)
    (hnew : ((x.requested p free).mem (u8 p 2)).testBit i = true) :
    ((x.requested p free).target (u8 p 2)).testBit i = (x.target (u8 p 2)).testBit i := by
  rw [XSet.requested_mem_same] at hnew
  rw [XSet.requested_only]
  exact x.setMembers_target_testBit (u8 p 1) _ _ _ free hold hnew

end

theorem exec_mxSetMembers {s : State} {q : Req} (h : s.dev.runsNow cmdMxSetMembers q = true) :
    ∃ t : State, exec (.mxSetMembers q) s = .next t ∧ t.mem = s.mem ∧ t.dev.mxChains = s.dev.mxChains ∧
      t.dev.mxSets = (s.dev.modSet (s.dev.job 0x0B02 q).set
        (fun x => x.requested (s.dev.job 0x0B02 q).p s.dev.freeBits)).mxSets := by
  have hcommand := Dev.command_answer
    (effect := fun d => { d.modSet (s.dev.jobOf 0x0B02 q).set (fun x => x.requested (s.dev.jobOf 0x0B02 q).p d.freeBits) with
      freeCtr := d.freeCtr + 16 }) (p := []) h rfl rfl
  refine ⟨_, rfl, rfl, ?_, ?_⟩
  · rw [State.on_dev]
    refine (congrArg Dev.mxChains hcommand).trans ?_
    rw [Dev.answer, Dev.done_mxChains]
    exact Dev.taken_mxChains ..
  · rw [State.on_dev]
    refine (congrArg Dev.mxSets hcommand).trans ?_
    rw [Dev.answer, Dev.done_mxSets, Dev.taken_only s.dev q]
    rfl

/-! ### MX_APPLY (R501) -/

theorem mxApplyBody_due {j : Job} (d : Dev) (hwhen : u8 j.p 32 = 0) (hks : d.chainsOfSets j.sets ≠ []) :
    mxApplyBody d j = ((d.forAll j.sets (fun d n => d.modSet n (fun x =>
        if x.members.isEmpty then x else { x with due := true, byEdge := x.due && x.byEdge }))).forAll (d.chainsOfSets j.sets)
          (fun d k => d.modChain k (fun c => { c with queue := c.queue ++ [some j.id] })),
      .later ((d.chainsOfSets j.sets).map Int.ofNat)) :=
  (if_pos hwhen).trans (if_neg (by rwa [List.isEmpty_iff]))

theorem mxApplyBody_none {j : Job} (d : Dev) (hwhen : u8 j.p 32 = 0) (hks : d.chainsOfSets j.sets = []) :
    mxApplyBody d j = (d, .done stOk (w64 0)) :=
  (if_pos hwhen).trans (if_pos (List.isEmpty_iff.2 hks))

/-! ### MX_CHAIN_CTL (R507) -/

/-- The rediscovery of a chain leaves its command. -/
theorem Dev.discBegin_get (d : Dev) (k : Nat) : (d.discBegin k).chain k =
    { d.chain k with state := .discovering, reason := 0, begun := true, wbWant := false,
                     mods := (d.chain k).mods.map (fun m => { m with drive := 0 }) } := by
  unfold Dev.discBegin Dev.releaseChain
  rw [Dev.modChain_same, Dev.modChain_same]

theorem Dev.wbAsk_get (d : Dev) (k : Nat) : (d.wbAsk k).chain k =
    { d.chain k with wbWant := (d.chain k).wbWant || ((d.chain k).up && (d.chain k).mods.any RelayMod.dirty) } :=
  Dev.modChain_same ..

theorem Dev.rediscover_waits {d : Dev} {k : Nat}
    (h : (d.chain k).update ≠ none ∨ ((d.chain k).wbWant || ((d.chain k).up && (d.chain k).mods.any RelayMod.dirty)) = true) :
    d.rediscover k = d.wbAsk k := by
  refine if_pos ?_
  rw [Dev.wbAsk_get]
  rcases h with hupdate | hback
  · exact Bool.or_eq_true_iff.2 (.inr (Option.isSome_iff_ne_none.2 hupdate))
  · exact Bool.or_eq_true_iff.2 (.inl hback)

theorem Dev.rediscover_begins {d : Dev} {k : Nat} (hupdate : (d.chain k).update = none)
    (hback : ((d.chain k).wbWant || ((d.chain k).up && (d.chain k).mods.any RelayMod.dirty)) = false) :
    d.rediscover k = (d.wbAsk k).discBegin k := by
  refine if_neg ?_
  rw [Dev.wbAsk_get]
  dsimp only
  rw [hback, hupdate]
  exact Bool.false_ne_true

/-- MX_CHAIN_CTL's rediscovery, on the chain that names its command. -/
def Dev.chainAsked (d : Dev) (k id : Nat) : Dev := (d.modChain k (fun c => { c with discCmd := some id })).rediscover k

theorem Dev.chainAsked_waits {d : Dev} {k id : Nat}
    (h : (d.chain k).update ≠ none ∨ ((d.chain k).wbWant || ((d.chain k).up && (d.chain k).mods.any RelayMod.dirty)) = true) :
    (d.chainAsked k id).chain k = { d.chain k with
      discCmd := some id,
      wbWant := (d.chain k).wbWant || ((d.chain k).up && (d.chain k).mods.any RelayMod.dirty) } := by
  have hwaits := Dev.rediscover_waits (d := d.modChain k (fun c => { c with discCmd := some id })) (k := k)
    (by rw [Dev.modChain_same]; exact h)
  rw [Dev.chainAsked, hwaits, Dev.wbAsk_get, Dev.modChain_same]
  rfl

theorem Dev.chainAsked_begins {d : Dev} {k id : Nat} (hupdate : (d.chain k).update = none)
    (hback : ((d.chain k).wbWant || ((d.chain k).up && (d.chain k).mods.any RelayMod.dirty)) = false) :
    (d.chainAsked k id).chain k = { d.chain k with
      discCmd := some id, state := .discovering, reason := 0, begun := true,
      wbWant := false, mods := (d.chain k).mods.map (fun m => { m with drive := 0 }) } := by
  have hbegins := Dev.rediscover_begins (d := d.modChain k (fun c => { c with discCmd := some id })) (k := k)
    (by rw [Dev.modChain_same]; exact hupdate) (by rw [Dev.modChain_same]; exact hback)
  rw [Dev.chainAsked, hbegins, Dev.discBegin_get, Dev.wbAsk_get, Dev.modChain_same]

theorem Dev.chainAsked_discCmd (d : Dev) (k id : Nat) : ((d.chainAsked k id).chain k).discCmd = some id := by
  by_cases hback : ((d.chain k).wbWant || ((d.chain k).up && (d.chain k).mods.any RelayMod.dirty)) = true
  · rw [Dev.chainAsked_waits (.inr hback)]
  · cases hupdate : (d.chain k).update with
    | none => rw [Dev.chainAsked_begins hupdate (Bool.eq_false_iff.2 hback)]
    | some u => rw [Dev.chainAsked_waits (.inl (by rw [hupdate]; exact nofun))]

theorem exec_mxChainCtl_rediscovery {s : State} {q : Req} (h : s.dev.runsNow cmdMxChainCtl q = true)
    (hact : u8 (s.dev.job 0x0B08 q).p 1 ≠ 0) :
    ∃ t : State, exec (.mxChainCtl q) s = .next t ∧ t.mem = s.mem ∧
      t.dev.chain (u8 (s.dev.job 0x0B08 q).p 0) = ((s.dev.taken q).chainAsked (u8 (s.dev.job 0x0B08 q).p 0)
        (s.dev.job 0x0B08 q).id).chain (u8 (s.dev.job 0x0B08 q).p 0) := by
  have hcommand := Dev.command_goesOn
    (effect := fun d => d.chainAsked (u8 (s.dev.jobOf 0x0B08 q).p 0) (s.dev.jobOf 0x0B08 q).id) (data := []) h (if_neg hact) rfl
  refine ⟨_, rfl, rfl, ?_⟩
  rw [State.on_dev]
  refine (congrArg (fun d : Dev => d.chain (u8 (s.dev.job 0x0B08 q).p 0)) hcommand).trans ?_
  exact congrArg (fun l => tblGet chainInit l (u8 (s.dev.job 0x0B08 q).p 0)) (Dev.pend_mxChains ..)

end Sys2Proof.Machine

open Sys2Proof.Machine

/-- Settles O52, one sheet after the other. -/
theorem matrixCommands : Obligations.MatrixCommands := by
  refine ⟨fun q s h => congrArg Host.Outcome.next (State.on_congr ?status), fun q s h => ?members,
    fun q s h => congrArg Host.Outcome.next (State.on_congr ?stage),
    fun q s h => ⟨fun hwhen hks => congrArg Host.Outcome.next (State.on_congr ?due),
      fun hwhen hks => congrArg Host.Outcome.next (State.on_congr ?none),
      fun hwhen => congrArg Host.Outcome.next (State.on_congr ?arm)⟩,
    fun q s h => congrArg Host.Outcome.next (State.on_congr ?read),
    fun q s h => congrArg Host.Outcome.next (State.on_congr ?wear),
    fun q s h => congrArg Host.Outcome.next (State.on_congr ?lock),
    fun q s h => ⟨fun hact => congrArg Host.Outcome.next (State.on_congr ?back), fun hact => ?rediscovery⟩⟩
  case status =>
    refine Dev.command_answer h rfl ?_
    rw [Dev.taken_chain]
    rfl
  case members =>
    obtain ⟨t, hexec, hmem, hchains, hsets⟩ := exec_mxSetMembers h
    have hother : ∀ r : Nat, r ≠ (s.dev.job 0x0B02 q).set → t.dev.xset r = s.dev.xset r := fun r hr =>
      (congrArg (fun l => tblGet xsetInit l r) hsets).trans ((Dev.modSet_get ..).trans (if_neg hr))
    have hset : t.dev.xset (s.dev.job 0x0B02 q).set = (s.dev.xset (s.dev.job 0x0B02 q).set).requested (s.dev.job 0x0B02 q).p
        s.dev.freeBits := (congrArg (fun l => tblGet xsetInit l (s.dev.job 0x0B02 q).set) hsets).trans (Dev.modSet_same ..)
    refine ⟨t, hexec, hmem, ?_, fun hop => ?_, fun hop => ?_, fun hop i => ?_, fun n hn => ?_, fun i hold hnew => ?_, ?_, hother,
      hchains⟩
    · rw [hset, XSet.requested_only]
      rfl
    · rw [hset, XSet.requested_mem_same, membersAfter, if_pos hop]
    · rw [hset, XSet.requested_mem_same, membersAfter, if_neg (by omega), if_pos hop]
    · rw [hset, XSet.requested_mem_same, membersAfter, if_neg (by omega), if_neg (by omega), andNot_testBit]
    · rw [hset, XSet.requested_mem_other _ _ _ hn]
    · rw [hset] at hnew ⊢
      exact XSet.requested_target_testBit _ _ _ hold hnew
    · rw [hset, XSet.requested_only]
  case stage =>
    refine Dev.command_answer h rfl rfl
  case due =>
    refine Dev.command_goesOn h ((mxApplyBody_due _ hwhen (by rwa [Dev.taken_chainsOfSets])).trans ?_) rfl
    rw [Dev.taken_chainsOfSets]
  case none => exact Dev.command_answer h (mxApplyBody_none _ hwhen (by rwa [Dev.taken_chainsOfSets])) rfl
  case arm => exact Dev.command_answer h (if_neg hwhen) rfl
  case read =>
    refine Dev.command_answer h rfl ?_
    simp only [Dev.taken_xset, Dev.taken_rmod, Dev.taken_lockedBeside]
    rfl
  case wear =>
    refine Dev.command_answer h rfl ?_
    rw [Dev.taken_xset, Dev.taken_rmod]
    rfl
  case lock => exact Dev.command_answer h rfl rfl
  case back => exact Dev.command_goesOn h (if_pos hact) rfl
  case rediscovery =>
    obtain ⟨t, hexec, hmem, hchain⟩ := exec_mxChainCtl_rediscovery h hact
    have hwaits := Dev.chainAsked_waits (d := s.dev.taken q) (k := u8 (s.dev.job 0x0B08 q).p 0) (id := (s.dev.job 0x0B08 q).id)
    have hbegins := Dev.chainAsked_begins (d := s.dev.taken q) (k := u8 (s.dev.job 0x0B08 q).p 0) (id := (s.dev.job 0x0B08 q).id)
    rw [← hchain, Dev.taken_chain] at hwaits hbegins
    refine ⟨t, hexec, hmem, ?_, fun h => ?_, fun hupdate hback => ?_⟩
    · rw [hchain, Dev.chainAsked_discCmd]
    · rw [hwaits h]
      exact ⟨rfl, rfl, rfl⟩
    · rw [hbegins hupdate hback]
      exact ⟨rfl, fun m hm => by obtain ⟨m0, -, rfl⟩ := List.mem_map.1 hm; rfl⟩

end

section
/-! What the parts of the switch-matrix controller leave unchanged (spec/16_matrix.md). -/

namespace Sys2Proof.Machine

theorem mem_bitsSet {v n i : Nat} : i ∈ bitsSet v n ↔ i < n ∧ v.testBit i = true := by
  rw [bitsSet, List.mem_filter, List.mem_range]

theorem bitsSet_nodup (v n : Nat) : (bitsSet v n).Nodup := List.nodup_range.filter _

/-! ### One module changed -/

section
variable (d : Dev) (k pos : Nat) (g : RelayMod → RelayMod)

theorem Dev.modRmod_chain : (d.modRmod k pos g).chain k =
    { d.chain k with mods := (d.chain k).mods.set pos (g (d.rmod k pos)) } := Dev.modChain_same ..

theorem Dev.modRmod_length : ((d.modRmod k pos g).chain k).mods.length = (d.chain k).mods.length := by
  rw [Dev.modRmod_chain]
  exact List.length_set ..

theorem Dev.modRmod_same (h : pos < (d.chain k).mods.length) : (d.modRmod k pos g).rmod k pos = g (d.rmod k pos) := by
  rw [Dev.rmod, Dev.modRmod_chain, List.getD_eq_getElem?_getD, List.getElem?_set_self h]
  rfl

theorem Dev.modRmod_other {i : Nat} (h : i ≠ pos) : (d.modRmod k pos g).rmod k i = d.rmod k i := by
  rw [Dev.rmod, Dev.modRmod_chain, List.getD_eq_getElem?_getD, List.getElem?_set_ne h.symm, ← List.getD_eq_getElem?_getD]
  rfl

/-- Beyond the chain's modules there is none. -/
theorem Dev.rmod_beyond {d : Dev} (h : (d.chain k).mods.length ≤ pos) : d.rmod k pos = relayNone := by
  rw [Dev.rmod, List.getD_eq_getElem?_getD, List.getElem?_eq_none h]
  rfl

end

theorem Dev.mem_positions {d : Dev} {k pos : Nat} : pos ∈ d.positions k ↔ pos < (d.chain k).mods.length := List.mem_range

/-! ### The frame of a chain -/

/-- `b` differs from `a` on chain `k` only in what `f` forgets of its modules; the clock and the chain's other fields agree. -/
structure SameMods {β : Type} (f : RelayMod → β) (k : Nat) (a b : Dev) : Prop where
  now : b.now = a.now
  rest : ({ b.chain k with mods := [] } : Chain) = { a.chain k with mods := [] }
  length : (b.chain k).mods.length = (a.chain k).mods.length
  mods : ∀ pos, f (b.rmod k pos) = f (a.rmod k pos)

namespace SameMods

variable {β : Type} {f : RelayMod → β} {k : Nat} {a b c : Dev}

theorem refl (a : Dev) : SameMods f k a a := ⟨rfl, rfl, rfl, fun _ => rfl⟩

theorem trans (h : SameMods f k a b) (h2 : SameMods f k b c) : SameMods f k a c :=
  ⟨h2.now.trans h.now, h2.rest.trans h.rest, h2.length.trans h.length, fun pos => (h2.mods pos).trans (h.mods pos)⟩

theorem of_mxChains (hnow : b.now = a.now) (h : b.mxChains = a.mxChains) : SameMods f k a b := by
  have hchain : b.chain k = a.chain k := congrArg (fun l => tblGet chainInit l k) h
  exact ⟨hnow, by rw [hchain], by rw [hchain], fun pos => by rw [Dev.rmod, hchain]; rfl⟩

theorem modRmod {g : RelayMod → RelayMod} (d : Dev) (pos : Nat) (hg : f (g (d.rmod k pos)) = f (d.rmod k pos)) :
    SameMods f k d (d.modRmod k pos g) := by
  refine ⟨rfl, by rw [Dev.modRmod_chain], Dev.modRmod_length .., fun i => ?_⟩
  by_cases hi : i = pos
  · subst hi
    rcases Nat.lt_or_ge i (d.chain k).mods.length with hlt | hge
    · rw [Dev.modRmod_same _ _ _ _ hlt, hg]
    · rw [Dev.rmod_beyond _ _ hge, Dev.rmod_beyond _ _ ((Dev.modRmod_length ..).trans_le hge)]
  · rw [Dev.modRmod_other _ _ _ _ hi]

theorem foldl {α : Type} {step : Dev → α → Dev} (h : ∀ e x, SameMods f k e (step e x)) (l : List α) (d : Dev) :
    SameMods f k d (l.foldl step d) := by
  induction l generalizing d with
  | nil => exact refl d
  | cons x r ih => exact (h d x).trans (ih (step d x))

theorem forAll {step : Dev → Nat → Dev} (h : ∀ e x, SameMods f k e (step e x)) (l : List Nat) (d : Dev) :
    SameMods f k d (d.forAll l step) := foldl h l d

theorem update (h : SameMods f k a b) : (b.chain k).update = (a.chain k).update := (congrArg Chain.update h.rest :)
theorem retried (h : SameMods f k a b) : (b.chain k).retried = (a.chain k).retried := (congrArg Chain.retried h.rest :)
theorem state (h : SameMods f k a b) : (b.chain k).state = (a.chain k).state := (congrArg Chain.state h.rest :)
theorem discCmd (h : SameMods f k a b) : (b.chain k).discCmd = (a.chain k).discCmd := (congrArg Chain.discCmd h.rest :)

end SameMods

/-! ### Wear and darning (R507 to R509) -/

section
variable (d : Dev) (k pos i : Nat) (retired : Bool)

@[simp] theorem Dev.wearNote_now : (d.wearNote k pos i retired).now = d.now :=
  (Dev.forAll_keeps Dev.now (fun _ _ => Dev.irq_now ..)).trans ((Dev.freeNext_now ..).trans (Dev.logIt_now ..))

@[simp] theorem Dev.wearNote_mxChains : (d.wearNote k pos i retired).mxChains = d.mxChains :=
  (Dev.forAll_keeps Dev.mxChains (fun _ _ => Dev.irq_mxChains ..)).trans
    ((Dev.freeNext_mxChains ..).trans (Dev.logIt_mxChains ..))

theorem SameMods.wearNote {β : Type} {f : RelayMod → β} : SameMods f k d (d.wearNote k pos i retired) :=
  .of_mxChains (Dev.wearNote_now ..) (Dev.wearNote_mxChains ..)

end

/-- What the darning of a module's worn crosspoints leaves as it is: all but its darn records under way, its retired
crosspoints and the writes that wait. -/
def RelayMod.darnless (m : RelayMod) : RelayMod := { m with darning := [], retired := 0, writes := [] }

section
variable (d : Dev) (k pos i : Nat)

theorem Dev.retire_darnless : SameMods RelayMod.darnless k d (d.retire k pos i) :=
  (SameMods.modRmod d pos rfl).trans (SameMods.wearNote ..)

theorem Dev.wornOpen_darnless : SameMods RelayMod.darnless k d (d.wornOpen k pos i) := by
  unfold Dev.wornOpen
  dsimp only
  split
  · exact SameMods.modRmod d pos rfl
  · exact Dev.retire_darnless ..

theorem Dev.wornScan_darnless : SameMods RelayMod.darnless k d (d.wornScan k pos) :=
  SameMods.forAll (fun e i => e.wornOpen_darnless k pos i) _ d

end

/-- What a make latch's operations leave of a module: all but its counts and its WARN bits. -/
def RelayMod.wearless (m : RelayMod) : RelayMod := { m with wear := [], warn := 0 }
/-- What WARN leaves of a module. -/
def RelayMod.warnless (m : RelayMod) : RelayMod := { m with warn := 0 }
/-- What a latch leaves of a module. -/
def RelayMod.driveless (m : RelayMod) : RelayMod := { m with drive := 0 }

section
variable (d : Dev) (k pos p : Nat)

/-- The operation that `wearUp` counts, before its WARN. -/
def Dev.worn1 (d : Dev) (k pos p : Nat) : Dev :=
  d.modRmod k pos (fun m => { m with wear := tblSet (fun _ => 0) m.wear p (sat32n ((d.rmod k pos).ops p + 1)) })

/-- A make counts its operation; what may follow only sets WARN and notes it. -/
theorem Dev.wearUp_counts : SameMods RelayMod.warnless k (d.worn1 k pos p) (d.wearUp k pos p) := by
  unfold Dev.wearUp
  extract_lets m n s1
  split
  · exact (SameMods.modRmod s1 pos rfl).trans (SameMods.wearNote ..)
  · exact SameMods.refl _

theorem Dev.wearUp_wearless : SameMods RelayMod.wearless k d (d.wearUp k pos p) := by
  have hcounts := d.wearUp_counts k pos p
  have hworn : SameMods RelayMod.wearless k d (d.worn1 k pos p) := SameMods.modRmod d pos rfl
  exact hworn.trans ⟨hcounts.now, hcounts.rest, hcounts.length, fun i => (congrArg RelayMod.wearless (hcounts.mods i) :)⟩

theorem Dev.wearUp_ops (h : pos < (d.chain k).mods.length) (i q : Nat) : ((d.wearUp k pos p).rmod k i).ops q =
    if i = pos ∧ q = p then sat32n ((d.rmod k i).ops q + 1) else (d.rmod k i).ops q := by
  have hcounts : ((d.wearUp k pos p).rmod k i).ops q = ((d.worn1 k pos p).rmod k i).ops q :=
    (congrArg (fun m : RelayMod => m.ops q) ((d.wearUp_counts k pos p).mods i) :)
  rw [hcounts]
  by_cases hi : i = pos
  · subst hi
    rw [Dev.worn1, Dev.modRmod_same _ _ _ _ h]
    by_cases hq : q = p
    · subst hq
      rw [if_pos ⟨rfl, rfl⟩]
      exact tblGet_set_same ..
    · rw [if_neg (fun h => hq h.2)]
      exact tblGet_set_other _ _ _ hq
  · rw [if_neg (fun h => hi h.1), Dev.worn1, Dev.modRmod_other _ _ _ _ hi]

end

/-- Each crosspoint that closes counts one operation. -/
theorem Dev.wearUps_ops {k : Nat} {l : List (Nat × Nat)} (hnodup : l.Nodup) {d : Dev} (hl : ∀ x ∈ l, x.1 < (d.chain k).mods.length)
    (i q : Nat) : ((l.foldl (fun s (x : Nat × Nat) => s.wearUp k x.1 x.2) d).rmod k i).ops q =
      if (i, q) ∈ l then sat32n ((d.rmod k i).ops q + 1) else (d.rmod k i).ops q := by
  induction l generalizing d with
  | nil => rfl
  | cons x r ih =>
    obtain ⟨hx, hr⟩ := List.nodup_cons.1 hnodup
    have hlength := (d.wearUp_wearless k x.1 x.2).length
    refine (ih hr (fun y hy => (hl y (List.mem_cons_of_mem x hy)).trans_eq hlength.symm)).trans ?_
    rw [Dev.wearUp_ops _ _ _ _ (hl x List.mem_cons_self)]
    by_cases heq : (i, q) = x
    · subst heq
      rw [if_neg hx, if_pos ⟨rfl, rfl⟩, if_pos List.mem_cons_self]
    · have hne : ¬(i = x.1 ∧ q = x.2) := fun h => heq (Prod.ext h.1 h.2)
      have hmem : ((i, q) ∈ x :: r) = ((i, q) ∈ r) := by rw [List.mem_cons, eq_false heq, false_or]
      rw [if_neg hne]
      simp only [hmem]

/-! ### What the frames keep of a module -/

section
variable {k : Nat} {a b : Dev} (pos : Nat)

theorem SameMods.darnless_drive (h : SameMods RelayMod.darnless k a b) : (b.rmod k pos).drive = (a.rmod k pos).drive :=
  (congrArg RelayMod.drive (h.mods pos) :)
theorem SameMods.darnless_wear (h : SameMods RelayMod.darnless k a b) : (b.rmod k pos).wear = (a.rmod k pos).wear :=
  (congrArg RelayMod.wear (h.mods pos) :)
theorem SameMods.wearless_drive (h : SameMods RelayMod.wearless k a b) : (b.rmod k pos).drive = (a.rmod k pos).drive :=
  (congrArg RelayMod.drive (h.mods pos) :)
theorem SameMods.driveless_wear (h : SameMods RelayMod.driveless k a b) : (b.rmod k pos).wear = (a.rmod k pos).wear :=
  (congrArg RelayMod.wear (h.mods pos) :)

end

/-! ### Latches (R502) -/

section
variable (d : Dev) (k : Nat) (img : List Nat)

theorem Dev.latchImage_driveless : SameMods RelayMod.driveless k d (d.latchImage k img) :=
  SameMods.forAll (fun e pos => SameMods.modRmod e pos rfl) _ d

theorem Dev.latchImage_drive {pos : Nat} (h : pos < (d.chain k).mods.length) :
    ((d.latchImage k img).rmod k pos).drive = img.getD pos 0 := by
  refine Dev.forAll_reaches (I := fun e => (e.chain k).mods.length = (d.chain k).mods.length)
    (P := fun e => (e.rmod k pos).drive = img.getD pos 0) (Dev.mem_positions.2 h)
    (fun e x _ he => (Dev.modRmod_length ..).trans he) (fun e he => ?_) (fun e x _ he hset => ?_) rfl
  · rw [Dev.modRmod_same _ _ _ _ (h.trans_eq he.symm)]
  · by_cases hx : pos = x
    · subst hx
      rw [Dev.modRmod_same _ _ _ _ (h.trans_eq he.symm)]
    · rw [Dev.modRmod_other _ _ _ _ hx, hset]

theorem Dev.modUpdate_chain (u : Update) : (d.modUpdate k u).chain k = { d.chain k with update := some u } := Dev.modChain_same ..

end

/-! ### Ends of updates (R502, R504) -/

section
variable (d : Dev) (k : Nat)

theorem Dev.mxFinish_keeps {α : Type} (p : Dev → α) (hfinish : ∀ e id payload, p (Dev.finish e id stOk payload) = p e)
    (hdata : ∀ e id l, p (Dev.setData e id l) = p e) (ids : List Nat) : p (d.mxFinish k ids) = p d := by
  refine Dev.forAll_keeps p (fun e id => ?_)
  dsimp only
  split
  · rfl
  · exact ite_kept p (hfinish ..) (hdata ..)

@[simp] theorem Dev.mxFinish_now (ids : List Nat) : (d.mxFinish k ids).now = d.now :=
  d.mxFinish_keeps k Dev.now (fun _ _ _ => Dev.finish_now ..) (fun _ _ _ => rfl) ids
@[simp] theorem Dev.mxFinish_mxChains (ids : List Nat) : (d.mxFinish k ids).mxChains = d.mxChains :=
  d.mxFinish_keeps k Dev.mxChains (fun _ _ _ => Dev.finish_mxChains ..) (fun _ _ _ => rfl) ids
@[simp] theorem Dev.mxFinish_mxSets (ids : List Nat) : (d.mxFinish k ids).mxSets = d.mxSets :=
  d.mxFinish_keeps k Dev.mxSets (fun _ _ _ => Dev.finish_mxSets ..) (fun _ _ _ => rfl) ids

end

end Sys2Proof.Machine

end

section
/-! Updates of a relay chain: their start, their latches and their ends (spec/16_matrix.md, R501 to R505, R511, R512). -/

namespace Sys2Proof.Machine

/-! ### MX_APPLY_EVENT (R501, R512) -/

/-- The armed sets of a chain. -/
def Dev.armedSets (d : Dev) (k : Nat) : List Nat := (d.setsOn k).filter (fun q => (d.xset q).armed)

section
variable {d : Dev} {k : Nat}

theorem Dev.mxEvent_none (hedge : d.hasEdge (58 + k) = true) (hl : d.armedSets k = []) : d.mxEvent k = d.takeEdge (58 + k) := by
  refine (if_neg (by rw [hedge]; exact Bool.false_ne_true)).trans (if_pos ?_)
  exact List.isEmpty_iff.2 hl

theorem Dev.mxEvent_missed (hedge : d.hasEdge (58 + k) = true) (hl : d.armedSets k ≠ [])
    (hfull : (d.dueSets k).any (fun q => (d.xset q).byEdge) = true ∨ 16 ≤ (d.chain k).waiting) :
    d.mxEvent k = (d.takeEdge (58 + k)).setOverrun (58 + k) := by
  refine (if_neg (by rw [hedge]; exact Bool.false_ne_true)).trans ((if_neg (fun h => hl (List.isEmpty_iff.1 h))).trans (if_pos ?_))
  exact Bool.or_eq_true_iff.2 (hfull.imp id decide_eq_true)

/-- The armed sets fall due and an update is queued. -/
def Dev.mxDue (d : Dev) (k : Nat) : Dev :=
  (d.forAll (d.armedSets k) (fun s q => s.modSet q (fun x => { x with due := true, byEdge := true }))).modChain k
    (fun c => { c with queue := c.queue ++ [none] })

theorem Dev.mxEvent_due (hedge : d.hasEdge (58 + k) = true) (hl : d.armedSets k ≠ [])
    (hbyEdge : (d.dueSets k).any (fun q => (d.xset q).byEdge) = false) (hroom : (d.chain k).waiting < 16) :
    d.mxEvent k = (d.takeEdge (58 + k)).mxDue k := by
  refine (if_neg (by rw [hedge]; exact Bool.false_ne_true)).trans ((if_neg (fun h => hl (List.isEmpty_iff.1 h))).trans (if_neg ?_))
  intro h
  rcases Bool.or_eq_true_iff.1 h with h | h
  · exact absurd (hbyEdge.symm.trans h) Bool.false_ne_true
  · exact absurd (of_decide_eq_true h) (Nat.not_le.2 hroom)

theorem Dev.mxDue_fab (d : Dev) (k : Nat) : (d.mxDue k).fab = d.fab := Dev.forAll_keeps Dev.fab

theorem Dev.mxDue_queue (d : Dev) (k : Nat) : ((d.mxDue k).chain k).queue = (d.chain k).queue ++ [none] := by
  have hchains : (d.forAll (d.armedSets k) (fun s q => s.modSet q (fun x => { x with due := true, byEdge := true }))).mxChains
      = d.mxChains := Dev.forAll_keeps Dev.mxChains
  rw [Dev.mxDue, Dev.modChain_same]
  exact congrArg (fun l => (tblGet chainInit l k).queue ++ [none]) hchains

theorem Dev.mxDue_other {q : Nat} (h : q ∉ d.armedSets k) : (d.mxDue k).xset q = d.xset q :=
  Dev.forAll_induct (P := fun e => e.xset q = d.xset q)
    (fun e x hx he => by rw [Dev.modSet_get, if_neg (ne_of_mem_of_not_mem hx h).symm, he]) rfl

theorem Dev.mxDue_armed {q : Nat} (h : q ∈ d.armedSets k) :
    ((d.mxDue k).xset q).due = true ∧ ((d.mxDue k).xset q).byEdge = true ∧ ((d.mxDue k).xset q).armed = true := by
  refine Dev.forAll_reaches (I := fun e => (e.xset q).armed = true)
    (P := fun e => (e.xset q).due = true ∧ (e.xset q).byEdge = true ∧ (e.xset q).armed = true) h (fun e x _ he => ?_) (fun e he => ?_)
    (fun e x _ _ he => ?_) (List.mem_filter.1 h).2
  · rw [Dev.modSet_get]
    split
    · next heq => exact heq ▸ he
    · exact he
  · rw [Dev.modSet_same]
    exact ⟨rfl, rfl, he⟩
  · rw [Dev.modSet_get]
    split
    · next heq => exact ⟨rfl, rfl, heq ▸ he.2.2⟩
    · exact he

end

/-! ### The images of an update (R501 to R503, R511) -/

/-- The update that `mxGo` begins with. -/
def Dev.mxUpdate (d : Dev) (k : Nat) (per : List (RelayMod × Nat × Nat)) (cmds : List Nat) : Update :=
  let opens := per.filter (fun x => x.2.1 != x.1.drive)
  let shuts := per.filter (fun x => x.2.2 != x.2.1)
  { phase := if opens.isEmpty then .mk else .brk, brkImg := per.map (fun x => x.2.1), mkImg := per.map (fun x => x.2.2),
    tRelNs := opens.foldl (fun n x => max n x.1.tRelNs) 0, tOpNs := shuts.foldl (fun n x => max n x.1.tOpNs) 0,
    cmds := cmds, made := 0, due := d.now + (d.chain k).shiftPs + 500000 }

section
variable (d : Dev) (k : Nat) (per : List (RelayMod × Nat × Nat)) (cmds : List Nat)

/-- The chain after `mxGo`: as it was where nothing changes, else it updates. -/
theorem Dev.mxGo_chain :
    (d.mxGo k per cmds).chain k = d.chain k ∨
    ((per.filter (fun x => x.2.1 != x.1.drive) ≠ [] ∨ per.filter (fun x => x.2.2 != x.2.1) ≠ []) ∧
      (d.mxGo k per cmds).chain k = { d.chain k with state := .updating, update := some (d.mxUpdate k per cmds) }) := by
  unfold Dev.mxGo
  extract_lets opens shuts u
  by_cases h : (opens.isEmpty && shuts.isEmpty) = true
  · rw [if_pos h]
    exact .inl (congrArg (fun l => tblGet chainInit l k) ((Dev.pulse_mxChains ..).trans (Dev.mxFinish_mxChains ..)))
  · rw [if_neg h, Dev.modChain_same]
    refine .inr ⟨?_, rfl⟩
    by_contra hne
    obtain ⟨hopens, hshuts⟩ := not_or.1 hne
    exact h (Bool.and_eq_true_iff.2 ⟨List.isEmpty_iff.2 (Decidable.of_not_not hopens), List.isEmpty_iff.2 (Decidable.of_not_not hshuts)⟩)

theorem Dev.mxGo_mxSets : (d.mxGo k per cmds).mxSets = d.mxSets :=
  ite_kept Dev.mxSets ((Dev.pulse_mxSets ..).trans (Dev.mxFinish_mxSets ..)) rfl

theorem getD_map_range {n i : Nat} (h : i < n) (f : Nat → Nat) : ((List.range n).map f).getD i 0 = f i := by
  rw [List.getD_eq_getElem?_getD, List.getElem?_map, List.getElem?_range h]
  rfl

/-- The images of one position: what is driven now, after the break, and after the make. -/
def Dev.breakImg (d : Dev) (k pos opens : Nat) : Nat := andNot (d.rmod k pos).drive ((d.rmod k pos).physMap opens)

theorem Dev.breakImg_drive {pos opens p : Nat} (h : (d.breakImg k pos opens).testBit p = true) :
    (d.rmod k pos).drive.testBit p = true := by
  rw [Dev.breakImg, andNot_testBit] at h
  exact (Bool.and_eq_true_iff.1 h).1

theorem Dev.breakImg_opens {pos opens p : Nat} (h : ((d.rmod k pos).physMap opens).testBit p = true) :
    (d.breakImg k pos opens).testBit p = false := by
  rw [Dev.breakImg, andNot_testBit, h, Bool.not_true, Bool.and_false]

theorem Dev.mxMay_ready {d : Dev} {k : Nat} (h : d.mxMay k = true) : (d.chain k).state = .ready := by
  simp only [Dev.mxMay, Bool.and_eq_true, beq_iff_eq] at h
  exact h.1.1.1

end

/-! ### MX_UPDATE_START: the break-only update (R511) -/

section
variable {d : Dev} {k : Nat}

/-- The images of the break-only update. -/
def Dev.breakPer (d : Dev) (k : Nat) : List (RelayMod × Nat × Nat) :=
  (d.positions k).map (fun pos => (d.rmod k pos, d.breakImg k pos (tblGet (fun _ => 0) (d.chain k).opening pos),
    d.breakImg k pos (tblGet (fun _ => 0) (d.chain k).opening pos)))

theorem Dev.mxStart_break (hmay : d.mxMay k = true) (hopening : (d.chain k).opening ≠ []) :
    d.mxStart k = (d.modChain k (fun c => { c with opening := [] })).mxGo k (d.breakPer k) [] :=
  (if_neg (by rw [hmay]; exact Bool.false_ne_true)).trans (if_pos (by rw [Bool.not_eq_true', List.isEmpty_eq_false_iff]; exact hopening))

theorem Dev.breakPer_makes_nothing : (d.breakPer k).filter (fun x => x.2.2 != x.2.1) = [] := by
  refine List.filter_eq_nil_iff.2 (fun x hx => ?_)
  obtain ⟨pos, -, rfl⟩ := List.mem_map.1 hx
  simp

theorem Dev.breakPer_img {pos : Nat} (h : pos < (d.chain k).mods.length) :
    ((d.breakPer k).map (fun x => x.2.1)).getD pos 0 = d.breakImg k pos (tblGet (fun _ => 0) (d.chain k).opening pos) := by
  rw [Dev.breakPer, List.map_map]
  exact getD_map_range h _

theorem Dev.breakPer_only_breaks : (d.breakPer k).map (fun x => x.2.2) = (d.breakPer k).map (fun x => x.2.1) := by
  rw [Dev.breakPer, List.map_map, List.map_map]
  rfl

/-! ### MX_UPDATE_START: every target that is due (R501 to R503) -/

/-- The images of an update of the due targets. -/
def Dev.takePer (d : Dev) (k : Nat) : List (RelayMod × Nat × Nat) :=
  (d.positions k).map (fun pos => (d.rmod k pos, d.breakImg k pos (d.wanted k pos).1,
    d.breakImg k pos (d.wanted k pos).1 ||| (d.rmod k pos).physMap (d.wanted k pos).2.1))

/-- The due targets are taken: none is due any more. -/
def Dev.dueTaken (d : Dev) (k : Nat) : Dev :=
  d.forAll (d.dueSets k) (fun s q => s.modSet q (fun x =>
    { x with due := false, byEdge := false, lockSkip := sat32n (x.lockSkip + s.skipped k q) }))

/-- Crosspoints that two unlocked sets disagree about. -/
def Dev.clash (d : Dev) (k : Nat) : Nat := (d.positions k).foldl (fun n pos => n + (bitsSet (d.wanted k pos).2.2 512).length) 0

/-- The chain's queue is taken. -/
def Chain.taken (c : Chain) (clash : Nat) : Chain := { c with queue := [], conflicts := sat32n (c.conflicts + clash) }

theorem Dev.mxStart_take (hmay : d.mxMay k = true) (hopening : (d.chain k).opening = []) (hqueue : (d.chain k).queue ≠ [])
    (hworn : d.mxWorn k = []) :
    d.mxStart k = ((d.dueTaken k).modChain k (fun c => c.taken (d.clash k))).mxGo k (d.takePer k)
      ((d.chain k).queue.filterMap id) := by
  refine (if_neg (by rw [hmay]; exact Bool.false_ne_true)).trans ((if_neg ?_).trans ?_)
  · rw [Bool.not_eq_true', List.isEmpty_eq_false_iff]
    exact not_not_intro hopening
  · rw [hworn]
    refine if_neg (fun h => hqueue (List.isEmpty_iff.1 h))

theorem Dev.dueTaken_mxChains (d : Dev) (k : Nat) : (d.dueTaken k).mxChains = d.mxChains := Dev.forAll_keeps Dev.mxChains
theorem Dev.dueTaken_chain (d : Dev) (k i : Nat) : (d.dueTaken k).chain i = d.chain i :=
  congrArg (fun l => tblGet chainInit l i) (d.dueTaken_mxChains k)
theorem Dev.dueTaken_now (d : Dev) (k : Nat) : (d.dueTaken k).now = d.now := Dev.forAll_keeps Dev.now

theorem Dev.dueTaken_set {q : Nat} (h : q ∈ d.dueSets k) :
    ((d.dueTaken k).xset q).due = false ∧ ((d.dueTaken k).xset q).armed = (d.xset q).armed := by
  refine Dev.forAll_reaches (I := fun e => (e.xset q).armed = (d.xset q).armed)
    (P := fun e => (e.xset q).due = false ∧ (e.xset q).armed = (d.xset q).armed) h (fun e x _ he => ?_) (fun e he => ?_)
    (fun e x _ _ he => ?_) rfl
  · rw [Dev.modSet_get]
    split
    · next heq => exact heq ▸ he
    · exact he
  · rw [Dev.modSet_same]
    exact ⟨rfl, he⟩
  · rw [Dev.modSet_get]
    split
    · next heq => exact ⟨rfl, heq ▸ he.2⟩
    · exact he

theorem Dev.takePer_brk {pos : Nat} (h : pos < (d.chain k).mods.length) :
    ((d.takePer k).map (fun x => x.2.1)).getD pos 0 = d.breakImg k pos (d.wanted k pos).1 := by
  rw [Dev.takePer, List.map_map]
  exact getD_map_range h _

theorem Dev.takePer_mk {pos : Nat} (h : pos < (d.chain k).mods.length) : ((d.takePer k).map (fun x => x.2.2)).getD pos 0 =
    d.breakImg k pos (d.wanted k pos).1 ||| (d.rmod k pos).physMap (d.wanted k pos).2.1 := by
  rw [Dev.takePer, List.map_map]
  exact getD_map_range h _

end

/-! ### MX_ECHO_COMPARE of a good echo (R502) -/

section
variable {d : Dev} {k : Nat} {u : Update} {echo : List Nat}

/-- The compare's instant, with the echo good. -/
def Dev.echoGood (d : Dev) (k : Nat) (u : Update) : Dev := (d.advance u.due).modChain k (fun c => { c with retried := false })

theorem Dev.echoGood_chain (d : Dev) (k : Nat) (u : Update) : (d.echoGood k u).chain k = { d.chain k with retried := false } :=
  Dev.modChain_same ..

theorem Dev.echoGood_length (d : Dev) (k : Nat) (u : Update) :
    ((d.echoGood k u).chain k).mods.length = (d.chain k).mods.length := by rw [Dev.echoGood_chain]

theorem Dev.echoGood_now (d : Dev) (k : Nat) (u : Update) : (d.echoGood k u).now = max d.now u.due := rfl

theorem Dev.echoGood_rmod (d : Dev) (k : Nat) (u : Update) (pos : Nat) : (d.echoGood k u).rmod k pos = d.rmod k pos := by
  rw [Dev.rmod, Dev.echoGood_chain]
  rfl

/-- The break image latches and settles; worn crosspoints that are open now are replaced. -/
def Dev.breakLatch (e : Dev) (k : Nat) (u : Update) : Dev :=
  let s3 := (e.latchImage k u.brkImg).modUpdate k { u with phase := .settle, due := e.now + u.tRelNs * 1000 }
  s3.forAll (s3.positions k) (fun s pos => s.wornScan k pos)

/-- The crosspoints that the make image closes. -/
def Dev.closing (e : Dev) (k : Nat) (img : List Nat) : List (Nat × Nat) :=
  (e.positions k).flatMap (fun pos => (bitsSet (andNot (img.getD pos 0) (e.rmod k pos).drive) 512).map (fun p => (pos, p)))

/-- The make image latches; each crosspoint that closes counts one operation. -/
def Dev.makeLatch (e : Dev) (k : Nat) (u : Update) : Dev :=
  ((e.closing k u.mkImg).foldl (fun s (x : Nat × Nat) => s.wearUp k x.1 x.2) (e.latchImage k u.mkImg)).modUpdate k
    { u with phase := .confirm, made := e.now, due := e.now + (e.chain k).shiftPs + 1400000 }

/-- The confirmed make waits for its operate time. -/
def Dev.confirmLatch (e : Dev) (k : Nat) (u : Update) : Dev :=
  e.modUpdate k { u with phase := .operate, due := max e.now (u.made + u.tOpNs * 1000) }

/-- The latch, or the wait, that follows a good echo. -/
def Dev.goodLatch (e : Dev) (k : Nat) (u : Update) : Dev :=
  match u.phase with
  | .brk => e.breakLatch k u
  | .mk => e.makeLatch k u
  | _ => e.confirmLatch k u

theorem Dev.goodLatch_brk (e : Dev) (k : Nat) (h : u.phase = .brk) : e.goodLatch k u = e.breakLatch k u := by
  rw [Dev.goodLatch, h]

theorem Dev.goodLatch_mk (e : Dev) (k : Nat) (h : u.phase = .mk) : e.goodLatch k u = e.makeLatch k u := by
  rw [Dev.goodLatch, h]

theorem Dev.goodLatch_confirm (e : Dev) (k : Nat) (h : u.phase = .confirm) : e.goodLatch k u = e.confirmLatch k u := by
  rw [Dev.goodLatch, h]

/-- A compare has the phases that shift an image. -/
def UpdPhase.compares (p : UpdPhase) : Prop := p ≠ .settle ∧ p ≠ .operate

theorem UpdPhase.compares_iff {p : UpdPhase} : p.compares ↔ (p == .settle || p == .operate) = false := by
  cases p <;> simp [UpdPhase.compares]

theorem Dev.mxEcho_good (hupdate : (d.chain k).update = some u) (hecho : (d.chain k).echoBad echo = none)
    (hphase : u.phase.compares) : d.mxEcho k echo = (d.echoGood k u).goodLatch k u := by
  have hadvance : ((d.advance u.due).chain k).echoBad echo = none := hecho
  unfold Dev.mxEcho
  rw [hupdate]
  dsimp only
  rw [UpdPhase.compares_iff.1 hphase, if_neg Bool.false_ne_true, hadvance]
  rfl

theorem Dev.mxEcho_bad {p : Nat} (hupdate : (d.chain k).update = some u) (hecho : (d.chain k).echoBad echo = some p)
    (hphase : u.phase.compares) : d.mxEcho k echo = (d.advance u.due).mxMismatch k p := by
  have hadvance : ((d.advance u.due).chain k).echoBad echo = some p := hecho
  unfold Dev.mxEcho
  rw [hupdate]
  dsimp only
  rw [UpdPhase.compares_iff.1 hphase, if_neg Bool.false_ne_true, hadvance]

section
variable (e : Dev) (k : Nat) (u : Update)

theorem Dev.breakLatch_darnless : SameMods RelayMod.darnless k
    ((e.latchImage k u.brkImg).modUpdate k { u with phase := .settle, due := e.now + u.tRelNs * 1000 }) (e.breakLatch k u) :=
  SameMods.forAll (fun d pos => d.wornScan_darnless k pos) _ _

theorem Dev.modUpdate_rmod (i : Nat) : (e.modUpdate k u).rmod k i = e.rmod k i := by
  rw [Dev.rmod, Dev.modUpdate_chain]
  rfl

theorem Dev.breakLatch_now : (e.breakLatch k u).now = e.now :=
  (e.breakLatch_darnless k u).now.trans (e.latchImage_driveless k u.brkImg).now

theorem Dev.breakLatch_update :
    ((e.breakLatch k u).chain k).update = some { u with phase := .settle, due := e.now + u.tRelNs * 1000 } := by
  rw [(e.breakLatch_darnless k u).update, Dev.modUpdate_chain]

theorem Dev.breakLatch_retried : ((e.breakLatch k u).chain k).retried = (e.chain k).retried := by
  rw [(e.breakLatch_darnless k u).retried, Dev.modUpdate_chain]
  exact (e.latchImage_driveless k u.brkImg).retried

theorem Dev.breakLatch_rmod {pos : Nat} (h : pos < (e.chain k).mods.length) :
    ((e.breakLatch k u).rmod k pos).drive = u.brkImg.getD pos 0 ∧ ((e.breakLatch k u).rmod k pos).wear = (e.rmod k pos).wear := by
  have hdarn := e.breakLatch_darnless k u
  rw [hdarn.darnless_drive, hdarn.darnless_wear, Dev.modUpdate_rmod]
  exact ⟨e.latchImage_drive k u.brkImg h, (e.latchImage_driveless k u.brkImg).driveless_wear pos⟩

theorem Dev.mem_closing {img : List Nat} {pos p : Nat} : (pos, p) ∈ e.closing k img ↔
    pos < (e.chain k).mods.length ∧ p < 512 ∧ ((img.getD pos 0).testBit p && !(e.rmod k pos).drive.testBit p) = true := by
  rw [Dev.closing, List.mem_flatMap]
  constructor
  · rintro ⟨i, hi, hp⟩
    obtain ⟨j, hj, heq⟩ := List.mem_map.1 hp
    obtain ⟨rfl, rfl⟩ := Prod.mk.inj heq
    exact ⟨Dev.mem_positions.1 hi, by rwa [mem_bitsSet, andNot_testBit] at hj⟩
  · rintro ⟨hpos, hp⟩
    refine ⟨pos, Dev.mem_positions.2 hpos, List.mem_map.2 ⟨p, ?_, rfl⟩⟩
    rwa [mem_bitsSet, andNot_testBit]

theorem Dev.closing_nodup (img : List Nat) : (e.closing k img).Nodup := by
  refine List.nodup_flatMap.2 ⟨fun pos _ => (bitsSet_nodup _ _).map (fun a b h => congrArg Prod.snd h), ?_⟩
  refine List.nodup_range.imp (fun {a b} hne x hxa hxb => ?_)
  obtain ⟨p, -, rfl⟩ := List.mem_map.1 hxa
  obtain ⟨p', -, heq⟩ := List.mem_map.1 hxb
  exact hne (congrArg Prod.fst heq).symm

theorem Dev.makeLatch_wearless : SameMods RelayMod.wearless k (e.latchImage k u.mkImg)
    ((e.closing k u.mkImg).foldl (fun s (x : Nat × Nat) => s.wearUp k x.1 x.2) (e.latchImage k u.mkImg)) :=
  SameMods.foldl (fun d (x : Nat × Nat) => d.wearUp_wearless k x.1 x.2) _ _

theorem Dev.makeLatch_now : (e.makeLatch k u).now = e.now :=
  (e.makeLatch_wearless k u).now.trans (e.latchImage_driveless k u.mkImg).now

theorem Dev.makeLatch_update : ((e.makeLatch k u).chain k).update =
    some { u with phase := .confirm, made := (e.makeLatch k u).now, due := e.now + (e.chain k).shiftPs + 1400000 } := by
  rw [Dev.makeLatch_now, Dev.makeLatch, Dev.modUpdate_chain]

theorem Dev.makeLatch_drive {pos : Nat} (h : pos < (e.chain k).mods.length) :
    ((e.makeLatch k u).rmod k pos).drive = u.mkImg.getD pos 0 := by
  rw [Dev.makeLatch, Dev.modUpdate_rmod, (e.makeLatch_wearless k u).wearless_drive]
  exact e.latchImage_drive k u.mkImg h

theorem Dev.makeLatch_ops {pos : Nat} (h : pos < (e.chain k).mods.length) {p : Nat} (hp : p < 512) :
    ((e.makeLatch k u).rmod k pos).ops p =
      if (u.mkImg.getD pos 0).testBit p && !(e.rmod k pos).drive.testBit p then sat32n ((e.rmod k pos).ops p + 1)
      else (e.rmod k pos).ops p := by
  have hlatch := e.latchImage_driveless k u.mkImg
  have hops : ((e.latchImage k u.mkImg).rmod k pos).ops p = (e.rmod k pos).ops p :=
    congrArg (fun t => tblGet (fun _ => 0) t p) (hlatch.driveless_wear pos)
  rw [Dev.makeLatch, Dev.modUpdate_rmod, Dev.wearUps_ops (e.closing_nodup k u.mkImg)
    (fun x hx => (((e.mem_closing k).1 hx).1).trans_eq hlatch.length.symm), hops]
  refine if_congr ?_ rfl rfl
  rw [Dev.mem_closing]
  exact ⟨fun hmem => hmem.2.2, fun hbit => ⟨h, hp, hbit⟩⟩

end

/-! ### MX_DONE (R502) -/

/-- The chain is READY again, and what the update's commands wait for is done. -/
def Dev.updateOver (d : Dev) (k : Nat) (u : Update) : Dev :=
  (((d.advance u.due).modChain k (fun c => { c with state := .ready, update := none })).mxFinish k u.cmds).pulse (74 + k)

theorem Dev.updateOver_chain (d : Dev) (k : Nat) (u : Update) :
    (d.updateOver k u).chain k = { d.chain k with state := .ready, update := none } :=
  (congrArg (fun l => tblGet chainInit l k) ((Dev.pulse_mxChains ..).trans (Dev.mxFinish_mxChains ..))).trans (Dev.modChain_same ..)

theorem Dev.updateOver_now (d : Dev) (k : Nat) (u : Update) : (d.updateOver k u).now = max d.now u.due := by
  rw [Dev.updateOver, Dev.pulse_now, Dev.mxFinish_now]
  rfl

theorem Dev.mxDone_over (hupdate : (d.chain k).update = some u) (hphase : u.phase = .operate) (hdisc : (d.chain k).discCmd = none) :
    d.mxDone k = d.updateOver k u := by
  have hnone : ((d.updateOver k u).chain k).discCmd.isSome = false := by
    rw [Dev.updateOver_chain]
    exact Option.isSome_eq_false_iff.2 (Option.isNone_iff_eq_none.2 hdisc)
  unfold Dev.mxDone
  rw [hupdate]
  dsimp only
  rw [if_pos (by rw [hphase]; rfl)]
  exact if_neg (by rw [← Dev.updateOver, hnone]; exact Bool.false_ne_true)

/-! ### Mismatches and chain faults (R504) -/

/-- A mismatch counts and is logged. -/
def Dev.mismatched (d : Dev) (k pos : Nat) : Dev :=
  (d.modChain k (fun c => { c with echoErr := sat32n (c.echoErr + 1) })).logIt (kMxEcho k (d.chain k).retried)
    (pos % 65536 + bitAt (d.chain k).retried 16)

theorem Dev.mismatched_chain (d : Dev) (k pos : Nat) :
    (d.mismatched k pos).chain k = { d.chain k with echoErr := sat32n ((d.chain k).echoErr + 1) } :=
  (congrArg (fun l => tblGet chainInit l k) (Dev.logIt_mxChains ..)).trans (Dev.modChain_same ..)

/-- The latch is repeated after the first mismatch. -/
theorem Dev.mxMismatch_first (h : (d.chain k).retried = false) (pos : Nat) : (d.mxMismatch k pos).chain k =
    { d.chain k with
      echoErr := sat32n ((d.chain k).echoErr + 1), retried := true,
      update := (d.chain k).update.map (fun u => { u with due := d.now + (d.chain k).shiftPs + 1500000 }) } := by
  have hfirst : d.mxMismatch k pos = (d.mismatched k pos).modChain k (fun c =>
      { c with
        retried := true,
        update := c.update.map (fun u => { u with due := d.now + (d.chain k).shiftPs + 1500000 }) }) :=
    if_neg (by rw [h]; exact Bool.false_ne_true)
  rw [hfirst, Dev.modChain_same, Dev.mismatched_chain]

theorem Dev.mxMismatch_second (h : (d.chain k).retried = true) (pos : Nat) :
    d.mxMismatch k pos = (d.mismatched k pos).chainFault k := if_pos h

/-- A fault with no rediscovery asked for leaves the chain FAILED with every drive released. -/
theorem Dev.chainFault_chain (h : (d.chain k).discCmd = none) : (d.chainFault k).chain k =
    { d.chain k with
      state := .failed, reason := 3, update := none, queue := [], opening := [], retried := false, wbCmd := none, wbWant := false,
      wbFail := (d.chain k).wbFail || (d.chain k).wbCmd.isSome, mods := (d.chain k).mods.map (fun m => { m with drive := 0 }) } := by
  unfold Dev.chainFault
  extract_lets c ids s1 s2 s3
  have hdisc : c.discCmd.isSome = false := Option.isSome_eq_false_iff.2 (Option.isNone_iff_eq_none.2 h)
  rw [hdisc, if_neg Bool.false_ne_true]
  have hsets : s2.mxChains = s1.mxChains :=
    (Dev.forAll_keeps Dev.mxChains (fun _ _ => Dev.finish_mxChains ..)).trans (Dev.forAll_keeps Dev.mxChains)
  have hnotes : s3.mxChains = s2.mxChains :=
    (Dev.forAll_keeps Dev.mxChains (fun _ _ => Dev.irq_mxChains ..)).trans (Dev.finish?_mxChains ..)
  have hs1 : s3.chain k = s1.chain k := congrArg (fun l => tblGet chainInit l k) (hnotes.trans hsets)
  rw [hs1, Dev.modChain_same, Dev.releaseChain, Dev.modChain_same]

theorem Dev.mxMismatch_fault (hretried : (d.chain k).retried = true) (hdisc : (d.chain k).discCmd = none) (pos : Nat) :
    (d.mxMismatch k pos).chain k =
      { d.chain k with
        echoErr := sat32n ((d.chain k).echoErr + 1),
        state := .failed, reason := 3, update := none, queue := [], opening := [], retried := false, wbCmd := none, wbWant := false,
        wbFail := (d.chain k).wbFail || (d.chain k).wbCmd.isSome, mods := (d.chain k).mods.map (fun m => { m with drive := 0 }) } := by
  rw [Dev.mxMismatch_second hretried, Dev.chainFault_chain (by rw [Dev.mismatched_chain]; exact hdisc), Dev.mismatched_chain]

end

end Sys2Proof.Machine

end

section
/-! Updates of a relay chain, row by row (spec/16_matrix.md, R501 to R505, R511, R512). -/

namespace Sys2Proof.Machine

section
variable {k : ChainId} {s : State} {u : Update} {echo : List Nat}

theorem exec_mxApplyEvent_due (hedge : s.dev.hasEdge (58 + k.val) = true) (hl : s.dev.armedSets k.val ≠ [])
    (hbyEdge : (s.dev.dueSets k.val).any (fun q => (s.dev.xset q).byEdge) = false) (hroom : (s.dev.chain k.val).waiting < 16) :
    ∃ t : State, exec (.mxApplyEvent k) s = .next t ∧ t.mem = s.mem ∧ t.dev.fab.edges = (s.dev.takeEdge (58 + k.val)).fab.edges ∧
      (t.dev.chain k.val).queue = (s.dev.chain k.val).queue ++ [none] ∧
      (∀ q ∈ s.dev.armedSets k.val, (t.dev.xset q).due = true ∧ (t.dev.xset q).byEdge = true ∧ (t.dev.xset q).armed = true) ∧
      ∀ q : Nat, q ∉ s.dev.armedSets k.val → t.dev.xset q = s.dev.xset q := by
  refine ⟨_, rfl, rfl, ?_⟩
  rw [State.on_dev, Dev.mxEvent_due hedge hl hbyEdge hroom]
  exact ⟨congrArg Fabric.edges (Dev.mxDue_fab ..), Dev.mxDue_queue .., fun q hq => Dev.mxDue_armed hq, fun q hq => Dev.mxDue_other hq⟩

theorem exec_mxUpdateStart_break (hmay : s.dev.mxMay k.val = true) (hopening : (s.dev.chain k.val).opening ≠ []) :
    ∃ t : State, exec (.mxUpdateStart k) s = .next t ∧ t.mem = s.mem ∧ t.dev.mxSets = s.dev.mxSets ∧
      (t.dev.chain k.val = { s.dev.chain k.val with opening := [] } ∨
        (s.dev.breakPer k.val).filter (fun x => x.2.1 != x.1.drive) ≠ [] ∧
        t.dev.chain k.val = { s.dev.chain k.val with
          opening := [], state := .updating, update := some (s.dev.mxUpdate k.val (s.dev.breakPer k.val) []) }) := by
  refine ⟨_, rfl, rfl, ?_⟩
  rw [State.on_dev, Dev.mxStart_break hmay hopening]
  refine ⟨Dev.mxGo_mxSets .., ?_⟩
  obtain hsame | ⟨hchanges, hupdate⟩ :=
    (s.dev.modChain k.val (fun c => { c with opening := [] })).mxGo_chain k.val (s.dev.breakPer k.val) []
  · exact .inl (hsame.trans (Dev.modChain_same ..))
  · refine .inr ⟨hchanges.resolve_right (not_not_intro Dev.breakPer_makes_nothing), hupdate.trans ?_⟩
    unfold Dev.mxUpdate
    rw [Dev.modChain_same]
    rfl

theorem exec_mxUpdateStart_take (hmay : s.dev.mxMay k.val = true) (hopening : (s.dev.chain k.val).opening = [])
    (hqueue : (s.dev.chain k.val).queue ≠ []) (hworn : s.dev.mxWorn k.val = []) :
    ∃ t : State, exec (.mxUpdateStart k) s = .next t ∧ t.mem = s.mem ∧ t.dev.mxSets = (s.dev.dueTaken k.val).mxSets ∧
      (t.dev.chain k.val = (s.dev.chain k.val).taken (s.dev.clash k.val) ∨
        t.dev.chain k.val = { (s.dev.chain k.val).taken (s.dev.clash k.val) with
          state := .updating,
          update := some (s.dev.mxUpdate k.val (s.dev.takePer k.val) ((s.dev.chain k.val).queue.filterMap id)) }) := by
  refine ⟨_, rfl, rfl, ?_⟩
  rw [State.on_dev, Dev.mxStart_take hmay hopening hqueue hworn]
  refine ⟨Dev.mxGo_mxSets .., ?_⟩
  obtain hsame | ⟨-, hupdate⟩ :=
    ((s.dev.dueTaken k.val).modChain k.val (fun c => c.taken (s.dev.clash k.val))).mxGo_chain k.val (s.dev.takePer k.val)
      ((s.dev.chain k.val).queue.filterMap id)
  · exact .inl (hsame.trans ((Dev.modChain_same ..).trans (by rw [Dev.dueTaken_chain])))
  · refine .inr (hupdate.trans ?_)
    unfold Dev.mxUpdate
    rw [Dev.modChain_same, Dev.dueTaken_chain, Dev.modChain_now, Dev.dueTaken_now]
    rfl

end

end Sys2Proof.Machine

open Sys2Proof.Machine

/-- Settles O53: the images of an update by position, and a frame of the chain for each step. -/
theorem matrixUpdates : Obligations.MatrixUpdates := by
  refine ⟨fun k s hedge => ⟨fun hl => congrArg Host.Outcome.next (State.on_congr (Dev.mxEvent_none hedge hl)),
      fun hl hfull => congrArg Host.Outcome.next (State.on_congr (Dev.mxEvent_missed hedge hl hfull)),
      fun hl hbyEdge hroom => exec_mxApplyEvent_due hedge hl hbyEdge hroom⟩,
    fun k s hmay hopening => ?opening,
    fun k s hmay hopening hqueue hworn => ?take,
    fun k echo s u hupdate hecho => ⟨fun hphase => ?brk,
      fun hphase => congrArg Host.Outcome.next (State.on_congr ?settle), fun hphase => ?mk,
      fun hphase => congrArg Host.Outcome.next (State.on_congr ?confirm), fun hphase hdisc => ?done⟩,
    fun k echo s u p hupdate hecho hsettle hoperate => ⟨fun hretried => ?first, fun hretried hdisc => ?second⟩,
    fun k echo s hready => ⟨fun hecho => congrArg Host.Outcome.next (State.on_congr ?good), fun p hecho hretried hdisc => ?bad⟩⟩
  case opening =>
    obtain ⟨t, hexec, hmem, hsets, hchain⟩ := exec_mxUpdateStart_break hmay hopening
    obtain hsame | ⟨hopens, hchain⟩ := hchain
    · refine ⟨t, hexec, hmem, hsets, ?_⟩
      rw [hsame]
      exact ⟨rfl, rfl, rfl, .inl (Dev.mxMay_ready hmay)⟩
    · refine ⟨t, hexec, hmem, hsets, ?_⟩
      rw [hchain]
      refine ⟨rfl, rfl, rfl, .inr ⟨_, rfl, rfl, if_neg (fun h => hopens (List.isEmpty_iff.1 h)), rfl, rfl,
        Dev.breakPer_only_breaks, fun pos hpos p => ?_⟩⟩
      rw [Dev.mxUpdate, Dev.breakPer_img hpos]
      exact ⟨Dev.breakImg_drive _ _, Dev.breakImg_opens _ _⟩
  case take =>
    obtain ⟨t, hexec, hmem, hsets, hchain⟩ := exec_mxUpdateStart_take hmay hopening hqueue hworn
    have hdue : ∀ q ∈ s.dev.dueSets k.val, (t.dev.xset q).due = false ∧ (t.dev.xset q).armed = (s.dev.xset q).armed := fun q hq => by
      have hxset : t.dev.xset q = (s.dev.dueTaken k.val).xset q := congrArg (fun l => tblGet xsetInit l q) hsets
      rw [hxset]
      exact Dev.dueTaken_set hq
    refine ⟨t, hexec, hmem, ?_⟩
    obtain hchain | hchain := hchain
    · rw [hchain]
      exact ⟨rfl, hopening, rfl, hdue, .inl (Dev.mxMay_ready hmay)⟩
    · rw [hchain]
      refine ⟨rfl, hopening, rfl, hdue, .inr ⟨_, rfl, rfl, rfl, rfl, ?_, fun pos hpos p => ?_⟩⟩
      · rw [Dev.mxUpdate]
        exact (ite_eq_or_eq ..).symm
      · rw [Dev.mxUpdate, Dev.takePer_brk hpos, Dev.takePer_mk hpos, Nat.testBit_or, Bool.or_eq_true]
        exact ⟨Dev.breakImg_drive _ _, .inl, Or.imp_left (Dev.breakImg_drive _ _), Dev.breakImg_opens _ _⟩
  case brk =>
    have hgood := Dev.mxEcho_good hupdate hecho (by rw [hphase]; exact ⟨nofun, nofun⟩)
    rw [Dev.goodLatch_brk _ _ hphase] at hgood
    refine ⟨_, rfl, rfl, ?_⟩
    rw [State.on_dev, hgood]
    have hlen := s.dev.echoGood_length k.val u
    refine ⟨Dev.breakLatch_now .., ?_, ?_, fun pos hpos => ?_⟩
    · rw [Dev.breakLatch_update, Dev.breakLatch_now]
    · rw [Dev.breakLatch_retried, Dev.echoGood_chain]
    · rw [← Dev.echoGood_rmod s.dev k.val u]
      exact Dev.breakLatch_rmod _ _ _ (hpos.trans_eq hlen.symm)
  case settle =>
    unfold Dev.mxSettled
    rw [hupdate]
    exact if_pos (by rw [hphase]; rfl)
  case mk =>
    have hgood := Dev.mxEcho_good hupdate hecho (by rw [hphase]; exact ⟨nofun, nofun⟩)
    rw [Dev.goodLatch_mk _ _ hphase] at hgood
    refine ⟨_, rfl, rfl, ?_⟩
    rw [State.on_dev, hgood]
    have hlen := s.dev.echoGood_length k.val u
    refine ⟨Dev.makeLatch_now .., ⟨_, Dev.makeLatch_update ..⟩, fun pos hpos => ⟨Dev.makeLatch_drive _ _ _ (hpos.trans_eq hlen.symm), fun p hp => ?_⟩⟩
    rw [← Dev.echoGood_rmod s.dev k.val u]
    exact Dev.makeLatch_ops _ _ _ (hpos.trans_eq hlen.symm) hp
  case confirm =>
    refine (Dev.mxEcho_good hupdate hecho (by rw [hphase]; exact ⟨nofun, nofun⟩)).trans ?_
    exact Dev.goodLatch_confirm _ _ hphase
  case done =>
    refine ⟨_, rfl, rfl, ?_⟩
    rw [State.on_dev, Dev.mxDone_over hupdate hphase hdisc, Dev.updateOver_chain]
    exact ⟨Dev.updateOver_now .., rfl, rfl, rfl⟩
  case first =>
    refine ⟨_, rfl, rfl, ?_⟩
    have hchain := Dev.mxMismatch_first (d := s.dev.advance u.due) (k := k.val) hretried p
    rw [State.on_dev, Dev.mxEcho_bad hupdate hecho ⟨hsettle, hoperate⟩, hchain]
    exact ⟨rfl, rfl, rfl, congrArg (Option.map _) hupdate⟩
  case second =>
    refine ⟨_, rfl, rfl, ?_⟩
    have hchain := Dev.mxMismatch_fault (d := s.dev.advance u.due) (k := k.val) hretried hdisc p
    rw [State.on_dev, Dev.mxEcho_bad hupdate hecho ⟨hsettle, hoperate⟩, hchain]
    exact ⟨rfl, rfl, rfl, rfl, fun m hm => by obtain ⟨m0, -, rfl⟩ := List.mem_map.1 hm; rfl⟩
  case good =>
    unfold Dev.mxConfirm
    rw [hready, if_neg (by decide), hecho]
  case bad =>
    have hconfirm : s.dev.mxConfirm k.val echo = s.dev.mxMismatch k.val p := by
      unfold Dev.mxConfirm
      rw [hready, if_neg (by decide), hecho]
    refine ⟨_, rfl, rfl, ?_⟩
    rw [State.on_dev, hconfirm, Dev.mxMismatch_fault hretried hdisc]
    exact ⟨rfl, fun m hm => by obtain ⟨m0, -, rfl⟩ := List.mem_map.1 hm; rfl⟩

end

section
/-! Wear write-back, darn records and chain discovery (spec/16_matrix.md, R494, R500, R504, R507, R509, R520, R524, R525, R528). -/

namespace Sys2Proof.Machine

/-! ### WEAR_WRITEBACK (R507) -/

section
variable {d : Dev} {k : Nat} {res : List (List (W64 × W64))}

/-- The write-back of a module is good. -/
def Dev.backGood (d : Dev) (k : Nat) (res : List (List (W64 × W64))) (pos : Nat) : Bool := (d.rmod k pos).backOk (res.getD pos [])

/-- The write-back of every module is good. -/
def Dev.allGood (d : Dev) (k : Nat) (res : List (List (W64 × W64))) : Bool := (d.positions k).all (d.backGood k res)

theorem Dev.allGood_iff : d.allGood k res = true ↔ ∀ pos, pos < (d.chain k).mods.length → (d.rmod k pos).backOk (res.getD pos []) = true := by
  rw [Dev.allGood, List.all_eq_true]
  exact ⟨fun h pos hpos => h pos (Dev.mem_positions.2 hpos), fun h pos hpos => h pos (Dev.mem_positions.1 hpos)⟩

/-- The modules after a write-back: those whose part is good hold what they have to. -/
def Dev.modsBack (d : Dev) (k : Nat) (res : List (List (W64 × W64))) : List RelayMod :=
  (d.positions k).map (fun pos => if d.backGood k res pos then (d.rmod k pos).backed else d.rmod k pos)

theorem Dev.modsBack_all (h : d.allGood k res = true) : d.modsBack k res = (d.chain k).mods.map RelayMod.backed := by
  refine List.ext_getElem (by simp [Dev.modsBack, Dev.positions]) (fun pos hpos hpos' => ?_)
  have hlt : pos < (d.chain k).mods.length := by rwa [List.length_map] at hpos'
  have hgood := Dev.allGood_iff.1 h pos hlt
  rw [Dev.rmod, List.getD_eq_getElem?_getD, List.getElem?_eq_getElem hlt] at hgood
  simp only [Dev.modsBack, Dev.positions, List.getElem_map, List.getElem_range, Dev.backGood, Dev.rmod,
    List.getD_eq_getElem?_getD, List.getElem?_eq_getElem hlt, Option.getD_some]
  exact if_pos hgood

/-- The chain after a write-back. -/
def Dev.chainBack (d : Dev) (k : Nat) (res : List (List (W64 × W64))) (c : Chain) : Chain :=
  { c with
    wbFail := !d.allGood k res, lastWbNs := if d.allGood k res then d.timeNs else (d.chain k).lastWbNs, wbCmd := none,
    wbWant := false, mods := d.modsBack k res }

theorem Dev.mxBack_good (h : d.allGood k res = true) :
    d.mxBack k res = (d.modChain k (d.chainBack k res)).finish? (d.chain k).wbCmd stOk [] := if_pos h

/-- Whether the write-back was good or not, what follows it leaves its chain. -/
theorem Dev.mxBack_keeps {α : Type} (p : Dev → α) (hfinish : ∀ e id st, p (Dev.finish? e id st []) = p e)
    (hlog : ∀ e key info, p (Dev.logIt e key info) = p e) (hdata : ∀ e id, p (Dev.addData e id (-1)) = p e) :
    p (d.mxBack k res) = p (d.modChain k (d.chainBack k res)) := by
  unfold Dev.mxBack
  extract_lets c okAt good s1 s2
  have hs2 : p s2 = p s1 := (hfinish ..).trans (hlog ..)
  refine ite_kept (d := s1) p (hfinish ..) ?_
  split
  · exact (hdata ..).trans hs2
  · exact hs2

theorem Dev.mxBack_chain : (d.mxBack k res).chain k = d.chainBack k res (d.chain k) :=
  (congrArg (fun l => tblGet chainInit l k) (Dev.mxBack_keeps Dev.mxChains (fun _ _ _ => Dev.finish?_mxChains ..)
    (fun _ _ _ => Dev.logIt_mxChains ..) (fun _ _ => rfl))).trans (Dev.modChain_same ..)

theorem Dev.mxBack_now : (d.mxBack k res).now = d.now :=
  Dev.mxBack_keeps Dev.now (fun _ _ _ => Dev.finish?_now ..) (fun _ _ _ => Dev.logIt_now ..) (fun _ _ => rfl)

/-- The device at the write-back: one that nothing asked for comes at the end of its interval. -/
def Dev.backAt (d : Dev) (k : Nat) : Dev :=
  if (d.chain k).wbCmd.isSome || (d.chain k).wbWant then d
  else (d.advance (d.chain k).wbNext).modChain k
    (fun c => { c with wbNext := max d.now c.wbNext + d.sys.opt.wearWbMin * 60000000000000 })

theorem Dev.mxWriteback_down (h : (d.chain k).up = false) : d.mxWriteback k res = d := if_pos (by rw [h]; rfl)

theorem Dev.mxWriteback_up (h : (d.chain k).up = true) : d.mxWriteback k res =
    if (d.chain k).discCmd.isSome && (d.chain k).update.isNone then ((d.backAt k).mxBack k res).discBegin k
    else (d.backAt k).mxBack k res := if_neg (by rw [h]; exact Bool.false_ne_true)

theorem Dev.mxWriteback_alone (h : (d.chain k).up = true) (hdisc : (d.chain k).discCmd = none) :
    d.mxWriteback k res = (d.backAt k).mxBack k res := by
  rw [Dev.mxWriteback_up h, hdisc]
  exact if_neg Bool.false_ne_true

theorem Dev.mxWriteback_rediscovers (h : (d.chain k).up = true) (hdisc : (d.chain k).discCmd ≠ none)
    (hupdate : (d.chain k).update = none) : d.mxWriteback k res = ((d.backAt k).mxBack k res).discBegin k := by
  rw [Dev.mxWriteback_up h, hupdate, Option.isSome_iff_ne_none.2 hdisc]
  exact if_pos rfl

theorem Dev.backAt_asked (h : (d.chain k).wbCmd ≠ none ∨ (d.chain k).wbWant = true) : d.backAt k = d :=
  if_pos (Bool.or_eq_true_iff.2 (h.imp_left Option.isSome_iff_ne_none.2))

theorem Dev.backAt_interval (hcmd : (d.chain k).wbCmd = none) (hwant : (d.chain k).wbWant = false) :
    d.backAt k = (d.advance (d.chain k).wbNext).modChain k
      (fun c => { c with wbNext := max d.now c.wbNext + d.sys.opt.wearWbMin * 60000000000000 }) := by
  rw [Dev.backAt, hcmd, hwant]
  exact if_neg Bool.false_ne_true

/-- Only the chain's next interval moves. -/
theorem Dev.backAt_chain (d : Dev) (k : Nat) :
    (d.backAt k).chain k = { d.chain k with wbNext := ((d.backAt k).chain k).wbNext } := by
  unfold Dev.backAt
  split
  · rfl
  · rw [Dev.modChain_same]
    rfl

theorem Dev.backAt_rmod (d : Dev) (k pos : Nat) : (d.backAt k).rmod k pos = d.rmod k pos := by
  rw [Dev.rmod, Dev.backAt_chain]
  rfl

/-- The chain after a write-back that no rediscovery waited for and that failed in a module. -/
theorem Dev.mxWriteback_failed (h : (d.chain k).up = true) (hdisc : (d.chain k).discCmd = none)
    (hbad : ∃ pos : Nat, pos < (d.chain k).mods.length ∧ ¬(d.rmod k pos).backOk (res.getD pos []) = true) :
    (d.mxWriteback k res).chain k = { d.chain k with
      wbFail := true, wbCmd := none, wbWant := false, mods := d.modsBack k res, wbNext := ((d.backAt k).chain k).wbNext } := by
  have hmods : (d.backAt k).modsBack k res = d.modsBack k res := by
    unfold Dev.modsBack Dev.positions Dev.backGood
    rw [Dev.backAt_chain]
    simp only [Dev.backAt_rmod]
  have hgood : (d.backAt k).allGood k res = false := by
    refine Bool.eq_false_iff.2 (fun hall => ?_)
    obtain ⟨pos, hpos, hpart⟩ := hbad
    rw [← Dev.backAt_rmod d k pos] at hpart
    exact hpart (Dev.allGood_iff.1 hall pos (by rwa [Dev.backAt_chain]))
  rw [Dev.mxWriteback_alone h hdisc, Dev.mxBack_chain, Dev.chainBack, hmods, hgood, Dev.backAt_chain]
  rfl

theorem Dev.modsBack_getD {pos : Nat} (h : pos < (d.chain k).mods.length) : (d.modsBack k res).getD pos relayNone =
    if d.backGood k res pos then (d.rmod k pos).backed else d.rmod k pos := by
  rw [List.getD_eq_getElem?_getD, Dev.modsBack, List.getElem?_map, Dev.positions, List.getElem?_range h]
  rfl

end

/-! ### DARN_VERIFY (R509) -/

section
variable {d : Dev} {k pos p i : Nat} {res : W64 × W64}

/-- A darn record under way is of a module of the chain. -/
theorem Dev.darning_position (h : (d.rmod k pos).darning.find? (fun e => e.2 == p) = some (i, p)) :
    pos < (d.chain k).mods.length := by
  by_contra hge
  rw [Dev.rmod_beyond _ _ (Nat.le_of_not_lt hge)] at h
  exact absurd h nofun

theorem RelayMod.phys_darned (m : RelayMod) (p i : Nat) :
    ({ m with darns := m.darns.filter (fun x => x.2 != i) ++ [(p, i)] } : RelayMod).phys i = p := by
  have hnone : (m.darns.filter (fun x => x.2 != i)).find? (fun x => x.2 == i) = none := by
    refine List.find?_eq_none.2 (fun x hx => ?_)
    have hne : (x.2 != i) = true := (List.mem_filter.1 hx).2
    simpa using hne
  have hfind : (m.darns.filter (fun x => x.2 != i) ++ [(p, i)]).find? (fun x => x.2 == i) = some (p, i) := by
    rw [List.find?_append, hnone, Option.none_or]
    exact List.find?_cons_of_pos (beq_self_eq_true i)
  unfold RelayMod.phys
  dsimp only
  rw [hfind]

/-- A darn record under way is over. -/
def RelayMod.undarning (m : RelayMod) (e : Nat × Nat) : RelayMod := { m with darning := m.darning.filter (fun x => x != e) }

/-- The spare of a darn record that is read back serves its logical crosspoint. -/
def Dev.darned (d : Dev) (k pos p i : Nat) : Dev :=
  (d.modRmod k pos (fun m => m.undarning (i, p))).modRmod k pos
    (fun m => { m with darns := m.darns.filter (fun x => x.2 != i) ++ [(p, i)] })

theorem Dev.darned_same (h : pos < (d.chain k).mods.length) : (d.darned k pos p i).rmod k pos =
    { (d.rmod k pos).undarning (i, p) with darns := (d.rmod k pos).darns.filter (fun x => x.2 != i) ++ [(p, i)] } := by
  rw [Dev.darned, Dev.modRmod_same _ _ _ _ (h.trans_eq (Dev.modRmod_length ..).symm), Dev.modRmod_same _ _ _ _ h]
  rfl

theorem Dev.darnEnd_good (h : (d.rmod k pos).darning.find? (fun e => e.2 == p) = some (i, p))
    (hok : mxWriteOk ((d.rmod k pos).darnWrite p i) res = true) : (d.darnEnd k pos p res).rmod k pos =
      { (d.rmod k pos).undarning (i, p) with darns := (d.rmod k pos).darns.filter (fun x => x.2 != i) ++ [(p, i)] } := by
  have hlog : (d.darnEnd k pos p res).mxChains = (d.darned k pos p i).mxChains := by
    unfold Dev.darnEnd
    rw [h]
    dsimp only
    rw [if_pos hok]
    exact Dev.logIt_mxChains ..
  rw [← Dev.darned_same (Dev.darning_position h)]
  exact congrArg (fun l => (tblGet chainInit l k).mods.getD pos relayNone) hlog

theorem Dev.retire_same (hpos : pos < (d.chain k).mods.length) : (d.retire k pos i).rmod k pos =
    { d.rmod k pos with
      retired := putBit (d.rmod k pos).retired i true,
      writes := ((d.retire k pos i).rmod k pos).writes } := by
  have hnote : ∀ e : Dev, (e.wearNote k pos i true).rmod k pos = e.rmod k pos := fun e =>
    congrArg (fun l => (tblGet chainInit l k).mods.getD pos relayNone) (Dev.wearNote_mxChains ..)
  rw [Dev.retire, hnote, Dev.modRmod_same _ _ _ _ hpos]

theorem Dev.darnEnd_bad (h : (d.rmod k pos).darning.find? (fun e => e.2 == p) = some (i, p))
    (hok : mxWriteOk ((d.rmod k pos).darnWrite p i) res = false) : (d.darnEnd k pos p res).rmod k pos =
      { (d.rmod k pos).undarning (i, p) with
        retired := putBit (d.rmod k pos).retired i true,
        writes := ((d.darnEnd k pos p res).rmod k pos).writes } := by
  have hpos := Dev.darning_position h
  have hs1 : (d.modRmod k pos (fun m => m.undarning (i, p))).rmod k pos = (d.rmod k pos).undarning (i, p) :=
    Dev.modRmod_same _ _ _ _ hpos
  have hbad : d.darnEnd k pos p res = (d.modRmod k pos (fun m => m.undarning (i, p))).retire k pos i := by
    unfold Dev.darnEnd
    rw [h]
    dsimp only
    rw [hok, if_neg Bool.false_ne_true]
    rfl
  rw [hbad, Dev.retire_same (hpos.trans_eq (Dev.modRmod_length ..).symm), hs1]
  rfl

theorem testBit_putBit_true (m i : Nat) : (putBit m i true).testBit i = true := by
  rw [putBit, if_pos rfl, Nat.testBit_or, Nat.testBit_two_pow_self, Bool.or_true]

/-- A retired crosspoint is gone, whatever is darned. -/
theorem RelayMod.gone_retired (m : RelayMod) (h : m.retired.testBit i = true) : m.gone.testBit i = true := by
  suffices hfold : ∀ (l : List (Nat × Nat)) (a : Nat), a.testBit i = true → (l.foldl (fun a d => putBit a d.1 true) a).testBit i = true from
    hfold m.darning m.retired h
  intro l
  induction l with
  | nil => exact fun a ha => ha
  | cons x r ih =>
    refine fun a ha => ih _ ?_
    show (putBit a x.1 true).testBit i = true
    rw [putBit, if_pos rfl, Nat.testBit_or, ha, Bool.true_or]

end

/-! ### CHAIN_DISCOVERY (R500, R524, R528) -/

section
variable (d : Dev) (k : Nat)

/-- The chain at the end of its discovery. -/
theorem Dev.discEnd_chain (st : ChainState) (reason : Nat) (mods : List RelayMod) (bad : Nat × MState) :
    (d.discEnd k st reason mods bad).chain k = { d.chain k with
      state := st, reason := reason, mods := mods, badPos := bad.1, badState := bad.2, discCmd := none, retried := false,
      wbNext := d.now + d.sys.opt.wearWbMin * 60000000000000,
      queue := if st == .failed then [] else (d.chain k).queue, opening := if st == .failed then [] else (d.chain k).opening } := by
  unfold Dev.discEnd
  extract_lets c same ok s1 s2 pay s3
  have hs2 : s2.mxChains = s1.mxChains := ite_kept Dev.mxChains rfl (Dev.forAll_keeps Dev.mxChains)
  have hs3 : s3.chain k = s1.chain k := congrArg (fun l => tblGet chainInit l k) ((Dev.finish?_mxChains ..).trans hs2)
  have hs1 : s1.chain k = _ := Dev.modChain_same ..
  by_cases hfailed : (st == .failed) = true
  · rw [if_pos hfailed, if_pos hfailed, if_pos hfailed]
    refine (congrArg (fun l => tblGet chainInit l k) (Dev.forAll_keeps Dev.mxChains (fun _ _ => Dev.finish_mxChains ..))).trans ?_
    refine (Dev.modChain_same ..).trans ?_
    rw [hs3, hs1]
  · rw [if_neg hfailed, if_neg hfailed, if_neg hfailed, hs3, hs1]

theorem Dev.wearLog_kept {β : Type} {f : RelayMod → β} : SameMods f k d (d.wearLog k) :=
  SameMods.forAll (fun e pos => by
    split
    · exact .of_mxChains (Dev.logIt_now ..) (Dev.logIt_mxChains ..)
    · exact SameMods.refl e) _ d

/-- A module missing from what the discovery read is bad. -/
theorem Dev.relayBad_none {n : Nat} {l : List RelayFound} (h : d.relayBad n l = none) : n ≤ l.length := by
  by_contra hlt
  have hpos : l.length ∈ List.range n := List.mem_range.2 (Nat.lt_of_not_le hlt)
  rw [Dev.relayBad, List.head?_eq_none_iff, List.filterMap_eq_nil_iff] at h
  have hnone := h _ hpos
  rw [List.getD_eq_getElem?_getD, List.getElem?_eq_none (Nat.le_refl _)] at hnone
  exact absurd hnone nofun

end

end Sys2Proof.Machine

end

section
/-! The outcomes of a chain's discovery (spec/16_matrix.md, R500, R524, R525, R528). -/

namespace Sys2Proof.Machine

/-- A discovery that has started on a chain. -/
def Dev.discoveryRuns (d : Dev) (k : Nat) : Prop :=
  d.optM = true ∧ (d.chain k).state = .discovering ∧ (d.chain k).begun = true

/-- The echo of the modules found differs. -/
def Dev.foundEcho (d : Dev) (k : Nat) (f : ChainFound) : Option Nat :=
  ({ d.chain k with mods := (f.modules.take f.count).map relayOf } : Chain).echoBad f.echo

section
variable {d : Dev} {k : Nat} {f : ChainFound}

theorem Dev.chainFound_runs (h : d.discoveryRuns k) : d.chainFound k f =
    if f.count = 0 then d.discEnd k .empty 0 [] (0, .valid)
    else if f.count > 32 then d.discEnd k .failed 1 [] (0, .valid)
    else if !f.trained then d.discEnd k .failed 4 [] (0, .valid)
    else
      match d.relayBad f.count f.modules with
      | some b => (d.discLog k b.2 (if b.2 == .unsupported then 3 else 2)).discEnd k .failed 2 [] b
      | none =>
        match d.foundEcho k f with
        | some pos =>
          (((d.modChain k (fun c => { c with echoErr := sat32n (c.echoErr + 1) })).logIt (kMxEcho k true) (pos + 65536)).discEnd
            k .failed 3 ((f.modules.take f.count).map relayOf) (0, .valid)).wearLog k
        | none =>
          let s1 := (d.discEnd k .ready 0 ((f.modules.take f.count).map relayOf) (0, .valid)).wearLog k
          s1.forAll (s1.positions k) (fun s pos => s.wornScan k pos) := by
  obtain ⟨hopt, hstate, hbegun⟩ := h
  refine if_neg ?_
  rw [hopt, hstate, hbegun]
  decide

theorem Dev.chainFound_empty (h : d.discoveryRuns k) (hcount : f.count = 0) :
    d.chainFound k f = d.discEnd k .empty 0 [] (0, .valid) := by
  rw [Dev.chainFound_runs h, if_pos hcount]

theorem Dev.chainFound_many (h : d.discoveryRuns k) (hcount : 32 < f.count) :
    d.chainFound k f = d.discEnd k .failed 1 [] (0, .valid) := by
  rw [Dev.chainFound_runs h, if_neg (by omega), if_pos hcount]

section
variable (h : d.discoveryRuns k) (hsome : 0 < f.count) (hmost : f.count ≤ 32)
include h hsome hmost

theorem Dev.chainFound_untrained (htrained : f.trained = false) : d.chainFound k f = d.discEnd k .failed 4 [] (0, .valid) := by
  rw [Dev.chainFound_runs h, if_neg (by omega), if_neg (by omega), htrained]
  rfl

variable (htrained : f.trained = true)
include htrained

theorem Dev.chainFound_badRecord {b : Nat × MState} (hbad : d.relayBad f.count f.modules = some b) : d.chainFound k f =
    (d.discLog k b.2 (if b.2 == .unsupported then 3 else 2)).discEnd k .failed 2 [] b := by
  rw [Dev.chainFound_runs h, if_neg (by omega), if_neg (by omega), htrained, hbad]
  rfl

variable (hgood : d.relayBad f.count f.modules = none)
include hgood

/-- A bad echo fails the chain with the modules found. -/
theorem Dev.chainFound_badEcho {p : Nat} (hecho : d.foundEcho k f = some p) :
    ((d.chainFound k f).chain k).state = .failed ∧ ((d.chainFound k f).chain k).reason = 3 ∧
      ((d.chainFound k f).chain k).discCmd = none := by
  rw [Dev.chainFound_runs h, if_neg (by omega), if_neg (by omega), htrained, hgood, hecho]
  have hlog : ∀ e : Dev, (e.wearLog k).chain k = e.chain k := fun e =>
    congrArg (fun l => tblGet chainInit l k) (Dev.forAll_keeps Dev.mxChains (fun e _ => ite_kept Dev.mxChains (Dev.logIt_mxChains ..) rfl))
  show ((Dev.wearLog _ k).chain k).state = _ ∧ ((Dev.wearLog _ k).chain k).reason = _ ∧ ((Dev.wearLog _ k).chain k).discCmd = _
  rw [hlog, Dev.discEnd_chain]
  exact ⟨rfl, rfl, rfl⟩

/-- Modules that read back and echo well make the chain READY; only worn crosspoints are replaced or retired yet. -/
theorem Dev.chainFound_ready (hecho : d.foundEcho k f = none) :
    SameMods RelayMod.darnless k (d.discEnd k .ready 0 ((f.modules.take f.count).map relayOf) (0, .valid)) (d.chainFound k f) := by
  rw [Dev.chainFound_runs h, if_neg (by omega), if_neg (by omega), htrained, hgood, hecho]
  exact (Dev.wearLog_kept ..).trans (SameMods.forAll (fun e pos => e.wornScan_darnless k pos) _ _)

theorem Dev.chainFound_ready_length (hecho : d.foundEcho k f = none) : ((d.chainFound k f).chain k).mods.length = f.count := by
  rw [(Dev.chainFound_ready h hsome hmost htrained hgood hecho).length, Dev.discEnd_chain, List.length_map, List.length_take]
  exact Nat.min_eq_left (Dev.relayBad_none d hgood)

theorem Dev.chainFound_ready_rmod (hecho : d.foundEcho k f = none) {pos : Nat} (hpos : pos < f.count) {m : RelayFound}
    (hm : f.modules[pos]? = some m) : ((d.chainFound k f).rmod k pos).darnless = (relayOf m).darnless := by
  rw [(Dev.chainFound_ready h hsome hmost htrained hgood hecho).mods, Dev.rmod, Dev.discEnd_chain, List.getD_eq_getElem?_getD,
    List.getElem?_map, List.getElem?_take_of_lt hpos, hm]
  rfl

end

/-- A discovery ends the command that asked for it, whatever it finds. -/
theorem Dev.chainFound_discCmd (h : d.discoveryRuns k) (f : ChainFound) : ((d.chainFound k f).chain k).discCmd = none := by
  rcases Nat.eq_zero_or_pos f.count with hcount | hsome
  · rw [Dev.chainFound_empty h hcount, Dev.discEnd_chain]
  rcases Nat.lt_or_ge 32 f.count with hmany | hmost
  · rw [Dev.chainFound_many h hmany, Dev.discEnd_chain]
  cases htrained : f.trained with
  | false => rw [Dev.chainFound_untrained h hsome hmost htrained, Dev.discEnd_chain]
  | true =>
    cases hbad : d.relayBad f.count f.modules with
    | some b => rw [Dev.chainFound_badRecord h hsome hmost htrained hbad, Dev.discEnd_chain]
    | none =>
      cases hecho : d.foundEcho k f with
      | some p => exact (Dev.chainFound_badEcho h hsome hmost htrained hbad hecho).2.2
      | none => rw [(Dev.chainFound_ready h hsome hmost htrained hbad hecho).discCmd, Dev.discEnd_chain]

end

/-- What a discovery reads of a module does not depend on how worn it is. -/
theorem RelayMod.darnless_found {m : RelayMod} {r : RelayFound} (h : m.darnless = (relayOf r).darnless) :
    m.serial = slice (relayBytes r).1 16 16 ∧ m.nxp = u16 (relayBytes r).1 64 ∧ m.rated = u32 (relayBytes r).1 68 ∧ m.drive = 0 :=
  ⟨(congrArg RelayMod.serial h :), (congrArg RelayMod.nxp h :), (congrArg RelayMod.rated h :), (congrArg RelayMod.drive h :)⟩

section
variable {k : ChainId} {s : State} {res : List (List (W64 × W64))}

theorem exec_wearWriteback_failed (h : (s.dev.chain k.val).up = true) (hdisc : (s.dev.chain k.val).discCmd = none)
    (hbad : ∃ pos : Nat, pos < (s.dev.chain k.val).mods.length ∧ ¬(s.dev.rmod k.val pos).backOk (res.getD pos []) = true) :
    ∃ t : State, exec (.wearWriteback k res) s = .next t ∧ t.mem = s.mem ∧ (t.dev.chain k.val).wbFail = true ∧
      (t.dev.chain k.val).wbCmd = none ∧ (t.dev.chain k.val).wbWant = false ∧
      (t.dev.chain k.val).lastWbNs = (s.dev.chain k.val).lastWbNs ∧ (t.dev.chain k.val).mods = s.dev.modsBack k.val res := by
  refine ⟨_, rfl, rfl, ?_⟩
  rw [State.on_dev, Dev.mxWriteback_failed h hdisc hbad]
  exact ⟨rfl, rfl, rfl, rfl, rfl⟩

end

end Sys2Proof.Machine

open Sys2Proof.Machine

/-- Settles O54: a write-back, a darn record and a discovery, each by its outcomes. -/
theorem wearDarningAndDiscovery : Obligations.WearDarningAndDiscovery := by
  refine ⟨fun k res s => ⟨fun hdown => congrArg Host.Outcome.next (State.on_of_fixed (g := fun d => d.mxWriteback k.val res) (Dev.mxWriteback_down hdown)),
      fun hup hasked hdisc hgood => congrArg Host.Outcome.next (State.on_congr ?backed), fun hup hdisc hbad => ?failed,
      fun hup hdisc hupdate => ?rediscovered, fun hup hcmd hwant hdisc => ?interval⟩,
    fun k pos p i res s hdarning => ⟨fun hok => ?darned, fun hok => ?retired⟩,
    fun k f s hopt hstate hbegun => ?found⟩
  case backed =>
    have hall := Dev.allGood_iff.2 hgood
    rw [Dev.mxWriteback_alone hup hdisc, Dev.backAt_asked hasked, Dev.mxBack_good hall]
    unfold Dev.chainBack Dev.modChain
    rw [hall, Dev.modsBack_all hall]
    rfl
  case failed =>
    obtain ⟨t, hexec, hmem, hfail, hcmd, hwant, hlast, hmods⟩ := exec_wearWriteback_failed hup hdisc hbad
    have hlength : (s.dev.modsBack k.val res).length = (s.dev.chain k.val).mods.length :=
      (List.length_map ..).trans List.length_range
    refine ⟨t, hexec, hmem, hfail, hcmd, hwant, hlast, by rw [hmods, hlength], fun pos hpos => ?_⟩
    have hpart : t.dev.rmod k.val pos = if s.dev.backGood k.val res pos then (s.dev.rmod k.val pos).backed else s.dev.rmod k.val pos :=
      (congrArg (fun l => l.getD pos relayNone) hmods).trans (Dev.modsBack_getD hpos)
    rw [hpart]
    exact ⟨fun hgood => if_pos hgood, fun hgood => if_neg hgood⟩
  case rediscovered =>
    refine ⟨_, rfl, rfl, ?_⟩
    rw [State.on_dev, Dev.mxWriteback_rediscovers hup hdisc hupdate, Dev.discBegin_get]
    exact ⟨rfl, rfl, fun m hm => by obtain ⟨m0, -, rfl⟩ := List.mem_map.1 hm; rfl⟩
  case interval =>
    refine ⟨_, rfl, rfl, ?_⟩
    rw [State.on_dev, Dev.mxWriteback_alone hup hdisc, Dev.mxBack_chain, Dev.mxBack_now, Dev.backAt_interval hcmd hwant]
    refine ⟨rfl, ?_⟩
    rw [Dev.modChain_same]
    rfl
  case darned =>
    refine ⟨_, rfl, rfl, ?_⟩
    rw [State.on_dev, Dev.darnEnd_good hdarning hok]
    exact ⟨((s.dev.rmod k.val pos.val).undarning (i, p)).phys_darned p i, rfl, rfl⟩
  case retired =>
    refine ⟨_, rfl, rfl, ?_⟩
    rw [State.on_dev, Dev.darnEnd_bad hdarning hok]
    exact ⟨testBit_putBit_true .., RelayMod.gone_retired _ (testBit_putBit_true ..), rfl⟩
  case found =>
    have hruns : s.dev.discoveryRuns k.val := ⟨hopt, hstate, hbegun⟩
    refine ⟨_, rfl, rfl, ?_⟩
    rw [State.on_dev]
    refine ⟨Dev.chainFound_discCmd hruns f, fun hcount => ?_, fun hmany => ?_, fun hsome hmost htrained => ?_,
      fun b hsome hmost htrained hbad => ?_, fun hsome hmost htrained hgood hecho => ?_, fun hsome hmost htrained hgood hecho => ?_⟩
    · rw [Dev.chainFound_empty hruns hcount, Dev.discEnd_chain]
      exact ⟨rfl, rfl⟩
    · rw [Dev.chainFound_many hruns hmany, Dev.discEnd_chain]
      exact ⟨rfl, rfl⟩
    · rw [Dev.chainFound_untrained hruns hsome hmost htrained, Dev.discEnd_chain]
      exact ⟨rfl, rfl⟩
    · rw [Dev.chainFound_badRecord hruns hsome hmost htrained hbad, Dev.discEnd_chain]
      exact ⟨rfl, rfl, rfl, rfl⟩
    · obtain ⟨p, hp⟩ := Option.ne_none_iff_exists'.1 hecho
      obtain ⟨hfailed, hreason, -⟩ := Dev.chainFound_badEcho hruns hsome hmost htrained hgood hp
      exact ⟨hfailed, hreason⟩
    · refine ⟨?_, Dev.chainFound_ready_length hruns hsome hmost htrained hgood hecho, fun pos hpos m hm =>
        RelayMod.darnless_found (Dev.chainFound_ready_rmod hruns hsome hmost htrained hgood hecho hpos hm)⟩
      rw [(Dev.chainFound_ready hruns hsome hmost htrained hgood hecho).state, Dev.discEnd_chain]

end

section
/-! What the leaving of resources, the ends of sequences and patterns, and the notes of a row leave of the device, whatever is
read of it (spec/18_sessions.md, spec/19_startup_reset.md). -/

namespace Sys2Proof.Machine

/-- A reading of the device that what stops and leaves without a word to a function does not change: channels and their stages,
sequencers, handlers, results, vectors, sets and chains, the survey converter, the fabric, requests and the log. -/
structure Quiet {α : Type} (p : Dev → α) : Prop where
  tg : ∀ d g, p (Dev.modTg d g) = p d
  fab : ∀ d g, p (Dev.modFab d g) = p d
  vec : ∀ d g, p (Dev.modVec d g) = p d
  chan : ∀ d c g, p (Dev.modChan d c g) = p d
  stage : ∀ d m g, p (Dev.modStage d m g) = p d
  helon : ∀ d c g, p (Dev.modHelon d c g) = p d
  res : ∀ d c g, p (Dev.modRes d c g) = p d
  seq : ∀ d c g, p (Dev.modSeq d c g) = p d
  handler : ∀ d h g, p (Dev.modHandler d h g) = p d
  set : ∀ d q g, p (Dev.modSet d q g) = p d
  chain : ∀ d k g, p (Dev.modChain d k g) = p d
  svy : ∀ d g, p (Dev.modSvy d g) = p d
  seqMem : ∀ (d : Dev) l, p { d with seqMem := l } = p d
  swaps : ∀ (d : Dev) l, p { d with swaps := l } = p d
  free : ∀ d, p (Dev.freeNext d) = p d
  log : ∀ d k a e, p (Dev.logIt d k a e) = p d
  wake : ∀ d c, p (Dev.wakeBy d c) = p d

/-- A reading that rings, interrupts and the owner's holds on channels leave besides. -/
structure Bystander {α : Type} (p : Dev → α) : Prop extends Quiet p where
  holds : ∀ (d : Dev) t h, p { d with swapGroups := t, assign := { d.assign with holdChan := h } } = p d
  ring : ∀ d f r g, p (Dev.modFn d f (fun x => x.modRing r g)) = p d
  irq : ∀ d f b, p (Dev.irq d f b) = p d
  gstat : ∀ d old, p (Dev.gstatNote d old) = p d

namespace Quiet

variable {α : Type} {p : Dev → α} (h : Quiet p)
include h

theorem pulses : KeptByPulses p where
  fires := fun _ _ _ => h.fab ..
  waits := fun d _ _ _ _ => h.fab d _
  wake := h.wake

theorem fabric : KeptByFabric p where
  toKeptByPulses := h.pulses
  lines := fun d _ _ _ => h.fab d _

/-! ### Commands -/

theorem finish (d : Dev) (id st : Nat) (b : List Byte) : p (d.finish id st b) = p d := by
  unfold Dev.finish
  split
  · rfl
  · exact ite_kept p rfl (h.tg ..)

theorem finish? (d : Dev) (id : Option Nat) (st : Nat) (b : List Byte) : p (d.finish? id st b) = p d := by
  unfold Dev.finish?
  split
  · exact h.finish ..
  · rfl

/-! ### Transitions and range changes -/

theorem svyTap (d : Dev) : p d.svyTap = p d := by
  unfold Dev.svyTap
  split
  · exact ite_kept p rfl (h.svy ..)
  · rfl

theorem setHalf (d : Dev) (c x : Nat) (pre force : Bool) : p (d.setHalf c x pre force) = p d := h.stage ..

theorem rcDrop (d : Dev) (c st : Nat) : p (d.rcDrop c st) = p d := by
  unfold Dev.rcDrop
  split
  · rfl
  · exact (h.finish? ..).trans ((Dev.forAll_keeps p (fun _ _ => (h.setHalf ..).trans (h.helon ..))).trans (h.chan ..))

theorem transEnd (d : Dev) (c st : Nat) : p (d.transEnd c st) = p d := by
  unfold Dev.transEnd
  split
  · rfl
  · exact (h.finish? ..).trans (h.chan ..)

theorem transNew (d : Dev) (c target : Nat) (fast : Bool) (cmd : Option Nat) : p (d.transNew c target fast cmd) = p d :=
  (h.svyTap _).trans ((h.chan ..).trans (ite_kept p (Dev.forAll_keeps p (fun _ _ => h.chan ..)) rfl))

theorem transTo (d : Dev) (c : Nat) (step : TStep) (due : Option Nat) : p (d.transTo c step due) = p d := h.chan ..

theorem transOff (d : Dev) (c : Nat) : p (d.transOff c) = p d :=
  (h.transTo ..).trans (ite_kept p (Dev.forAll_keeps p (fun _ _ => h.chan ..)) rfl)

theorem teamHalf (d : Dev) (c : Nat) (en out pre : Bool) : p (d.teamHalf c en out pre) = p d :=
  Dev.forAll_keeps p (fun _ _ => h.setHalf ..)

theorem transNext (d : Dev) (c : Nat) (pre : Bool) : p (d.transNext c pre) = p d := by
  unfold Dev.transNext
  split
  · rfl
  · refine ite_kept p (h.transOff ..) (ite_kept p (h.transEnd ..) (ite_kept p ?_ ?_))
    · refine ite_kept p ((h.transTo ..).trans (Dev.forAll_keeps p (fun _ _ => h.chan ..))) (ite_kept p ?_ (h.transTo ..))
      exact (h.transTo ..).trans (h.teamHalf ..)
    · exact ite_kept p (h.transTo ..) (ite_kept p ((h.transTo ..).trans (h.teamHalf ..)) (h.transOff ..))

theorem transBegin (d : Dev) (c target : Nat) (fast : Bool) (cmd : Option Nat) : p (d.transBegin c target fast cmd) = p d :=
  (h.transNext ..).trans (h.transNew ..)

theorem chanHalts (d : Dev) (c : Nat) : p (d.chanHalts c) = p d := by
  unfold Dev.chanHalts
  extract_lets s1
  refine ite_kept p rfl ((Dev.forAll_keeps p (fun _ _ => (h.setHalf ..).trans (h.chan ..))).trans ?_)
  exact (h.transEnd ..).trans (h.rcDrop ..)

/-! ### Sequencers, handlers, results -/

theorem startCancel (d : Dev) (id : Nat) : p (d.startCancel id) = p d :=
  (h.finish ..).trans (Dev.forAll_keeps p (fun _ _ => ite_kept p (h.seq ..) rfl))

theorem hsNote (d : Dev) (c tx : Nat) : p (d.hsNote c tx) = p d :=
  Dev.forAll_keeps p (fun _ _ => ite_kept p (h.handler ..) rfl)

theorem hsFault (d : Dev) (n t : Nat) : p (d.hsFault n t) = p d := ite_kept p rfl (h.pulses.pulseGo ..)

theorem hsRelease (d : Dev) (c : Nat) : p (d.hsRelease c) = p d := by
  refine Dev.forAll_keeps p (fun e n => ?_)
  extract_lets g m s1
  refine ite_kept p rfl (ite_kept p ?_ (h.handler ..))
  exact (h.hsFault ..).trans ((h.handler ..).trans (h.handler ..))

theorem detach (d : Dev) (n : Nat) : p (d.detach n) = p d := h.fab ..

theorem measGone (d : Dev) (c : Nat) : p (d.measGone c) = p d := (h.res ..).trans (h.detach ..)

theorem swapGone (d : Dev) (w : Swap) : p (d.swapGone w) = p d :=
  (Dev.forAll_keeps p (fun _ _ => h.detach ..)).trans (h.swaps d _)

/-! ### Patterns, pins and segments -/

theorem vEnd (d : Dev) (reason t : Nat) : p (d.vEnd reason t) = p d := by
  unfold Dev.vEnd
  split
  · rfl
  · exact (h.pulses.pulseFor ..).trans ((h.fab ..).trans ((h.detach ..).trans ((h.vec ..).trans (h.vec ..))))

theorem vAbort (d : Dev) (reason : Nat) : p (d.vAbort reason) = p d := ite_kept p (h.vEnd ..) rfl

theorem vPinLeaves (d : Dev) (n : Nat) : p (d.vPinLeaves n) = p d := by
  unfold Dev.vPinLeaves
  exact (h.vec ..).trans (ite_kept p (h.vAbort ..) rfl)

theorem vSegLeaves (d : Dev) (i : Nat) : p (d.vSegLeaves i) = p d := by
  unfold Dev.vSegLeaves Dev.clearSeg Dev.setSeg
  exact (h.vec ..).trans ((h.vec ..).trans (ite_kept p (h.vAbort ..) rfl))

/-! ### Routes and crosspoint sets -/

theorem routeLeave (d : Dev) (r : Nat) : p (d.routeLeave r) = p d := (h.fab ..).trans (h.fab ..)

theorem setLoss (d : Dev) (q : Nat) : p (d.setLoss q).1 = p d := by
  unfold Dev.setLoss
  extract_lets x k now opens s1 add
  have h1 : p s1 = p d := h.set ..
  split
  · exact (h.chain s1 k (fun c => { c with opening := add })).trans h1
  · exact h1

theorem routesCut (d : Dev) (f : Nat) (cons src : Nat → Bool) : p (d.routesCut f cons src) = p d := by
  unfold Dev.routesCut
  exact (h.fab ..).trans (Dev.forAll_keeps p (fun _ _ => h.fab ..))

theorem fabMoved (d old : Dev) (f : Nat) : p (d.fabMoved old f) = p d := (h.fab ..).trans (h.routesCut ..)

end Quiet

namespace Bystander

variable {α : Type} {p : Dev → α} (h : Bystander p)
include h

theorem records : KeptByRecords p where
  stream := Dev.modStream_keeps p h.res (fun d _ => h.vec d _)
  ring := h.ring
  caravans := fun d _ => h.tg d _
  log := h.log

theorem observed (d : Dev) (g : Dev → Dev) : p (d.observed g) = p (g d) :=
  (h.gstat ..).trans (h.fabric.fabricNote ..)

theorem seqEnd (d : Dev) (c reason tx : Nat) : p (d.seqEnd c reason tx) = p d := by
  unfold Dev.seqEnd
  extract_lets q s0 s1 s2 s3
  refine ite_kept p ?_ rfl
  have h0 : p s0 = p d := ite_kept p (h.rcDrop ..) rfl
  have h2 : p s2 = p d := (h.records.record ..).trans ((h.seq ..).trans h0)
  have h3 : p s3 = p d := by
    unfold s3
    split
    · exact ite_kept p ((h.startCancel ..).trans h2) h2
    · exact h2
  exact (h.irq ..).trans ((h.pulses.pulseFor ..).trans ((h.hsNote ..).trans h3))

theorem seqRelease (d : Dev) (c : Nat) : p (d.seqRelease c) = p d := by
  unfold Dev.seqRelease
  extract_lets e touched s1 z s2
  have h1 : p s1 = p d := Dev.forAll_keeps p (fun _ _ => h.seqEnd ..)
  have h2 : p s2 = p s1 := h.seqMem s1 _
  exact (h.seq ..).trans (h2.trans h1)

theorem dropRecs (d : Dev) (f r c : Nat) : p (d.dropRecs f r c) = p d := by
  unfold Dev.dropRecs
  exact (h.tg ..).trans (h.ring ..)

theorem resRelease (d : Dev) (c : Nat) : p (d.resRelease c) = p d :=
  (Dev.forAll_keeps p (fun _ _ => h.dropRecs ..)).trans ((h.res ..).trans (h.detach ..))

theorem freeSlots (d : Dev) (l : List Rec) : p (d.freeSlots l) = p d := foldl_kept p (fun _ _ => h.records.stream ..) l d

theorem dropBlocks (d : Dev) (f r : Nat) : p (d.dropBlocks f r) = p d := by
  unfold Dev.dropBlocks
  extract_lets g l s1 s2
  refine (foldl_kept p (fun _ _ => ite_kept p (h.records.lose ..) rfl) l s2).trans ?_
  exact (h.tg ..).trans ((h.freeSlots ..).trans (h.ring ..))

theorem disableRing (d : Dev) (f r : Nat) : p (d.disableRing f r) = p d := (h.ring ..).trans (h.dropBlocks ..)

theorem playerBreaks (d : Dev) (f : Nat) : p (d.playerBreaks f) = p d :=
  ite_kept p ((h.irq ..).trans ((h.log ..).trans (h.vAbort ..))) rfl

theorem orphaned (d : Dev) (f q : Nat) : p (d.orphaned f q) = p d :=
  (Dev.forAll_keeps p (fun _ _ => (h.irq ..).trans (h.log ..))).trans ((h.irq ..).trans (h.log ..))

theorem setLeaves (d : Dev) (f q : Nat) : p (d.setLeaves f q) = p d :=
  ite_kept p ((h.orphaned ..).trans (h.setLoss ..)) (h.setLoss ..)

theorem chanLeaves (d : Dev) (f c : Nat) : p (d.chanLeaves f c) = p d := by
  unfold Dev.chanLeaves
  extract_lets s1 drop groups
  have h1 : p s1 = p d := (h.resRelease ..).trans ((h.hsRelease ..).trans (h.seqRelease ..))
  exact (h.holds s1 _ _).trans h1

end Bystander

/-! ### The readings in use -/

/-- What interrupts, rings and vectors leave of a function: all but its causes and rings, and of its vectors the masks. -/
def Fn.core (r : Fn) : Fn × (Nat → Bool) := ({ r with irqCause := 0, vecs := [], rings := [] }, fun v => (r.vec v).mask)

/-- What the parts that stop, leave and are noted do not change of a device, and the cores of its functions. -/
def Dev.rest (d : Dev) : Dev × (Nat → Fn × (Nat → Bool)) :=
  let z := Dev.reset
  ({ d with
      fns := [], msgs := [], freeCtr := 0, tg := z.tg, log := z.log, fab := z.fab, vec := z.vec, chans := [], stages := [], hel := [],
      results := [], seqs := [], seqMem := [], handlers := [], mxSets := [], mxChains := [], svy := z.svy, swaps := [],
      swapGroups := [], assign := { d.assign with holdChan := 0 },
      sys := { d.sys with waking := none, wakeCause := 0, wakeLatched := none, gstatChg := 0 } },
    fun f => (d.fn f).core)

theorem Fn.modVec_vec (r : Fn) (v i : Nat) (g : Vec → Vec) : (r.modVec v g).vec i = if i = v then g (r.vec v) else r.vec i :=
  tblGet_set ..

theorem Fn.modVec_mask (r : Fn) (v i : Nat) {g : Vec → Vec} (hg : ∀ x, (g x).mask = x.mask) :
    ((r.modVec v g).vec i).mask = (r.vec i).mask := by
  rw [Fn.modVec_vec]
  split
  · next heq => rw [hg, heq]
  · rfl

/-- Two states whose functions have the same masks. -/
def SameMasks (a b : Dev) : Prop := ∀ f v, ((b.fn f).vec v).mask = ((a.fn f).vec v).mask

namespace SameMasks

theorem trans {a b c : Dev} (h : SameMasks a b) (k : SameMasks b c) : SameMasks a c := fun f v => (k f v).trans (h f v)

theorem of_fns {a b : Dev} (h : b.fns = a.fns) : SameMasks a b := fun f v => by rw [Dev.fn, h]; rfl

theorem modFn (d : Dev) (f : Nat) {g : Fn → Fn} (hg : ∀ x v, ((g x).vec v).mask = (x.vec v).mask) : SameMasks d (d.modFn f g) := by
  intro i v
  rw [Dev.modFn_get]
  split
  · next heq => rw [hg, heq]
  · rfl

theorem modVec (d : Dev) (f v : Nat) {g : Vec → Vec} (hg : ∀ x, (g x).mask = x.mask) : SameMasks d (d.modFn f (fun r => r.modVec v g)) :=
  modFn d f (fun x i => x.modVec_mask v i hg)

theorem signal (d : Dev) (f v : Nat) : SameMasks d (d.signal f v) := by
  unfold Dev.signal
  extract_lets r clear
  split
  · exact modVec d f v (fun _ => rfl)
  · split
    · exact modVec d f v (fun _ => rfl)
    · exact (modVec d f v (g := fun x => { x with count := 0, start := none, pba := false, edge := false }) (fun _ => rfl)).trans
        (of_fns rfl)

theorem irq (d : Dev) (f b : Nat) : SameMasks d (d.irq f b) := by
  unfold Dev.irq
  dsimp only
  split
  · exact of_fns rfl
  · split
    · split
      · refine trans ?_ (signal _ _ _)
        refine trans ?_ (modVec _ _ _ (fun _ => rfl))
        exact modFn _ _ (fun _ _ => rfl)
      · refine trans ?_ (modVec _ _ _ (fun _ => rfl))
        exact modFn _ _ (fun _ _ => rfl)
    · exact modFn _ _ (fun _ _ => rfl)

theorem gstatNote (new old : Dev) : SameMasks new (new.gstatNote old) := by
  unfold Dev.gstatNote
  dsimp only
  generalize (if new.gstatLow.xor old.gstatLow / 1024 % 4 ≠ 0 then _ else _) = d
  split
  · exact of_fns rfl
  · refine Dev.forAll_induct (P := SameMasks new) (fun e i _ he => he.trans (trans ?_ (irq _ 0 irqGlobal))) (of_fns rfl)
    exact of_fns rfl

end SameMasks

theorem OnlyCauses.core {a b : Dev} (h : OnlyCauses a b) (hmask : SameMasks a b) (f : Nat) : (b.fn f).core = (a.fn f).core := by
  refine Prod.ext ?_ (funext (hmask f))
  show ({ b.fn f with irqCause := 0, vecs := [], rings := [] } : Fn) = _
  rw [h f]
  rfl

theorem Dev.rest_of_irq {a b : Dev} (h : OnlyIrq a b) (hcauses : OnlyCauses a b) (hmask : SameMasks a b) : b.rest = a.rest := by
  refine Prod.ext ?_ (funext (hcauses.core hmask))
  unfold OnlyIrq at h
  rw [h]
  rfl

theorem Dev.rest_of_gstat {a b : Dev} (h : OnlyGstat a b) (hcauses : OnlyCauses a b) (hmask : SameMasks a b) : b.rest = a.rest := by
  refine Prod.ext ?_ (funext (hcauses.core hmask))
  unfold OnlyGstat at h
  rw [h]
  rfl

theorem Dev.rest_of_fab {a b : Dev} (h : OnlyFab a b) : b.rest = a.rest := by
  unfold OnlyFab at h
  rw [h]
  rfl

theorem Dev.rest_of_log {a b : Dev} (h : OnlyLog a b) : b.rest = a.rest := by
  unfold OnlyLog at h
  rw [h]
  rfl

theorem Dev.rest_modRing (d : Dev) (f r : Nat) (g : Ring → Ring) : (d.modFn f (fun x => x.modRing r g)).rest = d.rest := by
  refine Prod.ext rfl (funext fun i => ?_)
  show (Dev.fn _ i).core = (d.fn i).core
  rw [Dev.modFn_get]
  split
  · next heq => rw [heq]; rfl
  · rfl

theorem bystander_rest : Bystander Dev.rest where
  tg := fun _ _ => rfl
  fab := fun _ _ => rfl
  vec := fun _ _ => rfl
  chan := fun _ _ _ => rfl
  stage := fun _ _ _ => rfl
  helon := fun _ _ _ => rfl
  res := fun _ _ _ => rfl
  seq := fun _ _ _ => rfl
  handler := fun _ _ _ => rfl
  set := fun _ _ _ => rfl
  chain := fun _ _ _ => rfl
  svy := fun _ _ => rfl
  seqMem := fun _ _ => rfl
  swaps := fun _ _ => rfl
  holds := fun _ _ _ => rfl
  ring := Dev.rest_modRing
  free := fun _ => rfl
  log := fun _ _ _ _ => Dev.rest_of_log (Dev.logIt_only ..)
  irq := fun _ _ _ => Dev.rest_of_irq (Dev.irq_only ..) (Dev.irq_causes _ _ _) (SameMasks.irq _ _ _)
  gstat := fun _ _ => Dev.rest_of_gstat (Dev.gstatNote_only ..) (Dev.gstatNote_causes _ _) (SameMasks.gstatNote _ _)
  wake := fun _ _ => Dev.rest_of_fab (Dev.wakeBy_only ..)

/-- What is read of the rest alone is kept as well. -/
theorem Bystander.comp {α β : Type} {p : Dev → α} (h : Bystander p) (g : α → β) : Bystander (fun d => g (p d)) where
  tg := fun _ _ => congrArg g (h.tg ..)
  fab := fun _ _ => congrArg g (h.fab ..)
  vec := fun _ _ => congrArg g (h.vec ..)
  chan := fun _ _ _ => congrArg g (h.chan ..)
  stage := fun _ _ _ => congrArg g (h.stage ..)
  helon := fun _ _ _ => congrArg g (h.helon ..)
  res := fun _ _ _ => congrArg g (h.res ..)
  seq := fun _ _ _ => congrArg g (h.seq ..)
  handler := fun _ _ _ => congrArg g (h.handler ..)
  set := fun _ _ _ => congrArg g (h.set ..)
  chain := fun _ _ _ => congrArg g (h.chain ..)
  svy := fun _ _ => congrArg g (h.svy ..)
  seqMem := fun _ _ => congrArg g (h.seqMem ..)
  swaps := fun _ _ => congrArg g (h.swaps ..)
  holds := fun _ _ _ => congrArg g (h.holds ..)
  ring := fun _ _ _ _ => congrArg g (h.ring ..)
  free := fun _ => congrArg g (h.free ..)
  log := fun _ _ _ _ => congrArg g (h.log ..)
  irq := fun _ _ _ => congrArg g (h.irq ..)
  gstat := fun _ _ => congrArg g (h.gstat ..)
  wake := fun _ _ => congrArg g (h.wake ..)

end Sys2Proof.Machine

end

section
/-! The module and administration commands (spec/17_module_identity.md, R518, R519, R526; spec/18_sessions.md, R528 to R534,
R541). -/

namespace Sys2Proof.Machine

/-! ### Replies leave what they do not show -/

/-- A reading that replies and their accounts leave. -/
structure KeptByReplies {α : Type} (p : Dev → α) : Prop where
  tg : ∀ d g, p (Dev.modTg d g) = p d
  free : ∀ d, p (Dev.freeNext d) = p d
  fn : ∀ d f (a : Fn → List Reply) (b : Fn → List RingReply) (c e : Fn → Nat),
    p (Dev.modFn d f (fun r => { r with replies := a r, ringReplies := b r, completed := c r, maxService := e r })) = p d

namespace KeptByReplies

variable {α : Type} {p : Dev → α} (h : KeptByReplies p)
include h

theorem post (d : Dev) (j : Job) (st : Nat) (b : List Byte) (final last : Bool) : p (d.post j st b final last) = p d := by
  unfold Dev.post
  extract_lets r
  split
  · exact h.fn d _ _ (fun f => f.ringReplies) (fun f => f.completed) (fun f => f.maxService)
  · exact h.fn d _ (fun f => f.replies) _ (fun f => f.completed) (fun f => f.maxService)

theorem served (d : Dev) (f : Nat) (a : Option Nat) : p (d.served f a) = p d := by
  unfold Dev.served
  split
  · rfl
  · exact h.fn d f (fun f => f.replies) (fun f => f.ringReplies) (fun f => f.completed) _

theorem finalReply (d : Dev) (r : Running) (st : Nat) (b : List Byte) : p (d.finalReply r st b) = p d := by
  unfold Dev.finalReply
  extract_lets s1
  refine ite_kept p (h.tg ..) ?_
  exact (h.fn _ _ (fun f => f.replies) (fun f => f.ringReplies) _ (fun f => f.maxService)).trans ((h.post ..).trans (h.tg ..))

theorem settleAll (d : Dev) (l : List Running) : p (d.settleAll l) = p d := by
  refine foldl_kept p (fun e r => ?_) l d
  split
  · exact h.finalReply ..
  · rfl

theorem pend (d : Dev) (j : Job) (started : Bool) (names : List Res) (data : List Int) :
    p (d.pend j started names data) = p d := by
  unfold Dev.pend
  exact (h.tg ..).trans (ite_kept p ((h.free _).trans ((h.post ..).trans (h.settleAll ..))) (h.served ..))

end KeptByReplies

theorem keptByReplies_view (f : Nat) : KeptByReplies (fun d : Dev => (d.fn f).view) where
  tg := fun _ _ => rfl
  free := fun _ => rfl
  fn := fun d i a b c e => by
    rw [Dev.modFn_get]
    split
    · next heq => rw [heq]
    · rfl

/-! ### What a request's arrival leaves -/

section
variable (d : Dev) (q : Req)

@[simp] theorem Dev.taken_assign : (d.taken q).assign = d.assign := by rw [Dev.taken_only d q]
@[simp] theorem Dev.taken_stage (m : Nat) : (d.taken q).stage m = d.stage m := by rw [Dev.taken_only d q]; rfl
@[simp] theorem Dev.taken_layout (p : List Byte) (o : Nat) : (d.taken q).layout p o = d.layout p o := by
  rw [Dev.taken_only d q]; rfl
@[simp] theorem Dev.taken_fstate (f : Nat) : (d.taken q).fstate f = d.fstate f := by rw [Dev.taken_only d q]; rfl

theorem modReply_taken (t : Nat) : modReply (d.taken q) t = modReply d t := by rw [Dev.taken_only d q]; rfl

end

/-! ### MOD_INFO (R528) -/

section
variable {d : Dev} {t : Nat}

theorem modReply_unknown (h : d.targetState t ≠ .valid) : modReply d t = w8 (d.targetState t).code ++ zeros 47 := by
  unfold modReply Dev.targetState at *
  by_cases ht : t < 16
  · rw [if_pos ht] at h ⊢
    rw [if_pos ht]
    have hstate : ((d.stage t).mstate == MState.valid) = false := beq_eq_false_iff_ne.2 h
    dsimp only
    rw [hstate]
    cases (d.stage t).ident <;> rfl
  · rw [if_neg ht] at h ⊢
    rw [if_neg ht, if_neg (by rwa [beq_iff_eq])]

theorem modReply_stage {i : StageId} (ht : t < 16) (hvalid : (d.stage t).mstate = .valid) (hident : (d.stage t).ident = some i) :
    modReply d t = w8 5 ++ w8 1 ++ w16 i.hwRev ++ padTo 16 i.serial ++ padTo 16 i.model ++ w8 i.volts.length ++ w8 i.amps.length
      ++ w16 i.chPresent ++ zeros 8 := by
  unfold modReply
  rw [if_pos ht]
  dsimp only
  rw [hvalid, hident]
  rfl

end

/-! ### MOD_RESCAN (R526) -/

/-- The module under discovery, and the libraries of its engines empty. -/
def Dev.rescanned (d : Dev) (m id : Nat) : Dev :=
  (d.modStage m (fun g => { g with mstate := .discovering, rescan := some id })).forAll ((List.range 16).map (16 * m + ·))
    (fun s e => s.modEng e (fun x => { x with lib := [] }))

section
variable (d : Dev) (m id : Nat)

theorem Dev.rescanned_stages : (d.rescanned m id).stages =
    (d.modStage m (fun g => { g with mstate := .discovering, rescan := some id })).stages := Dev.forAll_keeps Dev.stages

theorem Dev.rescanned_stage_same : (d.rescanned m id).stage m = { d.stage m with mstate := .discovering, rescan := some id } :=
  (congrArg (fun l => tblGet stageInit l m) (d.rescanned_stages m id)).trans (Dev.modStage_same ..)

theorem Dev.rescanned_stage_other {n : Nat} (h : n ≠ m) : (d.rescanned m id).stage n = d.stage n :=
  (congrArg (fun l => tblGet stageInit l n) (d.rescanned_stages m id)).trans ((Dev.modStage_get ..).trans (if_neg h))

theorem Dev.rescanned_lib {e : Nat} (hlow : 16 * m ≤ e) (hhigh : e < 16 * m + 16) : ((d.rescanned m id).eng e).lib = [] := by
  have hmem : e ∈ (List.range 16).map (16 * m + ·) := List.mem_map.2 ⟨e - 16 * m, List.mem_range.2 (by omega), by omega⟩
  refine Dev.forAll_reaches (I := fun _ => True) (P := fun x => (x.eng e).lib = []) hmem (fun _ _ _ _ => trivial) (fun x _ => ?_)
    (fun x n _ _ hx => ?_) trivial
  · rw [Dev.modEng_same]
  · rw [Dev.modEng_get]
    split
    · rfl
    · exact hx

end

theorem exec_modRescan {s : State} {q : Req} (h : s.dev.runsNow cmdModRescan q = true) :
    ∃ t : State, exec (.modRescan q) s = .next t ∧ t.mem = s.mem ∧
      t.dev.stages = ((s.dev.taken q).rescanned (u16 (s.dev.job 0x0C03 q).p 0) (s.dev.job 0x0C03 q).id).stages ∧
      t.dev.engines = ((s.dev.taken q).rescanned (u16 (s.dev.job 0x0C03 q).p 0) (s.dev.job 0x0C03 q).id).engines := by
  have hcommand := Dev.command_goesOn
    (effect := fun d => d.rescanned (u16 (s.dev.jobOf 0x0C03 q).p 0) (s.dev.jobOf 0x0C03 q).id) (data := []) h rfl rfl
  refine ⟨_, rfl, rfl, ?_⟩
  rw [State.on_dev]
  exact ⟨(congrArg Dev.stages hcommand).trans (Dev.pend_stages ..), (congrArg Dev.engines hcommand).trans (Dev.pend_engines ..)⟩

/-! ### Moves (R529) -/

theorem tblGet_setHolders (l : List Nat) (f i : Nat) (t : Tbl Nat) :
    tblGet holderInit (setHolders t l f) i = if i ∈ l then f else tblGet holderInit t i := by
  unfold setHolders
  induction l generalizing t with
  | nil => rfl
  | cons x r ih =>
    refine (ih _).trans ?_
    rw [tblGet_set]
    by_cases hi : i = x
    · simp [hi]
    · simp [hi]

/-- Of the holding, what a move and the owner's holds leave: who holds what, the policies, and the channels that leave. -/
def Assign.held (a : Assign) : Assign := { a with holdChan := 0, holdRoute := 0, holdSet := 0 }

/-- The resources of a move pass to a function. -/
def Assign.moved (a : Assign) (m : Moved) (f : Nat) : Assign :=
  { a with chan := setHolders a.chan m.chans f, route := setHolders a.route m.routes f, pin := setHolders a.pin m.pins f,
           seg := setHolders a.seg m.segs f, line := setHolders a.line m.lines f, set := setHolders a.set m.sets f }

theorem Dev.rest_held {a b : Dev} (h : b.rest = a.rest) : b.assign.held = a.assign.held :=
  (congrArg (fun x => x.1.assign.held) h :)

theorem Dev.rest_core {a b : Dev} (h : b.rest = a.rest) (f : Nat) : (b.fn f).core = (a.fn f).core :=
  (congrArg (fun x => x.2 f) h :)

theorem Dev.rest_view {a b : Dev} (h : b.rest = a.rest) (f : Nat) : (b.fn f).view = (a.fn f).view :=
  (congrArg (fun x => x.1.view) (Dev.rest_core h f) :)

theorem Dev.fabMoved_assign (d old : Dev) (f : Nat) : (d.fabMoved old f).assign = d.assign := by
  unfold Dev.fabMoved Dev.routesCut
  exact Dev.forAll_keeps Dev.assign

theorem Assign.held_moved {a b : Assign} (h : b.held = a.held) (m : Moved) (f : Nat) : (b.moved m f).held = (a.moved m f).held :=
  (congrArg (fun x => (x.moved m f).held) h :)

/-- What a move does before the holders change leaves the rest. -/
theorem Dev.move_rest (d : Dev) (frm to_ : Nat) (m : Moved) :
    (d.move frm to_ m).assign.held = (d.assign.moved m to_).held ∧ ∀ f, ((d.move frm to_ m).fn f).core = (d.fn f).core := by
  unfold Dev.move
  extract_lets s1 s2 s3 s4 s5 a a1
  have h := bystander_rest
  have h2 : s2.rest = d.rest :=
    (Dev.forAll_keeps Dev.rest (fun _ _ => h.routeLeave ..)).trans (Dev.forAll_keeps Dev.rest (fun _ _ => h.chanLeaves ..))
  have h3 : s3.rest = d.rest := ite_kept Dev.rest h2 ((h.playerBreaks ..).trans h2)
  have h4 : s4.rest = d.rest :=
    (Dev.forAll_keeps Dev.rest (fun _ _ => h.vSegLeaves ..)).trans
      ((Dev.forAll_keeps Dev.rest (fun _ _ => h.vPinLeaves ..)).trans h3)
  have h5 : s5.rest = d.rest := (Dev.forAll_keeps Dev.rest (fun _ _ => h.setLeaves ..)).trans h4
  have hmoved : a1.held = (a.moved m to_).held := rfl
  refine ⟨?_, fun f => (Dev.rest_core (h.fabMoved ..) f).trans (Dev.rest_core h5 f)⟩
  rw [Dev.fabMoved_assign]
  exact hmoved.trans (Assign.held_moved (Dev.rest_held h5) m to_)

/-- Who holds what, after a move of the resources `m` to `f`. -/
structure MovedTo (a b : Dev) (m : Moved) (f : Nat) : Prop where
  chans : ∀ c, b.chanHolder c = if c ∈ m.chans then f else a.chanHolder c
  routes : ∀ r, b.routeHolder r = if r ∈ m.routes then f else a.routeHolder r
  pins : ∀ p, b.pinHolder p = if p ∈ m.pins then f else a.pinHolder p
  segs : ∀ i, b.segHolder i = if i ∈ m.segs then f else a.segHolder i
  lines : ∀ l, b.lineHolder l = if l ∈ m.lines then f else a.lineHolder l
  sets : ∀ x, b.setHolder x = if x ∈ m.sets then f else a.setHolder x

theorem movedTo_of_assign {a b : Dev} {m : Moved} {f : Nat} {leaving : Tbl Nat}
    (h : b.assign.held = (({ a.assign with leaving := leaving } : Assign).moved m f).held) : MovedTo a b m f where
  chans := fun c => (congrArg (fun x : Assign => tblGet holderInit x.chan c) h).trans (tblGet_setHolders ..)
  routes := fun c => (congrArg (fun x : Assign => tblGet holderInit x.route c) h).trans (tblGet_setHolders ..)
  pins := fun c => (congrArg (fun x : Assign => tblGet holderInit x.pin c) h).trans (tblGet_setHolders ..)
  segs := fun c => (congrArg (fun x : Assign => tblGet holderInit x.seg c) h).trans (tblGet_setHolders ..)
  lines := fun c => (congrArg (fun x : Assign => tblGet holderInit x.line c) h).trans (tblGet_setHolders ..)
  sets := fun c => (congrArg (fun x : Assign => tblGet holderInit x.set c) h).trans (tblGet_setHolders ..)

/-! ### ADM_ASSIGN and ADM_RELEASE (R529, R530, R533) -/

/-- The resources of PF0 that a VF receives. -/
def Dev.assigned (d : Dev) (f : Nat) (m : Moved) : Dev := (d.move 0 f m).modFn f (fun r => { r with view := r.view ||| m.view })

/-- The resources that a VF returns. -/
def Dev.released (d : Dev) (f : Nat) (m : Moved) : Dev := ((d.forAll m.chans Dev.lossBegins).move f 0 m).viewLeaves f m.view

theorem Dev.assigned_view (d : Dev) (f : Nat) (m : Moved) : ((d.assigned f m).fn f).view = (d.fn f).view ||| m.view := by
  have hview : ((d.move 0 f m).fn f).view = (d.fn f).view := (congrArg (fun x => x.1.view) ((d.move_rest 0 f m).2 f) :)
  rw [Dev.assigned, Dev.modFn_same, hview]

theorem Dev.lossBegins_leaving (d : Dev) (c i : Nat) : tblGet leavingInit (d.lossBegins c).assign.leaving i =
    if i = c then (if d.seqBusy c then d.edgeAfter d.now else d.now) + 1 else tblGet leavingInit d.assign.leaving i := by
  unfold Dev.lossBegins
  extract_lets t
  exact tblGet_set leavingInit d.assign.leaving c i (t + 1)

theorem Dev.lossBegins_leaves (d : Dev) {l : List Nat} {c : Nat} (h : c ∈ l) :
    tblGet leavingInit (d.forAll l Dev.lossBegins).assign.leaving c ≠ 0 := by
  refine Dev.forAll_reaches (I := fun _ => True) (P := fun e => tblGet leavingInit e.assign.leaving c ≠ 0) h (fun _ _ _ _ => trivial)
    (fun e _ => ?_) (fun e x _ _ he => ?_) trivial
  · rw [Dev.lossBegins_leaving, if_pos rfl]
    exact Nat.succ_ne_zero _
  · rw [Dev.lossBegins_leaving]
    split
    · exact Nat.succ_ne_zero _
    · exact he

theorem Dev.lossBegins_assign (d : Dev) (l : List Nat) :
    (d.forAll l Dev.lossBegins).assign = { d.assign with leaving := (d.forAll l Dev.lossBegins).assign.leaving } :=
  Dev.forAll_induct (P := fun e => e.assign = { d.assign with leaving := e.assign.leaving })
    (fun e x _ he => by
      show ({ e.assign with leaving := _ } : Assign) = _
      rw [he]
      rfl) rfl

theorem Dev.viewLeaves_assign (d : Dev) (f m : Nat) : (d.viewLeaves f m).assign = d.assign := Dev.fabMoved_assign ..

/-- The holding after ADM_RELEASE. -/
theorem Dev.released_assign (d : Dev) (f : Nat) (m : Moved) : (d.released f m).assign.held =
    (({ d.assign with leaving := (d.forAll m.chans Dev.lossBegins).assign.leaving } : Assign).moved m 0).held := by
  rw [Dev.released, Dev.viewLeaves_assign, ((d.forAll m.chans Dev.lossBegins).move_rest f 0 m).1, Dev.lossBegins_assign]

section
variable {s : State} {q : Req}

theorem cmdAdmAssign_command (h : s.dev.runsNow cmdAdmAssign q = true) : s.dev.command cmdAdmAssign q =
    s.dev.goesOn 0x0D01 q (fun d => d.assigned (s.dev.job 0x0D01 q).vf (s.dev.layout (s.dev.job 0x0D01 q).p 4))
      (movedNames (s.dev.job 0x0D01 q).vf (s.dev.layout (s.dev.job 0x0D01 q).p 4)) [] := by
  refine Dev.command_goesOn h (Prod.ext ?_ rfl) ?_
  · dsimp only [cmdAdmAssign]
    rw [Dev.taken_layout]
    rfl
  · dsimp only [cmdAdmAssign]
    rw [Dev.taken_layout]

theorem cmdAdmRelease_command (h : s.dev.runsNow cmdAdmRelease q = true) : s.dev.command cmdAdmRelease q =
    s.dev.goesOn 0x0D02 q (fun d => d.released (s.dev.job 0x0D02 q).vf (s.dev.layout (s.dev.job 0x0D02 q).p 4))
      (movedNames (s.dev.job 0x0D02 q).vf (s.dev.layout (s.dev.job 0x0D02 q).p 4)) [] := by
  refine Dev.command_goesOn h (Prod.ext ?_ rfl) ?_
  · dsimp only [cmdAdmRelease]
    rw [Dev.taken_layout]
    rfl
  · dsimp only [cmdAdmRelease]
    rw [Dev.taken_layout]

theorem exec_admAssign (h : s.dev.runsNow cmdAdmAssign q = true) :
    ∃ t : State, exec (.admAssign q) s = .next t ∧ t.mem = s.mem ∧
      MovedTo s.dev t.dev (s.dev.layout (s.dev.job 0x0D01 q).p 4) (s.dev.job 0x0D01 q).vf ∧
      (t.dev.fn (s.dev.job 0x0D01 q).vf).view =
        (s.dev.fn (s.dev.job 0x0D01 q).vf).view ||| (s.dev.layout (s.dev.job 0x0D01 q).p 4).view := by
  refine ⟨_, rfl, rfl, ?_⟩
  refine ⟨movedTo_of_assign (leaving := s.dev.assign.leaving) ?_, ?_⟩
  · rw [State.on_dev, Dev.observed_assign, cmdAdmAssign_command h, Dev.goesOn, Dev.pend_assign]
    refine ((s.dev.taken q).move_rest 0 _ _).1.trans ?_
    rw [Dev.taken_assign]
  · rw [State.on_dev]
    refine (Dev.rest_view (bystander_rest.observed ..) _).trans ?_
    rw [cmdAdmAssign_command h]
    refine ((keptByReplies_view _).pend ..).trans ?_
    refine (Dev.assigned_view ..).trans ?_
    rw [Dev.taken_fn]

theorem exec_admRelease (h : s.dev.runsNow cmdAdmRelease q = true) :
    ∃ t : State, exec (.admRelease q) s = .next t ∧ t.mem = s.mem ∧
      MovedTo s.dev t.dev (s.dev.layout (s.dev.job 0x0D02 q).p 4) 0 ∧
      ∀ c ∈ (s.dev.layout (s.dev.job 0x0D02 q).p 4).chans, tblGet leavingInit t.dev.assign.leaving c ≠ 0 := by
  refine ⟨_, rfl, rfl, ?_⟩
  have hassign := (s.dev.taken q).released_assign (s.dev.job 0x0D02 q).vf (s.dev.layout (s.dev.job 0x0D02 q).p 4)
  rw [Dev.taken_assign] at hassign
  have hrow : (s.dev.observed (fun d => d.command cmdAdmRelease q)).assign =
      ((s.dev.taken q).released (s.dev.job 0x0D02 q).vf (s.dev.layout (s.dev.job 0x0D02 q).p 4)).assign := by
    rw [Dev.observed_assign, cmdAdmRelease_command h, Dev.goesOn, Dev.pend_assign]
  rw [State.on_dev]
  refine ⟨movedTo_of_assign ((congrArg Assign.held hrow).trans hassign), fun c hc => ?_⟩
  rw [hrow]
  have hleaving := congrArg (fun a : Assign => tblGet leavingInit a.leaving c) hassign
  exact fun hzero => Dev.lossBegins_leaves (s.dev.taken q) hc (hleaving.symm.trans hzero)

end

/-! ### ADM_HOLD (R534) -/

theorem testBit_holdBits (h m : Nat) (place : Bool) (n : Nat) :
    (holdBits h m place).testBit n = if m.testBit n then place else h.testBit n := by
  unfold holdBits
  cases place with
  | true =>
    rw [if_pos rfl, Nat.testBit_or]
    cases h.testBit n <;> cases m.testBit n <;> rfl
  | false =>
    rw [if_neg Bool.false_ne_true, andNot_testBit]
    cases h.testBit n <;> cases m.testBit n <;> rfl

theorem exec_admHold {s : State} {q : Req} (h : s.dev.runsNow cmdAdmHold q = true) :
    ∃ t : State, exec (.admHold q) s = .next t ∧ t.mem = s.mem ∧ t.dev.assign = { s.dev.assign with
      holdChan := holdBits s.dev.assign.holdChan (u64 (s.dev.job 0x0D06 q).p 4) (u8 (s.dev.job 0x0D06 q).p 2 == 1),
      holdRoute := holdBits s.dev.assign.holdRoute (leN (s.dev.job 0x0D06 q).p 12 32) (u8 (s.dev.job 0x0D06 q).p 2 == 1),
      holdSet := holdBits s.dev.assign.holdSet (leN (s.dev.job 0x0D06 q).p 44 32) (u8 (s.dev.job 0x0D06 q).p 2 == 1) } := by
  have hcommand := Dev.command_answer
    (effect := fun _ => (cmdAdmHold.body (s.dev.taken q) (s.dev.jobOf 0x0D06 q)).1) (p := []) h rfl rfl
  refine ⟨_, rfl, rfl, ?_⟩
  rw [State.on_dev]
  refine (congrArg Dev.assign hcommand).trans ?_
  rw [Dev.answer, Dev.done_assign]
  dsimp only [cmdAdmHold]
  rw [Dev.taken_assign]

/-! ### ADM_FUNC_CONFIG (R532, R544) -/

theorem cmdAdmFuncConfig_body (d : Dev) (j : Job) : cmdAdmFuncConfig.body d j = (d.modFn j.vf (fun r =>
    { r with cls := if (u8 j.p 2).testBit 0 then u8 j.p 3 else r.cls, weight := if (u8 j.p 2).testBit 0 then u16 j.p 4 else r.weight,
             ringCount := if (u8 j.p 2).testBit 1 then u8 j.p 6 else r.ringCount,
             quota := if (u8 j.p 2).testBit 1 then u64 j.p 8 else r.quota }), .done stOk []) := by
  refine congrArg (fun e : Dev => (e, Result.done stOk [])) (Dev.modFn_congr (d := d) (f := j.vf) ?_)
  cases (u8 j.p 2).testBit 0 <;> cases (u8 j.p 2).testBit 1 <;> rfl

end Sys2Proof.Machine

open Sys2Proof.Machine

/-- Settles O55, one sheet after the other; a move changes the holders of what it names, and what stops with it leaves the rest. -/
theorem moduleAndAdminCommands : Obligations.ModuleAndAdminCommands := by
  refine ⟨fun q s h => ⟨congrArg Host.Outcome.next (State.on_congr ?info), fun hstate => modReply_unknown hstate,
      fun i ht hvalid hident => modReply_stage ht hvalid hident⟩,
    fun q s h => congrArg Host.Outcome.next (State.on_congr ?read),
    fun q s h => ?rescan,
    fun q s h => ⟨congrArg Host.Outcome.next (State.on_congr (Dev.observed_congr (cmdAdmAssign_command h))), ?assign⟩,
    fun q s h => ⟨congrArg Host.Outcome.next (State.on_congr (Dev.observed_congr (cmdAdmRelease_command h))), ?release⟩,
    fun q s h => congrArg Host.Outcome.next (State.on_congr ?config),
    fun q s h => congrArg Host.Outcome.next (State.on_congr ?policy),
    fun q s h => congrArg Host.Outcome.next (State.on_congr ?tollgate),
    fun q s h => ?hold,
    fun q s h => congrArg Host.Outcome.next (State.on_congr ?query),
    fun q s h => congrArg Host.Outcome.next (State.on_congr (Dev.observed_congr ?session))⟩
  case info => exact Dev.command_answer h rfl (modReply_taken ..)
  case read => exact Dev.command_goesOn h rfl rfl
  case rescan =>
    obtain ⟨t, hexec, hmem, hstages, hengines⟩ := exec_modRescan h
    have hstage : ∀ n, t.dev.stage n = ((s.dev.taken q).rescanned (u16 (s.dev.job 0x0C03 q).p 0) (s.dev.job 0x0C03 q).id).stage n :=
      fun n => congrArg (fun l => tblGet stageInit l n) hstages
    have heng : ∀ e, t.dev.eng e = ((s.dev.taken q).rescanned (u16 (s.dev.job 0x0C03 q).p 0) (s.dev.job 0x0C03 q).id).eng e :=
      fun e => congrArg (fun l => tblGet engInit l e) hengines
    refine ⟨t, hexec, hmem, ?_, ?_, fun e hlow hhigh => ?_, fun n hn => ?_⟩
    · rw [hstage, Dev.rescanned_stage_same]
    · rw [hstage, Dev.rescanned_stage_same]
    · rw [heng, Dev.rescanned_lib _ _ _ hlow hhigh]
    · rw [hstage, Dev.rescanned_stage_other _ _ _ hn, Dev.taken_stage]
  case assign =>
    obtain ⟨t, hexec, hmem, hmoved, hview⟩ := exec_admAssign h
    exact ⟨t, hexec, hmem, hmoved.chans, hmoved.routes, hmoved.pins, hmoved.segs, hmoved.lines, hmoved.sets, hview⟩
  case release =>
    obtain ⟨t, hexec, hmem, hmoved, hleaves⟩ := exec_admRelease h
    exact ⟨t, hexec, hmem, hmoved.chans, hmoved.routes, hmoved.pins, hmoved.segs, hmoved.lines, hmoved.sets, hleaves⟩
  case config => exact Dev.command_answer h (cmdAdmFuncConfig_body ..) rfl
  case policy => exact Dev.command_answer h rfl rfl
  case tollgate => exact Dev.command_answer h rfl rfl
  case hold =>
    obtain ⟨t, hexec, hmem, hassign⟩ := exec_admHold h
    refine ⟨t, hexec, hmem, fun n => ?_⟩
    rw [hassign]
    exact ⟨testBit_holdBits .., testBit_holdBits .., testBit_holdBits ..⟩
  case query =>
    refine Dev.command_answer h rfl ?_
    simp only [resourcesReply_taken, Dev.taken_assign, Dev.taken_fstate, Dev.taken_fn]
    rfl
  case session => exact Dev.command_goesOn h rfl rfl

end

section
/-! Stage discovery, loss policies, and what a function-level reset does step by step (spec/17_module_identity.md, R526, R527;
spec/18_sessions.md, R533, R536 to R540). -/

namespace Sys2Proof.Machine

/-! ### STAGE_DISCOVERY (R526, R527) -/

section
variable {d : Dev} {m : Nat} {f : StageFound}

section
variable {α : Type} {p : Dev → α}

theorem Dev.sendDown_of (hseam : ∀ e g, p (Dev.modSeam e g) = p e) (d : Dev) (c : Nat) (msg : SideMsg) :
    p (d.sendDown c msg) = p d := by
  unfold Dev.sendDown Dev.sidePacket
  exact hseam d _

variable (hsend : ∀ e c msg, p (Dev.sendDown e c msg) = p e)
include hsend

theorem Dev.sendRange_of (d : Dev) (c : Nat) (cur : Bool) (code : Nat) : p (d.sendRange c cur code) = p d :=
  (hsend _ c _).trans (hsend d c _)

/-- A discovered module's ranges come to Helon in packets (R527); its channel's highest codes come to Denrix. -/
theorem Dev.chanFound_of (d : Dev) (i : StageId) (c : Nat) : p (d.chanFound i c) =
    p (d.modChan c (fun x => { x with vr := i.volts.length - 1, ir := i.amps.length - 1 })) := by
  unfold Dev.chanFound
  extract_lets vr ir s1
  refine ite_kept p rfl (((Dev.sendRange_of hsend _ c true ir).trans (Dev.sendRange_of hsend _ c false vr)).trans ?_)
  exact hsend s1 c _

end

theorem Dev.chanFound_stages (d : Dev) (i : StageId) (c : Nat) : (d.chanFound i c).stages = d.stages :=
  (Dev.chanFound_of (Dev.sendDown_of Dev.modSeam_stages) d i c).trans (Dev.modChan_stages ..)

theorem Dev.chanFound_chans (d : Dev) (i : StageId) (c : Nat) : (d.chanFound i c).chans =
    (d.modChan c (fun x => { x with vr := i.volts.length - 1, ir := i.amps.length - 1 })).chans :=
  Dev.chanFound_of (Dev.sendDown_of Dev.modSeam_chans) d i c

theorem Dev.chanFound_chan (d : Dev) (i : StageId) (c n : Nat) : (d.chanFound i c).chan n =
    if n = c then { d.chan c with vr := i.volts.length - 1, ir := i.amps.length - 1 } else d.chan n :=
  (congrArg (fun l => tblGet chanInit l n) (d.chanFound_chans i c)).trans (Dev.modChan_get ..)

/-- The module's state as a discovery leaves it, before its channels are told. -/
def Dev.stageKnown (d : Dev) (m : Nat) (f : StageFound) : Dev :=
  let r := d.stageResult f
  let s0 := d.modStage m (fun g => { g with mstate := r.2.1, ident := r.1, rescan := none })
  if r.2.2 = 0 || r.2.2 = 5 then
    s0.modStage m (fun g => { g with latched := stageWordReset, wanted := stageWordReset, shift := none, unconfirmed := false,
                                     failedOnce := false, readback := stageWordReset })
  else s0

theorem Dev.stageKnown_stage (d : Dev) (m : Nat) (f : StageFound) :
    ((d.stageKnown m f).stage m).mstate = (d.stageResult f).2.1 ∧ ((d.stageKnown m f).stage m).ident = (d.stageResult f).1 ∧
      ((d.stageKnown m f).stage m).rescan = none := by
  unfold Dev.stageKnown
  extract_lets r s0
  have h0 : s0.stage m = { d.stage m with mstate := r.2.1, ident := r.1, rescan := none } := Dev.modStage_same ..
  split
  · rw [Dev.modStage_same, h0]
    exact ⟨rfl, rfl, rfl⟩
  · rw [h0]
    exact ⟨rfl, rfl, rfl⟩

theorem Dev.stageFound_runs (hstate : (d.stage m).mstate = .discovering) (hdriven : (d.stage m).driven = true)
    (hchan : 4 * m < d.nChan) : d.stageFound m f =
      (match (d.stageResult f).1 with
      | some i => (d.stageKnown m f).forAll (List.range 4) (fun s k => s.chanFound i (4 * m + k))
      | none => (d.stageKnown m f).logIt (kModule 3 m) ((d.stageResult f).2.1.code + 256 * (d.stageResult f).2.2)).finish?
        (d.stage m).rescan stOk [] := by
  have hruns : ((d.stage m).mstate != .discovering || !(d.stage m).driven || decide (d.nChan ≤ 4 * m)) = false := by
    rw [hstate, hdriven, decide_eq_false (Nat.not_le.2 hchan)]
    rfl
  exact if_neg (by rw [hruns]; exact Bool.false_ne_true)

theorem Dev.stageFound_stages (hstate : (d.stage m).mstate = .discovering) (hdriven : (d.stage m).driven = true)
    (hchan : 4 * m < d.nChan) : (d.stageFound m f).stages = (d.stageKnown m f).stages := by
  rw [Dev.stageFound_runs hstate hdriven hchan, Dev.finish?_stages]
  split
  · exact Dev.forAll_keeps Dev.stages (fun _ _ => Dev.chanFound_stages ..)
  · exact Dev.logIt_stages ..

theorem Dev.stageFound_chan (hstate : (d.stage m).mstate = .discovering) (hdriven : (d.stage m).driven = true)
    (hchan : 4 * m < d.nChan) {i : StageId} (hident : (d.stageResult f).1 = some i) {k : Nat} (hk : k < 4) :
    ((d.stageFound m f).chan (4 * m + k)).vr = i.volts.length - 1 ∧ ((d.stageFound m f).chan (4 * m + k)).ir = i.amps.length - 1 := by
  rw [Dev.stageFound_runs hstate hdriven hchan, hident]
  have hchans : ∀ e : Dev, (e.finish? (d.stage m).rescan stOk []).chan (4 * m + k) = e.chan (4 * m + k) := fun e =>
    congrArg (fun l => tblGet chanInit l (4 * m + k)) (Dev.finish?_chans ..)
  rw [hchans]
  refine Dev.forAll_reaches (I := fun _ => True)
    (P := fun e => (e.chan (4 * m + k)).vr = i.volts.length - 1 ∧ (e.chan (4 * m + k)).ir = i.amps.length - 1)
    (List.mem_range.2 hk) (fun _ _ _ _ => trivial) (fun e _ => ?_) (fun e x _ _ he => ?_) trivial
  · rw [Dev.chanFound_chan, if_pos rfl]
    exact ⟨rfl, rfl⟩
  · rw [Dev.chanFound_chan]
    split
    · exact ⟨rfl, rfl⟩
    · exact he

section
variable {b : List Byte}

theorem Dev.stageResult_corrupt (h : recordOk b = false) : d.stageResult (.record b) = (none, .corrupt, 2) :=
  if_pos (by rw [h]; rfl)

theorem Dev.stageResult_unsupported (h : recordOk b = true) (hkind : d.recordKind b 1 = false) :
    d.stageResult (.record b) = (none, .unsupported, 3) :=
  (if_neg (by rw [h]; exact Bool.false_ne_true)).trans (if_pos (by rw [hkind]; rfl))

theorem Dev.stageResult_block (h : recordOk b = true) (hkind : d.recordKind b 1 = true) (hblock : stageBlockOk b = false) :
    d.stageResult (.record b) = (none, .corrupt, 4) :=
  (if_neg (by rw [h]; exact Bool.false_ne_true)).trans ((if_neg (by rw [hkind]; exact Bool.false_ne_true)).trans
    (if_pos (by rw [hblock]; rfl)))

theorem Dev.stageResult_valid (h : recordOk b = true) (hkind : d.recordKind b 1 = true) (hblock : stageBlockOk b = true) :
    d.stageResult (.record b) = (some (stageOf b), .valid, 0) :=
  (if_neg (by rw [h]; exact Bool.false_ne_true)).trans ((if_neg (by rw [hkind]; exact Bool.false_ne_true)).trans
    (if_neg (by rw [hblock]; exact Bool.false_ne_true)))

end

end

/-! ### LOSS_POLICY (R533) -/

/-- The channel that leaves, at its boundary; its policy waits no more. -/
def Dev.lossDue (d : Dev) (c t : Nat) : Dev :=
  { d.advance (d.boundaryAt (t + 1000000) - 1) with
    assign := { d.assign with leaving := tblSet leavingInit d.assign.leaving c 0 } }

section
variable {d : Dev} {c t : Nat} (h : tblGet leavingInit d.assign.leaving c = t + 1)
include h

theorem Dev.lossActs_follower (hfollower : d.follower c = true) : d.lossActs c = d.lossDue c t := by
  unfold Dev.lossActs
  rw [h]
  exact if_pos hfollower

theorem Dev.lossActs_leader (hfollower : d.follower c = false) : d.lossActs c =
    (match tblGet policyInit d.assign.policy c with
    | 0 => (d.lossDue c t).chanHalts c
    | 1 => if (((d.lossDue c t).chanHalts c).chan c).state = 3 then ((d.lossDue c t).chanHalts c).transBegin c 2 true none
      else (d.lossDue c t).chanHalts c
    | _ => if (((d.lossDue c t).chanHalts c).chan c).state = 0 then (d.lossDue c t).chanHalts c
      else ((d.lossDue c t).chanHalts c).transBegin c 0 true none) := by
  have hpolicy : ((d.lossDue c t).chanHalts c).assign.policy = d.assign.policy :=
    (congrArg Assign.policy (Dev.rest_held (bystander_rest.chanHalts (d.lossDue c t) c)) :)
  rw [← hpolicy]
  unfold Dev.lossActs
  rw [h]
  exact if_neg (fun hf => Bool.false_ne_true (hfollower.symm.trans hf))

end

/-! ### What a function-level reset leaves of the functions (R536, R537) -/

/-- The rest of a device, whoever holds what. -/
def Dev.restFree (d : Dev) : Dev × (Nat → Fn × (Nat → Bool)) := ({ d.rest.1 with assign := assignInit }, d.rest.2)

theorem bystander_restFree : Bystander Dev.restFree :=
  bystander_rest.comp (fun x => ({ x.1 with assign := assignInit }, x.2))

theorem Dev.restFree_now {a b : Dev} (h : b.restFree = a.restFree) : b.now = a.now := (congrArg (fun x => x.1.now) h :)
theorem Dev.restFree_link {a b : Dev} (h : b.restFree = a.restFree) : b.link = a.link := (congrArg (fun x => x.1.link) h :)
theorem Dev.restFree_core {a b : Dev} (h : b.restFree = a.restFree) (f : Nat) : (b.fn f).core = (a.fn f).core :=
  (congrArg (fun x => x.2 f) h :)

section
variable {r r' : Fn} (h : r.core = r'.core)
include h

theorem Fn.core_flr : r.flr = r'.flr := (congrArg (fun x => x.1.flr) h :)
theorem Fn.core_flrAt : r.flrAt = r'.flrAt := (congrArg (fun x => x.1.flrAt) h :)
theorem Fn.core_ready : r.ready = r'.ready := (congrArg (fun x => x.1.ready) h :)
theorem Fn.core_reply : r.reply = r'.reply := (congrArg (fun x => x.1.reply) h :)
theorem Fn.core_msixEnable : r.msixEnable = r'.msixEnable := (congrArg (fun x => x.1.msixEnable) h :)
theorem Fn.core_lateCpl : r.lateCpl = r'.lateCpl := (congrArg (fun x => x.1.lateCpl) h :)
theorem Fn.core_view : r.view = r'.view := (congrArg (fun x => x.1.view) h :)
theorem Fn.core_ringCount : r.ringCount = r'.ringCount := (congrArg (fun x => x.1.ringCount) h :)
theorem Fn.core_quota : r.quota = r'.quota := (congrArg (fun x => x.1.quota) h :)
theorem Fn.core_cls : r.cls = r'.cls := (congrArg (fun x => x.1.cls) h :)
theorem Fn.core_weight : r.weight = r'.weight := (congrArg (fun x => x.1.weight) h :)
theorem Fn.core_mask (v : Nat) : (r.vec v).mask = (r'.vec v).mask := (congrArg (fun x => x.2 v) h :)

end

theorem Dev.disarmAll_restFree (d : Dev) (f : Nat) : (d.disarmAll f).restFree = d.restFree := by
  have h := bystander_restFree
  unfold Dev.disarmAll
  extract_lets cs lim s1 s2 s3 s4 s5
  have h1 : s1.restFree = d.restFree := Dev.forAll_keeps Dev.restFree (fun _ _ => rfl)
  have h2 : s2.restFree = d.restFree :=
    (h.playerBreaks ..).trans ((Dev.forAll_keeps Dev.restFree (fun _ _ => h.seqEnd ..)).trans h1)
  have h3 : s3.restFree = d.restFree := (foldl_kept Dev.restFree (fun _ _ => h.swapGone ..) _ _).trans h2
  have h4 : s4.restFree = d.restFree := (Dev.forAll_keeps Dev.restFree (fun _ _ => h.set ..)).trans h3
  have h5 : s5.restFree = d.restFree :=
    (Dev.forAll_keeps Dev.restFree (fun _ _ => (h.res ..).trans (ite_kept Dev.restFree rfl (h.measGone ..)))).trans h4
  exact (Dev.forAll_keeps Dev.restFree (fun _ _ => h.vPinLeaves ..)).trans h5

end Sys2Proof.Machine

end

section
/-! The start of a function-level reset: what is over in its first step (spec/18_sessions.md, R536, R537, R540;
spec/02_host_link.md, R57). -/

namespace Sys2Proof.Machine

/-! ### Entries of a table -/

section
variable {α : Type}

theorem mem_tblErase {t : Tbl α} {k : Nat} {p : Nat × α} : p ∈ tblErase k t ↔ p ∈ t ∧ p.1 ≠ k := by
  simp [tblErase, List.mem_filter]

theorem mem_tblInsert {t : Tbl α} {k : Nat} {v : α} {p : Nat × α} : p ∈ tblInsert k v t ↔ p = (k, v) ∨ p ∈ t := by
  induction t with
  | nil => simp [tblInsert]
  | cons e r ih =>
    unfold tblInsert
    split
    · rw [List.mem_cons]
    · rw [List.mem_cons, List.mem_cons, ih]
      exact or_left_comm

theorem mem_tblSet_other [DecidableEq α] {d : Nat → α} {t : Tbl α} {k : Nat} {v : α} {p : Nat × α} (h : p.1 ≠ k) :
    p ∈ tblSet d t k v ↔ p ∈ t := by
  have hne : p ≠ (k, v) := fun heq => h (congrArg Prod.fst heq)
  unfold tblSet
  split
  · rw [mem_tblErase]
    exact and_iff_left h
  · rw [mem_tblInsert, mem_tblErase, or_iff_right hne]
    exact and_iff_left h

theorem eq_of_mem_tblSet [DecidableEq α] {d : Nat → α} {t : Tbl α} {k : Nat} {v : α} {p : Nat × α} (h : p ∈ tblSet d t k v)
    (hk : p.1 = k) : p = (k, v) := by
  unfold tblSet at h
  split at h
  · exact absurd hk (mem_tblErase.1 h).2
  · exact (mem_tblInsert.1 h).resolve_right (fun hmem => (mem_tblErase.1 hmem).2 hk)

/-- What is read of a table and is not its default stands in it. -/
theorem mem_of_tblGet_ne {d : Nat → α} {t : Tbl α} {k : Nat} (h : tblGet d t k ≠ d k) : (k, tblGet d t k) ∈ t := by
  induction t with
  | nil => exact absurd rfl h
  | cons e r ih =>
    unfold tblGet at h ⊢
    split at h
    · next he =>
      rw [if_pos he, ← he]
      exact List.mem_cons_self
    · next he =>
      rw [if_neg he]
      exact List.mem_cons_of_mem _ (ih h)

/-- What the default of a table and all its entries have, whatever is read of it has. -/
theorem tblGet_holds {P : α → Prop} {d : Nat → α} {t : Tbl α} (hd : ∀ i, P (d i)) (ht : ∀ p ∈ t, P p.2) (k : Nat) :
    P (tblGet d t k) := by
  induction t with
  | nil => exact hd k
  | cons e r ih =>
    unfold tblGet
    split
    · exact ht e List.mem_cons_self
    · exact ih (fun p hp => ht p (List.mem_cons_of_mem e hp))

theorem tblMap_forall [DecidableEq α] {P : α → Prop} {d : Nat → α} {g : α → α} {t : Tbl α} (h : ∀ p ∈ t, P (g p.2)) :
    ∀ p ∈ tblMap d g t, P p.2 := by
  have hfold : ∀ (l acc : Tbl α), (∀ p ∈ l, P (g p.2)) → (∀ p ∈ acc, P p.2) →
      ∀ p ∈ l.foldl (fun a p => tblSet d a p.1 (g p.2)) acc, P p.2 := by
    intro l
    induction l with
    | nil => exact fun _ _ hacc => hacc
    | cons e rest ih =>
      intro acc hl hacc
      refine ih _ (fun x hx => hl x (List.mem_cons_of_mem e hx)) (fun p hp => ?_)
      by_cases hk : p.1 = e.1
      · rw [eq_of_mem_tblSet hp hk]
        exact hl e List.mem_cons_self
      · exact hacc p ((mem_tblSet_other hk).1 hp)
  exact hfold t [] h (fun _ hp => absurd hp List.not_mem_nil)

end

/-! ### Whether the resets of the VFs are over (R540) -/

/-- No function but PF0 is in a reset. -/
def Dev.vfsIdle (d : Dev) : Bool := d.fns.all (fun p => p.1 == 0 || p.2.flr == .idle)

theorem Dev.vfsIdle_iff {d : Dev} : d.vfsIdle = true ↔ ∀ p ∈ d.fns, p.1 ≠ 0 → p.2.flr = .idle := by
  unfold Dev.vfsIdle
  simp [List.all_eq_true, or_iff_not_imp_left]

theorem Dev.vfsIdle_of_fns {a b : Dev} (h : b.fns = a.fns) : b.vfsIdle = a.vfsIdle :=
  congrArg (fun l : Tbl Fn => l.all (fun p => p.1 == 0 || p.2.flr == .idle)) h

theorem Dev.vfsIdle_modFn_zero (d : Dev) (g : Fn → Fn) : (d.modFn 0 g).vfsIdle = d.vfsIdle := by
  rw [Bool.eq_iff_iff, Dev.vfsIdle_iff, Dev.vfsIdle_iff]
  exact forall_congr' fun p => ⟨fun h hmem hp => h ((mem_tblSet_other hp).2 hmem) hp, fun h hmem hp => h ((mem_tblSet_other hp).1 hmem) hp⟩

theorem Dev.vfsIdle_modFn {d : Dev} (h : d.vfsIdle = true) {f : Nat} {g : Fn → Fn} (hg : ∀ r, (g r).flr = r.flr) :
    (d.modFn f g).vfsIdle = true := by
  rw [Dev.vfsIdle_iff] at h ⊢
  intro p hmem hp
  by_cases hf : p.1 = f
  · rw [eq_of_mem_tblSet hmem hf]
    refine (hg _).trans ?_
    by_cases hinit : d.fn f = fnInit f
    · rw [hinit]
      rfl
    · exact h _ (mem_of_tblGet_ne hinit) (hf ▸ hp)
  · exact h p ((mem_tblSet_other hf).1 hmem) hp

/-! The notes of a row reach PF0 alone, and an occurrence of any function leaves its reset. -/

theorem Dev.signal_vfsIdle_zero (d : Dev) (v : Nat) : (d.signal 0 v).vfsIdle = d.vfsIdle := by
  unfold Dev.signal
  extract_lets r clear
  split
  · exact Dev.vfsIdle_modFn_zero ..
  · split
    · exact Dev.vfsIdle_modFn_zero ..
    · exact Dev.vfsIdle_modFn_zero d (fun r => r.modVec v (fun x => { clear x with pba := false, edge := false }))

theorem Dev.irqTarget_zero (d : Dev) : d.irqTarget 0 = 0 := by
  unfold Dev.irqTarget
  split
  · rfl
  · rfl

theorem Dev.irq_vfsIdle_zero (d : Dev) (b : Nat) : (d.irq 0 b).vfsIdle = d.vfsIdle := by
  unfold Dev.irq
  rw [Dev.irqTarget_zero]
  dsimp only
  split
  · rfl
  · split
    · split
      · exact (Dev.signal_vfsIdle_zero ..).trans ((Dev.vfsIdle_modFn_zero ..).trans (Dev.vfsIdle_modFn_zero ..))
      · exact (Dev.vfsIdle_modFn_zero ..).trans (Dev.vfsIdle_modFn_zero ..)
    · exact Dev.vfsIdle_modFn_zero ..

theorem Dev.gstatNote_vfsIdle (new old : Dev) : (new.gstatNote old).vfsIdle = new.vfsIdle := by
  unfold Dev.gstatNote
  dsimp only
  generalize (if new.gstatLow.xor old.gstatLow / 1024 % 4 ≠ 0 then _ else _) = d
  split
  · rfl
  · exact Dev.forAll_keeps Dev.vfsIdle (fun e i => (Dev.irq_vfsIdle_zero ..).trans (Dev.vfsIdle_of_fns rfl))

theorem Dev.observed_vfsIdle (d : Dev) (g : Dev → Dev) : (d.observed g).vfsIdle = (g d).vfsIdle :=
  (Dev.gstatNote_vfsIdle ..).trans (Dev.vfsIdle_of_fns (Dev.fabricNote_fns ..))

theorem Dev.signal_vfsIdle {d : Dev} (h : d.vfsIdle = true) (f v : Nat) : (d.signal f v).vfsIdle = true := by
  unfold Dev.signal
  extract_lets r clear
  split
  · exact Dev.vfsIdle_modFn h (fun _ => rfl)
  · split
    · exact Dev.vfsIdle_modFn h (fun _ => rfl)
    · exact Dev.vfsIdle_modFn (f := f) (g := fun r => r.modVec v (fun x => { clear x with pba := false, edge := false })) h
        (fun _ => rfl)

theorem Dev.irq_vfsIdle {d : Dev} (h : d.vfsIdle = true) (f b : Nat) : (d.irq f b).vfsIdle = true := by
  unfold Dev.irq
  dsimp only
  split
  · exact h
  · have h1 : (d.modFn (d.irqTarget f) (fun r => { r with irqCause := r.irqCause ||| 2 ^ b })).vfsIdle = true :=
      Dev.vfsIdle_modFn h (fun _ => rfl)
    generalize d.modFn (d.irqTarget f) (fun r => { r with irqCause := r.irqCause ||| 2 ^ b }) = e at h1 ⊢
    split
    · split
      · refine Dev.signal_vfsIdle ?_ ..
        exact Dev.vfsIdle_modFn h1 (fun _ => rfl)
      · exact Dev.vfsIdle_modFn h1 (fun _ => rfl)
    · exact h1

/-- The functions, as what stops without a word to one of them leaves them. -/
theorem quiet_fns : Quiet Dev.fns where
  tg := Dev.modTg_fns
  fab := Dev.modFab_fns
  vec := Dev.modVec_fns
  chan := Dev.modChan_fns
  stage := Dev.modStage_fns
  helon := Dev.modHelon_fns
  res := Dev.modRes_fns
  seq := Dev.modSeq_fns
  handler := Dev.modHandler_fns
  set := Dev.modSet_fns
  chain := Dev.modChain_fns
  svy := Dev.modSvy_fns
  seqMem := fun _ _ => rfl
  swaps := fun _ _ => rfl
  free := Dev.freeNext_fns
  log := Dev.logIt_fns
  wake := fun d c => by rw [Dev.wakeBy_only d c]

theorem stable_vfsIdle : StableByRecords (fun d => d.vfsIdle = true) where
  stream := fun d i g h => (Dev.vfsIdle_of_fns (Dev.modStream_keeps Dev.fns Dev.modRes_fns (fun d _ => Dev.modVec_fns d _) d i g)).trans h
  ring := fun _ _ _ _ h => Dev.vfsIdle_modFn h (fun _ => rfl)
  caravans := fun _ _ h => h
  log := fun _ _ _ _ h => (Dev.vfsIdle_of_fns (Dev.logIt_fns ..)).trans h

theorem Dev.seqEnd_vfsIdle {d : Dev} (h : d.vfsIdle = true) (c reason tx : Nat) : (d.seqEnd c reason tx).vfsIdle = true := by
  unfold Dev.seqEnd
  extract_lets q s0 s1 s2 s3
  have of : ∀ {a b : Dev}, b.fns = a.fns → a.vfsIdle = true → b.vfsIdle = true := fun hf ha => (Dev.vfsIdle_of_fns hf).trans ha
  refine ite_holds (fun e => e.vfsIdle = true) ?_ h
  have h0 : s0.vfsIdle = true := ite_holds (fun e => e.vfsIdle = true) (of (quiet_fns.rcDrop ..) h) h
  have h2 : s2.vfsIdle = true := stable_vfsIdle.record (of (quiet_fns.seq ..) h0) _
  have h3 : s3.vfsIdle = true := by
    unfold s3
    split
    · exact ite_holds (fun e => e.vfsIdle = true) (of (quiet_fns.startCancel ..) h2) h2
    · exact h2
  exact Dev.irq_vfsIdle (of ((quiet_fns.pulses.pulseFor ..).trans (quiet_fns.hsNote ..)) h3) ..

theorem Dev.disarmAll_vfsIdle {d : Dev} (h : d.vfsIdle = true) (f : Nat) : (d.disarmAll f).vfsIdle = true := by
  have of : ∀ {a b : Dev}, b.fns = a.fns → a.vfsIdle = true → b.vfsIdle = true := fun hf ha => (Dev.vfsIdle_of_fns hf).trans ha
  have q := quiet_fns
  unfold Dev.disarmAll
  extract_lets cs lim s1 s2 s3 s4 s5
  have h1 : s1.vfsIdle = true := of (Dev.forAll_keeps Dev.fns (fun _ _ => rfl)) h
  have h2 : s2.vfsIdle = true := by
    have hends : (s1.forAll cs (fun s c => s.seqEnd c 10 (s.edgeAfter s.now))).vfsIdle = true :=
      Dev.forAll_induct (P := fun e => e.vfsIdle = true) (fun _ _ _ he => Dev.seqEnd_vfsIdle he ..) h1
    exact ite_holds (fun e => e.vfsIdle = true) (Dev.irq_vfsIdle (of ((q.log ..).trans (q.vAbort ..)) hends) ..) hends
  have h3 : s3.vfsIdle = true := of (foldl_kept Dev.fns (fun _ _ => q.swapGone ..) _ _) h2
  have h4 : s4.vfsIdle = true := of (Dev.forAll_keeps Dev.fns (fun _ _ => q.set ..)) h3
  have h5 : s5.vfsIdle = true :=
    of (Dev.forAll_keeps Dev.fns (fun _ _ => (q.res ..).trans (ite_kept Dev.fns rfl (q.measGone ..)))) h4
  exact of (Dev.forAll_keeps Dev.fns (fun _ _ => q.vPinLeaves ..)) h5

/-! ### Step 1 (R536) -/

theorem Fn.maskAll_vecs (r : Fn) : ∀ p ∈ r.maskAll.vecs, p.2.mask = true :=
  tblMap_forall (P := fun x : Vec => x.mask = true) (d := vecInit) (g := fun x => { x with mask := true }) (fun _ _ => rfl)

theorem Fn.configReset_mask {r : Fn} (h : ∀ p ∈ r.vecs, p.2.mask = true) (v : Nat) : (r.configReset.vec v).mask = true :=
  tblGet_holds (P := fun x : Vec => x.mask = true) (d := vecInit) (fun _ => rfl)
    (tblMap_forall (P := fun x : Vec => x.mask = true) (d := vecInit) (g := fun x => { x with addr := 0, data := 0 }) h) v

/-- What a function's own first step of its reset has set. -/
structure Fn.ResetBegun (r : Fn) (t : Nat) : Prop where
  flr : r.flr = .drain
  flrAt : r.flrAt = t
  ready : r.ready = false
  reply : r.reply = false
  msix : r.msixEnable = false
  mask : ∀ v, (r.vec v).mask = true

theorem Fn.ResetBegun.of_core {r r' : Fn} {t : Nat} (h : r'.core = r.core) (k : r.ResetBegun t) : r'.ResetBegun t where
  flr := (Fn.core_flr h).trans k.flr
  flrAt := (Fn.core_flrAt h).trans k.flrAt
  ready := (Fn.core_ready h).trans k.ready
  reply := (Fn.core_reply h).trans k.reply
  msix := (Fn.core_msixEnable h).trans k.msix
  mask := fun v => (Fn.core_mask h v).trans (k.mask v)

section
variable (d : Dev) (f : Nat) (cmd : Option Nat) (step : FlrStep)

/-- A function as its mailbox has left it. -/
def Dev.entered : Fn := { ((d.dropRequests f).fn f).mailboxReset with flr := step, flrAt := d.now, flrCmd := cmd }

theorem Dev.flrEnter_same : (d.flrEnter f cmd step).fn f = d.entered f cmd step :=
  tblGet_set_same fnInit (d.dropRequests f).fns f (d.entered f cmd step)

theorem Dev.flrEnter_other {i : Nat} (h : i ≠ f) : (d.flrEnter f cmd step).fn i = d.fn i :=
  ((tblGet_set fnInit (d.dropRequests f).fns f i (d.entered f cmd step)).trans (if_neg h)).trans
    ((tblGet_set fnInit d.fns f i _).trans (if_neg h))

theorem Dev.flrEnter_now : (d.flrEnter f cmd step).now = d.now := rfl

theorem Dev.flrEnter_link : (d.flrEnter f cmd step).link = d.link := rfl

end

section
variable (d : Dev) (f : Nat)

/-- A function whose own first step is taken. -/
def Fn.own (r : Fn) (keep : Bool) : Fn := { (if keep then r.maskAll else r.maskAll.configReset) with flr := .drain }

/-- The registers that a function's own first step changes, before what it has armed is disarmed. -/
def Dev.ownRegisters (d : Dev) (f : Nat) (keep : Bool) : Dev :=
  if f = 0 then (d.modFn f (fun r => r.own keep)).pf0Reset else d.modFn f (fun r => r.own keep)

theorem Dev.pf0Reset_fn (i : Nat) : d.pf0Reset.fn i = if i = 0 then { d.fn 0 with snap := (fnInit 0).snap } else d.fn i :=
  tblGet_set fnInit d.fns 0 i { d.fn 0 with snap := (fnInit 0).snap }

theorem Dev.flrOwn_restFree (keep : Bool) : (d.flrOwn f keep).restFree = (d.ownRegisters f keep).restFree := Dev.disarmAll_restFree ..

theorem Dev.ownRegisters_now (keep : Bool) : (d.ownRegisters f keep).now = d.now := by
  unfold Dev.ownRegisters
  exact ite_kept Dev.now rfl rfl

theorem Dev.ownRegisters_vfEnable (keep : Bool) : (d.ownRegisters f keep).link.vfEnable = d.link.vfEnable := by
  unfold Dev.ownRegisters
  exact ite_kept (fun e => e.link.vfEnable) rfl rfl

theorem Dev.ownRegisters_other (keep : Bool) {i : Nat} (h : i ≠ f) : (d.ownRegisters f keep).fn i = d.fn i := by
  have h1 : (d.modFn f (fun r => r.own keep)).fn i = d.fn i := (Dev.modFn_get ..).trans (if_neg h)
  unfold Dev.ownRegisters
  split
  · next hf => exact ((Dev.pf0Reset_fn _ i).trans (if_neg (hf ▸ h))).trans h1
  · exact h1

theorem Fn.own_begun {r : Fn} {t : Nat} (hat : r.flrAt = t) (hready : r.ready = false) (hreply : r.reply = false) :
    (r.own false).ResetBegun t :=
  ⟨rfl, hat, hready, hreply, rfl, fun v => Fn.configReset_mask (Fn.maskAll_vecs r) v⟩

theorem Dev.ownRegisters_begun {t : Nat} (hat : (d.fn f).flrAt = t) (hready : (d.fn f).ready = false)
    (hreply : (d.fn f).reply = false) : ((d.ownRegisters f false).fn f).ResetBegun t := by
  have h := Fn.own_begun hat hready hreply
  have h1 : ((d.modFn f (fun r => r.own false)).fn f).ResetBegun t := (Dev.modFn_same d f _).symm ▸ h
  unfold Dev.ownRegisters
  split
  · next hf =>
    subst hf
    rw [Dev.pf0Reset_fn, if_pos rfl]
    exact ⟨h1.flr, h1.flrAt, h1.ready, h1.reply, h1.msix, h1.mask⟩
  · exact h1

theorem Dev.flrOwn_begun {t : Nat} (hat : (d.fn f).flrAt = t) (hready : (d.fn f).ready = false)
    (hreply : (d.fn f).reply = false) : ((d.flrOwn f false).fn f).ResetBegun t :=
  (Dev.ownRegisters_begun d f hat hready hreply).of_core (Dev.restFree_core (Dev.flrOwn_restFree d f false) f)

theorem Dev.flrOwn_other (keep : Bool) {i : Nat} (h : i ≠ f) : ((d.flrOwn f keep).fn i).core = (d.fn i).core :=
  (Dev.restFree_core (Dev.flrOwn_restFree d f keep) i).trans (congrArg Fn.core (Dev.ownRegisters_other d f keep h))

theorem Dev.flrOwn_now (keep : Bool) : (d.flrOwn f keep).now = d.now :=
  (Dev.restFree_now (Dev.flrOwn_restFree d f keep)).trans (Dev.ownRegisters_now ..)

theorem Dev.flrOwn_vfEnable (keep : Bool) : (d.flrOwn f keep).link.vfEnable = d.link.vfEnable :=
  (congrArg Link.vfEnable (Dev.restFree_link (Dev.flrOwn_restFree d f keep))).trans (Dev.ownRegisters_vfEnable ..)

theorem Dev.flrStart_now (keep : Bool) (cmd : Option Nat) : (d.flrStart f keep cmd).now = d.now :=
  ite_kept Dev.now rfl ((Dev.flrOwn_now ..).trans (Dev.flrEnter_now ..))

theorem Dev.flrStart_idle (h : (d.fn f).flr = .idle) (keep : Bool) (cmd : Option Nat) :
    d.flrStart f keep cmd = (d.flrEnter f cmd .drain).flrOwn f keep :=
  if_neg (by rw [h]; exact Bool.false_ne_true)

theorem Dev.flrStart_begun (h : (d.fn f).flr = .idle) : ((d.flrStart f false none).fn f).ResetBegun d.now := by
  have hentered := d.flrEnter_same f none .drain
  rw [Dev.flrStart_idle d f h]
  refine Dev.flrOwn_begun _ f ?_ ?_ ?_
  · rw [hentered]; rfl
  · rw [hentered]; rfl
  · rw [hentered]; rfl

/-! ### VF Enable cleared, and PF0's own reset (R57, R540) -/

theorem Dev.vfsOff_now : d.vfsOff.now = d.now := by
  unfold Dev.vfsOff
  extract_lets l s1 s2
  have h1 : s1.now = d.now := Dev.forAll_keeps Dev.now (fun _ _ => Dev.flrStart_now ..)
  have h2 : s2.now = d.now := (Dev.forAll_keeps Dev.now (fun _ _ => Dev.modFn_now ..)).trans h1
  exact ite_kept Dev.now rfl ((Dev.irq_now ..).trans h2)

theorem Dev.vfsOff_vfEnable : d.vfsOff.link.vfEnable = false := by
  unfold Dev.vfsOff
  extract_lets l s1 s2
  split
  · next h => exact (Bool.not_eq_true' _).mp h
  · exact congrArg Link.vfEnable (Dev.irq_link ..)

theorem Dev.flrPf0_waits (h : d.vfsIdle = false) : d.flrPf0 = d :=
  if_neg (fun hc => Bool.false_ne_true (h.symm.trans (Bool.and_eq_true_iff.1 hc).2))

theorem Dev.flrPf0_begins (hflr : (d.fn 0).flr = .vfs) (h : d.vfsIdle = true) : d.flrPf0 = d.flrOwn 0 false :=
  if_pos (Bool.and_eq_true_iff.2 ⟨by rw [hflr]; rfl, h⟩)

theorem Dev.flrOwn_vfsIdle_zero (h : d.vfsIdle = true) (keep : Bool) : (d.flrOwn 0 keep).vfsIdle = true := by
  refine Dev.disarmAll_vfsIdle ?_ 0
  have h1 : (d.modFn 0 (fun r => r.own keep)).vfsIdle = true := (Dev.vfsIdle_modFn_zero ..).trans h
  exact (Dev.vfsIdle_of_fns (a := (d.modFn 0 (fun r => r.own keep)).modFn 0 (fun r => { r with snap := (fnInit 0).snap })) rfl).trans
    ((Dev.vfsIdle_modFn_zero ..).trans h1)

end

/-! ### INITIATE_FUNCTION_LEVEL_RESET -/

/-- PF0, which waits for the resets of its VFs. -/
def Dev.pf0Waits (d : Dev) : Dev := d.vfsOff.flrEnter 0 none .vfs

section
variable {d : Dev}

theorem Dev.flrWrite_zero (henabled : (d.fn 0).enabled = true) (hidle : (d.fn 0).flr = .idle) : d.flrWrite 0 = d.pf0Waits.flrPf0 := by
  unfold Dev.flrWrite
  rw [if_neg (by rw [henabled]; exact Bool.false_ne_true), if_pos rfl]
  exact if_pos (by rw [hidle]; rfl)

theorem Dev.flrWrite_other {f : Nat} (hf : f ≠ 0) (henabled : (d.fn f).enabled = true) : d.flrWrite f = d.flrStart f false none := by
  unfold Dev.flrWrite
  rw [if_neg (by rw [henabled]; exact Bool.false_ne_true), if_neg hf]

theorem Dev.pf0Waits_fn (d : Dev) : d.pf0Waits.fn 0 = d.vfsOff.entered 0 none .vfs := Dev.flrEnter_same ..

theorem Dev.pf0Waits_begun (h : d.pf0Waits.vfsIdle = true) : (d.pf0Waits.flrPf0.fn 0).ResetBegun d.now := by
  have hfn := d.pf0Waits_fn
  rw [Dev.flrPf0_begins _ (by rw [hfn]; rfl) h]
  refine Dev.flrOwn_begun _ 0 ?_ ?_ ?_
  · rw [hfn]
    exact d.vfsOff_now
  · rw [hfn]; rfl
  · rw [hfn]; rfl

theorem Dev.pf0Waits_vfEnable (d : Dev) : d.pf0Waits.flrPf0.link.vfEnable = false :=
  (ite_kept (fun e => e.link.vfEnable) (Dev.flrOwn_vfEnable ..) rfl).trans
    ((congrArg Link.vfEnable (Dev.flrEnter_link ..)).trans (Dev.vfsOff_vfEnable d))

theorem Dev.pf0Waits_vfsIdle (h : d.pf0Waits.vfsIdle = true) : d.pf0Waits.flrPf0.vfsIdle = true := by
  rw [Dev.flrPf0_begins _ (by rw [d.pf0Waits_fn]; rfl) h]
  exact Dev.flrOwn_vfsIdle_zero _ h false

end

theorem Fn.ResetBegun.observed {d : Dev} {g : Dev → Dev} {f t : Nat} (h : ((g d).fn f).ResetBegun t) :
    ((d.observed g).fn f).ResetBegun t :=
  h.of_core (Dev.rest_core (bystander_rest.observed d g) f)

theorem Dev.observed_vfEnable (d : Dev) (g : Dev → Dev) : (d.observed g).link.vfEnable = (g d).link.vfEnable :=
  (congrArg (fun x => x.1.link.vfEnable) (bystander_rest.observed d g) :)

theorem exec_initiateFunctionLevelReset (fn : FnId) (s : State) (henabled : (s.dev.fn fn.val).enabled = true)
    (hidle : (s.dev.fn fn.val).flr = .idle) :
    ∃ t : State, exec (.initiateFunctionLevelReset fn) s = .next t ∧ t.mem = s.mem ∧
      (t.dev.fn fn.val).flrAt = s.dev.now ∧ (t.dev.fn fn.val).ready = false ∧ (t.dev.fn fn.val).reply = false ∧
      (fn.val ≠ 0 ∨ t.dev.vfsIdle = true → (t.dev.fn fn.val).flr = .drain ∧ (t.dev.fn fn.val).msixEnable = false ∧
        ∀ v : Nat, ((t.dev.fn fn.val).vec v).mask = true) ∧
      (fn.val = 0 → t.dev.vfsIdle = false → (t.dev.fn 0).flr = .vfs) ∧
      (fn.val = 0 → t.dev.link.vfEnable = false) ∧ (fn.val ≠ 0 → t.dev.link.vfEnable = s.dev.link.vfEnable) := by
  refine ⟨_, rfl, rfl, ?_⟩
  rw [State.on_dev]
  rcases Nat.eq_zero_or_pos fn.val with h0 | hpos
  · rw [h0] at henabled hidle ⊢
    have hrow := Dev.flrWrite_zero henabled hidle
    rw [Dev.observed_congr (h := fun d => d.pf0Waits.flrPf0) hrow, Dev.observed_vfEnable, Dev.observed_vfsIdle]
    have hoff := s.dev.pf0Waits_vfEnable
    cases hvfs : s.dev.pf0Waits.vfsIdle with
    | true =>
      have h := Fn.ResetBegun.observed (g := fun d => d.pf0Waits.flrPf0) (Dev.pf0Waits_begun hvfs)
      have hdone := Dev.pf0Waits_vfsIdle hvfs
      exact ⟨h.flrAt, h.ready, h.reply, fun _ => ⟨h.flr, h.msix, h.mask⟩,
        fun _ hwait => Bool.noConfusion (hdone.symm.trans hwait), fun _ => hoff, fun hne => absurd rfl hne⟩
    | false =>
      have hwaits : s.dev.pf0Waits.flrPf0 = s.dev.pf0Waits := Dev.flrPf0_waits _ hvfs
      have hcore : ((s.dev.observed (fun d => d.pf0Waits.flrPf0)).fn 0).core = (s.dev.vfsOff.entered 0 none .vfs).core := by
        rw [Dev.rest_core (bystander_rest.observed s.dev _) 0, hwaits, Dev.pf0Waits_fn]
      rw [hwaits] at hoff ⊢
      refine ⟨(Fn.core_flrAt hcore).trans s.dev.vfsOff_now, Fn.core_ready hcore, Fn.core_reply hcore, fun hvfs' => ?_,
        fun _ _ => Fn.core_flr hcore, fun _ => hoff, fun hne => absurd rfl hne⟩
      exact hvfs'.elim (fun hne => absurd rfl hne) (fun htrue => Bool.noConfusion (hvfs.symm.trans htrue))
  · have hne : fn.val ≠ 0 := Nat.ne_of_gt hpos
    rw [Dev.observed_congr (h := fun d => d.flrStart fn.val false none) (Dev.flrWrite_other hne henabled), Dev.observed_vfEnable]
    have h := Fn.ResetBegun.observed (g := fun d => d.flrStart fn.val false none) (Dev.flrStart_begun s.dev fn.val hidle)
    refine ⟨h.flrAt, h.ready, h.reply, fun _ => ⟨h.flr, h.msix, h.mask⟩, fun h0 => absurd h0 hne, fun h0 => absurd h0 hne, fun _ => ?_⟩
    rw [Dev.flrStart_idle _ _ hidle, Dev.flrOwn_vfEnable, Dev.flrEnter_link]

end Sys2Proof.Machine

end

section
/-! The later steps of a function-level reset, and the rows of modules, policies and resets (spec/18_sessions.md, R536, R540). -/

namespace Sys2Proof.Machine

/-! ### Step 2: the rings (R335) -/

/-- Which rings of which functions are enabled. -/
def Dev.ringsOn (d : Dev) : Nat → Nat → Bool := fun f r => ((d.fn f).ring r).enabled

theorem Dev.ringsOn_of_fns {a b : Dev} (h : b.fns = a.fns) : b.ringsOn = a.ringsOn :=
  congrArg (fun l => fun f r => ((tblGet fnInit l f).ring r).enabled) h

theorem OnlyCauses.rings {a b : Dev} (h : OnlyCauses a b) (f : Nat) : (b.fn f).rings = (a.fn f).rings := by rw [h f]

theorem Dev.modRing_ringsOn (d : Dev) (f r : Nat) {g : Ring → Ring} (hg : ∀ x, (g x).enabled = x.enabled) :
    (d.modFn f (fun x => x.modRing r g)).ringsOn = d.ringsOn := by
  funext i j
  unfold Dev.ringsOn
  rw [Dev.modFn_modRing_get]
  split
  · next h => rw [hg, h.1, h.2]
  · rfl

theorem Dev.modStream_ringsOn (d : Dev) (i : Nat) (g : Stream → Stream) : (d.modStream i g).ringsOn = d.ringsOn :=
  Dev.modStream_keeps Dev.ringsOn (fun _ _ _ => rfl) (fun _ _ => rfl) d i g

theorem Dev.freeSlots_ringsOn (d : Dev) (l : List Rec) : (d.freeSlots l).ringsOn = d.ringsOn :=
  foldl_kept Dev.ringsOn (fun _ _ => Dev.modStream_ringsOn ..) l d

theorem Dev.lose_ringsOn (d : Dev) (i : Nat) (r : Rec) (n : Nat) : (d.lose i r n).ringsOn = d.ringsOn := by
  unfold Dev.lose
  extract_lets s1
  refine (Dev.modRing_ringsOn s1 _ _ ?_).trans (Dev.modStream_ringsOn ..)
  exact fun _ => rfl

theorem Dev.dropBlocks_ringsOn (d : Dev) (f r : Nat) : (d.dropBlocks f r).ringsOn = d.ringsOn := by
  unfold Dev.dropBlocks
  extract_lets g l s1 s2
  have h1 : s1.ringsOn = d.ringsOn := by
    refine (Dev.freeSlots_ringsOn _ l).trans ?_
    exact Dev.modRing_ringsOn d f r (fun _ => rfl)
  have h2 : s2.ringsOn = s1.ringsOn := Dev.ringsOn_of_fns (Dev.modTg_fns ..)
  refine (foldl_kept Dev.ringsOn (fun e x => ?_) l s2).trans (h2.trans h1)
  exact ite_kept Dev.ringsOn (Dev.lose_ringsOn ..) rfl

theorem Dev.disableRing_ringsOn (d : Dev) (f r i j : Nat) :
    (d.disableRing f r).ringsOn i j = if i = f ∧ j = r then false else d.ringsOn i j := by
  rw [← Dev.dropBlocks_ringsOn d f r]
  unfold Dev.ringsOn Dev.disableRing
  rw [Dev.modFn_modRing_get]
  split
  · rfl
  · rfl

/-- A function's rings, disabled. -/
def Dev.ringsOff (d : Dev) (f : Nat) : Dev :=
  d.forAll (List.range 8) (fun s r => if ((s.fn f).ring r).enabled then s.disableRing f r else s)

theorem Dev.ringsOff_ringsOn (d : Dev) (f : Nat) {r : Nat} (hr : r < 8) : (d.ringsOff f).ringsOn f r = false := by
  refine Dev.forAll_reaches (I := fun _ => True) (P := fun e => e.ringsOn f r = false) (List.mem_range.2 hr) (fun _ _ _ _ => trivial)
    (fun e _ => ?_) (fun e x _ _ he => ?_) trivial
  · split
    · rw [Dev.disableRing_ringsOn, if_pos ⟨rfl, rfl⟩]
    · next hoff => exact Bool.eq_false_iff.2 hoff
  · split
    · rw [Dev.disableRing_ringsOn]
      split
      · rfl
      · exact he
    · exact he

/-- The channels of a function that still leave, halted. -/
def Dev.leavingHalt (d : Dev) (f : Nat) : Dev :=
  d.forAll ((List.range 64).filter (fun c => d.holdsChan f c && tblGet leavingInit d.assign.leaving c != 0)) Dev.chanHalts

theorem Dev.flrDrained_runs {d : Dev} {f : Nat} (hflr : (d.fn f).flr = .drain) (hturn : d.flrTurn f = true) :
    d.flrDrained f = ((d.ringsOff f).leavingHalt f).modFn f (fun r => { r with flr := .completions }) := by
  unfold Dev.flrDrained Dev.leavingHalt Dev.ringsOff
  rw [if_neg (by rw [hflr, hturn]; exact Bool.false_ne_true)]

/-- What a row sets in a function in the end is seen after it, but for causes and vectors. -/
theorem Dev.observed_modFn_core (d : Dev) (g : Dev → Dev) (f : Nat) (h : Fn → Fn) :
    ((d.observed (fun e => (g e).modFn f h)).fn f).core = (h ((g d).fn f)).core :=
  (Dev.rest_core (bystander_rest.observed d _) f).trans (congrArg Fn.core (Dev.modFn_same (g d) f h))

theorem Dev.observed_modFn_ring (d : Dev) (g : Dev → Dev) (f : Nat) {h : Fn → Fn} (hh : ∀ x, (h x).rings = x.rings) (r : Nat) :
    ((d.observed (fun e => (g e).modFn f h)).fn f).ring r = ((g d).fn f).ring r := by
  have hrings := (Dev.observed_causes d (fun e => (g e).modFn f h)).rings f
  rw [Dev.modFn_same, hh] at hrings
  exact congrArg (fun l => tblGet ringInit l r) hrings

theorem Dev.leavingHalt_ringsOff (d : Dev) (f : Nat) {r : Nat} (hr : r < 8) :
    ((((d.ringsOff f).leavingHalt f).fn f).ring r).enabled = false := by
  have hhalt : ((d.ringsOff f).leavingHalt f).ringsOn = (d.ringsOff f).ringsOn :=
    Dev.ringsOn_of_fns (Dev.forAll_keeps Dev.fns (fun _ _ => quiet_fns.chanHalts ..))
  exact (congrFun (congrFun hhalt f) r).trans (Dev.ringsOff_ringsOn d f hr)

theorem Dev.flrDrained_after {d : Dev} {f : Nat} (hflr : (d.fn f).flr = .drain) (hturn : d.flrTurn f = true) :
    ((d.observed (fun e => e.flrDrained f)).fn f).flr = .completions ∧
      ∀ r, r < 8 → (((d.observed (fun e => e.flrDrained f)).fn f).ring r).enabled = false := by
  rw [Dev.observed_congr (g := fun e => e.flrDrained f) (h := fun e => ((e.ringsOff f).leavingHalt f).modFn f
    (fun r => { r with flr := .completions })) (Dev.flrDrained_runs hflr hturn)]
  refine ⟨?_, fun r hr => ?_⟩
  · exact Fn.core_flr (d.observed_modFn_core (fun e => (e.ringsOff f).leavingHalt f) f (fun r => { r with flr := .completions }))
  · rw [Dev.observed_modFn_ring d (fun e => (e.ringsOff f).leavingHalt f) f (h := fun r => { r with flr := .completions })
      (fun _ => rfl)]
    exact Dev.leavingHalt_ringsOff d f hr

theorem exec_flrRingDrainDone (fn : FnId) (s : State) (hflr : (s.dev.fn fn.val).flr = .drain) (hturn : s.dev.flrTurn fn.val = true) :
    ∃ t : State, exec (.flrRingDrainDone fn) s = .next t ∧ t.mem = s.mem ∧ (t.dev.fn fn.val).flr = .completions ∧
      ∀ r : Nat, r < 8 → ((t.dev.fn fn.val).ring r).enabled = false := by
  refine ⟨_, rfl, rfl, ?_⟩
  rw [State.on_dev]
  exact Dev.flrDrained_after hflr hturn

/-! ### Step 3: what is still missing (R448) -/

/-- A load of a function whose replies are gone. -/
def Running.lostLoad (f : Nat) (r : Running) : Bool := r.job.f == f && r.silent && (r.job.op == 0x0805 || r.job.op == 0x0E06)

theorem Dev.flrCompleted_runs {d : Dev} {f : Nat} (hflr : (d.fn f).flr = .completions) (hturn : d.flrTurn f = true) :
    d.flrCompleted f = ((d.tg.running.filter (Running.lostLoad f)).foldl Dev.loadDropped d).modFn f
      (fun r => { r with flr := .resources, outstanding := 0 }) := by
  unfold Dev.flrCompleted
  rw [if_neg (by rw [hflr, hturn]; exact Bool.false_ne_true)]
  rfl

theorem Dev.vLoadUndefined_tg (d : Dev) (j : Job) : (d.vLoadUndefined j).tg = d.tg := by
  unfold Dev.vLoadUndefined Dev.storeWords Dev.setSeg
  extract_lets n
  rw [Dev.freeNext_tg, Dev.modVec_tg, Dev.modVec_tg]

theorem Dev.loadDropped_running (d : Dev) (r : Running) :
    (d.loadDropped r).tg.running = d.tg.running.filter (fun x => x.job.id != r.job.id) := by
  unfold Dev.loadDropped
  split
  · exact congrArg (fun t : Tollgate => t.running.filter (fun x => x.job.id != r.job.id)) (Dev.vLoadUndefined_tg ..)
  · rfl

theorem Dev.mem_loadsDropped {l : List Running} {d : Dev} {x : Running} (h : x ∈ (l.foldl Dev.loadDropped d).tg.running) :
    x ∈ d.tg.running ∧ x ∉ l := by
  induction l generalizing d with
  | nil => exact ⟨h, List.not_mem_nil⟩
  | cons r rest ih =>
    obtain ⟨hmem, hrest⟩ := ih h
    rw [Dev.loadDropped_running, List.mem_filter] at hmem
    refine ⟨hmem.1, fun hx => ?_⟩
    rcases List.mem_cons.1 hx with rfl | hx
    · simp at hmem
    · exact hrest hx

theorem exec_flrCompletionsDone (fn : FnId) (s : State) (hflr : (s.dev.fn fn.val).flr = .completions)
    (hturn : s.dev.flrTurn fn.val = true) :
    (s.dev.tg.running.any (Running.lostLoad fn.val) = false → exec (.flrCompletionsDone fn) s = .next (s.on (fun d =>
      d.modFn fn.val (fun r => { r with flr := .resources, outstanding := 0 })))) ∧
    ∃ t : State, exec (.flrCompletionsDone fn) s = .next t ∧ t.mem = s.mem ∧ (t.dev.fn fn.val).flr = .resources ∧
      (t.dev.fn fn.val).outstanding = 0 ∧ t.dev.tg.running.any (Running.lostLoad fn.val) = false := by
  have hrow := Dev.flrCompleted_runs hflr hturn
  refine ⟨fun hnone => congrArg Host.Outcome.next (State.on_congr ?_), _, rfl, rfl, ?_⟩
  · have hnil : s.dev.tg.running.filter (Running.lostLoad fn.val) = [] :=
      List.filter_eq_nil_iff.2 (fun r hr => Bool.not_eq_true _ ▸ List.any_eq_false.1 hnone r hr)
    rw [hrow, hnil]
    rfl
  · rw [State.on_dev, hrow, Dev.modFn_same, Dev.modFn_tg]
    refine ⟨rfl, rfl, List.any_eq_false.2 (fun x hx hload => ?_)⟩
    obtain ⟨hmem, hdropped⟩ := Dev.mem_loadsDropped hx
    exact hdropped (List.mem_filter.2 ⟨hmem, hload⟩)

end Sys2Proof.Machine

end

section
/-! Steps 4 to 7 of a function-level reset (spec/18_sessions.md, R536, R537, R540). -/

namespace Sys2Proof.Machine

/-! ### Steps 4 to 6: what a function returns -/

/-- What both steps return: the urgent conversions that wait, causes and vectors, and the caravans of a function. -/
def Dev.flrDropped (d : Dev) (f : Nat) : Dev :=
  let gone := (d.svy.urgent.filter (fun k => k.cmd.isSome && k.fn == f)).filterMap (·.cmd)
  let s0 := d.modSvy (fun y => { y with urgent := y.urgent.filter (fun k => k.cmd.isNone || k.fn != f) })
  let s1 := s0.forAll gone (fun s i => s.finish i stState [])
  (s1.modFn f (fun r => { r with irqCause := 0, irqMask := 0, vecs := clearVecs r.vecs })).modTg
    (fun t => { t with caravans := t.caravans.filter (fun c => c.fn != f),
                       running := t.running.filter (fun r => r.job.f != f || !r.silent || r.job.op != 0x0806) })

/-- A VF whose resources are returned. -/
def Fn.returned (r : Fn) (f : Nat) : Fn :=
  { fnInit f with
    vecs := r.vecs, enabled := r.enabled, flr := .finishing, flrAt := r.flrAt, flrCmd := r.flrCmd, lateCpl := r.lateCpl,
    msixEnable := r.msixEnable, funcMask := r.funcMask, busMaster := r.busMaster, cplDisable := r.cplDisable,
    cplValue := r.cplValue, maxPayload := r.maxPayload, maxReadReq := r.maxReadReq, relaxed := r.relaxed,
    ecrcCheck := r.ecrcCheck, ecrcGen := r.ecrcGen, aerEcrc := r.aerEcrc, aerPoison := r.aerPoison, aerLog := r.aerLog,
    tag10 := r.tag10, d3hot := r.d3hot, flrSeq := r.flrSeq }

section
variable (f : Nat) (r : Fn)

theorem Fn.returned_flr : (r.returned f).flr = .finishing := rfl
theorem Fn.returned_view : (r.returned f).view = 0 := rfl
theorem Fn.returned_rings : (r.returned f).rings = [] := rfl
theorem Fn.returned_ringCount : (r.returned f).ringCount = 0 := rfl
theorem Fn.returned_lateCpl : (r.returned f).lateCpl = r.lateCpl := rfl

end

/-- PF0's locks break, and its holds end. -/
def Dev.pf0Keeps (d : Dev) : Dev :=
  let s3 := d.forAll ((d.mxSets.filter (fun p => d.setHolder p.1 == 0 && p.2.locked)).map (·.1)) (fun s q => s.setLeaves 0 q)
  { s3 with assign := { s3.assign with holdChan := 0, holdRoute := 0, holdSet := 0 } }

/-- A VF's resources pass to PF0, and its view goes. -/
def Dev.vfReturns (d : Dev) (f : Nat) : Dev := (d.move f 0 (d.holdings f)).viewLeaves f (d.holdings f).view

theorem Dev.flrReturned_zero {d : Dev} (hflr : (d.fn 0).flr = .resources) (hturn : d.flrTurn 0 = true) :
    d.flrReturned 0 = (d.flrDropped 0).pf0Keeps.modFn 0 (fun r => { r with flr := .finishing }) := by
  unfold Dev.flrReturned Dev.pf0Keeps Dev.flrDropped
  rw [if_neg (by rw [hflr, hturn]; exact Bool.false_ne_true)]
  exact if_pos rfl

theorem Dev.flrReturned_vf {d : Dev} {f : Nat} (hf : f ≠ 0) (hflr : (d.fn f).flr = .resources) (hturn : d.flrTurn f = true) :
    d.flrReturned f = ((d.flrDropped f).vfReturns f).modFn f (Fn.returned · f) := by
  unfold Dev.flrReturned Dev.vfReturns Dev.flrDropped
  rw [if_neg (by rw [hflr, hturn]; exact Bool.false_ne_true)]
  exact if_neg hf

section
variable (d : Dev) (f : Nat)

theorem Dev.flrDropped_assign : (d.flrDropped f).assign = d.assign := by
  unfold Dev.flrDropped
  extract_lets gone s0 s1
  have h1 : s1.assign = d.assign := (Dev.forAll_keeps Dev.assign (fun _ _ => Dev.finish_assign ..)).trans (Dev.modSvy_assign ..)
  exact (Dev.modTg_assign ..).trans ((Dev.modFn_assign ..).trans h1)

theorem Dev.flrDropped_lateCpl : ((d.flrDropped f).fn f).lateCpl = (d.fn f).lateCpl := by
  unfold Dev.flrDropped
  extract_lets gone s0 s1
  have h1 : s1.fns = d.fns := (Dev.forAll_keeps Dev.fns (fun _ _ => quiet_fns.finish ..)).trans (Dev.modSvy_fns ..)
  have h2 : s1.fn f = d.fn f := congrArg (fun l => tblGet fnInit l f) h1
  rw [Dev.modTg_fn, Dev.modFn_same, h2]

theorem Dev.pf0Keeps_held : d.pf0Keeps.assign.held = d.assign.held := by
  unfold Dev.pf0Keeps
  extract_lets s3
  have h3 : s3.rest = d.rest := Dev.forAll_keeps Dev.rest (fun _ _ => bystander_rest.setLeaves ..)
  show s3.assign.held = d.assign.held
  exact Dev.rest_held h3

theorem Dev.viewLeaves_lateCpl (m : Nat) : ((d.viewLeaves f m).fn f).lateCpl = (d.fn f).lateCpl := by
  unfold Dev.viewLeaves
  extract_lets s1
  refine (congrArg (fun l => (tblGet fnInit l f).lateCpl) (quiet_fns.fabMoved s1 d f)).trans ?_
  show (s1.fn f).lateCpl = (d.fn f).lateCpl
  unfold s1
  rw [Dev.modFn_same]

theorem Dev.vfReturns_lateCpl : ((d.vfReturns f).fn f).lateCpl = (d.fn f).lateCpl :=
  (Dev.viewLeaves_lateCpl ..).trans (congrArg (fun x => x.1.lateCpl) ((d.move_rest f 0 (d.holdings f)).2 f))

theorem Dev.vfReturns_held : (d.vfReturns f).assign.held = (d.assign.moved (d.holdings f) 0).held := by
  rw [Dev.vfReturns, Dev.viewLeaves_assign]
  exact (d.move_rest f 0 (d.holdings f)).1

end

/-- What a function holds stands among its holdings. -/
theorem mem_held {t : Tbl Nat} {f i : Nat} (hf : f ≠ 0) (h : tblGet holderInit t i = f) :
    i ∈ (t.filter (fun p => p.2 == f)).map (·.1) := by
  have hmem : (i, tblGet holderInit t i) ∈ t := mem_of_tblGet_ne (h ▸ hf)
  rw [h] at hmem
  exact List.mem_map.2 ⟨(i, f), List.mem_filter.2 ⟨hmem, beq_self_eq_true f⟩, rfl⟩

/-- What a VF held is PF0's, and what it did not hold is whose it was or PF0's. -/
theorem returned_holder {l : List Nat} {f old new : Nat} {i : Nat} (hmem : old = f → i ∈ l) (hnew : new = if i ∈ l then 0 else old) :
    (old = f → new = 0) ∧ (new = 0 ∨ new = old) := by
  rw [hnew]
  refine ⟨fun h => if_pos (hmem h), ?_⟩
  split
  · exact .inl rfl
  · exact .inr rfl

theorem Dev.observed_held (d : Dev) (g : Dev → Dev) : (d.observed g).assign.held = (g d).assign.held :=
  Dev.rest_held (bystander_rest.observed d g)

theorem Dev.flrReturned_pf0 {d : Dev} (hflr : (d.fn 0).flr = .resources) (hturn : d.flrTurn 0 = true) :
    ((d.observed (fun e => e.flrReturned 0)).fn 0).flr = .finishing ∧
      (d.observed (fun e => e.flrReturned 0)).assign.chan = d.assign.chan ∧
      (d.observed (fun e => e.flrReturned 0)).assign.set = d.assign.set := by
  rw [Dev.observed_congr (g := fun e => e.flrReturned 0)
    (h := fun e => (e.flrDropped 0).pf0Keeps.modFn 0 (fun r => { r with flr := .finishing })) (Dev.flrReturned_zero hflr hturn)]
  have hheld : ((d.flrDropped 0).pf0Keeps.modFn 0 (fun r => { r with flr := .finishing })).assign.held = d.assign.held := by
    rw [Dev.modFn_assign, Dev.pf0Keeps_held, Dev.flrDropped_assign]
  refine ⟨?_, ?_⟩
  · exact Fn.core_flr (d.observed_modFn_core (fun e => (e.flrDropped 0).pf0Keeps) 0 (fun r => { r with flr := .finishing }))
  · have h := (d.observed_held (fun e => (e.flrDropped 0).pf0Keeps.modFn 0 (fun r => { r with flr := .finishing }))).trans hheld
    exact ⟨(congrArg Assign.chan h :), (congrArg Assign.set h :)⟩

/-- What a VF's reset has returned. -/
structure Dev.Returned (a b : Dev) (f : Nat) : Prop where
  flr : (b.fn f).flr = .finishing
  view : (b.fn f).view = 0
  rings : (b.fn f).rings = []
  ringCount : (b.fn f).ringCount = 0
  chans : ∀ c, (a.chanHolder c = f → b.chanHolder c = 0) ∧ (b.chanHolder c = 0 ∨ b.chanHolder c = a.chanHolder c)
  sets : ∀ x, (a.setHolder x = f → b.setHolder x = 0) ∧ (b.setHolder x = 0 ∨ b.setHolder x = a.setHolder x)
  routes : ∀ r, (a.routeHolder r = f → b.routeHolder r = 0) ∧ (b.routeHolder r = 0 ∨ b.routeHolder r = a.routeHolder r)
  lateCpl : (b.fn f).lateCpl = (a.fn f).lateCpl

theorem Dev.flrReturned_after {d : Dev} {f : Nat} (hf : f ≠ 0) (hflr : (d.fn f).flr = .resources) (hturn : d.flrTurn f = true) :
    Dev.Returned d (d.observed (fun e => e.flrReturned f)) f := by
  rw [Dev.observed_congr (g := fun e => e.flrReturned f)
    (h := fun e => ((e.flrDropped f).vfReturns f).modFn f (Fn.returned · f)) (Dev.flrReturned_vf hf hflr hturn)]
  have hcore := d.observed_modFn_core (fun e => (e.flrDropped f).vfReturns f) f (Fn.returned · f)
  have hrings := (Dev.observed_causes d (fun e => ((e.flrDropped f).vfReturns f).modFn f (Fn.returned · f))).rings f
  rw [Dev.modFn_same] at hrings
  have hlate : (((d.flrDropped f).vfReturns f).fn f).lateCpl = (d.fn f).lateCpl :=
    (Dev.vfReturns_lateCpl ..).trans (Dev.flrDropped_lateCpl ..)
  have hheld : (d.observed (fun e => ((e.flrDropped f).vfReturns f).modFn f (Fn.returned · f))).assign.held =
      (d.assign.moved ((d.flrDropped f).holdings f) 0).held := by
    rw [Dev.observed_held, Dev.modFn_assign, Dev.vfReturns_held, Dev.flrDropped_assign]
  have hmoved := movedTo_of_assign (leaving := d.assign.leaving) hheld
  have hholds : ∀ (p : Assign → Tbl Nat) (i : Nat), tblGet holderInit (p d.assign) i = f →
      i ∈ ((p (d.flrDropped f).assign).filter (fun x => x.2 == f)).map (·.1) := fun p i hi => by
    rw [Dev.flrDropped_assign]
    exact mem_held hf hi
  exact {
    flr := (Fn.core_flr hcore).trans (Fn.returned_flr ..)
    view := (Fn.core_view hcore).trans (Fn.returned_view ..)
    rings := hrings.trans (Fn.returned_rings ..)
    ringCount := (Fn.core_ringCount hcore).trans (Fn.returned_ringCount ..)
    chans := fun c => returned_holder (hholds Assign.chan c) (hmoved.chans c)
    sets := fun x => returned_holder (hholds Assign.set x) (hmoved.sets x)
    routes := fun r => returned_holder (hholds Assign.route r) (hmoved.routes r)
    lateCpl := (Fn.core_lateCpl hcore).trans ((Fn.returned_lateCpl ..).trans hlate) }

theorem exec_flrResourcesReturn (fn : FnId) (s : State) (hflr : (s.dev.fn fn.val).flr = .resources)
    (hturn : s.dev.flrTurn fn.val = true) :
    ∃ t : State, exec (.flrResourcesReturn fn) s = .next t ∧ t.mem = s.mem ∧ (t.dev.fn fn.val).flr = .finishing ∧
      (fn.val = 0 → t.dev.assign.chan = s.dev.assign.chan ∧ t.dev.assign.set = s.dev.assign.set) ∧
      (fn.val ≠ 0 → (t.dev.fn fn.val).view = 0 ∧ (t.dev.fn fn.val).rings = [] ∧ (t.dev.fn fn.val).ringCount = 0 ∧
        (∀ c : Nat, (s.dev.chanHolder c = fn.val → t.dev.chanHolder c = 0) ∧
          (t.dev.chanHolder c = 0 ∨ t.dev.chanHolder c = s.dev.chanHolder c)) ∧
        (∀ x : Nat, (s.dev.setHolder x = fn.val → t.dev.setHolder x = 0) ∧
          (t.dev.setHolder x = 0 ∨ t.dev.setHolder x = s.dev.setHolder x)) ∧
        (∀ r : Nat, (s.dev.routeHolder r = fn.val → t.dev.routeHolder r = 0) ∧
          (t.dev.routeHolder r = 0 ∨ t.dev.routeHolder r = s.dev.routeHolder r)) ∧
        (t.dev.fn fn.val).lateCpl = (s.dev.fn fn.val).lateCpl) := by
  refine ⟨_, rfl, rfl, ?_⟩
  rw [State.on_dev]
  rcases Nat.eq_zero_or_pos fn.val with h0 | hpos
  · rw [h0] at hflr hturn ⊢
    exact ⟨(Dev.flrReturned_pf0 hflr hturn).1, fun _ => (Dev.flrReturned_pf0 hflr hturn).2, fun hne => absurd rfl hne⟩
  · have hne : fn.val ≠ 0 := Nat.ne_of_gt hpos
    have h := Dev.flrReturned_after hne hflr hturn
    exact ⟨h.flr, fun h0 => absurd h0 hne, fun _ => ⟨h.view, h.rings, h.ringCount, h.chans, h.sets, h.routes, h.lateCpl⟩⟩

end Sys2Proof.Machine

end

section
/-! The end of a function-level reset, and the rows of modules, loss policies and resets together (spec/17_module_identity.md,
R526, R527; spec/18_sessions.md, R533, R536 to R540). -/

namespace Sys2Proof.Machine

/-! ### Step 7: READY returns -/

/-- Whether firmware serves a function after its reset (R584). -/
def Dev.servedAgain (d : Dev) (f : Nat) : Bool :=
  (d.fn f).enabled && (f == 0 || ((d.fn 0).ready && !d.store.recovery)) && (d.sys.phase == .ready || decide (d.sys.scope ≥ 3))

/-- A function whose reset is over. -/
def Fn.over (r : Fn) (up : Bool) : Fn := { r with flr := .idle, flrCmd := none, flrSeq := false, ready := up }

theorem Dev.flrDone_runs {d : Dev} {f : Nat} (hflr : (d.fn f).flr = .finishing) (hturn : d.flrTurn f = true) :
    d.flrDone f = ((if f = 0 then d.modFn f (Fn.over · (d.servedAgain f)) else (d.modFn f (Fn.over · (d.servedAgain f))).irq 0
      irqSession).finish? (d.fn f).flrCmd stOk []).flrPf0 := by
  unfold Dev.flrDone
  rw [if_neg (by rw [hflr, hturn]; exact Bool.false_ne_true)]
  rfl

theorem Dev.flrPf0_core {d : Dev} {f : Nat} (h : f ≠ 0 ∨ (d.fn 0).flr = .idle) : (d.flrPf0.fn f).core = (d.fn f).core := by
  unfold Dev.flrPf0
  split
  · next hbegins =>
    have hvfs : (d.fn 0).flr = .vfs := eq_of_beq (Bool.and_eq_true_iff.1 hbegins).1
    exact Dev.flrOwn_other d 0 false (h.resolve_right (fun hidle => FlrStep.noConfusion (hidle.symm.trans hvfs)))
  · rfl

theorem Dev.flrDone_core {d : Dev} {f : Nat} (hflr : (d.fn f).flr = .finishing) (hturn : d.flrTurn f = true) :
    ((d.flrDone f).fn f).core = ((d.fn f).over (d.servedAgain f)).core := by
  have hover : ((d.modFn f (Fn.over · (d.servedAgain f))).fn f).core = ((d.fn f).over (d.servedAgain f)).core :=
    congrArg Fn.core (Dev.modFn_same d f _)
  have hrest := ite_kept (c := f = 0) Dev.rest (d := d.modFn f (Fn.over · (d.servedAgain f))) rfl
    (bystander_rest.irq (d.modFn f (Fn.over · (d.servedAgain f))) 0 irqSession)
  have hends := (Dev.rest_core ((bystander_rest.finish? _ (d.fn f).flrCmd stOk []).trans hrest) f).trans hover
  rw [Dev.flrDone_runs hflr hturn]
  refine (Dev.flrPf0_core ?_).trans hends
  rcases Decidable.em (f = 0) with h0 | hne
  · subst h0
    exact .inr (Fn.core_flr hends)
  · exact .inl hne

theorem exec_flrComplete (fn : FnId) (s : State) (hflr : (s.dev.fn fn.val).flr = .finishing) (hturn : s.dev.flrTurn fn.val = true) :
    ∃ t : State, exec (.flrComplete fn) s = .next t ∧ t.mem = s.mem ∧ (t.dev.fn fn.val).flr = .idle ∧
      (t.dev.fn fn.val).ready = s.dev.servedAgain fn.val := by
  refine ⟨_, rfl, rfl, ?_⟩
  rw [State.on_dev]
  have hcore := (Dev.rest_core (bystander_rest.observed s.dev (fun d => d.flrDone fn.val)) fn.val).trans (Dev.flrDone_core hflr hturn)
  exact ⟨Fn.core_flr hcore, Fn.core_ready hcore⟩

/-! ### STAGE_DISCOVERY and LOSS_POLICY, as their rows answer -/

section
variable (m : ModId) (f : StageFound) (s : State)

/-- The state of a module after its discovery, and the highest codes of its channels. -/
theorem exec_stageDiscovery (hstate : (s.dev.stage m.val).mstate = .discovering) (hdriven : (s.dev.stage m.val).driven = true)
    (hchan : 4 * m.val < s.dev.nChan) :
    ∃ t : State, exec (.stageDiscovery m f) s = .next t ∧ t.mem = s.mem ∧ (t.dev.stage m.val).rescan = none ∧
      (t.dev.stage m.val).mstate = (s.dev.stageResult f).2.1 ∧ (t.dev.stage m.val).ident = (s.dev.stageResult f).1 ∧
      ∀ i, (s.dev.stageResult f).1 = some i → ∀ k, k < 4 → (t.dev.chan (4 * m.val + k)).vr = i.volts.length - 1 ∧
        (t.dev.chan (4 * m.val + k)).ir = i.amps.length - 1 := by
  refine ⟨_, rfl, rfl, ?_⟩
  rw [State.on_dev]
  have hstage : (s.dev.stageFound m.val f).stage m.val = (s.dev.stageKnown m.val f).stage m.val :=
    congrArg (fun l => tblGet stageInit l m.val) (Dev.stageFound_stages hstate hdriven hchan)
  obtain ⟨hmstate, hident, hrescan⟩ := s.dev.stageKnown_stage m.val f
  rw [hstage]
  exact ⟨hrescan, hmstate, hident, fun i hi k hk => Dev.stageFound_chan hstate hdriven hchan hi hk⟩

end

/-- LOSS_POLICY at a channel whose policy waits. -/
theorem exec_lossPolicy {s : State} {ch : ChanId} {d : Dev} (h : s.dev.lossActs ch.val = d) :
    exec (.lossPolicy ch) s = .next (s.on (fun e => e.observed (fun _ => d))) :=
  congrArg Host.Outcome.next (State.on_congr (Dev.observed_congr h))

/-- Settles O56: the row of a discovery leaves the state of `Dev.stageResult`, a loss policy acts on a leader's channel alone, and
every step of a reset leaves the core of its function (`Fn.core`) as the notes of its row find it. -/
theorem discoveryPolicyAndFunctionReset : Obligations.DiscoveryPolicyAndFunctionReset := by
  unfold Obligations.DiscoveryPolicyAndFunctionReset
  refine ⟨fun m f s hstate hdriven hchan => ?_, fun ch s t0 hleaving => ?_, exec_initiateFunctionLevelReset, exec_flrRingDrainDone,
    exec_flrCompletionsDone, exec_flrResourcesReturn, exec_flrComplete, fun fn s => rfl⟩
  · obtain ⟨t, hrow, hmem, hrescan, hmstate, hident, hcodes⟩ := exec_stageDiscovery m f s hstate hdriven hchan
    refine ⟨t, hrow, hmem, hrescan, ?_, ?_, ?_, ?_, ?_, ?_⟩
    · rintro rfl
      exact ⟨hmstate, hident⟩
    · rintro rfl
      exact ⟨hmstate, hident⟩
    · rintro b rfl hok
      rw [hmstate, Dev.stageResult_corrupt hok]
    · rintro b rfl hok hkind
      rw [hmstate, Dev.stageResult_unsupported hok hkind]
    · rintro b rfl hok hkind hblock
      rw [hmstate, Dev.stageResult_block hok hkind hblock]
    · rintro b rfl hok hkind hblock
      rw [Dev.stageResult_valid hok hkind hblock] at hmstate hident hcodes
      exact ⟨hmstate, hident, hcodes _ rfl⟩
  · have hleads := Dev.lossActs_leader hleaving
    refine ⟨fun hf => exec_lossPolicy (Dev.lossActs_follower hleaving hf), fun hf hp => exec_lossPolicy ?_,
      fun hf hp => exec_lossPolicy ?_, fun hf hp => exec_lossPolicy ?_⟩
    · rw [hleads hf, hp]
      rfl
    · rw [hleads hf, hp]
      rfl
    · obtain ⟨n, hn⟩ := Nat.exists_eq_add_of_le' hp
      rw [hleads hf, hn]
      rfl

end Sys2Proof.Machine

end

section
/-! The system commands (spec/19_startup_reset.md, R547, R567 to R571; spec/20_config_store.md, R580 to R585). -/

namespace Sys2Proof.Machine

/-! ### What the survey converter's pauses leave (R393) -/

namespace Quiet

variable {α : Type} {p : Dev → α} (h : Quiet p)
include h

theorem svyRefuse (d : Dev) : p d.svyRefuse = p d := (foldl_kept p (fun _ _ => h.finish? ..) _ _).trans (h.svy ..)

theorem svyRun (d : Dev) (k : SvyConv) (t : Nat) : p (d.svyRun k t) = p d := (h.free ..).trans (h.svy ..)

theorem svyNext (d : Dev) (t : Nat) : p (d.svyNext t) = p d := by
  unfold Dev.svyNext
  extract_lets y hold
  have htable : p (if y.scanning then (d.modSvy (fun y => { y with urgentRan := false })).svyRun
      { entry := y.next, bytes := svyEntry y.active y.next, fn := 0, cmd := none, bank := none } t else d) = p d :=
    ite_kept p ((h.svyRun ..).trans (h.svy ..)) rfl
  refine ite_kept p (h.svyRefuse d) ?_
  split
  · exact ite_kept p ((h.svyRun ..).trans (h.svy ..)) htable
  · exact htable

theorem svyPause (d : Dev) (cal pwr : Bool) : p (d.svyPause cal pwr) = p d := by
  unfold Dev.svyPause
  extract_lets was en s1 s2 s3
  have h1 : p s1 = p d := h.svy ..
  have h2 : p s2 = p d := (h.svy ..).trans h1
  have h3 : p s3 = p d := (h.svy ..).trans h1
  exact ite_kept p (ite_kept p ((h.svyRefuse ..).trans h2) h2) (ite_kept p (ite_kept p ((h.svyNext ..).trans h3) h3) h1)

end Quiet

/-! ### Power states (R570) -/

theorem Dev.powerTo_power (d : Dev) (n : Nat) : (d.powerTo n).sys.power = n := by
  unfold Dev.powerTo
  extract_lets s1
  exact (congrArg (fun x => x.1.sys.power) (bystander_rest.svyPause (s1.modSys (fun y => { y with power := n })) _ _) :)

/-! ### SYS_OPT_READ (R579, R580) -/

section
variable {d : Dev} {j : Job}

theorem cmdSysOptRead_body_bad (hw : u8 j.p 0 ≠ 0)
    (hbad : (d.store.unread.testBit (u8 j.p 0 - 1) || Config.freeFlag d.freeCtr) = true) : cmdSysOptRead.body d j =
      (((d.freeNext.modStore (fun t => { t with unread := putBit t.unread (u8 j.p 0 - 1) true })).rowFail
        (copyOffset 2 (u8 j.p 0 - 1))).1, .done stIntegrity []) := by
  have hcond : (decide (u8 j.p 0 ≠ 0) && (d.store.unread.testBit (u8 j.p 0 - 1) || Config.freeFlag d.freeCtr)) = true := by
    rw [hbad, decide_eq_true hw]
    rfl
  exact if_pos hcond

theorem cmdSysOptRead_body_copy (hw : u8 j.p 0 ≠ 0)
    (hgood : (d.store.unread.testBit (u8 j.p 0 - 1) || Config.freeFlag d.freeCtr) = false) : cmdSysOptRead.body d j =
      (d.freeNext, .done stOk (w8 (bit (optOk (d.store.optCopy (u8 j.p 0 - 1)))) ++ zeros 3
        ++ slice (d.store.optCopy (u8 j.p 0 - 1)) (128 * u8 j.p 1) 128)) := by
  have hcond : ¬ (decide (u8 j.p 0 ≠ 0) && (d.store.unread.testBit (u8 j.p 0 - 1) || Config.freeFlag d.freeCtr)) = true := by
    rw [hgood, Bool.and_false]
    exact Bool.false_ne_true
  refine (if_neg hcond).trans ?_
  rw [if_neg hw, if_neg hw]

theorem cmdSysOptRead_body_inForce (hw : u8 j.p 0 = 0) : cmdSysOptRead.body d j =
    (d.freeNext, .done stOk (w8 (bit (!d.sys.optDefaults)) ++ zeros 3 ++ slice (if d.sys.optDefaults then
      (optBytes d.sys.opt).take 252 ++ w32 d.freeVal else optBytes d.sys.opt) (128 * u8 j.p 1) 128)) := by
  have hcond : ¬ (decide (u8 j.p 0 ≠ 0) && (d.store.unread.testBit (u8 j.p 0 - 1) || Config.freeFlag d.freeCtr)) = true := by
    rw [hw]
    exact Bool.false_ne_true
  refine (if_neg hcond).trans ?_
  rw [if_pos hw, if_pos hw]

end

section
variable (d : Dev) (q : Req)

@[simp] theorem Dev.taken_store : (d.taken q).store = d.store := by rw [Dev.taken_only d q]
@[simp] theorem Dev.taken_opt : (d.taken q).sys.opt = d.sys.opt := by rw [Dev.taken_only d q]
@[simp] theorem Dev.taken_optDefaults : (d.taken q).sys.optDefaults = d.sys.optDefaults := by rw [Dev.taken_only d q]
@[simp] theorem Dev.taken_bankVersion (n : Nat) : (d.taken q).bankVersion n = d.bankVersion n := by rw [Dev.taken_only d q]; rfl
@[simp] theorem Dev.taken_calNewest : (d.taken q).calNewest = d.calNewest := by rw [Dev.taken_only d q]; rfl
@[simp] theorem Dev.taken_nextFreeVal : (d.taken q).freeNext.freeVal = d.freeNext.freeVal := by rw [Dev.taken_only d q]; rfl
@[simp] theorem Dev.taken_freeCtr : (d.taken q).freeCtr = d.freeCtr := by rw [Dev.taken_only d q]
@[simp] theorem Dev.taken_freeVal : (d.taken q).freeVal = d.freeVal := by rw [Dev.taken_only d q]; rfl

end

/-! ### The banks of the firmware (R585) -/

theorem firstFail_of_args {c : Cmd} {d : Dev} {j : Job} (h : c.args d j = false) : ∃ st, firstFail c d j = some st := by
  unfold firstFail
  rw [h]
  split
  · exact ⟨_, rfl⟩
  · split
    · exact ⟨_, rfl⟩
    · split
      · exact ⟨_, rfl⟩
      · split
        · split
          · exact ⟨_, rfl⟩
          · exact ⟨stArg, if_pos rfl⟩
        · exact ⟨stArg, (if_neg Bool.false_ne_true).trans (if_pos rfl)⟩

/-- A command that may run at once has passed the check of its values (R94). -/
theorem Dev.runsNow_args {d : Dev} {c : Cmd} {q : Req} (h : d.runsNow c q = true) : c.args (d.taken q) (d.jobOf c.op q) = true := by
  have hnone : (firstFail c (d.taken q) (d.jobOf c.op q)).isNone = true := by
    simp only [Dev.runsNow, Bool.and_eq_true] at h
    exact h.1.1.2
  by_contra hargs
  obtain ⟨st, hst⟩ := firstFail_of_args (Bool.eq_false_iff.2 hargs)
  rw [hst] at hnone
  exact Bool.false_ne_true hnone

theorem Store.setBank_bank (t : Store) (b : Bank) {n i : Nat} (hn : n ≤ 1) (hi : i ≤ 1) :
    (t.setBank n b).bank i = if i = n then b else t.bank i := by
  obtain rfl | rfl : n = 0 ∨ n = 1 := by omega
  · obtain rfl | rfl : i = 0 ∨ i = 1 := by omega
    · rfl
    · rfl
  · obtain rfl | rfl : i = 0 ∨ i = 1 := by omega
    · rfl
    · rfl

theorem Store.setBank_copies (t : Store) (n : Nat) (b : Bank) : (t.setBank n b).copy0 = t.copy0 ∧ (t.setBank n b).copy1 = t.copy1 := by
  unfold Store.setBank
  split
  · exact ⟨rfl, rfl⟩
  · exact ⟨rfl, rfl⟩

/-- A bank that a load begins to fill. -/
def Store.loading (t : Store) (n : Nat) : Store :=
  { t.setBank n { t.bank n with verified := false, crcOk := false } with loadBusy := true }

/-- The bank that a load fills is unverified; its version, the other bank and the option record stay. -/
theorem Store.loading_frame (t : Store) {n : Nat} (hn : n ≤ 1) : (t.loading n).loadBusy = true ∧
    ((t.loading n).bank n).verified = false ∧ ((t.loading n).bank n).crcOk = false ∧
      ((t.loading n).bank n).version = (t.bank n).version ∧ (t.loading n).bank (1 - n) = t.bank (1 - n) ∧
      (t.loading n).copy0 = t.copy0 ∧ (t.loading n).copy1 = t.copy1 := by
  have hbank : ∀ i, i ≤ 1 → (t.loading n).bank i = if i = n then { t.bank n with verified := false, crcOk := false } else t.bank i :=
    fun i hi => t.setBank_bank _ hn hi
  obtain ⟨h0, h1⟩ := t.setBank_copies n { t.bank n with verified := false, crcOk := false }
  refine ⟨rfl, ?_, ?_, ?_, ?_, h0, h1⟩
  · rw [hbank n hn, if_pos rfl]
  · rw [hbank n hn, if_pos rfl]
  · rw [hbank n hn, if_pos rfl]
  · rw [hbank _ (Nat.sub_le 1 n), if_neg (by omega)]

theorem exec_sysFwLoad {q : Req} {s : State} (h : s.dev.runsNow cmdSysFwLoad q = true) :
    ∃ t : State, exec (.sysFwLoad q) s = .next t ∧ t.mem = s.mem ∧
      t.dev.store = s.dev.store.loading (u8 (s.dev.job 0x0E06 q).p 0) := by
  refine ⟨_, rfl, rfl, ?_⟩
  have hcommand := Dev.command_goesOn (d := s.dev) (effect := fun d => d.modStore (fun t =>
    t.loading (u8 (s.dev.job 0x0E06 q).p 0))) (data := []) h rfl rfl
  rw [State.on_dev, hcommand, Dev.goesOn, Dev.pend_store]
  dsimp only [Dev.modStore]
  rw [Dev.taken_store]

theorem cmdSysPower_body_deep {d : Dev} {j : Job} (hn : u8 j.p 0 = 3) : cmdSysPower.body d j =
    ((((d.vAbort 6).modSys (fun y => { y with deepEntering := true })).svyPause d.svy.pausedCal true).wbAskAll, .later []) :=
  if_pos hn

theorem cmdSysPower_body_below {d : Dev} {j : Job} (hn : u8 j.p 0 ≠ 3) : cmdSysPower.body d j =
    (d.powerTo (u8 j.p 0), .later [(d.nsAt d.now : Int)]) := if_neg hn

theorem exec_sysPower_power {q : Req} {s : State} (h : s.dev.runsNow cmdSysPower q = true)
    (hn : u8 (s.dev.job 0x0E03 q).p 0 ≠ 3) :
    ∃ t : State, exec (.sysPower q) s = .next t ∧ t.mem = s.mem ∧ t.dev.sys.power = u8 (s.dev.job 0x0E03 q).p 0 := by
  refine ⟨_, rfl, rfl, ?_⟩
  have hcommand := Dev.command_goesOn (d := s.dev) (effect := fun d => d.powerTo (u8 (s.dev.job 0x0E03 q).p 0))
    (names := []) h (cmdSysPower_body_below hn) rfl
  rw [State.on_dev]
  refine (congrArg (fun x => x.1.sys.power) (bystander_rest.observed s.dev (fun d => d.command cmdSysPower q))).trans ?_
  show (s.dev.command cmdSysPower q).sys.power = _
  rw [hcommand, Dev.goesOn, Dev.pend_sys, Dev.powerTo_power]

end Sys2Proof.Machine

open Sys2Proof.Machine

/-- Settles O57, one sheet after the other. -/
theorem systemCommands : Obligations.SystemCommands := by
  refine ⟨fun q s h => congrArg Host.Outcome.next (State.on_congr ?reset),
    fun q s h => congrArg Host.Outcome.next (State.on_congr (Dev.observed_congr ?block)),
    fun q s h => ⟨fun hn => congrArg Host.Outcome.next (State.on_congr (Dev.observed_congr ?deep)),
      fun hn => congrArg Host.Outcome.next (State.on_congr (Dev.observed_congr ?below)), exec_sysPower_power h⟩,
    fun q s h => ⟨fun hw hbad => congrArg Host.Outcome.next (State.on_congr ?bad),
      fun hw hgood => congrArg Host.Outcome.next (State.on_congr ?copy),
      fun hw hforce => congrArg Host.Outcome.next (State.on_congr ?force),
      fun hw hrom => congrArg Host.Outcome.next (State.on_congr ?rom)⟩,
    fun q s h => congrArg Host.Outcome.next (State.on_congr ?write), fun q s h => ?load,
    fun q s h => congrArg Host.Outcome.next (State.on_congr ?commit),
    fun q s h => congrArg Host.Outcome.next (State.on_congr ?status)⟩
  case reset => exact Dev.command_answer h rfl rfl
  case block =>
    refine Dev.command_goesOn h (Prod.ext rfl ?_) rfl
    exact congrArg (fun t : Nat => Result.later [(t : Int)]) (Dev.taken_now ..)
  case deep => exact Dev.command_goesOn h (cmdSysPower_body_deep hn) rfl
  case below =>
    refine Dev.command_goesOn h ((cmdSysPower_body_below hn).trans ?_) rfl
    rw [Dev.taken_nsAt, Dev.taken_now]
  case bad => exact Dev.command_answer h (cmdSysOptRead_body_bad hw (by rwa [Dev.taken_store, Dev.taken_freeCtr])) rfl
  case copy =>
    refine Dev.command_answer h (cmdSysOptRead_body_copy hw (by rwa [Dev.taken_store, Dev.taken_freeCtr])) ?_
    rw [Dev.taken_store]
    rfl
  case force =>
    refine Dev.command_answer h (cmdSysOptRead_body_inForce hw) ?_
    rw [Dev.taken_optDefaults, Dev.taken_opt, hforce]
    rfl
  case rom =>
    refine Dev.command_answer h (cmdSysOptRead_body_inForce hw) ?_
    rw [Dev.taken_optDefaults, Dev.taken_opt, Dev.taken_freeVal, hrom]
    rfl
  case write => exact Dev.command_goesOn h rfl rfl
  case load =>
    obtain ⟨t, hexec, hmem, hstore⟩ := exec_sysFwLoad h
    have hn : u8 (s.dev.job 0x0E06 q).p 0 ≤ 1 := by
      have hargs := Dev.runsNow_args h
      simp only [cmdSysFwLoad, Bool.and_eq_true, decide_eq_true_eq] at hargs
      exact hargs.1.1.1.1
    refine ⟨t, hexec, hmem, ?_⟩
    rw [hstore]
    exact Store.loading_frame _ hn
  case commit => exact Dev.command_goesOn h rfl rfl
  case status =>
    refine Dev.command_answer h rfl ?_
    rw [Dev.taken_store, Dev.taken_bankVersion, Dev.taken_bankVersion, Dev.taken_calNewest, Dev.taken_freeVal, Dev.taken_nextFreeVal]

end

section
/-! What the replacement of rows and the steps of the firmware leave of the device (spec/20_config_store.md, R576 to R579;
spec/19_startup_reset.md, R562). -/

namespace Sys2Proof.Machine

/-! ### Rows of the MRAM -/

/-- The store but for the state of its rows. -/
def Store.settled (t : Store) : Store :=
  { t with degraded := 0, rowsUsed := [], pool := [], unread := 0, failing := [], corrected := [] }

/-- A reading of the device that the state of the rows, free values and the log leave. -/
structure KeptByRows {α : Type} (p : Dev → α) : Prop where
  rows : ∀ (d : Dev) (g : Store → Store), (∀ t, (g t).settled = t.settled) → p (d.modStore g) = p d
  free : ∀ (d : Dev) n, p { d with freeCtr := n } = p d
  log : ∀ d k a e, p (Dev.logIt d k a e) = p d

namespace KeptByRows

variable {α : Type} {p : Dev → α} (h : KeptByRows p)
include h

theorem rowFail (d : Dev) (off : Nat) : p (d.rowFail off).1 = p d := by
  unfold Dev.rowFail
  split
  · rfl
  · next region _ =>
    extract_lets used q row s1
    have h1 : p s1 = p d := by
      refine (h.log ..).trans (h.rows d _ ?_)
      exact fun _ => rfl
    split
    · rfl
    · split
      · exact h1
      · refine (h.log ..).trans ((h.rows s1 _ ?_).trans h1)
        exact fun _ => rfl

theorem rowSeen (d : Dev) (e : RowErr) : p (d.rowSeen e).1 = p d := by
  unfold Dev.rowSeen
  split
  · exact h.rowFail ..
  · extract_lets row l l1
    split
    · exact h.rowFail ..
    · exact h.rows d (fun t => { t with corrected := tblSet (fun _ => []) t.corrected row l1 }) (fun _ => rfl)

theorem rowsSeen (l : List Span) (rows : List RowErr) (d : Dev) : p (d.rowsSeen l rows).1 = p d := by
  induction rows generalizing d with
  | nil => rfl
  | cons e r ih =>
    unfold Dev.rowsSeen
    split
    · exact ih d
    · dsimp only
      split
      · exact (ih _).trans (h.rowSeen d e)
      · exact h.rowSeen d e

theorem rowsWrite (d : Dev) (l : List Span) (rows : List RowErr) : p (d.rowsWrite l rows).1 = p d :=
  (h.rowsSeen ..).trans (h.rows d (fun t => t.written l) (fun _ => rfl))

theorem rowsMend (d : Dev) : p d.rowsMend = p d := by
  refine (h.rows _ _ ?_).trans (foldl_kept p (fun e r => h.rowFail e r) d.store.failing d)
  exact fun _ => rfl

theorem readCopies (d : Dev) (kind : Nat) : p (d.readCopies kind) = p d := by
  unfold Dev.readCopies
  extract_lets bad row s1
  refine (h.rows s1 _ ?_).trans (h.free d _)
  exact fun _ => rfl

end KeptByRows

/-! ### The steps of the firmware (R562, R563) -/

theorem Dev.helonWrite_of {α : Type} {p : Dev → α} (hsend : ∀ e c m, p (Dev.sendDown e c m) = p e)
    (hsvy : ∀ e g, p (Dev.modSvy e g) = p e) (d : Dev) : p d.helonWrite = p d := by
  unfold Dev.helonWrite
  extract_lets o s1 s2
  have h1 : p s1 = p d := (hsend ..).trans (hsend ..)
  have h2 : p s2 = p s1 := by
    refine Dev.forAll_keeps p (fun e c => ?_)
    extract_lets x e1
    have he1 : p e1 = p e := by
      unfold e1
      split
      · exact hsend ..
      · rfl
    exact (hsend ..).trans ((Dev.sendRange_of hsend ..).trans ((Dev.sendRange_of hsend ..).trans he1))
  exact (hsvy s2 _).trans (h2.trans h1)

theorem Dev.discoveryStarts_of {α : Type} {p : Dev → α} (hstage : ∀ e m g, p (Dev.modStage e m g) = p e)
    (hchain : ∀ e k g, p (Dev.modChain e k g) = p e) (d : Dev) : p d.discoveryStarts = p d := by
  unfold Dev.discoveryStarts
  extract_lets s1
  have h1 : p s1 = p d := Dev.forAll_keeps p (fun _ _ => hstage ..)
  exact ite_kept p ((Dev.forAll_keeps p (fun _ _ => hchain ..)).trans h1) h1

/-- What the start-up sequence has made: the reset controller, the fabric, and the store but for its rows. -/
def Dev.booted (d : Dev) : SysCtl × Fabric × Store := (d.sys, d.fab, d.store.settled)

theorem keptByRows_booted : KeptByRows Dev.booted where
  rows := fun d _ hg => congrArg (fun t => (d.sys, d.fab, t)) (hg d.store)
  free := fun _ _ => rfl
  log := fun d k a e => by
    unfold Dev.booted
    rw [Dev.logIt_sys, Dev.logIt_fab, Dev.logIt_store]

theorem Dev.firmwareSteps_booted (d : Dev) :
    d.firmwareSteps.booted = (d.sys, d.fab.start d.now d.seam.intlk, d.store.settled) := by
  have hload : d.calLoad.rowsMend.booted = d.booted :=
    (keptByRows_booted.rowsMend ..).trans (keptByRows_booted.readCopies d 1)
  have hstart : (d.calLoad.rowsMend.modFab (fun f => f.start d.now d.seam.intlk)).booted =
      (d.sys, d.fab.start d.now d.seam.intlk, d.store.settled) :=
    congrArg (fun x : SysCtl × Fabric × Store => (x.1, x.2.1.start d.now d.seam.intlk, x.2.2)) hload
  unfold Dev.firmwareSteps
  extract_lets s1
  have h1 : s1.booted = _ := (Dev.discoveryStarts_of (p := Dev.booted) (fun _ _ _ => rfl) (fun _ _ _ => rfl) _).trans
    ((Dev.helonWrite_of (p := Dev.booted) (fun _ _ _ => rfl) (fun _ _ => rfl) _).trans hstart)
  split
  · exact h1
  · exact h1

/-- The interlock, which packets to Helon leave. -/
def Dev.intlk (d : Dev) : Bool := d.seam.intlk

theorem keptByRows_intlk : KeptByRows Dev.intlk where
  rows := fun _ _ _ => rfl
  free := fun _ _ => rfl
  log := fun d k a e => congrArg Seam.intlk (Dev.logIt_seam d k a e)

theorem Dev.firmwareSteps_intlk (d : Dev) : d.firmwareSteps.intlk = d.intlk := by
  have hload : (d.calLoad.rowsMend.modFab (fun f => f.start d.now d.seam.intlk)).intlk = d.intlk :=
    (keptByRows_intlk.rowsMend d.calLoad).trans (keptByRows_intlk.readCopies d 1)
  unfold Dev.firmwareSteps
  extract_lets s1
  have h1 : s1.intlk = d.intlk := (Dev.discoveryStarts_of (p := Dev.intlk) (fun _ _ _ => rfl) (fun _ _ _ => rfl) _).trans
    ((Dev.helonWrite_of (p := Dev.intlk) (fun _ _ _ => rfl) (fun _ _ => rfl) _).trans hload)
  split
  · exact h1
  · exact h1

/-! ### FIRMWARE_BANK_CHECK (R582 to R584) -/

/-- The device with its banks read. -/
def Dev.banksRead (d : Dev) : Dev :=
  (({ d with freeCtr := d.freeCtr + 2 } : Dev).modStore (fun t => { t with failing := t.failing ++ d.bankRows })).modSys
    (fun y => { y with phase := .starting })

/-- A bank executes. -/
def Dev.bankRuns (d : Dev) (k : Nat) : Dev :=
  (d.banksRead.modStore (fun t => { t with executing := k, fallback := k != d.sys.opt.fwBank })).modSys (fun y =>
    { y with fwVersion := (d.store.bank k).version })

/-- The other bank executes in place of the named one, which the log has. -/
def Dev.bankFallsBack (d : Dev) (k : Nat) : Dev :=
  ((d.bankRuns k).logIt (key ((d.bankRuns k).freeVal % 65536) 18 ((d.bankRuns k).freeVal / 65536 % 4) 0 0) 0).freeNext

/-- What `booted` shows once a bank executes and the fabric has started. -/
def Dev.bootedOf (d : Dev) (k : Nat) (fallback : Bool) : SysCtl × Fabric × Store :=
  ({ d.sys with phase := .starting, fwVersion := (d.store.bank k).version }, d.fab.start d.now d.seam.intlk,
    { d.store.settled with executing := k, fallback := fallback })

theorem Dev.bankRuns_starts (d : Dev) (k : Nat) : (d.bankRuns k).firmwareSteps.booted = d.bootedOf k (k != d.sys.opt.fwBank) :=
  Dev.firmwareSteps_booted ..

theorem Dev.bankFallsBack_starts (d : Dev) (k : Nat) : (d.bankFallsBack k).firmwareSteps.booted =
    d.bootedOf k (k != d.sys.opt.fwBank) := by
  have hb : (d.bankFallsBack k).booted = (d.bankRuns k).booted := (keptByRows_booted.free _ _).trans (keptByRows_booted.log ..)
  have hnow : (d.bankFallsBack k).now = (d.bankRuns k).now := Dev.logIt_now ..
  have hseam : (d.bankFallsBack k).seam = (d.bankRuns k).seam := Dev.logIt_seam ..
  rw [← Dev.bankRuns_starts, Dev.firmwareSteps_booted, Dev.firmwareSteps_booted, hnow, hseam]
  exact congrArg (fun x : SysCtl × Fabric × Store =>
    (x.1, x.2.1.start (d.bankRuns k).now (d.bankRuns k).seam.intlk, x.2.2)) hb

section
variable {d : Dev} (hphase : d.sys.phase = .firmware)
include hphase

theorem Dev.bankCheck_runs : d.bankCheck =
    if d.bankSeen d.sys.opt.fwBank then (d.bankRuns d.sys.opt.fwBank).firmwareSteps
    else if d.bankSeen (1 - d.sys.opt.fwBank) then (d.bankFallsBack (1 - d.sys.opt.fwBank)).firmwareSteps
    else d.banksRead.modStore (fun t => { t with recovery := true }) := by
  unfold Dev.bankCheck
  rw [if_neg (by rw [hphase]; decide)]
  rfl

theorem Dev.bankCheck_named (h : d.bankSeen d.sys.opt.fwBank = true) : d.bankCheck.booted = d.bootedOf d.sys.opt.fwBank false := by
  rw [Dev.bankCheck_runs hphase, if_pos h, Dev.bankRuns_starts, bne_self_eq_false]

theorem Dev.bankCheck_intlk (h : d.bankSeen d.sys.opt.fwBank = true) : d.bankCheck.intlk = d.intlk := by
  rw [Dev.bankCheck_runs hphase, if_pos h, Dev.firmwareSteps_intlk]
  rfl

theorem Dev.bankCheck_other (h : d.bankSeen d.sys.opt.fwBank = false) (hother : d.bankSeen (1 - d.sys.opt.fwBank) = true) :
    d.bankCheck.booted = d.bootedOf (1 - d.sys.opt.fwBank) true := by
  have hne : (1 - d.sys.opt.fwBank != d.sys.opt.fwBank) = true := bne_iff_ne.2 (by omega)
  rw [Dev.bankCheck_runs hphase, if_neg (by rw [h]; exact Bool.false_ne_true), if_pos hother, Dev.bankFallsBack_starts, hne]

theorem Dev.bankCheck_neither (h : d.bankSeen d.sys.opt.fwBank = false) (hother : d.bankSeen (1 - d.sys.opt.fwBank) = false) :
    d.bankCheck.booted = ({ d.sys with phase := .starting }, d.fab, { d.store.settled with recovery := true }) := by
  rw [Dev.bankCheck_runs hphase, if_neg (by rw [h]; exact Bool.false_ne_true), if_neg (by rw [hother]; exact Bool.false_ne_true)]
  rfl

end

end Sys2Proof.Machine

end

section
/-! The steps of the start-up sequence up to the firmware (spec/19_startup_reset.md, R545 to R560; spec/20_config_store.md, R558,
R579 to R584). -/

namespace Sys2Proof.Machine

/-! ### RESET_NEGATION (R548) -/

theorem Dev.negation_runs {d : Dev} (hphase : d.sys.phase = .held) (hgood : d.sys.denrixGood = true) :
    d.negation = d.modSys (fun y => { y with
      perst := false, relAt := d.now, tap := if y.perst && (y.tap == .extest || y.tap == .clamp || y.tap == .highz) then .bypass else y.tap,
      phase := if y.scope ≤ 2 then .loading else .releasing 1, eccDone := decide (y.scope ≥ 3) }) := by
  unfold Dev.negation
  rw [if_neg (by rw [hphase, hgood]; decide)]

theorem exec_resetNegation (s : State) (hphase : s.dev.sys.phase = .held) (hgood : s.dev.sys.denrixGood = true) :
    ∃ t : State, exec .resetNegation s = .next t ∧ t.mem = s.mem ∧
      (s.dev.sys.scope ≤ 2 → t.dev.sys.phase = .loading) ∧ (3 ≤ s.dev.sys.scope → t.dev.sys.phase = .releasing 1) ∧
      t.dev.sys.perst = false ∧ t.dev.sys.relAt = s.dev.now ∧ t.dev.sys.causes = s.dev.sys.causes ∧ t.dev.now = s.dev.now := by
  refine ⟨_, rfl, rfl, ?_⟩
  rw [State.on_dev, Dev.negation_runs hphase hgood]
  exact ⟨fun h => if_pos h, fun h => if_neg (by omega), rfl, rfl, rfl, rfl⟩

/-! ### OPTION_LOAD_DONE (R558, R579, R581) -/

/-- A copy of the option record that is valid and was read. -/
def Store.optSeen (t : Store) (n : Nat) : Bool := optOk (t.optCopy n) && !t.unread.testBit n

/-- The SEQ of a copy. -/
def Store.optSeq (t : Store) (n : Nat) : Nat := (optOf (t.optCopy n)).seq

section
variable {t : Store}

theorem Store.newestOpt_eq (t : Store) : t.newestOpt =
    if t.optSeen 0 && t.optSeen 1 then some (if t.optSeq 1 > t.optSeq 0 then 1 else 0)
    else if t.optSeen 0 then some 0 else if t.optSeen 1 then some 1 else none := rfl

theorem Store.newestOpt_none (h0 : t.optSeen 0 = false) (h1 : t.optSeen 1 = false) : t.newestOpt = none := by
  rw [Store.newestOpt_eq, h0, h1]
  rfl

theorem Store.newestOpt_first (h0 : t.optSeen 0 = true) (h : t.optSeen 1 = true → t.optSeq 1 ≤ t.optSeq 0) :
    t.newestOpt = some 0 := by
  rw [Store.newestOpt_eq, h0]
  cases h1 : t.optSeen 1 with
  | false => rfl
  | true => exact congrArg some (if_neg (Nat.not_lt.2 (h h1)))

theorem Store.newestOpt_second (h1 : t.optSeen 1 = true) (h : t.optSeen 0 = true → t.optSeq 0 < t.optSeq 1) :
    t.newestOpt = some 1 := by
  rw [Store.newestOpt_eq, h1]
  cases h0 : t.optSeen 0 with
  | false => rfl
  | true => exact congrArg some (if_pos (h h0))

end

/-- The copies of the option record, read. -/
def Dev.optRead (d : Dev) : Dev :=
  ((d.advance (d.sys.relAt + min 1500000000 (Config.freeDelay d.freeCtr))).freeNext).readCopies 0

/-- The option record that is in force from here on. -/
def Store.optTaken (t : Store) : OptRec := match t.newestOpt with | some k => optOf (t.optCopy k) | none => optRom

section
variable (d : Dev)

theorem Dev.optRead_unread_zero : d.optRead.store.unread.testBit 0 = Config.freeFlag (d.freeCtr + 1) :=
  (testBit_putBit_ne _ (by decide)).trans (testBit_putBit ..)

theorem Dev.optRead_unread_one : d.optRead.store.unread.testBit 1 = Config.freeFlag (d.freeCtr + 1 + 1) := testBit_putBit ..

theorem Dev.optRead_copies (n : Nat) : d.optRead.store.optCopy n = d.store.optCopy n := rfl

/-- A copy is seen where it is valid and no read of it was uncorrectable (log entry 154). -/
theorem Dev.optRead_seen {n : Nat} (hn : n < 2) :
    d.optRead.store.optSeen n = (optOk (d.store.optCopy n) && !Config.freeFlag (d.freeCtr + 1 + n)) := by
  unfold Store.optSeen
  obtain rfl | rfl : n = 0 ∨ n = 1 := by omega
  · rw [Dev.optRead_unread_zero]
    rfl
  · rw [Dev.optRead_unread_one]
    rfl

/-- What follows the choice of the record. -/
def Dev.optInForce (d : Dev) : Dev :=
  ((d.modSys (fun y => { y with opt := d.store.optTaken, optDefaults := d.store.newestOpt.isNone, optCopy := d.store.newestOpt.getD 0,
                                phase := .releasing 1, relAt := d.now,
                                tap := if d.store.optTaken.jtag = 0 then .bypass else y.tap })).modTb
    (fun b => b.refLoad d.store.optTaken.refSel)).modSeam (fun m => { m with hbRunning := true })

theorem Dev.optLoaded_rest (hphase : d.sys.phase = .loading) : d.optLoaded.rest = d.optRead.optInForce.rest := by
  unfold Dev.optLoaded
  rw [if_neg (by rw [hphase]; decide)]
  exact bystander_rest.gstat ..

end

theorem Dev.rest_now {a b : Dev} (h : b.rest = a.rest) : b.now = a.now := (congrArg (fun x => x.1.now) h :)
theorem Dev.rest_seam {a b : Dev} (h : b.rest = a.rest) : b.seam = a.seam := (congrArg (fun x => x.1.seam) h :)
theorem Dev.rest_sys {a b : Dev} (h : b.rest = a.rest) :
    ({ b.sys with waking := none, wakeCause := 0, wakeLatched := none, gstatChg := 0 } : SysCtl) =
      { a.sys with waking := none, wakeCause := 0, wakeLatched := none, gstatChg := 0 } := (congrArg (fun x => x.1.sys) h :)

theorem exec_optionLoadDone (s : State) (hphase : s.dev.sys.phase = .loading) :
    ∃ t : State, exec .optionLoadDone s = .next t ∧ t.mem = s.mem ∧
      t.dev.sys.phase = .releasing 1 ∧ s.dev.now ≤ t.dev.now ∧ t.dev.now ≤ max s.dev.now (s.dev.sys.relAt + 1500000000) ∧
      t.dev.seam.hbRunning = true ∧ t.dev.sys.opt = s.dev.optRead.store.optTaken ∧
      t.dev.sys.optDefaults = s.dev.optRead.store.newestOpt.isNone := by
  refine ⟨_, rfl, rfl, ?_⟩
  rw [State.on_dev]
  have hrest := Dev.optLoaded_rest s.dev hphase
  have hsys := Dev.rest_sys hrest
  have hnow : s.dev.optLoaded.now = max s.dev.now (s.dev.sys.relAt + min 1500000000 (Config.freeDelay s.dev.freeCtr)) :=
    Dev.rest_now hrest
  refine ⟨(congrArg SysCtl.phase hsys :), ?_, ?_, ?_, (congrArg SysCtl.opt hsys :), (congrArg SysCtl.optDefaults hsys :)⟩
  · rw [hnow]
    exact Nat.le_max_left ..
  · rw [hnow]
    exact max_le_max_left _ (Nat.add_le_add_left (Nat.min_le_left ..) _)
  · rw [Dev.rest_seam hrest]
    rfl

/-! ### DOMAIN_RELEASE and ECC_INIT_DONE (R560) -/

theorem Dev.regrid_of {α : Type} {p : Dev → α} (hvec : ∀ e g, p (Dev.modVec e g) = p e) (hseam : ∀ e g, p (Dev.modSeam e g) = p e)
    (d : Dev) : p d.regrid = p d := by
  unfold Dev.regrid
  extract_lets s1
  exact ite_kept p ((hseam ..).trans (hvec ..)) (hvec ..)

theorem le_gridEdge (a t k : Nat) : t ≤ gridEdge a t k := Nat.le_add_right ..

/-- The domain that is released next. -/
def Dev.domainNext (d : Dev) (n : Nat) : Dev :=
  (d.advance (d.sys.relAt + 40960000)).modSys (fun y => { y with
    relAt := (d.advance (d.sys.relAt + 40960000)).now,
    phase := if n < 5 then .releasing (n + 1) else if y.scope ≥ 3 then .starting else .firmware })

section
variable {d : Dev} {n : Nat} (hphase : d.sys.phase = .releasing n)
include hphase

theorem Dev.release_waits (hn : n = 4) (hecc : d.sys.eccDone = false) : d.release = d := by
  unfold Dev.release
  rw [hphase]
  exact if_pos (by rw [hn, hecc]; rfl)

theorem Dev.release_runs (h : n ≠ 4 ∨ d.sys.eccDone = true) : d.release =
    if n = 2 && decide (d.sys.scope ≤ 2) then (d.domainNext n).tbStart else d.domainNext n := by
  unfold Dev.release
  rw [hphase]
  refine if_neg (fun hwaits => ?_)
  rw [Bool.and_eq_true, decide_eq_true_eq] at hwaits
  rcases h with hn | hecc
  · exact hn hwaits.1
  · rw [hecc] at hwaits
    exact Bool.false_ne_true hwaits.2

theorem Dev.eccInit_runs (hn : n = 4) (hecc : d.sys.eccDone = false) : d.eccInit =
    ((d.advance (d.sys.relAt + min 2200000000 (Config.freeDelay d.freeCtr))).freeNext).modSys (fun y =>
      { y with eccDone := true, relAt := max d.now (d.sys.relAt + min 2200000000 (Config.freeDelay d.freeCtr)) }) := by
  unfold Dev.eccInit
  rw [hphase]
  exact if_neg (by rw [hecc]; simp [hn])

end

theorem Dev.tbStart_parts (d : Dev) : d.tbStart.sys = d.sys ∧ d.tbStart.now = gridEdge 0 d.now 50000 ∧
    d.tbStart.tb.lastSample = d.tbStart.now ∧ d.tbStart.tb.monoZero = d.tbStart.now ∧ d.tbStart.tb.edgeBase = d.tbStart.now := by
  unfold Dev.tbStart
  extract_lets t
  have hnow : max d.now t = t := Nat.max_eq_right (le_gridEdge ..)
  rw [Dev.regrid_of (p := Dev.sys) Dev.modVec_sys Dev.modSeam_sys, Dev.regrid_of (p := Dev.now) Dev.modVec_now Dev.modSeam_now,
    Dev.regrid_of (p := Dev.tb) Dev.modVec_tb Dev.modSeam_tb]
  exact ⟨rfl, hnow, hnow.symm, hnow.symm, hnow.symm⟩

theorem exec_domainRelease (s : State) (n : Nat) (hphase : s.dev.sys.phase = .releasing n) (h : n ≠ 4 ∨ s.dev.sys.eccDone = true) :
    ∃ t : State, exec .domainRelease s = .next t ∧ t.mem = s.mem ∧
      t.dev.sys.relAt = max s.dev.now (s.dev.sys.relAt + 40960000) ∧
      (n = 2 → s.dev.sys.scope ≤ 2 → t.dev.now = gridEdge 0 t.dev.sys.relAt 50000 ∧ t.dev.tb.lastSample = t.dev.now ∧
        t.dev.tb.monoZero = t.dev.now ∧ t.dev.tb.edgeBase = t.dev.now) ∧
      (n ≠ 2 ∨ 3 ≤ s.dev.sys.scope → t.dev.now = t.dev.sys.relAt) ∧
      (n < 5 → t.dev.sys.phase = .releasing (n + 1)) ∧ (5 ≤ n → s.dev.sys.scope ≤ 2 → t.dev.sys.phase = .firmware) ∧
      (5 ≤ n → 3 ≤ s.dev.sys.scope → t.dev.sys.phase = .starting) := by
  refine ⟨_, rfl, rfl, ?_⟩
  rw [State.on_dev, Dev.release_runs hphase h]
  have hphases : (n < 5 → (s.dev.domainNext n).sys.phase = .releasing (n + 1)) ∧
      (5 ≤ n → s.dev.sys.scope ≤ 2 → (s.dev.domainNext n).sys.phase = .firmware) ∧
      (5 ≤ n → 3 ≤ s.dev.sys.scope → (s.dev.domainNext n).sys.phase = .starting) :=
    ⟨fun hn => if_pos hn, fun hn hscope => (if_neg (by omega)).trans (if_neg (Nat.not_le.2 (by exact Nat.lt_succ_of_le hscope))),
      fun hn hscope => (if_neg (by omega)).trans (if_pos hscope)⟩
  by_cases hstart : n = 2 ∧ s.dev.sys.scope ≤ 2
  · rw [if_pos (by simp [hstart.1, hstart.2])]
    obtain ⟨hsys, hnow, hsample, hmono, hbase⟩ := (s.dev.domainNext n).tbStart_parts
    rw [hsys]
    exact ⟨rfl, fun _ _ => ⟨hnow, hsample, hmono, hbase⟩, fun hother => absurd hother (by omega), hphases⟩
  · rw [if_neg (by simpa using hstart)]
    exact ⟨rfl, fun hn hscope => absurd ⟨hn, hscope⟩ hstart, fun _ => rfl, hphases⟩

theorem exec_eccInitDone (s : State) {n : Nat} (hphase : s.dev.sys.phase = .releasing n) (hn : n = 4)
    (hecc : s.dev.sys.eccDone = false) :
    ∃ t : State, exec .eccInitDone s = .next t ∧ t.mem = s.mem ∧ t.dev.sys.eccDone = true ∧
      t.dev.sys.phase = .releasing 4 ∧ t.dev.now ≤ max s.dev.now (s.dev.sys.relAt + 2200000000) := by
  refine ⟨_, rfl, rfl, ?_⟩
  rw [State.on_dev, Dev.eccInit_runs hphase hn hecc]
  refine ⟨rfl, hn ▸ hphase, ?_⟩
  exact max_le_max_left _ (Nat.add_le_add_left (Nat.min_le_left ..) _)

end Sys2Proof.Machine

end

section
/-! The firmware's bank check and READY (spec/19_startup_reset.md, R545, R562, R565; spec/14_events.md, R468; spec/20_config_store.md,
R582 to R584). -/

namespace Sys2Proof.Machine

/-! ### The lines that are held from the start (R468) -/

theorem bitAt_true (i : Nat) : bitAt true i = 2 ^ i := rfl
theorem bitAt_false (i : Nat) : bitAt false i = 0 := rfl

theorem testBit_add_bitAt {m i : Nat} {b : Bool} (hm : m < 2 ^ 14) (h : (m + bitAt b 14).testBit i = true) :
    (i < 14 ∧ m.testBit i = true) ∨ (i = 14 ∧ b = true) := by
  cases b with
  | false =>
    rw [bitAt_false, Nat.add_zero] at h
    refine .inl ⟨?_, h⟩
    by_contra hi
    have hlt : m < 2 ^ i := Nat.lt_of_lt_of_le hm (Nat.pow_le_pow_right Nat.two_pos (Nat.not_lt.1 hi))
    rw [Nat.testBit_lt_two_pow hlt] at h
    exact Bool.false_ne_true h
  | true =>
    rw [bitAt_true, Nat.add_comm] at h
    rcases Nat.lt_trichotomy i 14 with hi | rfl | hi
    · rw [Nat.testBit_two_pow_add_gt hi] at h
      exact .inl ⟨hi, h⟩
    · exact .inr ⟨rfl, rfl⟩
    · have hlt : 2 ^ 14 + m < 2 ^ i :=
        calc 2 ^ 14 + m < 2 ^ 15 := by omega
          _ ≤ 2 ^ i := Nat.pow_le_pow_right Nat.two_pos hi
      rw [Nat.testBit_lt_two_pow hlt] at h
      exact absurd h Bool.false_ne_true

/-- Lines held that are on stay held. -/
theorem and_bitMap_of_imp {m n : Nat} {f : Nat → Bool} (h : ∀ i, m.testBit i = true → i < n ∧ f i = true) : m &&& bitMap f n = m := by
  refine Nat.eq_of_testBit_eq (fun i => ?_)
  rw [Nat.testBit_and, testBit_bitMap]
  cases hm : m.testBit i with
  | false => rfl
  | true =>
    obtain ⟨hi, hf⟩ := h i hm
    rw [hf, decide_eq_true hi]
    rfl

/-- A line that is asserted from outside, and is no output, is on. -/
theorem Dev.lineOn_asserted {d : Dev} {n : Nat} (hn : n < 14) (hdir : d.fab.fpDir = 0) (hext : d.fab.ext.testBit n = true) :
    d.lineOn n = true := by
  unfold Dev.lineOn
  rw [if_neg (by omega), hdir, Nat.zero_testBit, Bool.and_false, hext, Bool.true_or]
  exact if_neg Bool.false_ne_true

theorem Dev.lineOn_intlk {d : Dev} : d.lineOn 14 = d.seam.intlk := rfl

/-- The lines held, and what shows whether a line is on. -/
def Dev.heldLines (d : Dev) : Nat × Nat × Nat × Bool := (d.fab.held, d.fab.ext, d.fab.fpDir, d.seam.intlk)

theorem keptByPulses_heldLines : KeptByPulses Dev.heldLines where
  fires := fun _ _ _ => rfl
  waits := fun _ _ _ _ _ => rfl
  wake := fun d c => by
    unfold Dev.wakeBy
    exact ite_kept Dev.heldLines rfl (ite_kept Dev.heldLines rfl rfl)

/-- A row that is observed leaves the lines held that are on from outside. -/
theorem Dev.observed_heldLines {d : Dev} {g : Dev → Dev} (hext : (g d).fab.ext < 2 ^ 14) (hdir : (g d).fab.fpDir = 0)
    (hheld : (g d).fab.held = (g d).fab.ext + bitAt (g d).seam.intlk 14) : (d.observed g).fab.held = (g d).fab.held := by
  have hkept : ∀ e : Dev, e.heldLines = (g d).heldLines → (e.linesNote d).fab.held = (g d).fab.held := by
    intro e he
    obtain ⟨hheld', hext', hdir', hintlk'⟩ : e.fab.held = (g d).fab.held ∧ e.fab.ext = (g d).fab.ext ∧
        e.fab.fpDir = (g d).fab.fpDir ∧ e.seam.intlk = (g d).seam.intlk :=
      ⟨congrArg (·.1) he, congrArg (·.2.1) he, congrArg (·.2.2.1) he, congrArg (·.2.2.2) he⟩
    show e.fab.held &&& bitMap e.lineOn 15 = (g d).fab.held
    rw [hheld']
    refine and_bitMap_of_imp (fun i hi => ?_)
    rw [hheld] at hi
    rcases testBit_add_bitAt hext hi with ⟨hlt, hbit⟩ | ⟨rfl, hintlk⟩
    · exact ⟨by omega, Dev.lineOn_asserted hlt (hdir'.trans hdir) (hext' ▸ hbit)⟩
    · exact ⟨by omega, hintlk'.trans hintlk⟩
  unfold Dev.observed Dev.fabricNote
  rw [Dev.gstatNote_fab]
  extract_lets on still rising held at_ s1
  exact hkept _ ((foldl_kept Dev.heldLines (fun e n => keptByPulses_heldLines.pulseGo ..) _ s1).trans
    (keptByPulses_heldLines.arrive ..))

/-! ### FIRMWARE_BANK_CHECK -/

theorem Dev.observed_sys (d : Dev) (g : Dev → Dev) :
    ({ (d.observed g).sys with waking := none, wakeCause := 0, wakeLatched := none, gstatChg := 0 } : SysCtl) =
      { (g d).sys with waking := none, wakeCause := 0, wakeLatched := none, gstatChg := 0 } :=
  Dev.rest_sys (bystander_rest.observed d g)

theorem configured_keptByFabric : KeptByFabric (fun d : Dev => d.fab.configured) :=
  keptByFabric_of_fab Fabric.configured (fun _ _ => rfl) (fun _ _ _ _ _ => rfl) (fun _ _ _ _ => rfl)

/-- What a row that is observed has booted is seen after it. -/
theorem exec_firmwareBankCheck {s : State} {x : SysCtl × Fabric × Store} (h : s.dev.bankCheck.booted = x) :
    ∃ t : State, exec .firmwareBankCheck s = .next t ∧ t.mem = s.mem ∧ t.dev.sys.phase = x.1.phase ∧
      t.dev.sys.fwVersion = x.1.fwVersion ∧ t.dev.store.settled = x.2.2 ∧ t.dev.fab.configured = x.2.1.configured ∧
      (x.2.1.ext < 2 ^ 14 → x.2.1.fpDir = 0 → x.2.1.held = x.2.1.ext + bitAt s.dev.bankCheck.seam.intlk 14 →
        t.dev.fab.held = x.2.1.held) := by
  subst h
  refine ⟨_, rfl, rfl, ?_⟩
  rw [State.on_dev]
  have hsys := Dev.observed_sys s.dev Dev.bankCheck
  exact ⟨(congrArg SysCtl.phase hsys :), (congrArg SysCtl.fwVersion hsys :), congrArg Store.settled (Dev.observed_store ..),
    Dev.observed_keptByFabric Fabric.configured configured_keptByFabric s.dev Dev.bankCheck, Dev.observed_heldLines⟩

/-! ### READY (R562, R565) -/

theorem bkup_setBkup (d : Dev) (i v k : Nat) : bkup (d.setBkup i v) k = if k = i then v % 2 ^ 32 else bkup d k := by
  unfold bkup Dev.setBkup
  show (tblGet (fun _ => (0 : W32)) (tblSet (fun _ => 0) d.sys.bkup i (BitVec.ofNat 32 v)) k).toNat = _
  rw [tblGet_set]
  split
  · exact BitVec.toNat_ofNat ..
  · rfl

theorem bkup_of_sys {a b : Dev} (h : b.sys.bkup = a.sys.bkup) (i : Nat) : bkup b i = bkup a i :=
  congrArg (fun t : Tbl W32 => (tblGet (fun _ => (0 : W32)) t i).toNat) h

section
variable (d : Dev)

theorem Dev.bkupFill_cause : bkup d.bkupFill 24 = d.sys.cause % 2 ^ 32 := by
  unfold Dev.bkupFill Dev.bkupPower
  simp [bkup_setBkup]

theorem Dev.bkupFill_last : bkup d.bkupFill 25 = bkup d 24 := by
  have hword : bkup d 24 % 2 ^ 32 = bkup d 24 := Nat.mod_eq_of_lt (tblGet (fun _ => (0 : W32)) d.sys.bkup 24).isLt
  unfold Dev.bkupFill Dev.bkupPower
  simpa [bkup_setBkup] using hword

theorem Dev.bkupFill_crash : bkup d.bkupFill 30 = bkup d 30 := by
  unfold Dev.bkupFill Dev.bkupPower
  simp [bkup_setBkup]

theorem Dev.setBkup_fns (i v : Nat) : (d.setBkup i v).fns = d.fns := Dev.modSys_fns ..

theorem Dev.bkupFill_fns : d.bkupFill.fns = d.fns := by
  unfold Dev.bkupFill Dev.bkupPower
  simp only [Dev.setBkup_fns]

/-- Firmware serves PF0, and the VFs but in recovery; Helon is written again after its own reset. -/
def Dev.readyServes (d : Dev) (scope : Nat) : Dev :=
  if scope ≤ 2 then d.serve.modWork (fun w => { w with failedStarts := 0 })
  else if scope = 3 && !d.store.recovery then d.helonWrite else d

/-- What READY has filled and logged. -/
def Dev.readyFilled (d : Dev) : Dev :=
  if d.sys.scope = 4 then d.bkupFill
  else d.bkupFill.logIt (kReset ((List.range 4).any (fun i => d.sys.causes.testBit (6 + i)))) d.sys.cause

/-- The sequence has ended. -/
def Dev.readyDone (d : Dev) : Dev :=
  (d.readyFilled.readyServes d.sys.scope).modSys (fun y => { y with phase := .ready, causes := 0 })

variable {d}

theorem Dev.readyRow_runs (hphase : d.sys.phase = .starting) (hcal : d.cal.runs.any (fun r => r.cmd.isNone) = false) :
    d.readyRow = d.readyDone := by
  unfold Dev.readyRow
  rw [if_neg (by rw [hphase, hcal]; decide)]
  rfl

theorem Dev.readyFilled_fns : d.readyFilled.fns = d.fns := by
  unfold Dev.readyFilled
  split
  · exact d.bkupFill_fns
  · exact (Dev.logIt_fns ..).trans d.bkupFill_fns

theorem Dev.readyFilled_sys : d.readyFilled.sys = d.bkupFill.sys := by
  unfold Dev.readyFilled
  split
  · rfl
  · exact Dev.logIt_sys ..

theorem Dev.serve_sys : d.serve.sys = d.sys := by
  unfold Dev.serve
  extract_lets s1
  split
  · rfl
  · exact Dev.forAll_keeps Dev.sys (fun _ _ => Dev.modFn_sys ..)

theorem Dev.serve_fn : d.serve.fn 0 =
    { d.fn 0 with ready := (d.fn 0).flr == .idle, ringCount := 8, quota := 2 ^ 35, cls := 7, weight := 16 } := by
  unfold Dev.serve
  extract_lets s1
  have h1 : s1.fn 0 = _ := Dev.modFn_same ..
  split
  · exact h1
  · refine Dev.forAll_induct (P := fun e => e.fn 0 = _) (fun e f hf he => ?_) h1
    have hne : f ≠ 0 := by simpa using (List.mem_filter.1 hf).2
    exact ((Dev.modFn_get ..).trans (if_neg hne.symm)).trans he

theorem Dev.modWork_bkup (g : WorkArea → WorkArea) : (d.modWork g).sys.bkup = d.sys.bkup := rfl

theorem Dev.readyServes_bkup (scope : Nat) : (d.readyServes scope).sys.bkup = d.sys.bkup := by
  unfold Dev.readyServes
  split
  · rw [Dev.modWork_bkup, Dev.serve_sys]
  · split
    · exact congrArg SysCtl.bkup (Dev.helonWrite_of (p := Dev.sys) (Dev.sendDown_of Dev.modSeam_sys) Dev.modSvy_sys d)
    · rfl

theorem Dev.readyServes_fns {scope : Nat} (h : 3 ≤ scope) : (d.readyServes scope).fns = d.fns := by
  unfold Dev.readyServes
  rw [if_neg (by omega)]
  split
  · exact Dev.helonWrite_of (p := Dev.fns) (Dev.sendDown_of Dev.modSeam_fns) Dev.modSvy_fns d
  · rfl

theorem Dev.readyDone_bkup : d.readyDone.sys.bkup = d.bkupFill.sys.bkup := by
  show (d.readyFilled.readyServes d.sys.scope).sys.bkup = _
  rw [Dev.readyServes_bkup, Dev.readyFilled_sys]

theorem Dev.readyDone_fns (h : 3 ≤ d.sys.scope) : d.readyDone.fns = d.fns :=
  (Dev.readyServes_fns h).trans Dev.readyFilled_fns

/-- PF0 as it is served, with its first resources (R532). -/
def Fn.first (r : Fn) : Fn := { r with ready := r.flr == .idle, ringCount := 8, quota := 2 ^ 35, cls := 7, weight := 16 }

theorem Dev.readyDone_served (h : d.sys.scope ≤ 2) : d.readyDone.fn 0 = (d.fn 0).first := by
  have hserves : d.readyFilled.readyServes d.sys.scope = d.readyFilled.serve.modWork (fun w => { w with failedStarts := 0 }) :=
    if_pos h
  have hfilled : d.readyFilled.fn 0 = d.fn 0 := congrArg (fun l => tblGet fnInit l 0) Dev.readyFilled_fns
  rw [← hfilled]
  show (d.readyFilled.readyServes d.sys.scope).fn 0 = _
  rw [hserves]
  exact Dev.serve_fn

theorem Dev.readyDone_failedStarts (h : d.sys.scope ≤ 2) : d.readyDone.sys.work.failedStarts = 0 := by
  have hserves : d.readyFilled.readyServes d.sys.scope = d.readyFilled.serve.modWork (fun w => { w with failedStarts := 0 }) :=
    if_pos h
  show (d.readyFilled.readyServes d.sys.scope).sys.work.failedStarts = 0
  rw [hserves]
  rfl

end

theorem exec_ready {s : State} (hphase : s.dev.sys.phase = .starting) (hcal : s.dev.cal.runs.any (fun r => r.cmd.isNone) = false) :
    ∃ t : State, exec .ready s = .next t ∧ t.mem = s.mem ∧ t.dev.sys.phase = .ready ∧ t.dev.sys.causes = 0 ∧
      bkup t.dev 24 = (s.dev.sys.causes % 8192 + 65536 * s.dev.sys.scope) % 2 ^ 32 ∧ bkup t.dev 25 = bkup s.dev 24 ∧
      bkup t.dev 30 = bkup s.dev 30 ∧
      (s.dev.sys.scope ≤ 2 → (t.dev.fn 0).ready = ((s.dev.fn 0).flr == .idle) ∧ (t.dev.fn 0).ringCount = 8 ∧
        (t.dev.fn 0).quota = 2 ^ 35 ∧ (t.dev.fn 0).cls = 7 ∧ (t.dev.fn 0).weight = 16 ∧ t.dev.sys.work.failedStarts = 0) ∧
      (3 ≤ s.dev.sys.scope → ∀ f : Nat, (t.dev.fn f).ready = (s.dev.fn f).ready) := by
  refine ⟨_, rfl, rfl, ?_⟩
  rw [State.on_dev, Dev.observed_congr (g := Dev.readyRow) (h := Dev.readyDone) (Dev.readyRow_runs hphase hcal)]
  have hsys := s.dev.observed_sys Dev.readyDone
  have hbkup : ∀ i, bkup (s.dev.observed Dev.readyDone) i = bkup s.dev.bkupFill i :=
    bkup_of_sys ((congrArg SysCtl.bkup hsys :).trans Dev.readyDone_bkup)
  have hcore := fun f => Dev.rest_core (bystander_rest.observed s.dev Dev.readyDone) f
  refine ⟨(congrArg SysCtl.phase hsys :), (congrArg SysCtl.causes hsys :), (hbkup 24).trans (Dev.bkupFill_cause _),
    (hbkup 25).trans (Dev.bkupFill_last _), (hbkup 30).trans (Dev.bkupFill_crash _), fun hscope => ?_, fun hscope f => ?_⟩
  · have hfn := hcore 0
    rw [Dev.readyDone_served hscope] at hfn
    refine ⟨Fn.core_ready hfn, Fn.core_ringCount hfn, Fn.core_quota hfn, Fn.core_cls hfn, Fn.core_weight hfn, ?_⟩
    exact (congrArg (fun y : SysCtl => y.work.failedStarts) hsys :).trans (Dev.readyDone_failedStarts hscope)
  · exact (Fn.core_ready (hcore f)).trans (congrArg (fun l => (tblGet fnInit l f).ready) (Dev.readyDone_fns hscope))

end Sys2Proof.Machine

open Sys2Proof.Machine

/-- Settles O59, one step after the other: what the firmware's steps leave is read off `Dev.booted`, and what a row that is observed
leaves off `Dev.rest`. -/
theorem startUpSteps : Obligations.StartUpSteps := by
  unfold Obligations.StartUpSteps
  refine ⟨exec_resetNegation, fun s hphase => ?load, fun s n hphase => ⟨fun hn hecc => ?waits, exec_domainRelease s n hphase,
    fun hn hecc => exec_eccInitDone s hphase hn hecc⟩, fun s hphase => ?check, fun s hphase hcal => ?ready⟩
  case load =>
    obtain ⟨t, hexec, hmem, hph, hlow, hhigh, hhb, hopt, hdef⟩ := exec_optionLoadDone s hphase
    have hseen := fun n (hn : n < 2) => s.dev.optRead_seen hn
    refine ⟨t, hexec, hmem, hph, hlow, hhigh, hhb, fun h0 h1 => ?_, fun h0 h1 => ?_, fun h1 h0 => ?_⟩
    · have hnone := Store.newestOpt_none ((hseen 0 (by decide)).trans h0) ((hseen 1 (by decide)).trans h1)
      rw [hopt, hdef, Store.optTaken, hnone]
      exact ⟨rfl, rfl⟩
    · have hfirst := Store.newestOpt_first ((hseen 0 (by decide)).trans h0) (fun h => h1 ((hseen 1 (by decide)).symm.trans h))
      rw [hopt, hdef, Store.optTaken, hfirst]
      exact ⟨rfl, rfl⟩
    · have hsecond := Store.newestOpt_second ((hseen 1 (by decide)).trans h1) (fun h => h0 ((hseen 0 (by decide)).symm.trans h))
      rw [hopt, hdef, Store.optTaken, hsecond]
      exact ⟨rfl, rfl⟩
  case waits => exact congrArg Host.Outcome.next (State.on_of_fixed (Dev.release_waits hphase hn hecc))
  case check =>
    cases hnamed : s.dev.bankSeen s.dev.sys.opt.fwBank with
    | true =>
      obtain ⟨t, hexec, hmem, hph, hversion, hstore, hconf, hheld⟩ := exec_firmwareBankCheck (Dev.bankCheck_named hphase hnamed)
      refine ⟨t, hexec, hmem, hph, fun _ => ⟨(congrArg Store.executing hstore :), (congrArg Store.fallback hstore :),
        (congrArg Store.recovery hstore :), hversion, hconf, fun hext hdir => ?_⟩, fun h => Bool.noConfusion (hnamed.symm.trans h),
        fun h => Bool.noConfusion (hnamed.symm.trans h)⟩
      refine hheld hext hdir ?_
      rw [show s.dev.bankCheck.seam.intlk = s.dev.seam.intlk from Dev.bankCheck_intlk hphase hnamed]
      rfl
    | false =>
      cases hother : s.dev.bankSeen (1 - s.dev.sys.opt.fwBank) with
      | true =>
        obtain ⟨t, hexec, hmem, hph, hversion, hstore, _⟩ := exec_firmwareBankCheck (Dev.bankCheck_other hphase hnamed hother)
        exact ⟨t, hexec, hmem, hph, fun h => Bool.noConfusion (hnamed.symm.trans h), fun _ _ => ⟨(congrArg Store.executing hstore :),
          (congrArg Store.fallback hstore :), hversion⟩, fun _ h => Bool.noConfusion (hother.symm.trans h)⟩
      | false =>
        obtain ⟨t, hexec, hmem, hph, _, hstore, _⟩ := exec_firmwareBankCheck (Dev.bankCheck_neither hphase hnamed hother)
        exact ⟨t, hexec, hmem, hph, fun h => Bool.noConfusion (hnamed.symm.trans h), fun _ h => Bool.noConfusion (hother.symm.trans h),
          fun _ _ => ⟨(congrArg Store.recovery hstore :), (congrArg Store.executing hstore :)⟩⟩
  case ready => exact exec_ready hphase hcal

end

section
/-! What a reset of scope COLD, PACKAGE or DENRIX leaves, and what an escalation leaves of the reset controller
(spec/19_startup_reset.md, R545 to R548, R557, R565; spec/21_error_handling.md, R592). -/

namespace Sys2Proof.Machine

/-! ### The store's writes are cut (R557) -/

theorem Dev.storeCut_of {α : Type} {p : Dev → α} (hopt : ∀ d n, p (Dev.optBreak d n) = p d) (hcopy : ∀ d c, p (Dev.calWrite d c) = p d)
    (hcal : ∀ d g, p (Dev.modCal d g) = p d)
    (hbusy : ∀ d : Dev, p (d.modStore (fun t => { t with loadBusy := false, optBusy := false })) = p d) (d : Dev) :
    p d.storeCut = p d := by
  unfold Dev.storeCut
  extract_lets s1 s2
  have h1 : p s1 = p d := ite_kept p (hopt ..) rfl
  have h2 : p s2 = p s1 := by
    unfold s2
    split
    · exact (hcal ..).trans (hcopy ..)
    · rfl
  exact (hbusy s2).trans (h2.trans h1)

theorem Dev.storeCut_now (d : Dev) : d.storeCut.now = d.now :=
  Dev.storeCut_of (p := Dev.now) (fun _ _ => rfl) (fun _ _ => rfl) (fun _ _ => rfl) (fun _ => rfl) d

theorem Dev.storeCut_sys (d : Dev) : d.storeCut.sys = d.sys :=
  Dev.storeCut_of (p := Dev.sys) (fun _ _ => rfl) (fun _ _ => rfl) (fun _ _ => rfl) (fun _ => rfl) d

theorem Dev.storeCut_log (d : Dev) : d.storeCut.log = d.log :=
  Dev.storeCut_of (p := Dev.log) (fun _ _ => rfl) (fun _ _ => rfl) (fun _ _ => rfl) (fun _ => rfl) d

theorem Store.setOpt_banks (t : Store) (n : Nat) (b : List Byte) :
    ((t.setOpt n b).bankA, (t.setOpt n b).bankB) = (t.bankA, t.bankB) := by
  unfold Store.setOpt
  extract_lets t'
  split
  · rfl
  · rfl

/-- The firmware banks. -/
def Dev.banks (d : Dev) : Bank × Bank := (d.store.bankA, d.store.bankB)

theorem Dev.storeCut_banks (d : Dev) : d.storeCut.banks = d.banks :=
  Dev.storeCut_of (p := Dev.banks) (fun d n => Store.setOpt_banks d.store n _) (fun _ _ => rfl) (fun _ _ => rfl) (fun _ => rfl) d

/-! ### Denrix cleared (R545) -/

section
variable (d : Dev) (cold helon : Bool)

/-- Denrix cleared, on its new grid. -/
def Dev.denrixCleared : Dev := (d.clearDenrix cold helon).regrid

theorem Dev.denrixCleared_of {α : Type} {p : Dev → α} (hvec : ∀ e g, p (Dev.modVec e g) = p e)
    (hseam : ∀ e g, p (Dev.modSeam e g) = p e) : p (d.denrixCleared cold helon) = p (d.clearDenrix cold helon) :=
  Dev.regrid_of hvec hseam _

theorem Dev.denrixCleared_now : (d.denrixCleared cold helon).now = d.now :=
  (d.denrixCleared_of cold helon Dev.modVec_now Dev.modSeam_now).trans (Dev.storeCut_now d)

theorem Dev.denrixCleared_sys : (d.denrixCleared cold helon).sys = d.sys.afterReset cold :=
  (d.denrixCleared_of cold helon Dev.modVec_sys Dev.modSeam_sys).trans (congrArg (fun y => SysCtl.afterReset y cold) (Dev.storeCut_sys d))

theorem Dev.denrixCleared_log : (d.denrixCleared cold helon).log = d.log.afterReset cold :=
  (d.denrixCleared_of cold helon Dev.modVec_log Dev.modSeam_log).trans (congrArg (fun y => Log.afterReset y cold) (Dev.storeCut_log d))

theorem Dev.denrixCleared_fns : (d.denrixCleared cold helon).fns = [] :=
  (d.denrixCleared_of cold helon Dev.modVec_fns Dev.modSeam_fns).trans rfl

theorem Dev.denrixCleared_tg : (d.denrixCleared cold helon).tg = tgInit :=
  (d.denrixCleared_of cold helon Dev.modVec_tg Dev.modSeam_tg).trans rfl

theorem Dev.denrixCleared_chans : (d.denrixCleared cold helon).chans = Dev.reset.chans :=
  (d.denrixCleared_of cold helon Dev.modVec_chans Dev.modSeam_chans).trans rfl

theorem Dev.denrixCleared_assign : (d.denrixCleared cold helon).assign = assignInit :=
  (d.denrixCleared_of cold helon Dev.modVec_assign Dev.modSeam_assign).trans rfl

theorem Dev.denrixCleared_banks : (d.denrixCleared cold helon).banks = d.banks :=
  (d.denrixCleared_of cold helon (p := Dev.banks) (fun _ _ => rfl) (fun _ _ => rfl)).trans (Dev.storeCut_banks d)

theorem Dev.regrid_up (d : Dev) : d.regrid.seam.up = d.seam.up := by
  unfold Dev.regrid
  extract_lets s1
  split
  · rfl
  · rfl

theorem Dev.denrixCleared_up : (d.denrixCleared cold helon).seam.up = false := by
  refine (Dev.regrid_up _).trans ?_
  unfold Dev.clearDenrix
  cases helon with
  | false => rfl
  | true => rfl

end

/-! ### The assertion of a wide source (R547, R548) -/

/-- The reset controller but for what firmware and the latches of an assertion keep of it. -/
def SysCtl.noted (y : SysCtl) : SysCtl := { y with work := sysInit.work, latchNs := 0, latchPower := 0 }

theorem Dev.resetLatch_noted (d : Dev) : d.resetLatch.sys.noted = d.sys.noted := rfl

/-- The latches of an assertion, and a start of a bank that fails. -/
def Dev.startEnds (d : Dev) (bit : Nat) : Dev := d.resetLatch.startFails bit

theorem Dev.startEnds_of {α : Type} {p : Dev → α} (hsys : ∀ e g, p (Dev.modSys e g) = p e) (d : Dev) (bit : Nat) :
    p (d.startEnds bit) = p d := by
  have hlatch : p d.resetLatch = p d := by
    unfold Dev.resetLatch
    extract_lets e t
    exact hsys ..
  unfold Dev.startEnds Dev.startFails Dev.modWork
  exact (ite_kept p rfl (hsys ..)).trans hlatch

theorem Dev.startEnds_noted (d : Dev) (bit : Nat) : (d.startEnds bit).sys.noted = d.sys.noted := by
  unfold Dev.startEnds Dev.startFails
  exact ite_kept (fun e => e.sys.noted) rfl rfl

/-- The source of a reset in the reset controller of the always-on domain. -/
def SysCtl.source (y old : SysCtl) (bit scope : Nat) : SysCtl :=
  let runs := old.phase != .ready
  let again := old.phase == .loading && decide (scope ≤ 2)
  { y with causes := (if runs then old.causes else 0) ||| 2 ^ bit ||| bitAt again 12,
           scope := if runs then min scope old.scope else scope,
           resets := y.resets + 1, wdogResets := y.wdogResets + bitAt (bit == 6 || bit == 7) 0,
           loadRestarts := (if scope = 0 then 0 else y.loadRestarts) + bitAt again 0 }

/-- The device as a source has been noted. -/
def Dev.sourced (d : Dev) (bit scope : Nat) : Dev := (d.startEnds bit).modSys (fun y => y.source d.sys bit scope)

theorem Dev.sourced_of {α : Type} {p : Dev → α} (hsys : ∀ e g, p (Dev.modSys e g) = p e) (d : Dev) (bit scope : Nat) :
    p (d.sourced bit scope) = p d := (hsys ..).trans (Dev.startEnds_of hsys d bit)

theorem Dev.sourced_noted (d : Dev) (bit scope : Nat) : (d.sourced bit scope).sys.noted = (d.sys.source d.sys bit scope).noted :=
  (congrArg (fun y : SysCtl => (y.source d.sys bit scope).noted) (Dev.startEnds_noted d bit) :)

theorem Dev.assertReset_wide (d : Dev) {bit scope : Nat} (h : scope ≤ 2) : d.assertReset bit scope =
    ((d.sourced bit scope).denrixCleared (scope == 0) (decide ((if d.sys.phase != .ready then min scope d.sys.scope else scope) ≤ 1))).modSys
      (fun y => { y with phase := .held, eccDone := false }) := by
  unfold Dev.assertReset
  have hwide : ¬ (d.sys.phase != .ready && decide (scope > d.sys.scope) && decide (scope ≥ 3)) = true := by
    rw [decide_eq_false (by omega : ¬ scope ≥ 3), Bool.and_false]
    exact Bool.false_ne_true
  rw [if_neg hwide]
  dsimp only
  rw [if_pos h]
  rfl

/-- What a source of scope COLD, PACKAGE or DENRIX leaves of a device. -/
structure Dev.ResetMade (a b : Dev) (bit scope : Nat) : Prop where
  now : b.now = a.now
  phase : b.sys.phase = .held
  wide : b.sys.scope = if a.sys.phase = .ready then scope else min scope a.sys.scope
  causes : b.sys.causes = (if a.sys.phase = .ready then 0 else a.sys.causes) ||| 2 ^ bit ||| (if a.sys.phase = .loading then 4096 else 0)
  sysReset : b.sys.sysReset = none
  denrixGood : b.sys.denrixGood = a.sys.denrixGood
  fns : b.fns = []
  tg : b.tg = tgInit
  chans : b.chans = Dev.reset.chans
  up : b.seam.up = false
  assign : b.assign = assignInit
  banks : b.banks = a.banks
  log : b.log = a.log.afterReset (scope == 0)
  warm : scope ≠ 0 → b.sys.resets = a.sys.resets + 1 ∧ b.sys.bkup = a.sys.bkup ∧
    b.sys.wdogResets = a.sys.wdogResets + bitAt (bit == 6 || bit == 7) 0
  cold : scope = 0 → b.sys.bkup = []

theorem SysCtl.source_scope (y : SysCtl) (bit scope : Nat) :
    (y.source y bit scope).scope = if y.phase = .ready then scope else min scope y.scope := by
  unfold SysCtl.source
  dsimp only
  by_cases h : y.phase = .ready
  · rw [if_pos h, h]
    rfl
  · rw [if_neg h, if_pos (bne_iff_ne.2 h)]

theorem SysCtl.source_causes (y : SysCtl) (bit : Nat) {scope : Nat} (hscope : scope ≤ 2) : (y.source y bit scope).causes =
    (if y.phase = .ready then 0 else y.causes) ||| 2 ^ bit ||| (if y.phase = .loading then 4096 else 0) := by
  unfold SysCtl.source
  dsimp only
  rw [decide_eq_true hscope, Bool.and_true]
  cases y.phase <;> rfl

theorem SysCtl.afterReset_fields (y : SysCtl) (cold : Bool) : (y.afterReset cold).causes = y.causes ∧
    (y.afterReset cold).scope = y.scope ∧ (y.afterReset cold).denrixGood = y.denrixGood ∧ (y.afterReset cold).sysReset = none := by
  cases cold <;> exact ⟨rfl, rfl, rfl, rfl⟩

theorem Dev.assertReset_made (d : Dev) (bit : Nat) {scope : Nat} (h : scope ≤ 2) : d.ResetMade (d.assertReset bit scope) bit scope := by
  rw [Dev.assertReset_wide d h]
  generalize (decide ((if d.sys.phase != .ready then min scope d.sys.scope else scope) ≤ 1)) = helon
  have hsys : ((d.sourced bit scope).denrixCleared (scope == 0) helon).sys = (d.sourced bit scope).sys.afterReset (scope == 0) :=
    Dev.denrixCleared_sys ..
  obtain ⟨hcauses, hscope, hgood, hreset⟩ := (d.sourced bit scope).sys.afterReset_fields (scope == 0)
  have hnoted := d.sourced_noted bit scope
  exact {
    now := (Dev.denrixCleared_now ..).trans (Dev.sourced_of Dev.modSys_now d bit scope)
    phase := rfl
    wide := ((congrArg SysCtl.scope hsys).trans hscope).trans ((congrArg SysCtl.scope hnoted :).trans (d.sys.source_scope bit scope))
    causes := ((congrArg SysCtl.causes hsys).trans hcauses).trans ((congrArg SysCtl.causes hnoted :).trans (d.sys.source_causes bit h))
    sysReset := (congrArg SysCtl.sysReset hsys).trans hreset
    denrixGood := ((congrArg SysCtl.denrixGood hsys).trans hgood).trans (congrArg SysCtl.denrixGood hnoted :)
    fns := Dev.denrixCleared_fns ..
    tg := Dev.denrixCleared_tg ..
    chans := Dev.denrixCleared_chans ..
    up := Dev.denrixCleared_up ..
    assign := Dev.denrixCleared_assign ..
    banks := (Dev.denrixCleared_banks ..).trans (Dev.sourced_of (p := Dev.banks) (fun _ _ => rfl) d bit scope)
    log := (Dev.denrixCleared_log ..).trans (congrArg (fun l => Log.afterReset l (scope == 0)) (Dev.sourced_of Dev.modSys_log d bit scope))
    warm := fun hwarm => by
      have hcold : (scope == 0) = false := beq_eq_false_iff_ne.2 hwarm
      rw [hcold] at hsys ⊢
      exact ⟨(congrArg SysCtl.resets hsys).trans (congrArg SysCtl.resets hnoted :),
        (congrArg SysCtl.bkup hsys).trans (congrArg SysCtl.bkup hnoted :),
        (congrArg SysCtl.wdogResets hsys).trans (congrArg SysCtl.wdogResets hnoted :)⟩
    cold := fun hcold => by
      subst hcold
      exact congrArg SysCtl.bkup hsys }

/-! ### The escalation (R592) -/

/-- A reading that an escalation leaves. -/
structure KeptByEscalation {α : Type} (p : Dev → α) : Prop where
  seam : ∀ d g, p (Dev.modSeam d g) = p d
  helon : ∀ d c g, p (Dev.modHelon d c g) = p d
  log : ∀ d k a e, p (Dev.logIt d k a e) = p d
  cal : ∀ d g, p (Dev.modCal d g) = p d
  res : ∀ d c g, p (Dev.modRes d c g) = p d
  tg : ∀ d g, p (Dev.modTg d g) = p d

namespace KeptByEscalation

variable {α : Type} {p : Dev → α} (h : KeptByEscalation p)
include h

theorem finish? (d : Dev) (id : Option Nat) (st : Nat) (b : List Byte) : p (d.finish? id st b) = p d := by
  unfold Dev.finish? Dev.finish
  split
  · split
    · rfl
    · exact ite_kept p rfl (h.tg ..)
  · rfl

theorem runOver (d : Dev) : p d.runOver = p d := by
  unfold Dev.runOver
  split
  · rfl
  · exact (h.finish? ..).trans (h.cal ..)

theorem slotAbort (d : Dev) : p d.slotAbort = p d := by
  unfold Dev.slotAbort
  extract_lets cs s1
  have h1 : p s1 = p d := h.cal ..
  exact ite_kept p rfl ((h.runOver ..).trans ((Dev.forAll_keeps p (fun _ _ => h.res ..)).trans h1))

theorem holdStart (d : Dev) (t : Nat) : p (d.holdStart t) = p d := ite_kept p ((h.slotAbort ..).trans (h.seam ..)) rfl

theorem safeAt (d : Dev) (c : Nat) : p (d.safeAt c) = p d := ite_kept p ((h.log ..).trans (h.helon ..)) (h.helon ..)

theorem safeReceive (d : Dev) {q : SidePacket} (hup : q.up = false) (hsafe : q.msg = .safe) : p (d.sideReceive q) = p d := by
  unfold Dev.sideReceive
  extract_lets s1
  have h1 : p s1 = p d := h.seam ..
  refine ite_kept p h1 ?_
  unfold Dev.sideAct Dev.downAct
  rw [hup, hsafe]
  split
  · exact (h.safeAt ..).trans h1
  · exact h1

theorem safeFlush (d : Dev) : p d.safeFlush = p d := by
  unfold Dev.safeFlush
  refine ite_kept p rfl ?_
  have hfold : ∀ (l : List SidePacket) (e : Dev), (∀ q ∈ l, q.up = false ∧ q.msg = .safe) →
      p (l.foldl (fun s q => s.sideReceive q) e) = p e := by
    intro l
    induction l with
    | nil => exact fun _ _ => rfl
    | cons q r ih =>
      intro e hl
      obtain ⟨hup, hsafe⟩ := hl q List.mem_cons_self
      exact (ih _ (fun x hx => hl x (List.mem_cons_of_mem q hx))).trans (h.safeReceive e hup hsafe)
  refine hfold _ d (fun q hq => ?_)
  have hq := (List.mem_filter.1 hq).2
  simp only [Bool.and_eq_true, Bool.not_eq_true', beq_iff_eq] at hq
  exact ⟨hq.1.1, hq.2⟩

theorem escalate (d : Dev) : p d.escalate = p d := by
  unfold Dev.escalate
  extract_lets s1
  have h1 : p s1 = p d := h.seam ..
  refine ite_kept p h1 ((h.holdStart ..).trans ((h.log ..).trans ((h.seam ..).trans ((h.safeFlush ..).trans h1))))

end KeptByEscalation

/-- The reset controller and the crash record. -/
def Dev.crashed (d : Dev) : SysCtl × List Byte := (d.sys, d.log.crash)

theorem Dev.logIt_crash (d : Dev) (k : LogKey) (a e : Nat) : (d.logIt k a e).log.crash = d.log.crash := by
  unfold Dev.logIt
  dsimp only
  repeat' split
  all_goals rfl

theorem keptByEscalation_crashed : KeptByEscalation Dev.crashed where
  seam := fun _ _ => rfl
  helon := fun _ _ _ => rfl
  log := fun d k a e => by rw [Dev.crashed, Dev.logIt_sys, Dev.logIt_crash]; rfl
  cal := fun _ _ => rfl
  res := fun _ _ _ => rfl
  tg := fun _ _ => rfl

end Sys2Proof.Machine

end

section
/-! The error log from an occurrence to the archive (spec/22_error_log.md, R603 to R608), the link, and writes of configuration
space (spec/02_host_link.md, R46, R47, R55 to R58, R86). -/

namespace Sys2Proof.Machine

/-! ### An occurrence (R605, R606) -/

section
variable {α : Type} {p : α → Bool} {g : α → α} {l : List α}

theorem updFirst_length (l : List α) : (updFirst p g l).length = l.length := by
  induction l with
  | nil => rfl
  | cons a r ih =>
    unfold updFirst
    split
    · rfl
    · exact congrArg Nat.succ ih

/-- The first entry that meets the condition is changed. -/
theorem updFirst_of_any (h : l.any p = true) : ∃ a ∈ l, p a = true ∧ g a ∈ updFirst p g l := by
  induction l with
  | nil => exact absurd h Bool.false_ne_true
  | cons a r ih =>
    unfold updFirst
    by_cases ha : p a = true
    · rw [if_pos ha]
      exact ⟨a, List.mem_cons_self, ha, List.mem_cons_self⟩
    · rw [List.any_cons, Bool.eq_false_iff.2 ha, Bool.false_or] at h
      obtain ⟨b, hb, hpb, hgb⟩ := ih h
      rw [if_neg ha]
      exact ⟨b, List.mem_cons_of_mem a hb, hpb, List.mem_cons_of_mem a hgb⟩

end

/-- The entry that a first occurrence makes (R603). -/
def Dev.entryOf (d : Dev) (k : LogKey) (detail eflags : Nat) : LogEntry :=
  { timeNs := d.nsAt d.logInstant, epoch := d.epochAt d.logInstant, subsys := k.subsys, severity := k.severity, code := k.code,
    count := 1, rkind := k.rkind, eflags := eflags ||| bitAt (d.sys.power == 3) 2, lastDt := 0, rindex := k.rindex, detail := detail,
    firstPs := d.now, final_ := false }

section
variable {d : Dev} {k : LogKey}

theorem Dev.logIt_joins (h : d.log.fifo.any (fun e => e.same k d.now) = true) (detail eflags : Nat) :
    d.logIt k detail eflags = d.modLog (fun l => { l with fifo := updFirst (fun e => e.same k d.now) (·.bump d.now) l.fifo }) :=
  if_pos h

section
variable (hfifo : d.log.fifo.any (fun e => e.same k d.now) = false)
  (hring : ∀ p ∈ d.log.ring, ∀ e : LogEntry, p.2 = some e → e.same k d.now = false)
include hfifo hring

theorem Dev.logIt_alone (detail eflags : Nat) : d.logIt k detail eflags =
    if d.log.fifo.length ≥ 64 then d.modLog (fun l => { l with lost := min (l.lost + 1) 0xFFFFFFFF })
    else d.modLog (fun l => { l with fifo := l.fifo ++ [d.entryOf k detail eflags] }) := by
  unfold Dev.logIt
  extract_lets same sameR
  have hnone : d.log.ring.any sameR = false := by
    refine List.any_eq_false.2 (fun p hp => ?_)
    unfold sameR
    split
    · next e he => exact Bool.eq_false_iff.1 (hring p hp e he)
    · exact Bool.false_ne_true
  rw [if_neg (by rw [hfifo]; exact Bool.false_ne_true), if_neg (by rw [hnone]; exact Bool.false_ne_true)]
  rfl

theorem Dev.logIt_enters (hroom : d.log.fifo.length < 64) (detail eflags : Nat) :
    d.logIt k detail eflags = d.modLog (fun l => { l with fifo := l.fifo ++ [d.entryOf k detail eflags] }) :=
  (Dev.logIt_alone hfifo hring ..).trans (if_neg (Nat.not_le.2 hroom))

theorem Dev.logIt_lost (hfull : 64 ≤ d.log.fifo.length) (detail eflags : Nat) :
    d.logIt k detail eflags = d.modLog (fun l => { l with lost := min (l.lost + 1) 0xFFFFFFFF }) :=
  (Dev.logIt_alone hfifo hring ..).trans (if_pos hfull)

end

/-- The FIFO never passes 64 entries. -/
theorem Dev.logIt_fifo_le (h : d.log.fifo.length ≤ 64) (detail eflags : Nat) : (d.logIt k detail eflags).log.fifo.length ≤ 64 := by
  unfold Dev.logIt
  extract_lets same sameR
  split
  · exact (updFirst_length _).trans_le h
  · split
    · exact h
    · split
      · exact h
      · next hroom =>
        show (d.log.fifo ++ [_]).length ≤ 64
        rw [List.length_append]
        exact Nat.not_le.1 hroom

end

/-! ### An entry becomes final (R605, R608) -/

theorem Dev.entryFinal_runs {d : Dev} {k : Nat} {e : LogEntry} (h : openEntry d.ringOrder = some (k, e)) :
    d.entryFinal = (d.advance (e.firstPs + 1000000000)).modLog (fun l =>
      { l with ring := tblSet (fun _ => none) l.ring k (some { e with final_ := true }),
               row := if d.logPersist && decide (e.severity ≥ 2) then l.row ++ [{ e with final_ := true }] else l.row,
               rowAt := if d.logPersist && decide (e.severity ≥ 2) then
                 some (l.rowAt.getD (max d.now (e.firstPs + 1000000000))) else l.rowAt }) := by
  unfold Dev.entryFinal
  rw [h]
  rfl

/-! ### The archive (R608) -/

/-- An entry joins the archive. -/
def archiveAdd (a : Tbl (Option LogEntry) × Nat) (e : LogEntry) : Tbl (Option LogEntry) × Nat :=
  (tblSet (fun _ => none) a.1 (a.2 % 32736) (some e.persisted), a.2 + 1)

theorem archiveAdd_at (a : Tbl (Option LogEntry) × Nat) (e : LogEntry) (k : Nat) : tblGet (fun _ => none) (archiveAdd a e).1 k =
    if k = a.2 % 32736 then some e.persisted else tblGet (fun _ => none) a.1 k :=
  tblGet_set (fun _ => none) a.1 (a.2 % 32736) k (some e.persisted)

theorem archiveAdd_count (l : List LogEntry) (a : Tbl (Option LogEntry) × Nat) : (l.foldl archiveAdd a).2 = a.2 + l.length := by
  induction l generalizing a with
  | nil => rfl
  | cons e r ih =>
    rw [List.foldl_cons, ih, List.length_cons]
    show a.2 + 1 + r.length = a.2 + (r.length + 1)
    omega

theorem archiveAdd_other {l : List LogEntry} {a : Tbl (Option LogEntry) × Nat} {k : Nat}
    (h : ∀ i, i < l.length → (a.2 + i) % 32736 ≠ k) : tblGet (fun _ => none) (l.foldl archiveAdd a).1 k = tblGet (fun _ => none) a.1 k := by
  induction l generalizing a with
  | nil => rfl
  | cons e r ih =>
    have hfirst : k ≠ a.2 % 32736 := (h 0 (Nat.succ_pos _)).symm
    refine (ih (fun i hi => ?_)).trans ((archiveAdd_at a e k).trans (if_neg hfirst))
    have := h (i + 1) (Nat.succ_lt_succ hi)
    show (a.2 + 1 + i) % 32736 ≠ k
    rwa [Nat.add_right_comm a.2 1 i]

theorem archiveAdd_get {l : List LogEntry} {a : Tbl (Option LogEntry) × Nat} (hlen : l.length ≤ 32) {i : Nat} {e : LogEntry}
    (h : l[i]? = some e) : tblGet (fun _ => none) (l.foldl archiveAdd a).1 ((a.2 + i) % 32736) = some e.persisted := by
  induction l generalizing a i with
  | nil => exact absurd h (by simp)
  | cons x r ih =>
    have hlen' : r.length < 32 := hlen
    cases i with
    | zero =>
      rw [List.getElem?_cons_zero] at h
      obtain rfl := Option.some.inj h
      refine (archiveAdd_other (a := archiveAdd a x) (fun i hi => ?_)).trans ((archiveAdd_at a x _).trans (if_pos rfl))
      show (a.2 + 1 + i) % 32736 ≠ a.2 % 32736
      omega
    | succ j =>
      rw [List.getElem?_cons_succ] at h
      have hj := ih (a := archiveAdd a x) (Nat.le_of_lt hlen') h
      rwa [show (archiveAdd a x).2 + j = a.2 + (j + 1) by show a.2 + 1 + j = _; omega] at hj

/-- The row is in the archive, and the header row names the slot after it. -/
theorem Log.commitRow_parts (l : Log) : l.commitRow.row = [] ∧ l.commitRow.rowAt = none ∧
    l.commitRow.archived = l.archived + l.row.length ∧ l.commitRow.header = logHeader (l.archived + l.row.length) ∧
      l.commitRow.archive = (l.row.foldl archiveAdd (l.archive, l.archived)).1 := by
  have hcount : (l.row.foldl archiveAdd (l.archive, l.archived)).2 = l.archived + l.row.length := archiveAdd_count ..
  exact ⟨rfl, rfl, hcount, congrArg logHeader hcount, rfl⟩

/-- A row whose writes meet no failing row is in the archive. -/
theorem Dev.rowWrite_commits {d : Dev} (h : d.log.row ≠ []) : (d.rowWrite []).log = d.log.commitRow ∧ (d.rowWrite []).now = d.now := by
  have hrow : d.log.row.isEmpty = false := Bool.eq_false_iff.2 (fun he => h (List.isEmpty_iff.1 he))
  unfold Dev.rowWrite
  rw [hrow]
  exact ⟨rfl, rfl⟩

theorem Dev.persistentWrite_runs {d : Dev} {t0 : Nat} (h : d.log.rowAt = some t0) (rows : List RowErr) :
    d.persistentWrite rows = (if d.log.row.length ≥ 32 then d else d.advance (t0 + 1000000000000)).rowWrite rows := by
  unfold Dev.persistentWrite
  rw [h]

/-! ### Configuration writes (R46, R55 to R58, R86) -/

/-- What GSTAT shows of a device. -/
theorem Dev.gstatLow_modFn (d : Dev) (f : Nat) {g : Fn → Fn} (hg : ∀ r, (g r).ready = r.ready) : (d.modFn f g).gstatLow = d.gstatLow := by
  have hready : ((d.modFn f g).fn 0).ready = (d.fn 0).ready := by
    rw [Dev.modFn_get]
    split
    · next h => rw [hg, h]
    · rfl
  unfold Dev.gstatLow
  rw [hready]
  rfl

/-- A field of a function that GSTAT does not show. -/
theorem Dev.modFn_shown (d : Dev) (f : Nat) {g : Fn → Fn} (hg : ∀ r, (g r).ready = r.ready) :
    (d.modFn f g).fn f = g (d.fn f) ∧ (d.modFn f g).gstatLow = d.gstatLow :=
  ⟨Dev.modFn_same .., Dev.gstatLow_modFn d f hg⟩

theorem Dev.gstatLow_fabricNote (new old : Dev) : (new.fabricNote old).gstatLow = new.gstatLow := by
  rw [Dev.fabricNote_only new old]
  rfl

/-- A row that changes nothing of what GSTAT shows leaves the functions as it makes them. -/
theorem Dev.observed_fns {d : Dev} {g : Dev → Dev} (h : (g d).gstatLow = d.gstatLow) : (d.observed g).fns = (g d).fns := by
  have hsame : ((g d).fabricNote d).gstatLow = d.gstatLow := (Dev.gstatLow_fabricNote ..).trans h
  unfold Dev.observed Dev.gstatNote
  rw [hsame]
  have hxor : d.gstatLow.xor d.gstatLow = 0 := Nat.xor_self _
  rw [hxor]
  exact Dev.fabricNote_fns ..

section
variable {s : State} {f : FnId} (hup : s.dev.link.up = true) (henabled : (s.dev.fn f.val).enabled = true)
  (hrouted : s.dev.routed f.val = true)
include hup henabled hrouted

theorem Dev.cfgRow_writes (w : CfgWrite) : s.dev.cfgRow f.val w = s.dev.cfgWrite f.val w :=
  if_pos (by rw [hup, henabled, hrouted]; rfl)

theorem exec_configurationWrite_eq (w : CfgWrite) : exec (.configurationWrite f w) s =
    .next (s.on (fun d => d.observed (fun d => d.cfgWrite f.val w))) :=
  congrArg Host.Outcome.next (State.on_congr (Dev.observed_congr (g := fun d => d.cfgRow f.val w)
    (h := fun d => d.cfgWrite f.val w) (Dev.cfgRow_writes hup henabled hrouted w)))

/-- A write that changes nothing of what GSTAT shows leaves the function as it makes it. -/
theorem exec_configurationWrite_fn {w : CfgWrite} {r : Fn} (hw : (s.dev.cfgWrite f.val w).fn f.val = r)
    (hlow : (s.dev.cfgWrite f.val w).gstatLow = s.dev.gstatLow) :
    ∃ t : State, exec (.configurationWrite f w) s = .next t ∧ t.mem = s.mem ∧ t.dev.fn f.val = r := by
  refine ⟨_, exec_configurationWrite_eq hup henabled hrouted w, rfl, ?_⟩
  rw [State.on_dev]
  exact (congrArg (fun l => tblGet fnInit l f.val) (Dev.observed_fns (g := fun d => d.cfgWrite f.val w) hlow)).trans hw

theorem exec_configurationWrite_link {w : CfgWrite} {l : Link} (hw : (s.dev.cfgWrite f.val w).link = l) :
    ∃ t : State, exec (.configurationWrite f w) s = .next t ∧ t.mem = s.mem ∧ t.dev.link = l :=
  ⟨_, exec_configurationWrite_eq hup henabled hrouted w, rfl, by rw [State.on_dev, Dev.observed_link, hw]⟩

/-- What a write leaves of the core of a function is seen after it. -/
theorem exec_configurationWrite_core (w : CfgWrite) :
    ∃ t : State, exec (.configurationWrite f w) s = .next t ∧ t.mem = s.mem ∧ t.dev.link = (s.dev.cfgWrite f.val w).link ∧
      ∀ i, (t.dev.fn i).core = ((s.dev.cfgWrite f.val w).fn i).core :=
  ⟨_, exec_configurationWrite_eq hup henabled hrouted w, rfl, by rw [State.on_dev, Dev.observed_link],
    fun i => Dev.rest_core (bystander_rest.observed s.dev (fun d => d.cfgWrite f.val w)) i⟩

end

/-! ### Vectors that are no longer masked (R86) -/

theorem Dev.signal_core (d : Dev) (f v i : Nat) : ((d.signal f v).fn i).core = (d.fn i).core :=
  (Dev.signal_causes d f v).core (SameMasks.signal d f v) i

theorem Dev.flushPba_core (d : Dev) (f v i : Nat) : ((d.flushPba f v).fn i).core = (d.fn i).core := by
  unfold Dev.flushPba
  extract_lets r
  split
  · rfl
  · split
    · exact Dev.signal_core ..
    · exact OnlyCauses.core (OnlyCauses.modFn d f (fun r => r.modVec v (fun x => { x with pba := false })) (fun _ => rfl))
        (SameMasks.modVec d f v (g := fun x => { x with pba := false }) (fun _ => rfl)) i

theorem Dev.flushAll_core (d : Dev) (f i : Nat) : ((d.flushAll f).fn i).core = (d.fn i).core :=
  Dev.forAll_keeps (fun e => (e.fn i).core) (fun _ _ => Dev.flushPba_core ..)

theorem Fn.core_funcMask {r r' : Fn} (h : r.core = r'.core) : r.funcMask = r'.funcMask := (congrArg (fun x => x.1.funcMask) h :)
theorem Fn.core_enabled {r r' : Fn} (h : r.core = r'.core) : r.enabled = r'.enabled := (congrArg (fun x => x.1.enabled) h :)
theorem Fn.core_maxPayload {r r' : Fn} (h : r.core = r'.core) : r.maxPayload = r'.maxPayload := (congrArg (fun x => x.1.maxPayload) h :)

section
variable (d : Dev) (f : Nat)

theorem Dev.cfgWrite_funcMask (on : Bool) : ((d.cfgWrite f (.functionMask on)).fn f).funcMask = on := by
  have hset : ((d.modFn f (fun r => { r with funcMask := on })).fn f).funcMask = on := by rw [Dev.modFn_same]
  cases on with
  | true => exact hset
  | false => exact (Fn.core_funcMask (Dev.flushAll_core ..)).trans hset

theorem Dev.cfgWrite_vectorMask {v : Fin 64} (hv : v.val < vecCount f) (on : Bool) :
    (((d.cfgWrite f (.vectorMask v on)).fn f).vec v.val).mask = on := by
  have hset : (((d.modFn f (fun r => r.modVec v.val (fun x => { x with mask := on }))).fn f).vec v.val).mask = on := by
    rw [Dev.modFn_same, Fn.modVec_vec, if_pos rfl]
  have hwrite : d.cfgWrite f (.vectorMask v on) = if on then d.modFn f (fun r => r.modVec v.val (fun x => { x with mask := on }))
      else (d.modFn f (fun r => r.modVec v.val (fun x => { x with mask := on }))).flushPba f v.val := if_neg (Nat.not_le.2 hv)
  rw [hwrite]
  cases on with
  | true => exact hset
  | false => exact (Fn.core_mask (Dev.flushPba_core ..) v.val).trans hset

/-- VF Enable is set: VFs 1 to NumVFs exist (R56). -/
theorem Dev.vfsOn_enabled (h : d.link.vfEnable = false) : d.vfsOn.link.vfEnable = true ∧
    ∀ i, 1 ≤ i → i ≤ min d.link.numVfs d.totalVfs → (d.vfsOn.fn i).enabled = true := by
  unfold Dev.vfsOn
  rw [if_neg (by rw [h]; exact Bool.false_ne_true)]
  extract_lets n l s1
  refine ⟨?_, fun i hlow hhigh => ?_⟩
  · rw [Dev.irq_link]
    exact congrArg Link.vfEnable (Dev.forAll_keeps Dev.link (d := s1) (fun _ _ => Dev.modFn_link ..))
  · rw [Fn.core_enabled (Dev.rest_core (bystander_rest.irq ..) i)]
    have hmem : i ∈ (List.range n).map (· + 1) := List.mem_map.2 ⟨i - 1, List.mem_range.2 (by omega), by omega⟩
    refine Dev.forAll_reaches (I := fun _ => True) (P := fun e => (e.fn i).enabled = true) hmem (fun _ _ _ _ => trivial)
      (fun e _ => ?_) (fun e x _ _ he => ?_) trivial
    · rw [Dev.modFn_same]
    · rw [Dev.modFn_get]
      split
      · rfl
      · exact he

end

end Sys2Proof.Machine

end

section
/-! Memory and clock faults (spec/21_integrity.md, R595, R596, R600). -/

namespace Sys2Proof.Machine

/-! ### Memory errors (R595) -/

/-- An error outside management firmware's memories is observed. -/
theorem Dev.sramRow_observed {d : Dev} {e : SramErr} (hmgmt : ∀ p x b, e ≠ .mgmt p x b)
    (hsession : ∀ (f : FnId) (b : List Byte), e = .session f b → f.val ≠ 0) (a : Nat) :
    d.sramRow e a = d.observed (fun d => d.sramError e a) := by
  cases e with
  | mgmt p x b => exact absurd rfl (hmgmt p x b)
  | session f b => exact if_neg (hsession f b rfl)
  | _ => rfl

/-- The entry of a memory error. -/
def Dev.sramLogged (d : Dev) (e : SramErr) (a : Nat) : Dev :=
  d.logIt (kSramUncorrectable (sramName e).2.1 (sramName e).2.2) (a + 2 ^ 32 * (sramName e).1)

/-- An error is logged but for a word of vector memory that is to play. -/
theorem Dev.sramError_logged {d : Dev} {e : SramErr} {a : Nat} (h : e = .vector → d.vFetched a = false) :
    d.sramError e a = (d.sramLogged e a).sramResponse e a := by
  have hquiet : (e == .vector && d.vFetched a) = false := by
    rw [Bool.and_eq_false_iff]
    by_cases he : e = .vector
    · exact .inr (h he)
    · exact .inl (beq_eq_false_iff_ne.2 he)
  unfold Dev.sramError
  dsimp only
  rw [hquiet]
  rfl

theorem exec_sramUncorrectable_observed {e : SramErr} {a : W32} {s : State} (hmgmt : ∀ p x b, e ≠ .mgmt p x b)
    (hsession : ∀ (f : FnId) (b : List Byte), e = .session f b → f.val ≠ 0) (hvector : e = .vector → s.dev.vFetched a.toNat = false) :
    exec (.sramUncorrectable e a) s = .next (s.on (fun d => d.observed (fun d => (d.sramLogged e a.toNat).sramResponse e a.toNat))) :=
  congrArg Host.Outcome.next (State.on_congr ((Dev.sramRow_observed hmgmt hsession a.toNat).trans
    (Dev.observed_congr (g := fun d => d.sramError e a.toNat) (h := fun d => (d.sramLogged e a.toNat).sramResponse e a.toNat)
      (Dev.sramError_logged hvector))))

/-- A fetched word of vector memory is noted, and logged when it would have played (R445). -/
theorem exec_sramUncorrectable_fetched {a : W32} {s : State} (h : s.dev.vFetched a.toNat = true) :
    ∃ t : State, exec (.sramUncorrectable .vector a) s = .next t ∧ t.mem = s.mem ∧
      t.dev.vec.player = { s.dev.vec.player with ecc := a.toNat :: s.dev.vec.player.ecc } ∧ t.dev.log = s.dev.log := by
  have hrow : s.dev.sramError .vector a.toNat = s.dev.modPlayer (fun q => { q with ecc := a.toNat :: q.ecc }) := by
    have hquiet : (SramErr.vector == .vector && s.dev.vFetched a.toNat) = true := by rw [h]; rfl
    unfold Dev.sramError
    dsimp only
    rw [hquiet]
    exact if_pos h
  refine ⟨_, rfl, rfl, ?_⟩
  rw [State.on_dev, show s.dev.sramRow .vector a.toNat = _ from Dev.observed_congr (g := fun d => d.sramError .vector a.toNat)
    (h := fun d => d.modPlayer (fun q => { q with ecc := a.toNat :: q.ecc })) hrow, Dev.observed_vec, Dev.observed_log]
  exact ⟨rfl, rfl⟩

theorem Dev.sramLogged_fn (d : Dev) (e : SramErr) (a i : Nat) : (d.sramLogged e a).fn i = d.fn i :=
  congrArg (fun l => tblGet fnInit l i) (Dev.logIt_fns ..)

section
variable (a : W32) (s : State)

theorem exec_sramUncorrectable_caravan (f : FnId) (r : RingId) : ∃ t : State,
    exec (.sramUncorrectable (.caravan f r) a) s = .next t ∧ t.mem = s.mem ∧ ((t.dev.fn f.val).ring r.val).enabled = false := by
  refine ⟨_, exec_sramUncorrectable_observed (fun _ _ _ => nofun) (fun _ _ => nofun) nofun, rfl, ?_⟩
  rw [State.on_dev]
  have hshown := (Dev.observed_causes s.dev
    (fun d => (d.sramLogged (.caravan f r) a.toNat).sramResponse (.caravan f r) a.toNat)).rings f.val
  have hirq := (Dev.irq_causes ((s.dev.sramLogged (.caravan f r) a.toNat).disableRing f.val r.val) f.val irqError).rings f.val
  have hoff := (Dev.disableRing_ringsOn (s.dev.sramLogged (.caravan f r) a.toNat) f.val r.val f.val r.val).trans (if_pos ⟨rfl, rfl⟩)
  exact (congrArg (fun l => (tblGet ringInit l r.val).enabled) (hshown.trans hirq) :).trans hoff

theorem exec_sramUncorrectable_engine {g : EngId} (h : (s.dev.eng g.val).next.isSome = true) : ∃ t : State,
    exec (.sramUncorrectable (.engine g) a) s = .next t ∧ t.mem = s.mem ∧ (t.dev.eng g.val).lateFail = some 2 := by
  refine ⟨_, exec_sramUncorrectable_observed (fun _ _ _ => nofun) (fun _ _ => nofun) nofun, rfl, ?_⟩
  have heng : (s.dev.sramLogged (.engine g) a.toNat).eng g.val = s.dev.eng g.val :=
    congrArg (fun l => tblGet engInit l g.val) (Dev.logIt_engines ..)
  have hfails : (s.dev.sramLogged (.engine g) a.toNat).sramResponse (.engine g) a.toNat =
      (s.dev.sramLogged (.engine g) a.toNat).modEng g.val (fun g => { g with lateFail := some 2 }) := if_pos (by rw [heng]; exact h)
  rw [State.on_dev]
  refine (congrArg (fun l => (tblGet engInit l g.val).lateFail) (Dev.observed_engines ..)).trans ?_
  show (((s.dev.sramLogged (.engine g) a.toNat).sramResponse (.engine g) a.toNat).eng g.val).lateFail = some 2
  rw [hfails, Dev.modEng_same]

theorem Dev.sramLogged_chain (d : Dev) (e : SramErr) (a k : Nat) : (d.sramLogged e a).chain k = d.chain k :=
  congrArg (fun l => tblGet chainInit l k) (Dev.logIt_mxChains ..)

theorem exec_sramUncorrectable_matrix {k : ChainId} (hready : (s.dev.chain k.val).state = .ready)
    (hdisc : (s.dev.chain k.val).discCmd = none) : ∃ t : State, exec (.sramUncorrectable (.matrix k) a) s = .next t ∧ t.mem = s.mem ∧
      (t.dev.chain k.val).state = .failed := by
  refine ⟨_, exec_sramUncorrectable_observed (fun _ _ _ => nofun) (fun _ _ => nofun) nofun, rfl, ?_⟩
  have hchain := s.dev.sramLogged_chain (.matrix k) a.toNat k.val
  have hfails : (s.dev.sramLogged (.matrix k) a.toNat).sramResponse (.matrix k) a.toNat =
      (s.dev.sramLogged (.matrix k) a.toNat).chainFault k.val := if_pos (by rw [hchain, hready]; rfl)
  rw [State.on_dev]
  refine (congrArg (fun l => (tblGet chainInit l k.val).state) (Dev.observed_mxChains ..)).trans ?_
  show (((s.dev.sramLogged (.matrix k) a.toNat).sramResponse (.matrix k) a.toNat).chain k.val).state = .failed
  rw [hfails, Dev.chainFault_chain (by rw [hchain]; exact hdisc)]

/-- The own first step of a function's reset drains it, whatever it keeps. -/
theorem Dev.flrOwn_flr (d : Dev) {f : Nat} (hf : f ≠ 0) (keep : Bool) : ((d.flrOwn f keep).fn f).flr = .drain := by
  refine (Fn.core_flr (Dev.restFree_core (Dev.flrOwn_restFree d f keep) f)).trans ?_
  unfold Dev.ownRegisters
  rw [if_neg hf, Dev.modFn_same]
  rfl

theorem exec_sramUncorrectable_session {f : FnId} {b : List Byte} (hf : f.val ≠ 0) (henabled : (s.dev.fn f.val).enabled = true)
    (hidle : (s.dev.fn f.val).flr = .idle) : ∃ t : State, exec (.sramUncorrectable (.session f b) a) s = .next t ∧ t.mem = s.mem ∧
      (t.dev.fn f.val).flr = .drain := by
  refine ⟨_, exec_sramUncorrectable_observed (fun _ _ _ => nofun)
    (fun g _ hg => (SramErr.session.inj hg).1 ▸ hf) nofun, rfl, ?_⟩
  have hfn := s.dev.sramLogged_fn (.session f b) a.toNat f.val
  have hstart : (s.dev.sramLogged (.session f b) a.toNat).sramResponse (.session f b) a.toNat =
      ((s.dev.sramLogged (.session f b) a.toNat).flrEnter f.val none .drain).flrOwn f.val true :=
    ((if_neg hf).trans (if_pos (by rw [hfn]; exact henabled))).trans (Dev.flrStart_idle _ _ (by rw [hfn]; exact hidle) true none)
  rw [State.on_dev]
  refine (Fn.core_flr (Dev.rest_core (bystander_rest.observed s.dev _) f.val)).trans ?_
  show (((s.dev.sramLogged (.session f b) a.toNat).sramResponse (.session f b) a.toNat).fn f.val).flr = .drain
  rw [hstart, Dev.flrOwn_flr _ hf]

theorem exec_sramUncorrectable_crash : ∃ t : State, exec (.sramUncorrectable .crash a) s = .next t ∧ t.mem = s.mem ∧
    bkup t.dev 30 = 0 := by
  refine ⟨_, exec_sramUncorrectable_observed (fun _ _ _ => nofun) (fun _ _ => nofun) nofun, rfl, ?_⟩
  rw [State.on_dev]
  refine (bkup_of_sys (congrArg SysCtl.bkup (Dev.observed_sys s.dev _) :) 30).trans ?_
  exact congrArg BitVec.toNat (tblGet_set_same (fun _ => (0 : W32)) (s.dev.sramLogged .crash a.toNat).sys.bkup 30 0)

end

/-! ### Clock faults (R600) -/

/-- A clock that resets Denrix: after the escalation, a source of scope DENRIX. -/
theorem Dev.clockEscalation_made (d : Dev) (k : LogKey) (detail : Nat) :
    ((d.logIt k detail).escalate.assertReset 7 2).sys.phase = .held ∧
      ((d.logIt k detail).escalate.assertReset 7 2).sys.causes.testBit 7 = true ∧
      (d.sys.phase = .ready → ((d.logIt k detail).escalate.assertReset 7 2).sys.scope = 2) := by
  have hsys : (d.logIt k detail).escalate.sys = d.sys :=
    congrArg Prod.fst ((keptByEscalation_crashed.escalate _).trans (keptByEscalation_crashed.log d k detail 0))
  have hmade := (d.logIt k detail).escalate.assertReset_made 7 (Nat.le_refl 2)
  refine ⟨hmade.phase, ?_, fun hready => hmade.wide.trans (if_pos (by rw [hsys]; exact hready))⟩
  rw [hmade.causes, Nat.testBit_or, Nat.testBit_or, Nat.testBit_two_pow_self, Bool.or_true, Bool.true_or]

theorem exec_clockFault_escalates {k : ClockId} (hk : k ∈ ([.mgmt, .alwaysOn] : List ClockId)) (s : State) :
    ∃ t : State, exec (.clockFault k) s = .next t ∧ t.mem = s.mem ∧ t.dev.sys.phase = .held ∧ t.dev.sys.causes.testBit 7 = true ∧
      (s.dev.sys.phase = .ready → t.dev.sys.scope = 2) := by
  simp only [List.mem_cons, List.not_mem_nil, or_false] at hk
  obtain rfl | rfl := hk
  · exact ⟨_, rfl, rfl, Dev.clockEscalation_made ..⟩
  · exact ⟨_, rfl, rfl, Dev.clockEscalation_made ..⟩

/-- What a channel's result former works on. -/
def Dev.recording (d : Dev) (c : Nat) : Nat × CapState × Option Meas := ((d.res c).stream, (d.res c).cap, (d.res c).meas)

theorem Dev.modRes_recording (d : Dev) (i : Nat) {g : ResChan → ResChan} (c : Nat) (hstream : (g (d.res i)).stream = (d.res i).stream)
    (hcap : (g (d.res i)).cap = (d.res i).cap) (hmeas : (g (d.res i)).meas = (d.res i).meas) :
    (d.modRes i g).recording c = d.recording c := by
  unfold Dev.recording
  rw [Dev.modRes_get]
  split
  · next h => rw [hstream, hcap, hmeas, h]
  · rfl

theorem Dev.lose_recording (d : Dev) (i : Nat) (r : Rec) (n c : Nat) : (d.lose i r n).recording c = d.recording c := by
  have hstream : ∀ g, (d.modStream i g).recording c = d.recording c := fun g => by
    unfold Dev.modStream
    split
    · exact Dev.modRes_recording d i c rfl rfl rfl
    · rfl
  exact hstream _

section
variable (d : Dev) (x : Nat)

/-- The result former of a channel, stopped, before what it lost is counted. -/
def Dev.formerStopped (d : Dev) (x : Nat) : Dev :=
  let s1 := d.modRes x (fun r =>
    { r with stream := 0, active := 0, changes := [], box := none, boxOld := [], seqOld := [], meas := none, cap := .idle, hist := [],
             disarm := false })
  (if (d.res x).meas.isSome then s1.measGone x else s1).modSeq x (fun q => { q with aper := none })

theorem Dev.formerStopped_recording (c : Nat) :
    (d.formerStopped x).recording c = if c = x then (0, .idle, none) else d.recording c := by
  unfold Dev.formerStopped
  extract_lets s1
  have h1 : s1.recording c = if c = x then (0, .idle, none) else d.recording c := by
    unfold Dev.recording
    rw [Dev.modRes_get]
    split <;> rfl
  refine Eq.trans ?_ h1
  show (if (d.res x).meas.isSome then s1.measGone x else s1).recording c = _
  split
  · unfold Dev.measGone
    by_cases hc : c = x
    · have hmeas : (s1.res x).meas = none := congrArg ResChan.meas (Dev.modRes_same ..)
      exact Dev.modRes_recording (s1.detach (128 + 8 * x + 7)) x c rfl rfl hmeas.symm
    · unfold Dev.recording
      rw [Dev.modRes_get, if_neg hc]
      rfl
  · rfl

theorem Dev.streamsStop_recording (c : Nat) :
    (d.streamsStop x).recording c = if c = x then (0, .idle, none) else d.recording c := by
  rw [← Dev.formerStopped_recording d x c]
  exact ite_kept (fun e => e.recording c) rfl (Dev.lose_recording ..)

end

theorem exec_clockFault_sequencer (s : State) : ∃ t : State, exec (.clockFault .sequencer) s = .next t ∧ t.mem = s.mem ∧
    ∀ c : Nat, c < s.dev.nChan → (t.dev.res c).stream = 0 ∧ (t.dev.res c).cap = .idle ∧ (t.dev.res c).meas = none := by
  refine ⟨_, rfl, rfl, fun c hc => ?_⟩
  rw [State.on_dev]
  have hstopped : (s.dev.clockFault .sequencer).recording c = (0, .idle, none) := by
    unfold Dev.clockFault
    extract_lets n s1 hit
    show ((s1.forAll hit (fun s c => s.chanResponse c 6 6)).forAll (List.range s1.nChan) Dev.streamsStop).recording c = _
    have hchan : s1.nChan = s.dev.nChan := by unfold Dev.nChan; rw [Dev.logIt_sys]
    refine Dev.forAll_reaches (I := fun _ => True) (P := fun e => e.recording c = (0, .idle, none)) (i := c) (List.mem_range.2 (hchan ▸ hc)) (fun _ _ _ _ => trivial)
      (fun e _ => ?_) (fun e x _ _ he => ?_) trivial
    · rw [Dev.streamsStop_recording, if_pos rfl]
    · rw [Dev.streamsStop_recording]
      split
      · rfl
      · exact he
  have hshown : (s.dev.observed (fun d => d.clockFault .sequencer)).recording c = (0, .idle, none) :=
    (congrArg (fun l => ((tblGet resInit l c).stream, (tblGet resInit l c).cap, (tblGet resInit l c).meas))
      (Dev.observed_results ..)).trans hstopped
  exact ⟨congrArg (·.1) hshown, congrArg (·.2.1) hshown, congrArg (·.2.2) hshown⟩

theorem exec_clockFault_vector (s : State) : ∃ t : State, exec (.clockFault .vector) s = .next t ∧ t.mem = s.mem ∧
    t.dev.vec.player = { playerInit with lastEnd := t.dev.vec.player.lastEnd } := by
  refine ⟨_, rfl, rfl, ?_⟩
  rw [State.on_dev, show s.dev.clockRow .vector = s.dev.observed (fun d => d.clockFault .vector) from rfl, Dev.observed_vec]
  rfl

/-- A chain fault leaves the other chains as they are. -/
theorem Dev.chainFault_other (d : Dev) {i k : Nat} (h : i ≠ k) : (d.chainFault k).chain i = d.chain i := by
  unfold Dev.chainFault
  extract_lets c ids s1 s2 s3
  have h1 : s1.chain i = d.chain i := by
    rw [Dev.modChain_get, if_neg h, Dev.releaseChain, Dev.modChain_get, if_neg h]
  have hsets : s2.mxChains = s1.mxChains :=
    (Dev.forAll_keeps Dev.mxChains (fun _ _ => Dev.finish_mxChains ..)).trans (Dev.forAll_keeps Dev.mxChains)
  have hnotes : s3.mxChains = s2.mxChains :=
    (Dev.forAll_keeps Dev.mxChains (fun _ _ => Dev.irq_mxChains ..)).trans (Dev.finish?_mxChains ..)
  have h3 : s3.chain i = d.chain i := (congrArg (fun l => tblGet chainInit l i) (hnotes.trans hsets)).trans h1
  split
  · rw [Dev.discBegin, Dev.releaseChain, Dev.modChain_get, if_neg h, Dev.modChain_get, if_neg h, h3]
  · exact h3

theorem exec_clockFault_matrix (s : State) : ∃ t : State, exec (.clockFault .matrix) s = .next t ∧ t.mem = s.mem ∧
    ∀ k : Nat, k < 8 → (s.dev.chain k).discCmd = none → (s.dev.chain k).state = .ready ∨ (s.dev.chain k).state = .updating →
      (t.dev.chain k).state = .failed := by
  refine ⟨_, rfl, rfl, fun k hk hdisc hup => ?_⟩
  rw [State.on_dev]
  refine (congrArg (fun l => (tblGet chainInit l k).state) (Dev.observed_mxChains s.dev (fun d => d.clockFault .matrix))).trans ?_
  show ((s.dev.clockFault .matrix).chain k).state = .failed
  unfold Dev.clockFault
  extract_lets n s1
  have hchain : s1.chain k = s.dev.chain k := congrArg (fun l => tblGet chainInit l k) (Dev.logIt_mxChains ..)
  have hmem : k ∈ (List.range 8).filter (fun i => (s1.chain i).state == .ready || (s1.chain i).state == .updating) := by
    refine List.mem_filter.2 ⟨List.mem_range.2 hk, ?_⟩
    rw [hchain]
    exact hup.elim (fun h => by rw [h]; rfl) (fun h => by rw [h]; rfl)
  have hfault : ∀ e : Dev, (e.chain k).discCmd = none → ((e.chainFault k).chain k).state = .failed ∧
      ((e.chainFault k).chain k).discCmd = none := fun e he => by
    rw [Dev.chainFault_chain he]
    exact ⟨rfl, he⟩
  refine Dev.forAll_reaches (I := fun e => (e.chain k).discCmd = none) (P := fun e => (e.chain k).state = .failed) hmem
    (fun e x _ he => ?_) (fun e he => (hfault e he).1) (fun e x _ hdisc he => ?_) (hchain ▸ hdisc)
  · by_cases hx : k = x
    · exact hx ▸ (hfault e he).2
    · rw [Dev.chainFault_other e hx]
      exact he
  · by_cases hx : k = x
    · exact hx ▸ (hfault e hdisc).1
    · rw [Dev.chainFault_other e hx]
      exact he

theorem exec_clockFault_link {k : ClockId} (hk : k ∈ ([.hostLink, .caravan] : List ClockId)) (s : State) :
    exec (.clockFault k) s = .next (s.on (fun d => d.observed (fun d => (d.logIt (kClock 1 1 0 0) 5).irq 0 irqError))) := by
  simp only [List.mem_cons, List.not_mem_nil, or_false] at hk
  obtain rfl | rfl := hk
  · rfl
  · rfl

theorem exec_clockFault_island (i : Fin 16) (s : State) :
    exec (.clockFault (.island i)) s = .next (s.on (fun d => d.observed (fun d =>
      (d.logIt (kClock 5 2 12 i.val) 0).forAll ((islandChans i.val).filter d.chanOk) (fun d c => d.chanResponse c 6 5)))) := by
  have hok : (s.dev.logIt (kClock 5 2 12 i.val) 0).chanOk = s.dev.chanOk :=
    funext (fun c => by unfold Dev.chanOk Dev.nChan; rw [Dev.logIt_sys])
  refine congrArg Host.Outcome.next (State.on_congr (Dev.observed_congr (g := fun d => d.clockFault (.island i))
    (h := fun d => (d.logIt (kClock 5 2 12 i.val) 0).forAll ((islandChans i.val).filter d.chanOk) (fun d c => d.chanResponse c 6 5)) ?_))
  show s.dev.clockFault (.island i) = _
  unfold Dev.clockFault
  dsimp only [clockName]
  rw [hok]

end Sys2Proof.Machine

end

section
/-! The error log, memory and clock faults, the link and the test port: what the obligation states (O60). -/

namespace Sys2Proof.Machine

/-! ### The log's rows (R596, R605, R608) -/

section
variable (a : W32) (s : State)

/-- A corrected error makes one entry where no open one is of its kind and the FIFO has room. -/
theorem exec_sramCorrected : ∃ t : State, exec (.sramCorrected a) s = .next t ∧ t.mem = s.mem ∧
    (s.dev.log.fifo.length ≤ 64 → t.dev.log.fifo.length ≤ 64) ∧
    (s.dev.log.fifo.any (fun e => e.same kSramCorrected s.dev.now) = true → t.dev.log.lost = s.dev.log.lost ∧
      t.dev.log.ring = s.dev.log.ring ∧ t.dev.log.fifo.length = s.dev.log.fifo.length ∧
      ∃ e ∈ s.dev.log.fifo, e.same kSramCorrected s.dev.now = true ∧ e.bump s.dev.now ∈ t.dev.log.fifo) ∧
    (s.dev.log.fifo.any (fun e => e.same kSramCorrected s.dev.now) = false →
      (∀ p ∈ s.dev.log.ring, ∀ e : LogEntry, p.2 = some e → e.same kSramCorrected s.dev.now = false) →
      (s.dev.log.fifo.length < 64 → t.dev.log.lost = s.dev.log.lost ∧ ∃ e : LogEntry, t.dev.log.fifo = s.dev.log.fifo ++ [e] ∧
        e.code = 0x0101 ∧ e.subsys = 20 ∧ e.severity = 0 ∧ e.count = 1 ∧ e.detail = a.toNat ∧
        e.timeNs = s.dev.nsAt s.dev.logInstant ∧ e.eflags = bitAt (s.dev.sys.power == 3) 2) ∧
      (64 ≤ s.dev.log.fifo.length → t.dev.log.fifo = s.dev.log.fifo ∧ t.dev.log.lost = min (s.dev.log.lost + 1) 0xFFFFFFFF)) := by
  refine ⟨_, rfl, rfl, fun hlen => Dev.logIt_fifo_le hlen .., fun hopen => ?_, fun hfifo hring => ⟨fun hroom => ?_, fun hfull => ?_⟩⟩
  · rw [State.on_dev, Dev.logIt_joins hopen]
    exact ⟨rfl, rfl, updFirst_length _, updFirst_of_any hopen⟩
  · rw [State.on_dev, Dev.logIt_enters hfifo hring hroom]
    exact ⟨rfl, _, rfl, rfl, rfl, rfl, rfl, rfl, rfl, Nat.zero_or _⟩
  · rw [State.on_dev, Dev.logIt_lost hfifo hring hfull]
    exact ⟨rfl, rfl⟩

end

/-- The oldest entry moves to the ring. -/
theorem Log.drain_moves {l : Log} {e : LogEntry} {rest : List LogEntry} (h : l.fifo = e :: rest) :
    l.drain.fifo = rest ∧ tblGet (fun _ => none) l.drain.ring l.head = some e ∧ l.drain.head = (l.head + 1) % 512 ∧
      l.drain.pos = l.pos + 1 ∧ l.drain.tail = (if (l.head + 1) % 512 = l.tail then (l.tail + 1) % 512 else l.tail) := by
  unfold Log.drain
  rw [h]
  exact ⟨rfl, tblGet_set_same (fun _ => none) l.ring l.head (some e), rfl, rfl, rfl⟩

theorem exec_logEntryFinal {s : State} {k : Nat} {e : LogEntry} (h : openEntry s.dev.ringOrder = some (k, e)) :
    ∃ t : State, exec .logEntryFinal s = .next t ∧ t.mem = s.mem ∧ t.dev.now = max s.dev.now (e.firstPs + 1000000000) ∧
      tblGet (fun _ => none) t.dev.log.ring k = some { e with final_ := true } ∧
      t.dev.log.row = (if s.dev.sys.opt.integ.testBit 2 = true ∧ 2 ≤ e.severity then s.dev.log.row ++ [{ e with final_ := true }]
        else s.dev.log.row) := by
  refine ⟨_, rfl, rfl, ?_⟩
  rw [State.on_dev, Dev.entryFinal_runs h]
  refine ⟨rfl, tblGet_set_same (fun _ => none) s.dev.log.ring k (some { e with final_ := true }), ?_⟩
  show (if (s.dev.sys.opt.integ.testBit 2 && decide (2 ≤ e.severity)) = true then _ else _) = _
  exact if_congr (by rw [Bool.and_eq_true, decide_eq_true_eq]) rfl rfl

/-- A row of entries is written in order, with its header. -/
theorem exec_persistentLogWrite {s : State} {t0 : Nat} (hat : s.dev.log.rowAt = some t0) (hrow : s.dev.log.row ≠ [])
    (hlen : s.dev.log.row.length ≤ 32) :
    ∃ t : State, exec (.persistentLogWrite []) s = .next t ∧ t.mem = s.mem ∧ t.dev.log.row = [] ∧ t.dev.log.rowAt = none ∧
      t.dev.log.archived = s.dev.log.archived + s.dev.log.row.length ∧ t.dev.log.header = logHeader t.dev.log.archived ∧
      t.dev.now = (if 32 ≤ s.dev.log.row.length then s.dev.now else max s.dev.now (t0 + 1000000000000)) ∧
      ∀ (i : Nat) (e : LogEntry), s.dev.log.row[i]? = some e →
        tblGet (fun _ => none) t.dev.log.archive ((s.dev.log.archived + i) % 32736) = some e.persisted := by
  have hkept : (if s.dev.log.row.length ≥ 32 then s.dev else s.dev.advance (t0 + 1000000000000)).log = s.dev.log :=
    ite_kept Dev.log rfl rfl
  have hwrite := Dev.rowWrite_commits (d := if s.dev.log.row.length ≥ 32 then s.dev else s.dev.advance (t0 + 1000000000000))
    (by rw [hkept]; exact hrow)
  rw [hkept] at hwrite
  obtain ⟨hlog, hnow⟩ := hwrite
  obtain ⟨hempty, hnone, hcount, hheader, harchive⟩ := s.dev.log.commitRow_parts
  refine ⟨_, rfl, rfl, ?_⟩
  rw [State.on_dev, Dev.withGstat_log, Dev.withGstat_now, Dev.persistentWrite_runs hat, hlog, hnow, hcount]
  refine ⟨hempty, hnone, rfl, hheader, ?_, fun i e he => harchive ▸ archiveAdd_get hlen he⟩
  exact apply_ite Dev.now ..

/-! ### The link (R46, R560) and the test port (R635, R636) -/

section
variable (w : LinkWidth) (r : LinkRate)

theorem exec_linkUp_trained {s : State}
    (h : s.dev.sys.phase = .ready ∨ s.dev.sys.phase = .starting ∨ s.dev.sys.phase = .firmware ∨ 3 ≤ s.dev.sys.scope) :
    exec (.linkUp w r) s = .next (s.on (fun d => { d with link := { d.link with up := true, width := w, rate := r } })) := by
  refine congrArg Host.Outcome.next (State.on_congr
    (h := fun d => { d with link := { d.link with up := true, width := w, rate := r } }) ?_)
  unfold Dev.linkTrained
  extract_lets released
  refine if_pos ?_
  unfold released
  rcases h with h | h | h | h
  · rw [h, Bool.or_true]
  · rw [h, Bool.or_true]
  · rw [h, Bool.or_true]
  · rw [decide_eq_true h, Bool.true_or]

theorem exec_linkUp_held {s : State} (hscope : s.dev.sys.scope ≤ 2)
    (h : s.dev.sys.phase = .held ∨ s.dev.sys.phase = .loading ∨ ∃ n : Nat, s.dev.sys.phase = .releasing n) :
    exec (.linkUp w r) s = .next s := by
  have hnarrow : decide (s.dev.sys.scope ≥ 3) = false := decide_eq_false (by omega)
  have hkept : s.dev.linkTrained w r = s.dev := by
    unfold Dev.linkTrained
    extract_lets released
    refine if_neg ?_
    unfold released
    rw [hnarrow, Bool.false_or]
    obtain h | h | ⟨n, h⟩ := h
    · rw [h]; exact Bool.false_ne_true
    · rw [h]; exact Bool.false_ne_true
    · rw [h]; exact Bool.false_ne_true
  exact congrArg Host.Outcome.next (congrArg (fun d => ({ s with dev := d } : State)) hkept)

end

/-- The instructions that the boundary scan drives pins with. -/
def drivesPins (i : JtagInstr) : Prop := i = .extest ∨ i = .clamp ∨ i = .highz

/-- Which instruction is in force after a load. -/
theorem tapLoad_allows (jtag : Nat) (perst : Bool) (i : JtagInstr) :
    (jtag = 0 → tapLoad jtag perst i = .bypass) ∧ (jtag ≠ 0 → i = .sample → tapLoad jtag perst i = .sample) ∧
      (i = .bypass ∨ i = .idcode → tapLoad jtag perst i = .bypass) ∧
      (∀ c : Nat, i = .other c → tapLoad jtag perst i = if jtag = 2 then .other c else .bypass) ∧
      (perst = false → drivesPins i → tapLoad jtag perst i = .bypass) ∧
      (jtag ≠ 0 → perst = true → drivesPins i → tapLoad jtag perst i = i) := by
  by_cases hjtag : jtag = 0
  · subst hjtag
    have hoff : tapLoad 0 perst i = .bypass := if_pos rfl
    exact ⟨fun _ => hoff, fun h => absurd rfl h, fun _ => hoff, fun _ _ => hoff, fun _ _ => hoff, fun h => absurd rfl h⟩
  · refine ⟨fun h => absurd h hjtag, fun _ hi => ?_, fun hi => ?_, fun c hi => ?_, fun hp hi => ?_, fun _ hp hi => ?_⟩
    · subst hi; exact if_neg hjtag
    · obtain rfl | rfl := hi <;> exact if_neg hjtag
    · subst hi; exact if_neg hjtag
    · subst hp
      obtain rfl | rfl | rfl := hi <;> exact if_neg hjtag
    · subst hp
      obtain rfl | rfl | rfl := hi <;> exact if_neg hjtag

theorem exec_jtagInstructionLoad_unpowered {s : State} (h : s.dev.sys.denrixGood = false) (i : JtagInstr) :
    exec (.jtagInstructionLoad i) s = .next s :=
  congrArg Host.Outcome.next (congrArg (fun d => ({ s with dev := d } : State)) (if_neg (by rw [h]; exact Bool.false_ne_true)))

theorem exec_jtagInstructionLoad {s : State} (h : s.dev.sys.denrixGood = true) (i : JtagInstr) :
    ∃ t : State, exec (.jtagInstructionLoad i) s = .next t ∧ t.mem = s.mem ∧
      t.dev.sys.tap = tapLoad s.dev.sys.opt.jtag s.dev.sys.perst i := by
  refine ⟨_, rfl, rfl, ?_⟩
  rw [State.on_dev, if_pos h]
  rfl

/-! ### Configuration writes -/

/-- A write that does not reach a function changes nothing. -/
theorem exec_configurationWrite_unreached {s : State} {f : FnId}
    (h : (s.dev.link.up && (s.dev.fn f.val).enabled && s.dev.routed f.val) = false) (w : CfgWrite) :
    exec (.configurationWrite f w) s = .next (s.on (fun d => d.observed id)) :=
  congrArg Host.Outcome.next (State.on_congr (Dev.observed_congr (g := fun d => d.cfgRow f.val w) (h := id)
    (if_neg (by rw [h]; exact Bool.false_ne_true))))

section
variable {s : State} {f : FnId} (hup : s.dev.link.up = true) (henabled : (s.dev.fn f.val).enabled = true)
  (hrouted : s.dev.routed f.val = true)
include hup henabled hrouted

/-- Initiate Function Level Reset is the reset of the function. -/
theorem exec_configurationWrite_initiateFlr : ∃ t : State, exec (.configurationWrite f .initiateFlr) s = .next t ∧ t.mem = s.mem ∧
    ((s.dev.fn f.val).flr = .idle → (t.dev.fn f.val).flr = .drain ∨ (f.val = 0 ∧ (t.dev.fn 0).flr = .vfs)) := by
  refine ⟨_, exec_configurationWrite_eq hup henabled hrouted .initiateFlr, rfl, fun hidle => ?_⟩
  obtain ⟨t, hexec, -, -, -, -, hown, hwaits, -, -⟩ := exec_initiateFunctionLevelReset f s henabled hidle
  obtain rfl : s.on (fun d => d.observed (fun d => d.cfgWrite f.val .initiateFlr)) = t := Host.Outcome.next.inj hexec
  by_cases hf : f.val = 0
  · cases hvfs : (s.on (fun d => d.observed (fun d => d.cfgWrite f.val .initiateFlr))).dev.vfsIdle with
    | true => exact .inl (hown (.inr hvfs)).1
    | false => exact .inr ⟨hf, hwaits hf hvfs⟩
  · exact .inl (hown (.inl hf)).1

/-- Writes that each change a field of the function. -/
theorem exec_configurationWrite_functions {l : List (CfgWrite × (Fn → Fn))}
    (h : ∀ e ∈ l, (s.dev.cfgWrite f.val e.1).fn f.val = e.2 (s.dev.fn f.val) ∧
      (s.dev.cfgWrite f.val e.1).gstatLow = s.dev.gstatLow) : ∀ e ∈ l,
      ∃ t : State, exec (.configurationWrite f e.1) s = .next t ∧ t.mem = s.mem ∧ t.dev.fn f.val = e.2 (s.dev.fn f.val) :=
  fun e he => exec_configurationWrite_fn hup henabled hrouted (h e he).1 (h e he).2

/-- Writes that each change a field of the link where they reach PF0. -/
theorem exec_configurationWrite_links {l : List (CfgWrite × (Link → Link))}
    (h : ∀ e ∈ l, (s.dev.cfgWrite f.val e.1).link = if f.val = 0 then e.2 s.dev.link else s.dev.link) : ∀ e ∈ l,
      ∃ t : State, exec (.configurationWrite f e.1) s = .next t ∧ t.mem = s.mem ∧
        t.dev.link = (if f.val = 0 then e.2 s.dev.link else s.dev.link) :=
  fun e he => exec_configurationWrite_link hup henabled hrouted (h e he)

theorem exec_configurationWrite_fields (on two : Bool) (n : Fin 16) (c : Fin 6) (d : W32) (x : W64) (v : Fin 64) :
    ∀ e ∈ ([(.busMaster on, fun r => { r with busMaster := on }),
      (.cplTimeout on n, fun r => { r with cplDisable := on, cplValue := if cplValueOk n.val then n.val else r.cplValue }),
        (.maxReadRequest c, fun r => { r with maxReadReq := c.val }),
      (.relaxedOrdering on, fun r => { r with relaxed := on }), (.ecrc on two, fun r => { r with ecrcCheck := on, ecrcGen := two }),
      (.tag10 on, fun r => { r with tag10 := on }), (.powerState on, fun r => { r with d3hot := on }),
      (.aerClear on two, fun r => { r with aerEcrc := r.aerEcrc && !on, aerPoison := r.aerPoison && !two }),
      (.vectorMessage v x d, fun r => if vecCount f.val ≤ v.val then r else r.modVec v.val (fun y => { y with addr := x, data := d }))] :
        List (CfgWrite × (Fn → Fn))),
      ∃ t : State, exec (.configurationWrite f e.1) s = .next t ∧ t.mem = s.mem ∧ t.dev.fn f.val = e.2 (s.dev.fn f.val) := by
  have hvector : (s.dev.cfgWrite f.val (.vectorMessage v x d)).fn f.val =
      (if vecCount f.val ≤ v.val then s.dev.fn f.val else (s.dev.fn f.val).modVec v.val (fun y => { y with addr := x, data := d })) ∧
        (s.dev.cfgWrite f.val (.vectorMessage v x d)).gstatLow = s.dev.gstatLow := by
    unfold Dev.cfgWrite
    by_cases hv : vecCount f.val ≤ v.val
    · rw [if_pos hv]
      exact ⟨congrArg (fun e => Dev.fn e f.val) (if_pos hv), congrArg Dev.gstatLow (if_pos hv)⟩
    · rw [if_neg hv]
      dsimp only
      rw [if_neg hv]
      exact Dev.modFn_shown s.dev f.val (fun _ => rfl)
  refine exec_configurationWrite_functions hup henabled hrouted ?_
  have hfield := fun (g : Fn → Fn) (hg : ∀ r, (g r).ready = r.ready) => Dev.modFn_shown s.dev f.val hg
  exact List.forall_mem_cons.2 ⟨hfield _ (fun _ => rfl), List.forall_mem_cons.2 ⟨hfield _ (fun _ => rfl),
    List.forall_mem_cons.2 ⟨hfield _ (fun _ => rfl), List.forall_mem_cons.2 ⟨hfield _ (fun _ => rfl),
    List.forall_mem_cons.2 ⟨hfield _ (fun _ => rfl), List.forall_mem_cons.2 ⟨hfield _ (fun _ => rfl),
    List.forall_mem_cons.2 ⟨hfield _ (fun _ => rfl), List.forall_mem_cons.2 ⟨hfield _ (fun _ => rfl),
    List.forall_mem_cons.2 ⟨hvector, List.forall_mem_nil _⟩⟩⟩⟩⟩⟩⟩⟩⟩

theorem exec_configurationWrite_linkFields (on two : Bool) (m : W32) (x : W64) (n : W16) :
    ∀ e ∈ ([(.bar false x, fun l => { l with bar0 := barBase x 65536 }),
      (.bar true x, fun l => { l with bar2 := barBase x 4096 }), (.vfBar false x, fun l => { l with vfBar0 := barBase x 65536 }),
      (.vfBar true x, fun l => { l with vfBar2 := barBase x (4096 * l.pageSize.toNat) }),
      (.systemPageSize m, fun l => if pageSizeOk m then { l with pageSize := m } else l), (.ltr on, fun l => { l with ltrOn := on }),
      (.aspmL1 on, fun l => { l with aspmL1 := on }), (.l1Substates on two, fun l => { l with l11 := on, l12 := two }),
      (.numVfs n, fun l => if l.vfEnable then l else { l with numVfs := n.toNat })] : List (CfgWrite × (Link → Link))),
      ∃ t : State, exec (.configurationWrite f e.1) s = .next t ∧ t.mem = s.mem ∧
        t.dev.link = (if f.val = 0 then e.2 s.dev.link else s.dev.link) := by
  have hfield := fun (e : Dev) => apply_ite Dev.link (f.val = 0) e s.dev
  have hpage : (s.dev.cfgWrite f.val (.systemPageSize m)).link =
      if f.val = 0 then (if pageSizeOk m then { s.dev.link with pageSize := m } else s.dev.link) else s.dev.link := by
    refine (apply_ite Dev.link _ _ s.dev).trans ?_
    by_cases hf : f.val = 0
    · rw [if_pos hf]
      exact if_congr (by rw [decide_eq_true hf, Bool.true_and]) rfl rfl
    · rw [if_neg hf]
      exact if_neg (by rw [decide_eq_false hf, Bool.false_and]; exact Bool.false_ne_true)
  have hvfs : (s.dev.cfgWrite f.val (.numVfs n)).link =
      if f.val = 0 then (if s.dev.link.vfEnable then s.dev.link else { s.dev.link with numVfs := n.toNat }) else s.dev.link := by
    refine (apply_ite Dev.link _ _ s.dev).trans ?_
    by_cases hf : f.val = 0
    · rw [if_pos hf]
      cases hon : s.dev.link.vfEnable with
      | true => exact if_neg (by rw [Bool.not_true, Bool.and_false]; exact Bool.false_ne_true)
      | false => exact if_pos (by rw [decide_eq_true hf]; rfl)
    · rw [if_neg hf]
      exact if_neg (by rw [decide_eq_false hf, Bool.false_and]; exact Bool.false_ne_true)
  refine exec_configurationWrite_links hup henabled hrouted ?_
  exact List.forall_mem_cons.2 ⟨hfield _, List.forall_mem_cons.2 ⟨hfield _, List.forall_mem_cons.2 ⟨hfield _,
    List.forall_mem_cons.2 ⟨hfield _, List.forall_mem_cons.2 ⟨hpage, List.forall_mem_cons.2 ⟨hfield _,
    List.forall_mem_cons.2 ⟨hfield _, List.forall_mem_cons.2 ⟨hfield _, List.forall_mem_cons.2 ⟨hvfs, List.forall_mem_nil _⟩⟩⟩⟩⟩⟩⟩⟩⟩

/-- A write that sets something of the core of its function. -/
theorem exec_configurationWrite_sets {α : Type} {p : Fn → α} (hp : ∀ r r' : Fn, r.core = r'.core → p r = p r') {w : CfgWrite} {x : α}
    (h : p ((s.dev.cfgWrite f.val w).fn f.val) = x) :
    ∃ t : State, exec (.configurationWrite f w) s = .next t ∧ t.mem = s.mem ∧ p (t.dev.fn f.val) = x := by
  obtain ⟨t, hexec, hmem, -, hcore⟩ := exec_configurationWrite_core hup henabled hrouted w
  exact ⟨t, hexec, hmem, (hp _ _ (hcore f.val)).trans h⟩

theorem exec_configurationWrite_vfEnable_clear (hf : f.val = 0) :
    ∃ t : State, exec (.configurationWrite f (.vfEnable false)) s = .next t ∧ t.mem = s.mem ∧ t.dev.link.vfEnable = false := by
  obtain ⟨t, hexec, hmem, hlink, -⟩ := exec_configurationWrite_core hup henabled hrouted (.vfEnable false)
  refine ⟨t, hexec, hmem, hlink ▸ ?_⟩
  have hoff : s.dev.cfgWrite f.val (.vfEnable false) = s.dev.vfsOff := if_neg (not_not_intro hf)
  rw [hoff]
  exact Dev.vfsOff_vfEnable s.dev

theorem exec_configurationWrite_vfEnable_set (hf : f.val = 0) (hclear : s.dev.link.vfEnable = false) :
    ∃ t : State, exec (.configurationWrite f (.vfEnable true)) s = .next t ∧ t.mem = s.mem ∧ t.dev.link.vfEnable = true ∧
      ∀ i : Nat, 1 ≤ i → i ≤ min s.dev.link.numVfs s.dev.totalVfs → (t.dev.fn i).enabled = true := by
  obtain ⟨t, hexec, hmem, hlink, hcore⟩ := exec_configurationWrite_core hup henabled hrouted (.vfEnable true)
  have hon : s.dev.cfgWrite f.val (.vfEnable true) = s.dev.vfsOn := if_neg (not_not_intro hf)
  rw [hon] at hlink hcore
  obtain ⟨hset, hfns⟩ := Dev.vfsOn_enabled s.dev hclear
  exact ⟨t, hexec, hmem, hlink ▸ hset, fun i hlow hhigh => (Fn.core_enabled (hcore i)).trans (hfns i hlow hhigh)⟩

theorem exec_configurationWrite_bus (hf : f.val = 0) (b l : Byte) : ∃ t : State,
    exec (.configurationWrite f (.bus b l)) s = .next t ∧ t.mem = s.mem ∧ t.dev.link.bus = b ∧ t.dev.link.last = l := by
  have hset : (s.dev.cfgWrite f.val (.bus b l)).link = { s.dev.link with bus := b, last := l } := congrArg Dev.link (if_pos hf)
  obtain ⟨t, hexec, hmem, hlink⟩ := exec_configurationWrite_link hup henabled hrouted hset
  exact ⟨t, hexec, hmem, congrArg Link.bus hlink, congrArg Link.last hlink⟩

end

end Sys2Proof.Machine

open Sys2Proof.Machine

/-- Settles O60: an occurrence joins the open entry of its kind, or makes one, or counts in LOST (`exec_sramCorrected`); the drain,
the final entry and the row each change their own part of the log; a memory or clock fault is logged and observed, with the
response of its partition or clock; a configuration write sets its field where it reaches its function; the test port loads what
`tapLoad` allows. -/
theorem integrityLogAndLink : Obligations.IntegrityLogAndLink := by
  unfold Obligations.IntegrityLogAndLink
  refine ⟨exec_sramCorrected, ?drain, fun s k e h => exec_logEntryFinal h,
    fun s t0 hat hrow hlen => exec_persistentLogWrite hat hrow hlen, fun s => rfl,
    fun e a s hmgmt hsession hvector => exec_sramUncorrectable_observed hmgmt hsession hvector,
    fun a s h => exec_sramUncorrectable_fetched h, ?memories, ?clocks, ?link, fun f w s h => exec_configurationWrite_unreached h w,
    ?writes, fun i s h => exec_jtagInstructionLoad_unpowered h i, ?jtag⟩
  case drain =>
    intro s e rest h
    exact ⟨_, rfl, rfl, Log.drain_moves h⟩
  case memories =>
    intro f r k g a b s
    exact ⟨exec_sramUncorrectable_caravan a s f r, exec_sramUncorrectable_engine a s, exec_sramUncorrectable_matrix a s,
      exec_sramUncorrectable_session a s, exec_sramUncorrectable_crash a s⟩
  case clocks =>
    intro s
    exact ⟨fun k hk => exec_clockFault_escalates hk s, exec_clockFault_sequencer s, exec_clockFault_vector s, exec_clockFault_matrix s,
      fun k hk => exec_clockFault_link hk s, fun i => exec_clockFault_island i s⟩
  case link =>
    intro w r s
    exact ⟨exec_linkUp_trained w r, exec_linkUp_held w r⟩
  case writes =>
    intro f s hup henabled hrouted
    refine ⟨exec_configurationWrite_fields hup henabled hrouted, exec_configurationWrite_linkFields hup henabled hrouted,
      exec_configurationWrite_initiateFlr hup henabled hrouted, exec_configurationWrite_vfEnable_clear hup henabled hrouted,
      fun on => ?_, fun on => ?_, fun v on hv => ?_, fun c => ?_, exec_configurationWrite_bus hup henabled hrouted,
      exec_configurationWrite_vfEnable_set hup henabled hrouted⟩
    · exact exec_configurationWrite_sets (p := Fn.msixEnable) hup henabled hrouted (fun _ _ => Fn.core_msixEnable)
        (congrArg Fn.msixEnable (Dev.modFn_same ..))
    · exact exec_configurationWrite_sets (p := Fn.funcMask) hup henabled hrouted (fun _ _ => Fn.core_funcMask)
        (Dev.cfgWrite_funcMask ..)
    · exact exec_configurationWrite_sets (p := fun r => (r.vec v.val).mask) hup henabled hrouted
        (fun _ _ h => Fn.core_mask h v.val) (Dev.cfgWrite_vectorMask _ _ hv on)
    · exact exec_configurationWrite_sets (p := Fn.maxPayload) hup henabled hrouted (fun _ _ => Fn.core_maxPayload)
        (congrArg Fn.maxPayload (Dev.modFn_same ..))
  case jtag =>
    intro i s h
    obtain ⟨t, hexec, hmem, htap⟩ := exec_jtagInstructionLoad h i
    exact ⟨t, hexec, hmem, htap ▸ tapLoad_allows ..⟩

end

section
/-! Sources of a reset of scope COLD, PACKAGE or DENRIX, fatal faults and SYS_RESET (spec/19_startup_reset.md, R547, R550 to R553,
R566, R568; spec/21_integrity.md, R592). -/

namespace Sys2Proof.Machine

/-! ### What is seen of a source (R545, R547) -/

/-- A reading of what a source of a reset keeps or builds on. -/
def Dev.beforeReset (d : Dev) : Nat × Phase × Nat × Nat × Nat × Tbl W32 × (Bank × Bank) × Log :=
  (d.now, d.sys.phase, d.sys.scope, d.sys.causes, d.sys.resets, d.sys.bkup, d.banks, d.log)

/-- What is seen after a source of scope COLD, PACKAGE or DENRIX. -/
def Dev.ResetSeen (d b : Dev) (bit scope : Nat) : Prop :=
  b.now = d.now ∧ b.sys.phase = .held ∧ b.sys.scope = (if d.sys.phase = .ready then scope else min scope d.sys.scope) ∧
    b.sys.causes = (if d.sys.phase = .ready then 0 else d.sys.causes) ||| 2 ^ bit ||| (if d.sys.phase = .loading then 4096 else 0) ∧
    (∀ f : Nat, b.fn f = fnInit f) ∧ b.tg.running = [] ∧ b.tg.waiting = [] ∧ (∀ c : Nat, b.chan c = Dev.reset.chan c) ∧
    b.seam.up = false ∧ b.assign = assignInit ∧ b.store.bankA = d.store.bankA ∧ b.store.bankB = d.store.bankB ∧
    (scope ≠ 0 → b.sys.resets = d.sys.resets + 1 ∧ b.sys.bkup = d.sys.bkup ∧ b.log.head = d.log.head ∧ b.log.pos = d.log.pos) ∧
    (scope = 0 → b.sys.bkup = [] ∧ b.log.fifo = [] ∧ b.log.archive = d.log.archive)

section
variable {d a b : Dev} {bit scope : Nat}

theorem Dev.ResetMade.fn (h : a.ResetMade b bit scope) (f : Nat) : b.fn f = fnInit f :=
  congrArg (fun l => tblGet fnInit l f) h.fns

theorem Log.afterReset_cold (l : Log) : (l.afterReset true).fifo = [] ∧ (l.afterReset true).archive = l.archive := ⟨rfl, rfl⟩

theorem Log.afterReset_warm (l : Log) : (l.afterReset false).head = l.head ∧ (l.afterReset false).pos = l.pos ∧
    (l.afterReset false).crash = l.crash := ⟨rfl, rfl, rfl⟩

/-- What a source leaves is seen, where the row's own first acts keep what it builds on. -/
theorem Dev.ResetMade.seen (h : a.ResetMade b bit scope) (hkept : a.beforeReset = d.beforeReset) : d.ResetSeen b bit scope := by
  obtain ⟨hnow, hphase, hscope, hcauses, hresets, hbkup, hbanks, hlog⟩ : a.now = d.now ∧ a.sys.phase = d.sys.phase ∧
      a.sys.scope = d.sys.scope ∧ a.sys.causes = d.sys.causes ∧ a.sys.resets = d.sys.resets ∧ a.sys.bkup = d.sys.bkup ∧
      a.banks = d.banks ∧ a.log = d.log :=
    ⟨congrArg (·.1) hkept, congrArg (·.2.1) hkept, congrArg (·.2.2.1) hkept, congrArg (·.2.2.2.1) hkept,
      congrArg (·.2.2.2.2.1) hkept, congrArg (·.2.2.2.2.2.1) hkept, congrArg (·.2.2.2.2.2.2.1) hkept, congrArg (·.2.2.2.2.2.2.2) hkept⟩
  have hbank : b.banks = d.banks := h.banks.trans hbanks
  have hafter : b.log = d.log.afterReset (scope == 0) := hlog ▸ h.log
  refine ⟨h.now.trans hnow, h.phase, ?_, ?_, h.fn, congrArg Tollgate.running h.tg, congrArg Tollgate.waiting h.tg,
    fun c => congrArg (fun l => tblGet chanInit l c) h.chans, h.up, h.assign, congrArg Prod.fst hbank, congrArg Prod.snd hbank,
    fun hwarm => ?_, fun hcold => ?_⟩
  · rw [h.wide, hphase, hscope]
  · rw [h.causes, hphase, hcauses]
  · obtain ⟨hcount, hreg, -⟩ := h.warm hwarm
    rw [hafter, beq_eq_false_iff_ne.2 hwarm]
    exact ⟨hcount.trans (by rw [hresets]), hreg.trans hbkup, d.log.afterReset_warm.1, d.log.afterReset_warm.2.1⟩
  · rw [hafter, hcold]
    exact ⟨h.cold hcold, d.log.afterReset_cold⟩

end

theorem Dev.wakeBy_beforeReset (d : Dev) (c : Nat) : (d.wakeBy c).beforeReset = d.beforeReset := by
  unfold Dev.wakeBy
  exact ite_kept Dev.beforeReset rfl (ite_kept Dev.beforeReset rfl rfl)

theorem exec_source (s : State) {e : Instr × Nat × Nat}
    (he : e ∈ ([(.vaonPowerOn, 0, 0), (.denrixPowerOn, 1, 2), (.resetN, 3, 1), (.perstN, 4, 2), (.hotReset, 5, 2), (.thermal, 9, 1),
      (.smbMgmtResetPackage, 11, 1), (.smbMgmtResetDenrix, 11, 2)] : List (Instr × Nat × Nat)))
    (hsmb : e.2.1 = 11 → s.dev.smbOn = true) :
    ∃ t : State, exec e.1 s = .next t ∧ t.mem = s.mem ∧ s.dev.ResetSeen t.dev e.2.1 e.2.2 := by
  have hmgmt : ∀ l, l ≤ 2 → s.dev.smbOn = true → s.dev.ResetSeen (s.dev.smb (fun d => d.assertReset 11 l)) 11 l := fun l hl hon => by
    have hsmb : s.dev.smb (fun d => d.assertReset 11 l) = (s.dev.wakeBy 4).assertReset 11 l := if_pos hon
    rw [hsmb]
    exact ((s.dev.wakeBy 4).assertReset_made 11 hl).seen (Dev.wakeBy_beforeReset ..)
  simp only [List.mem_cons, List.not_mem_nil, or_false] at he
  obtain rfl | rfl | rfl | rfl | rfl | rfl | rfl | rfl := he
  · exact ⟨_, rfl, rfl, (s.dev.assertReset_made 0 (Nat.zero_le 2)).seen rfl⟩
  · exact ⟨_, rfl, rfl, ((s.dev.modSys (fun y => { y with denrixGood := true })).assertReset_made 1 (Nat.le_refl 2)).seen rfl⟩
  · exact ⟨_, rfl, rfl, (s.dev.assertReset_made 3 one_le_two).seen rfl⟩
  · exact ⟨_, rfl, rfl, ((s.dev.modSys (fun y => { y with perst := true })).assertReset_made 4 (Nat.le_refl 2)).seen rfl⟩
  · exact ⟨_, rfl, rfl, (s.dev.assertReset_made 5 (Nat.le_refl 2)).seen rfl⟩
  · exact ⟨_, rfl, rfl, (s.dev.assertReset_made 9 one_le_two).seen rfl⟩
  · exact ⟨_, rfl, rfl, hmgmt 1 one_le_two (hsmb rfl)⟩
  · exact ⟨_, rfl, rfl, hmgmt 2 (Nat.le_refl 2) (hsmb rfl)⟩

/-! ### Fatal faults (R566, R592) -/

section
variable (d : Dev) (k : LogKey) (detail cause pair : Nat) (dump : List Byte)

/-- The first bytes of a crash record. -/
theorem Dev.crashRecord_head (pos : Nat) : u16 (d.crashRecord cause pair pos dump) 0 = 1 ∧
    u8 (d.crashRecord cause pair pos dump) 2 = cause % 256 ∧ u8 (d.crashRecord cause pair pos dump) 3 = pair % 256 :=
  ⟨rfl, rfl, rfl⟩

/-- The crash record and the reset controller of a fault. -/
theorem Dev.crash_crashed : ∃ pos, (d.crash k detail cause pair dump).crashed =
    ({ d.sys with bkup := tblSet (fun _ => 0) d.sys.bkup 30 1 }, (d.logIt k detail).crashRecord cause pair pos dump) := by
  refine ⟨((d.logIt k detail).logPosOf k).getD (d.logIt k detail).freeVal, ?_⟩
  show ({ (d.logIt k detail).sys with bkup := tblSet (fun _ => 0) (d.logIt k detail).sys.bkup 30 1 }, _) = _
  rw [Dev.logIt_sys]
  rfl

/-- What a fault that resets Denrix leaves. -/
theorem Dev.fatal_made {bit : Nat} (hbit : bit = 6 ∨ bit = 7) (hup : d.mgmtUp = true) :
    let b := d.fatal k detail cause pair bit dump
    b.sys.phase = .held ∧ b.sys.causes.testBit bit = true ∧ (d.sys.phase = .ready → b.sys.scope = 2) ∧
      b.sys.wdogResets = d.sys.wdogResets + 1 ∧ bkup b 30 = 1 ∧ u16 b.log.crash 0 = 1 ∧ u8 b.log.crash 2 = cause % 256 ∧
      u8 b.log.crash 3 = pair % 256 ∧ ∀ f : Nat, b.fn f = fnInit f := by
  intro b
  obtain ⟨pos, hcrash⟩ := d.crash_crashed k detail cause pair dump
  have hcrashed := (keptByEscalation_crashed.escalate (d.crash k detail cause pair dump)).trans hcrash
  have hsys : (d.crash k detail cause pair dump).escalate.sys = { d.sys with bkup := tblSet (fun _ => 0) d.sys.bkup 30 1 } :=
    congrArg Prod.fst hcrashed
  have hb : b = (d.crash k detail cause pair dump).escalate.assertReset bit 2 := if_pos hup
  have hmade := (d.crash k detail cause pair dump).escalate.assertReset_made bit (Nat.le_refl 2)
  rw [← hb] at hmade
  obtain ⟨-, hbkup, hdog⟩ := hmade.warm (by decide)
  have hrecord : b.log.crash = (d.logIt k detail).crashRecord cause pair pos dump :=
    (congrArg Log.crash hmade.log).trans (congrArg Prod.snd hcrashed)
  have hcount : bitAt (bit == 6 || bit == 7) 0 = 1 := by obtain rfl | rfl := hbit <;> rfl
  rw [hrecord]
  refine ⟨hmade.phase, ?_, fun hready => hmade.wide.trans (if_pos (by rw [hsys]; exact hready)), ?_, ?_, ?_⟩
  · rw [hmade.causes, Nat.testBit_or, Nat.testBit_or, Nat.testBit_two_pow_self, Bool.or_true, Bool.true_or]
  · rw [hdog, hcount, hsys]
  · refine (bkup_of_sys hbkup 30).trans ?_
    unfold bkup
    rw [hsys]
    exact congrArg BitVec.toNat (tblGet_set_same (fun _ => (0 : W32)) d.sys.bkup 30 1)
  · obtain ⟨hform, hcause, hpair⟩ := (d.logIt k detail).crashRecord_head cause pair dump pos
    exact ⟨hform, hcause, hpair, hmade.fn⟩

end

theorem exec_fatal (dump : List Byte) (pair : Byte) (addr : W32) (s : State) {e : Instr × Nat × Nat × Nat}
    (he : e ∈ ([(.watchdog dump, 6, 1, 0xFF), (.lockstep pair dump, 7, 2, pair.toNat),
      (.fwFatal pair addr dump, 7, 3, pair.toNat)] : List (Instr × Nat × Nat × Nat))) :
    (s.dev.mgmtUp = false → exec e.1 s = .next s) ∧
    (s.dev.mgmtUp = true → ∃ t : State, exec e.1 s = .next t ∧ t.mem = s.mem ∧ t.dev.sys.phase = .held ∧
      t.dev.sys.causes.testBit e.2.1 = true ∧ (s.dev.sys.phase = .ready → t.dev.sys.scope = 2) ∧
      t.dev.sys.wdogResets = s.dev.sys.wdogResets + 1 ∧ bkup t.dev 30 = 1 ∧ u16 t.dev.log.crash 0 = 1 ∧
      u8 t.dev.log.crash 2 = e.2.2.1 ∧ u8 t.dev.log.crash 3 = e.2.2.2 ∧ ∀ f : Nat, t.dev.fn f = fnInit f) := by
  have hoff : ∀ (k : LogKey) (detail cause pair bit : Nat), s.dev.mgmtUp = false →
      s.on (fun d => d.fatal k detail cause pair bit dump) = s := fun k detail cause pair bit h =>
    congrArg (fun d => ({ s with dev := d } : State)) (if_neg (by rw [h]; exact Bool.false_ne_true))
  have hpair : pair.toNat % 256 = pair.toNat := Nat.mod_eq_of_lt pair.isLt
  have hmade := fun (k : LogKey) (detail cause bit : Nat) (hbit : bit = 6 ∨ bit = 7) =>
    s.dev.fatal_made k detail cause pair.toNat dump hbit
  rw [hpair] at hmade
  simp only [List.mem_cons, List.not_mem_nil, or_false] at he
  obtain rfl | rfl | rfl := he
  · exact ⟨fun h => congrArg Host.Outcome.next (hoff kWatchdog 0 1 0xFF 6 h),
      fun h => ⟨_, rfl, rfl, s.dev.fatal_made kWatchdog 0 1 0xFF dump (.inl rfl) h⟩⟩
  · exact ⟨fun h => congrArg Host.Outcome.next (hoff kLockstep pair.toNat 2 pair.toNat 7 h),
      fun h => ⟨_, rfl, rfl, hmade kLockstep pair.toNat 2 7 (.inr rfl) h⟩⟩
  · exact ⟨fun h => congrArg Host.Outcome.next (hoff kFwFatal addr.toNat 3 pair.toNat 7 h),
      fun h => ⟨_, rfl, rfl, hmade kFwFatal addr.toNat 3 7 (.inr rfl) h⟩⟩

/-! ### SYS_RESET (R568) -/

/-- The clock and the reset controller. -/
def Dev.timed (d : Dev) : Nat × SysCtl := (d.now, d.sys)

theorem keptByRows_timed : KeptByRows Dev.timed where
  rows := fun _ _ _ => rfl
  free := fun _ _ => rfl
  log := fun d k a e => by rw [Dev.timed, Dev.logIt_now, Dev.logIt_sys]; rfl

theorem Dev.rowWriteOut_timed (d : Dev) : d.rowWriteOut.timed = d.timed := by
  unfold Dev.rowWriteOut
  extract_lets l bad
  refine Eq.trans ?_ (keptByRows_timed.free d (d.freeCtr + l.length))
  unfold Dev.rowWrite
  extract_lets a s1
  have hrows : a.1.timed = _ := keptByRows_timed.rowsWrite ..
  exact ite_kept Dev.timed rfl (ite_kept Dev.timed hrows hrows)

/-- The reset of a SYS_RESET comes 100 µs to 60 ms after the acceptance. -/
theorem exec_sysResetAssertion {s : State} {l : Nat} (hreset : s.dev.sys.sysReset = some l) (hl : l = 1 ∨ l = 2)
    (hwaits : s.dev.wbWaits = false) :
    ∃ t : State, exec .sysResetAssertion s = .next t ∧ t.mem = s.mem ∧ t.dev.sys.phase = .held ∧ t.dev.sys.sysReset = none ∧
      t.dev.sys.causes.testBit 10 = true ∧ (s.dev.sys.phase = .ready → t.dev.sys.scope = l) ∧
      s.dev.sys.sysResetAt + 100000000 ≤ t.dev.now ∧ t.dev.now ≤ max s.dev.now (s.dev.sys.sysResetAt + 60000000000) := by
  have hdue : s.dev.sysResetDue = ((s.dev.advance (s.dev.sys.sysResetAt + 100000000 +
      min 59900000000 (Config.freeDelay s.dev.freeCtr))).freeNext).rowWriteOut.assertReset 10 l := by
    unfold Dev.sysResetDue
    rw [hreset]
    exact if_neg (by rw [hwaits]; exact Bool.false_ne_true)
  generalize hwritten : ((s.dev.advance (s.dev.sys.sysResetAt + 100000000 +
      min 59900000000 (Config.freeDelay s.dev.freeCtr))).freeNext).rowWriteOut = a at hdue
  have htimed : a.timed = (max s.dev.now (s.dev.sys.sysResetAt + 100000000 + min 59900000000 (Config.freeDelay s.dev.freeCtr)),
      s.dev.sys) := by
    rw [← hwritten]
    exact Dev.rowWriteOut_timed ..
  have hphase : a.sys.phase = s.dev.sys.phase := congrArg (fun x => x.2.phase) htimed
  have hmade := a.assertReset_made 10 (scope := l) (by omega)
  refine ⟨_, rfl, rfl, ?_⟩
  rw [State.on_dev, hdue]
  refine ⟨hmade.phase, hmade.sysReset, ?_, fun hready => hmade.wide.trans (if_pos (hphase.trans hready)), ?_⟩
  · rw [hmade.causes, Nat.testBit_or, Nat.testBit_or, Nat.testBit_two_pow_self, Bool.or_true, Bool.true_or]
  · have hnow : (a.assertReset 10 l).now = _ := hmade.now.trans (congrArg (·.1) htimed)
    rw [hnow]
    have hdelay := Nat.min_le_left 59900000000 (Config.freeDelay s.dev.freeCtr)
    omega

theorem exec_sysResetAssertion_waits {s : State} {l : Nat} (hreset : s.dev.sys.sysReset = some l) (hwaits : s.dev.wbWaits = true) :
    exec .sysResetAssertion s = .next s := by
  have hdue : s.dev.sysResetDue = s.dev := by
    unfold Dev.sysResetDue
    rw [hreset]
    exact if_pos hwaits
  exact congrArg Host.Outcome.next (congrArg (fun d => ({ s with dev := d } : State)) hdue)

/-! ### SMB_MGMT (R553) -/

/-- What the status word is made of. -/
def Dev.smbWord (d : Dev) : Bool × Nat × Bool × Bool := ((d.fn 0).ready, d.sys.power, d.sys.thermalWarn, d.sys.optDefaults)

theorem exec_smbMgmtReadStatus {s : State} (h : s.dev.smbOn = true) :
    ∃ t : State, exec .smbMgmtReadStatus s = .next t ∧ t.mem = s.mem ∧
      t.dev.sys.smbData = BitVec.ofNat 16 (bitAt (s.dev.fn 0).ready 0 + 2 * s.dev.sys.power + bitAt s.dev.sys.thermalWarn 3
        + bitAt s.dev.sys.optDefaults 4) := by
  have hread : s.dev.smb (fun d => d.modSys (fun y => { y with smbData := BitVec.ofNat 16 d.smbStatus })) =
      (s.dev.wakeBy 4).modSys (fun y => { y with smbData := BitVec.ofNat 16 (s.dev.wakeBy 4).smbStatus }) := if_pos h
  have hword : (s.dev.wakeBy 4).smbWord = s.dev.smbWord := by
    unfold Dev.wakeBy
    exact ite_kept Dev.smbWord rfl (ite_kept Dev.smbWord rfl rfl)
  refine ⟨_, rfl, rfl, ?_⟩
  rw [State.on_dev, hread]
  exact congrArg (fun x : Bool × Nat × Bool × Bool =>
    BitVec.ofNat 16 (bitAt x.1 0 + 2 * x.2.1 + bitAt x.2.2.1 3 + bitAt x.2.2.2 4)) hword

end Sys2Proof.Machine

end

section
/-! A HELON or SEAM scope from READY, and what the end of a rest in DEEP leaves (spec/19_startup_reset.md, R545, R552, R557, R573). -/

namespace Sys2Proof.Machine

/-! ### The end of a rest (R470, R472, R573) -/

/-- A reading that the link's latency and the occurrences of a rest leave besides. -/
structure KeptByUnrest {α : Type} (p : Dev → α) : Prop extends Bystander p where
  link : ∀ (d : Dev) l, p { d with link := l } = p d
  deep : ∀ d f, p (Dev.modFn d f (fun r => { r with evtDeep := 0 })) = p d

/-- The power state after a rest. -/
def Dev.awoken (d : Dev) (power : Nat) : Dev :=
  d.modSys (fun y => { y with power := power, deepEntering := false, wakeLatched := none, waking := none })

theorem KeptByUnrest.unrest {α : Type} {p : Dev → α} (h : KeptByUnrest p) (d : Dev) (power : Nat) :
    p (d.unrest power) = p (d.awoken power) := by
  unfold Dev.unrest
  extract_lets t s1 l s2 s3 s4
  have h2 : p s2 = p s1 := h.link ..
  have h3 : p s3 = p s2 := Dev.forAll_keeps p (fun _ _ => h.fab ..)
  have h4 : p s4 = p s3 := Dev.forAll_keeps p (fun _ _ => (Dev.forAll_keeps p (fun _ _ => h.irq ..)).trans (h.deep ..))
  split
  · exact h.svyPause ..
  · exact (Dev.forAll_keeps p (fun _ _ => h.res ..)).trans ((h.svyPause ..).trans (h4.trans (h3.trans h2)))

/-! ### Helon or the Seam cleared (R545, R557) -/

/-- A reading that the entry to the safe state and a cleared Seam leave besides. -/
structure KeptBySeam {α : Type} (p : Dev → α) : Prop extends KeptByUnrest p where
  eng : ∀ d e g, p (Dev.modEng d e g) = p d
  cal : ∀ d g, p (Dev.modCal d g) = p d
  seam : ∀ d g, p (Dev.modSeam d g) = p d
  hel : ∀ (d : Dev) l, p { d with hel := l } = p d
  awoken : ∀ d n, p (Dev.awoken d n) = p d

namespace KeptBySeam

variable {α : Type} {p : Dev → α} (h : KeptBySeam p)
include h

theorem outerStop (d : Dev) (c : Nat) : p (d.outerStop c) = p d :=
  (h.chan ..).trans (Dev.forAll_keeps p (fun _ _ => h.eng ..))

theorem memberOff (d : Dev) (c : Nat) : p (d.memberOff c) = p d := by
  refine (h.chan ..).trans ?_
  unfold Dev.memberStop
  extract_lets s1
  have h1 : p s1 = p d := (h.chan ..).trans ((h.eng ..).trans (h.outerStop ..))
  exact (h.setHalf ..).trans h1

theorem toSafe (d : Dev) (c a b r : Nat) : p (d.toSafe c a b r) = p d := by
  unfold Dev.toSafe
  extract_lets l s1
  have h1 : p s1 = p d := (h.transEnd ..).trans ((Dev.forAll_keeps p (fun _ _ => h.memberOff ..)).trans (h.rcDrop ..))
  exact (Dev.forAll_keeps p (fun _ _ => h.seqEnd ..)).trans h1

theorem runOver (d : Dev) : p d.runOver = p d := by
  unfold Dev.runOver
  split
  · rfl
  · exact (h.finish? ..).trans (h.cal ..)

theorem calBreak (d : Dev) : p d.calBreak = p d := by
  unfold Dev.calBreak
  split
  · rfl
  · next r _ =>
    extract_lets cs s1 s2
    have h1 : p s1 = p d := h.cal ..
    have h2 : p s2 = p s1 := ite_kept p (h.svyPause ..) rfl
    exact (h.runOver ..).trans ((Dev.forAll_keeps p (fun _ _ => h.res ..)).trans (h2.trans h1))

theorem clearHelon (d : Dev) : p d.clearHelon = p d := by
  unfold Dev.clearHelon
  extract_lets s1
  have h1 : p s1 = p d := (h.seam { d with hel := [] } (fun m => m.cleared true d.now)).trans (h.hel d [])
  exact (h.svy ..).trans ((Dev.forAll_keeps p (fun _ _ => ite_kept p (h.chan ..) rfl)).trans h1)

theorem clearSeam (d : Dev) (helon : Bool) : p (d.clearSeam helon) = p d := by
  unfold Dev.clearSeam
  extract_lets leaders s1 s2
  have h1 : p s1 = p d := (h.calBreak ..).trans (Dev.forAll_keeps p (fun _ _ => h.toSafe ..))
  have h2 : p s2 = p s1 := ite_kept p ((h.unrest ..).trans (h.awoken ..)) rfl
  refine (ite_kept p (h.clearHelon ..) ?_).trans (h2.trans h1)
  exact (h.hel ..).trans (h.seam ..)

end KeptBySeam

/-- What a narrow scope keeps: the clock, the source's notes and whether functions are served. -/
def Dev.stood (d : Dev) : Nat × (Nat × Nat × Bool) × (Nat → Bool) :=
  (d.now, (d.sys.scope, d.sys.causes, d.sys.helonGood), fun f => (d.fn f).ready)

theorem bystander_stood : Bystander Dev.stood :=
  bystander_rest.comp (fun x => (x.1.now, (x.1.sys.scope, x.1.sys.causes, x.1.sys.helonGood), fun f => (x.2 f).1.ready))

theorem keptBySeam_stood : KeptBySeam Dev.stood where
  toBystander := bystander_stood
  link := fun _ _ => rfl
  deep := fun d f => by
    refine congrArg (fun r => (d.now, (d.sys.scope, d.sys.causes, d.sys.helonGood), r)) (funext fun i => ?_)
    rw [Dev.modFn_get]
    split
    · next h => rw [h]
    · rfl
  eng := fun _ _ _ => rfl
  cal := fun _ _ => rfl
  seam := fun _ _ => rfl
  hel := fun _ _ => rfl
  awoken := fun _ _ => rfl

theorem Dev.clearHelon_parts (d : Dev) : d.clearHelon.hel = [] ∧ d.clearHelon.seam = d.seam.cleared true d.now := by
  unfold Dev.clearHelon
  extract_lets s1
  exact ⟨Dev.forAll_keeps Dev.hel (fun _ _ => ite_kept Dev.hel rfl rfl), Dev.forAll_keeps Dev.seam (fun _ _ => ite_kept Dev.seam rfl rfl)⟩

theorem Dev.clearSeam_up (d : Dev) (helon : Bool) : (d.clearSeam helon).seam.up = false := by
  unfold Dev.clearSeam
  extract_lets leaders s1 s2
  split
  · rw [(Dev.clearHelon_parts s2).2]
    rfl
  · rfl

theorem Dev.clearSeam_hel (d : Dev) : (d.clearSeam true).hel = [] := (Dev.clearHelon_parts _).1

/-! ### A narrow source (R547, R548) -/

section
variable (d : Dev) {bit scope : Nat}

theorem Dev.assertReset_narrow (hscope : 3 ≤ scope) (hready : d.sys.phase = .ready) : d.assertReset bit scope =
    ((d.sourced bit scope).observed (fun e => e.clearSeam (scope == 3))).modSys (fun y => { y with phase := .held, eccDone := false }) := by
  unfold Dev.assertReset
  rw [if_neg (by rw [hready]; exact Bool.false_ne_true)]
  dsimp only
  rw [if_neg (by omega : ¬ scope ≤ 2)]
  rfl

/-- A narrow source from READY holds the device with its one cause, and functions stay served. -/
theorem Dev.assertReset_stood (hscope : 3 ≤ scope) (hready : d.sys.phase = .ready) :
    (d.assertReset bit scope).sys.phase = .held ∧ (d.assertReset bit scope).stood =
      (d.now, (scope, 2 ^ bit, d.sys.helonGood), fun f => (d.fn f).ready) := by
  rw [Dev.assertReset_narrow d hscope hready]
  refine ⟨rfl, ?_⟩
  have hcleared : ((d.sourced bit scope).observed (fun e => e.clearSeam (scope == 3))).stood = (d.sourced bit scope).stood :=
    (bystander_stood.observed ..).trans (keptBySeam_stood.clearSeam ..)
  refine hcleared.trans ?_
  have hnoted := d.sourced_noted bit scope
  have hwide : (d.sourced bit scope).sys.scope = scope :=
    (congrArg SysCtl.scope hnoted :).trans ((d.sys.source_scope bit scope).trans (if_pos hready))
  have hcauses : (d.sourced bit scope).sys.causes = 2 ^ bit := by
    refine (congrArg SysCtl.causes hnoted :).trans ?_
    show (if d.sys.phase != .ready then d.sys.causes else 0) ||| 2 ^ bit ||| bitAt (d.sys.phase == .loading && decide (scope ≤ 2)) 12 = _
    rw [hready, decide_eq_false (by omega : ¬ scope ≤ 2), Bool.and_false]
    exact (Nat.or_zero _).trans (Nat.zero_or _)
  have hgood : (d.sourced bit scope).sys.helonGood = d.sys.helonGood := (congrArg SysCtl.helonGood hnoted :)
  have hnow := Dev.sourced_of Dev.modSys_now d bit scope
  have hfns := Dev.sourced_of Dev.modSys_fns d bit scope
  unfold Dev.stood
  rw [hwide, hcauses, hgood, hnow]
  exact congrArg (fun l => (d.now, (scope, 2 ^ bit, d.sys.helonGood), fun f => (tblGet fnInit l f).ready)) hfns

/-- The device as Helon's supply comes up. -/
def Dev.helonPowered (d : Dev) : Dev :=
  (d.modSys (fun y => { y with helonGood := true })).modSeam (fun m => { m with powered := true })

theorem exec_helonPowerOn {s : State} (hready : s.dev.sys.phase = .ready) :
    ∃ t : State, exec .helonPowerOn s = .next t ∧ t.mem = s.mem ∧ t.dev.sys.phase = .held ∧ t.dev.sys.scope = 3 ∧ t.dev.sys.causes = 4 ∧
      t.dev.hel = [] ∧ t.dev.seam.up = false ∧ t.dev.sys.helonGood = true ∧ ∀ f : Nat, (t.dev.fn f).ready = (s.dev.fn f).ready := by
  have hphase : s.dev.helonPowered.sys.phase = .ready := hready
  obtain ⟨hheld, hstood⟩ := s.dev.helonPowered.assertReset_stood (bit := 2) (Nat.le_refl 3) hphase
  have hnarrow := s.dev.helonPowered.assertReset_narrow (bit := 2) (Nat.le_refl 3) hphase
  have hparts : (s.dev.helonPowered.assertReset 2 3).hel = [] ∧ (s.dev.helonPowered.assertReset 2 3).seam.up = false := by
    rw [hnarrow, Dev.modSys_hel, Dev.modSys_seam, Dev.observed_hel, Dev.observed_seam]
    exact ⟨Dev.clearSeam_hel _, Dev.clearSeam_up ..⟩
  have hready' : ∀ f : Nat, ((s.dev.helonPowered.assertReset 2 3).fn f).ready = (s.dev.fn f).ready :=
    fun f => congrArg (fun x => x.2.2 f) hstood
  refine ⟨_, rfl, rfl, ?_⟩
  rw [State.on_dev, show ((s.dev.modSys (fun y => { y with helonGood := true })).modSeam (fun m => { m with powered := true })) =
    s.dev.helonPowered from rfl]
  generalize s.dev.helonPowered.assertReset 2 3 = b at hheld hstood hparts hready'
  exact ⟨hheld, congrArg (·.2.1.1) hstood, congrArg (·.2.1.2.1) hstood, hparts.1, hparts.2, congrArg (·.2.1.2.2) hstood, hready'⟩

/-- A narrower source during a wider sequence is only recorded. -/
theorem exec_helonPowerOn_recorded {s : State} (hruns : s.dev.sys.phase ≠ .ready) (hscope : s.dev.sys.scope < 3) :
    exec .helonPowerOn s = .next (s.on (fun d =>
      ((d.modSys (fun y => { y with helonGood := true })).modSeam (fun m => { m with powered := true })).modSys (fun y =>
        { y with causes := y.causes ||| 4 }))) := by
  refine congrArg Host.Outcome.next (State.on_congr (if_pos ?_))
  show (s.dev.sys.phase != .ready && decide (3 > s.dev.sys.scope) && decide (3 ≥ 3)) = true
  rw [bne_iff_ne.2 hruns, decide_eq_true hscope]
  rfl

/-- The instant of the escalation of a loss at `t`: 10 ms after it, or 100 ms after the escalation before (R552). -/
def Dev.escalationAt (d : Dev) (t : Nat) : Nat :=
  match d.sys.seamLossAt with
  | some e => if e ≥ t then e + 100000000000 else t + 10000000000
  | none => t + 10000000000

/-- The device at the instant of an escalation. -/
def Dev.escalating (d : Dev) (t : Nat) : Dev :=
  (d.advance (d.escalationAt t)).modSys (fun y => { y with seamLossAt := some (max d.now (d.escalationAt t)) })

theorem Dev.seamEscalation_runs {t : Nat} (hloss : d.seam.lossAt = some t) (hup : d.seam.up = false) : d.seamEscalation =
    ((d.escalating t).assertReset 8 4).logIt (kReset true)
      (((d.escalating t).assertReset 8 4).sys.causes % 8192 + 65536 * ((d.escalating t).assertReset 8 4).sys.scope) := by
  unfold Dev.seamEscalation
  rw [hloss]
  exact if_neg (by rw [hup]; exact Bool.false_ne_true)

theorem exec_seamLossEscalation {s : State} {t0 : Nat} (hloss : s.dev.seam.lossAt = some t0) (hup : s.dev.seam.up = false)
    (hready : s.dev.sys.phase = .ready) :
    ∃ t : State, exec .seamLossEscalation s = .next t ∧ t.mem = s.mem ∧ t.dev.sys.phase = .held ∧ t.dev.sys.scope = 4 ∧
      t.dev.sys.causes = 256 ∧ (∀ f : Nat, (t.dev.fn f).ready = (s.dev.fn f).ready) ∧
      (s.dev.sys.seamLossAt = none → t.dev.now = max s.dev.now (t0 + 10000000000)) ∧
      (∀ e : Nat, s.dev.sys.seamLossAt = some e → t0 ≤ e → t.dev.now = max s.dev.now (e + 100000000000)) := by
  have hphase : (s.dev.escalating t0).sys.phase = .ready := hready
  obtain ⟨hheld, hstood⟩ := (s.dev.escalating t0).assertReset_stood (bit := 8) (scope := 4) (by decide) hphase
  have hnow : ((s.dev.escalating t0).assertReset 8 4).now = max s.dev.now (s.dev.escalationAt t0) := congrArg (·.1) hstood
  have hready : ∀ f : Nat, (((s.dev.escalating t0).assertReset 8 4).fn f).ready = (s.dev.fn f).ready :=
    fun f => congrArg (fun x => x.2.2 f) hstood
  refine ⟨_, rfl, rfl, ?_⟩
  rw [State.on_dev, Dev.seamEscalation_runs _ hloss hup]
  generalize (s.dev.escalating t0).assertReset 8 4 = b at hheld hstood hnow hready
  rw [Dev.logIt_sys, Dev.logIt_now]
  refine ⟨hheld, congrArg (·.2.1.1) hstood, congrArg (·.2.1.2.1) hstood, fun f => ?_, fun hnone => ?_, fun e he hle => ?_⟩
  · exact (congrArg (fun l => (tblGet fnInit l f).ready) (Dev.logIt_fns ..)).trans (hready f)
  · rw [hnow, Dev.escalationAt, hnone]
  · rw [hnow, Dev.escalationAt, he]
    exact congrArg (max s.dev.now) (if_pos hle)

end

end Sys2Proof.Machine

end

section
/-! The entry to DEEP, wake causes and the end of a wake (spec/19_startup_reset.md, R571 to R574). -/

namespace Sys2Proof.Machine

/-! ### What the fabric's edges leave of a wake (R470, R573) -/

/-- A predicate of the device that the fabric and wakes preserve. -/
structure StableByPulses (P : Dev → Prop) : Prop where
  fab : ∀ d g, P d → P (Dev.modFab d g)
  wake : ∀ d c, P d → P (Dev.wakeBy d c)

namespace StableByPulses

variable {P : Dev → Prop} (h : StableByPulses P) {d : Dev}
include h

theorem edgeTo (hd : P d) (r n t : Nat) : P (d.edgeTo r n t) := by
  unfold Dev.edgeTo
  extract_lets wakes s1
  have h1 : P s1 := h.fab d _ hd
  exact ite_holds P hd (ite_holds P hd (ite_holds P (h.wake _ _ h1) h1))

theorem arrive (hd : P d) (rising held : List Nat) (t w : Nat → Nat) : P (d.arrive rising held t w) := by
  unfold Dev.arrive
  extract_lets s1
  have h1 : P s1 := foldl_holds P (fun e _ he => h.fab e _ he) rising hd
  refine foldl_holds P (fun e r he => foldl_holds P (fun e n he => ?_) _ he) rising h1
  exact ite_holds P he (h.edgeTo he ..)

theorem cut (hd : P d) (l : List (Nat × Nat × Nat)) (x : Nat × Nat × Nat) (anew : Bool) (u : Nat) : P (d.cut l x anew u).1 :=
  h.arrive (h.fab _ _ (foldl_holds P (fun e _ he => h.fab e _ he) _ hd)) ..

theorem cuts (l : List (Nat × Nat × Nat)) (x : Nat × Nat × Nat) (anew : Bool) (us : List Nat) {y : Dev × List (Nat × Nat)} (hy : P y.1) :
    P (us.foldl (fun (a : Dev × List (Nat × Nat)) u => let b := a.1.cut l x anew u; (b.1, a.2 ++ b.2)) y).1 := by
  induction us generalizing y with
  | nil => exact hy
  | cons u r ih => exact ih (h.cut hy ..)

theorem pulseGo (fuel : Nat) (hd : P d) (n t w : Nat) (anew : Bool) : P (Dev.pulseGo fuel d n t w anew) := by
  induction fuel generalizing d n t w anew with
  | zero => exact hd
  | succ k ih =>
    unfold Dev.pulseGo
    extract_lets l s1 turns r
    have h1 : P s1 := h.fab d _ hd
    exact foldl_holds P (fun e x he => ih he _ _ _ _) r.2 (h.cuts l _ anew turns (y := (s1, [])) h1)

theorem fabricNote (hd : P d) (old : Dev) : P (d.fabricNote old) := by
  unfold Dev.fabricNote Dev.linesNote
  extract_lets on still rising held at_ s1 ended on'
  exact h.fab _ _ (foldl_holds P (fun e n he => h.pulseGo 6 he ..) _ (h.arrive hd ..))

end StableByPulses

section
variable {d old : Dev} (hroutes : d.fab.routes = [])
include hroutes

/-- The output of a route in its reset state is its fire pulse. -/
theorem routeOut_unrouted (k : Nat) (on : List Nat) (r : Nat) : routeOut (k + 1) d on r = on.contains (4096 + r) := by
  have hroute : d.route r = routeInit r := congrArg (fun l => tblGet routeInit l r) hroutes
  unfold routeOut
  rw [hroute]
  rfl

/-- Without routes a change of source levels reaches no consumer. -/
theorem Dev.fabricNote_unrouted (hold : old.fab.routes = []) : d.fabricNote old = d.linesNote old := by
  have hrisen : ∀ on, d.risen old on on = [] := fun on => by
    refine List.filter_eq_nil_iff.2 (fun r _ => ?_)
    rw [routeOut_unrouted hroutes, routeOut_unrouted hold, Bool.not_and_self]
    exact Bool.false_ne_true
  unfold Dev.fabricNote
  extract_lets on still rising held at_ s1
  have hrising : rising = [] := by
    unfold rising
    rw [hrisen]
    rfl
  unfold s1
  rw [hrising]
  rfl

end

theorem Dev.gstatNote_waking (d old : Dev) : (d.gstatNote old).sys.waking = d.sys.waking := by
  rw [Dev.gstatNote_only d old]

/-- A wake under way goes on. -/
theorem stable_waking (c : Option Nat) : StableByPulses (fun d => d.sys.deepEntering = false ∧ d.sys.waking.isSome = true ∧
    d.sys.waking = c) where
  fab := fun _ _ h => h
  wake := fun d n h => by
    obtain ⟨hdeep, hwaking, hc⟩ := h
    unfold Dev.wakeBy
    rw [if_neg (by rw [hdeep]; exact Bool.false_ne_true),
      if_neg (by rw [Option.isNone_eq_false_iff.2 hwaking, Bool.and_false]; exact Bool.false_ne_true)]
    exact ⟨hdeep, hwaking, hc⟩

/-- A reading of the reset controller that interrupts and wakes leave. -/
theorem bystander_of_sys {α : Type} (g : SysCtl → α) (hshown : ∀ y n, g { y with gstatChg := n } = g y)
    (hwake : ∀ d c, g (Dev.wakeBy d c).sys = g d.sys) : Bystander (fun d : Dev => g d.sys) where
  tg := fun _ _ => rfl
  fab := fun _ _ => rfl
  vec := fun _ _ => rfl
  chan := fun _ _ _ => rfl
  stage := fun _ _ _ => rfl
  helon := fun _ _ _ => rfl
  res := fun _ _ _ => rfl
  seq := fun _ _ _ => rfl
  handler := fun _ _ _ => rfl
  set := fun _ _ _ => rfl
  chain := fun _ _ _ => rfl
  svy := fun _ _ => rfl
  seqMem := fun _ _ => rfl
  swaps := fun _ _ => rfl
  holds := fun _ _ _ => rfl
  ring := fun _ _ _ _ => rfl
  free := fun _ => rfl
  log := fun _ _ _ _ => congrArg g (Dev.logIt_sys ..)
  irq := fun _ _ _ => congrArg g (Dev.irq_sys ..)
  gstat := fun d old => by
    rw [Dev.gstatNote_only d old]
    exact hshown ..
  wake := hwake

/-- The latch of a wake cause outside an entry to DEEP. -/
def SysCtl.latch (y : SysCtl) : Option (Option Nat) := if y.deepEntering then none else some y.wakeLatched

theorem bystander_latch : Bystander (fun d : Dev => d.sys.latch) :=
  bystander_of_sys SysCtl.latch (fun _ _ => rfl) (fun d c => by
    unfold Dev.wakeBy
    split
    · next h =>
      unfold SysCtl.latch
      rw [if_pos h]
      exact if_pos h
    · exact ite_kept (fun e : Dev => e.sys.latch) rfl rfl)

/-! ### DEEP_ENTRY_DONE (R571, R572, R574) -/

/-- The reset controller, the routes, the Seam and the link. -/
def Dev.atRest (d : Dev) : SysCtl × Tbl Route × Seam × Link := (d.sys, d.fab.routes, d.seam, d.link)

theorem keptByRecords_atRest : KeptByRecords Dev.atRest where
  stream := Dev.modStream_keeps Dev.atRest (fun _ _ _ => rfl) (fun _ _ => rfl)
  ring := fun _ _ _ _ => rfl
  caravans := fun _ _ => rfl
  log := fun d k a e => by
    unfold Dev.atRest
    rw [Dev.logIt_sys, Dev.logIt_fab, Dev.logIt_seam, Dev.logIt_link]

theorem keptByReplies_atRest : KeptByReplies Dev.atRest where
  tg := fun _ _ => rfl
  free := fun _ => rfl
  fn := fun _ _ _ _ _ _ => rfl

/-- Nothing is under way in Denrix: apertures have ended and the last samples are gone. -/
def Dev.resting (d : Dev) : Dev :=
  (d.forAll (List.range d.nChan) Dev.apersEnd).forAll (List.range d.nChan) (fun s c =>
    s.modRes c (fun r => { r with lastV := 0, lastI := 0 }))

theorem Dev.resting_atRest (d : Dev) : d.resting.atRest = d.atRest := by
  refine (Dev.forAll_keeps Dev.atRest).trans (Dev.forAll_keeps Dev.atRest (fun _ _ => ?_))
  exact keptByRecords_atRest.apersEnd (fun _ _ _ => rfl) (fun _ _ _ => rfl) (fun _ _ => rfl) (fun _ _ _ => rfl) ..

/-- The device as it has entered DEEP. -/
def Dev.inDeep (d : Dev) : SysCtl × Tbl Route × Seam × Link :=
  ({ d.sys with power := 3, deepEntering := false, wakeLatched := none, waking := d.sys.wakeLatched,
                wakeCause := d.sys.wakeLatched.getD d.sys.wakeCause },
    d.fab.routes,
    { d.seam with up := false, upHelon := false, goodUp := 0, goodDn := 0, badUp := 0, badDn := 0, upFrame := none, dnFrame := none,
                  atHelon := none, lossAt := none },
    { d.link with ltrUs := 3000 })

theorem Dev.inDeep_of {a b : Dev} (h : a.atRest = b.atRest) : a.inDeep = b.inDeep := by
  obtain ⟨hsys, hroutes, hseam, hlink⟩ : a.sys = b.sys ∧ a.fab.routes = b.fab.routes ∧ a.seam = b.seam ∧ a.link = b.link :=
    ⟨congrArg (·.1) h, congrArg (·.2.1) h, congrArg (·.2.2.1) h, congrArg (·.2.2.2) h⟩
  unfold Dev.inDeep
  rw [hsys, hroutes, hseam, hlink]

theorem Dev.deepEntered_atRest {d : Dev} (hdeep : d.sys.deepEntering = true) (hwaits : d.wbWaits = false) :
    d.deepEntered.atRest = d.inDeep := by
  unfold Dev.deepEntered
  rw [if_neg (by rw [hdeep, hwaits]; exact Bool.false_ne_true)]
  extract_lets s1 s2 code s3 l s4
  have h4 : s4.atRest = d.inDeep := Eq.trans (b := d.resting.inDeep) rfl (Dev.inDeep_of (Dev.resting_atRest d))
  split
  · refine (keptByReplies_atRest.finalReply ..).trans (Eq.trans ?_ h4)
    exact ite_kept Dev.atRest (keptByReplies_atRest.settleAll ..) rfl
  · exact h4

theorem Dev.deepEntered_waits {d : Dev} (hwaits : d.wbWaits = true) : d.deepEntered = d :=
  if_pos (by rw [hwaits, Bool.or_true])

/-- The wake of a latched cause is under way; without routes no edge starts another. -/
theorem Dev.deepEntered_waking {d : Dev} (hdeep : d.sys.deepEntering = true) (hwaits : d.wbWaits = false)
    (h : d.sys.wakeLatched ≠ none ∨ d.fab.routes = []) :
    (d.observed Dev.deepEntered).sys.waking = d.sys.wakeLatched := by
  have hrest := Dev.deepEntered_atRest hdeep hwaits
  have hsys : d.deepEntered.sys = _ := congrArg (·.1) hrest
  refine (Dev.gstatNote_waking ..).trans ?_
  rcases h with hlatched | hroutes
  · have hstart : d.deepEntered.sys.deepEntering = false ∧ d.deepEntered.sys.waking.isSome = true ∧
        d.deepEntered.sys.waking = d.sys.wakeLatched := by
      rw [hsys]
      exact ⟨rfl, Option.isSome_iff_ne_none.2 hlatched, rfl⟩
    exact ((stable_waking d.sys.wakeLatched).fabricNote hstart d).2.2
  · have hunrouted : d.deepEntered.fab.routes = [] := (congrArg (·.2.1) hrest).trans hroutes
    rw [Dev.fabricNote_unrouted hunrouted hroutes]
    exact congrArg SysCtl.waking hsys

theorem exec_deepEntryDone {s : State} (hdeep : s.dev.sys.deepEntering = true) (hwaits : s.dev.wbWaits = false) :
    ∃ t : State, exec .deepEntryDone s = .next t ∧ t.mem = s.mem ∧ t.dev.sys.power = 3 ∧ t.dev.sys.deepEntering = false ∧
      t.dev.seam.up = false ∧ (s.dev.sys.wakeLatched ≠ none ∨ s.dev.fab.routes = [] → t.dev.sys.waking = s.dev.sys.wakeLatched) ∧
      t.dev.sys.wakeLatched = none ∧ t.dev.link.ltrUs = 3000 := by
  have hrest := Dev.deepEntered_atRest hdeep hwaits
  have hshown := Dev.observed_sys s.dev Dev.deepEntered
  have hdone : s.dev.deepEntered.sys = _ := congrArg (·.1) hrest
  have hpower : (s.dev.observed Dev.deepEntered).sys.power = 3 :=
    (congrArg SysCtl.power hshown :).trans (congrArg SysCtl.power hdone)
  have hleft : (s.dev.observed Dev.deepEntered).sys.deepEntering = false :=
    (congrArg SysCtl.deepEntering hshown :).trans (congrArg SysCtl.deepEntering hdone)
  have hlatch : (s.dev.observed Dev.deepEntered).sys.latch = some none :=
    (bystander_latch.observed ..).trans (congrArg SysCtl.latch hdone)
  refine ⟨_, rfl, rfl, hpower, hleft, ?_, fun h => Dev.deepEntered_waking hdeep hwaits h, ?_, ?_⟩
  · exact (congrArg Seam.up (Dev.observed_seam ..)).trans (congrArg (fun x => x.2.2.1.up) hrest)
  · unfold SysCtl.latch at hlatch
    rw [if_neg (by rw [hleft]; exact Bool.false_ne_true)] at hlatch
    exact Option.some.inj hlatch
  · exact (congrArg Link.ltrUs (Dev.observed_link ..)).trans (congrArg (fun x => x.2.2.2.ltrUs) hrest)

theorem exec_deepEntryDone_waits {s : State} (hwaits : s.dev.wbWaits = true) :
    exec .deepEntryDone s = .next (s.on (fun d => d.observed id)) :=
  congrArg Host.Outcome.next (State.on_congr (Dev.observed_congr (g := Dev.deepEntered) (h := id) (Dev.deepEntered_waits hwaits)))

/-! ### WAKE (R573, R574) -/

section
variable {s : State} {c : Fin 5} (hc : c.val ≠ 0)
include hc

theorem exec_wake_latched (hdeep : s.dev.sys.deepEntering = true) : exec (.wake c) s = .next (s.on (fun d => d.modSys (fun y =>
    { y with wakeLatched := some (y.wakeLatched.getD c.val) }))) :=
  congrArg Host.Outcome.next (State.on_congr ((if_neg hc).trans (if_pos hdeep)))

theorem exec_wake_begun (hdeep : s.dev.sys.deepEntering = false) (hpower : s.dev.sys.power = 3) (hwaking : s.dev.sys.waking = none) :
    exec (.wake c) s = .next (s.on (fun d => d.modSys (fun y => { y with waking := some c.val, wakeCause := c.val }))) := by
  refine congrArg Host.Outcome.next (State.on_congr ((if_neg hc).trans ?_))
  unfold Dev.wakeBy
  rw [if_neg (by rw [hdeep]; exact Bool.false_ne_true)]
  exact if_pos (by rw [hpower, hwaking]; rfl)

end

/-! ### WAKE_DONE (R573) -/

/-- The power state, wake and count of wakes of a device that is awake. -/
def SysCtl.awake (y : SysCtl) : Option (Nat × Option Nat × Nat) :=
  if y.deepEntering || y.power == 3 then none else some (y.power, y.waking, y.wakes)

theorem SysCtl.awake_eq {y : SysCtl} {x : Nat × Option Nat × Nat} (h : y.awake = some x) : (y.power, y.waking, y.wakes) = x := by
  unfold SysCtl.awake at h
  split at h
  · exact absurd h nofun
  · exact Option.some.inj h

theorem Dev.wakeBy_awake (d : Dev) (c : Nat) : (d.wakeBy c).sys.awake = d.sys.awake := by
  unfold Dev.wakeBy
  split
  · next h =>
    have hasleep : ∀ y : SysCtl, y.deepEntering = true → y.awake = none := fun y hy => if_pos (by rw [hy]; rfl)
    exact (hasleep _ h).trans (hasleep _ h).symm
  · split
    · next h =>
      have hasleep : ∀ y : SysCtl, y.power = 3 → y.awake = none := fun y hy => if_pos (by rw [hy, Bool.or_eq_true_iff]; exact .inr rfl)
      have hpower : d.sys.power = 3 := of_decide_eq_true (Bool.and_eq_true_iff.1 h).1
      exact (hasleep { d.sys with waking := some c, wakeCause := c } hpower).trans (hasleep _ hpower).symm
    · rfl

theorem keptByUnrest_awake : KeptByUnrest (fun d : Dev => d.sys.awake) where
  toBystander := bystander_of_sys SysCtl.awake (fun _ _ => rfl) Dev.wakeBy_awake
  link := fun _ _ => rfl
  deep := fun _ _ => rfl

theorem bystander_link : Bystander Dev.link := bystander_rest.comp (fun x => x.1.link)

/-- The link is awake again. -/
theorem Dev.unrest_link {d : Dev} (h : d.sys.power = 3) (power : Nat) : (d.unrest power).link = { d.link with ltrUs := 20 } := by
  unfold Dev.unrest
  extract_lets t s1 l s2 s3 s4
  have h3 : s3.link = s2.link := Dev.forAll_keeps Dev.link (fun _ _ => bystander_link.fab ..)
  have h4 : s4.link = s3.link := Dev.forAll_keeps Dev.link (fun _ _ => (Dev.forAll_keeps Dev.link (fun _ _ => Dev.irq_link ..)).trans
    (Dev.modFn_link ..))
  rw [if_neg (not_not_intro h)]
  exact (Dev.forAll_keeps Dev.link (fun _ _ => bystander_link.res ..)).trans ((bystander_link.svyPause ..).trans (h4.trans h3))

theorem exec_wakeDone {s : State} (hpower : s.dev.sys.power = 3) (hwaking : s.dev.sys.waking ≠ none) (hup : s.dev.seam.up = true) :
    ∃ t : State, exec .wakeDone s = .next t ∧ t.mem = s.mem ∧ t.dev.sys.power = 2 ∧ t.dev.sys.waking = none ∧
      t.dev.sys.wakes = s.dev.sys.wakes + 1 ∧ t.dev.link.ltrUs = 20 := by
  have hrow : s.dev.wakeDone = ((s.dev.modSys (fun y => { y with wakes := y.wakes + 1 })).unrest 2).bkupPower := by
    refine if_neg ?_
    rw [decide_eq_false (not_not_intro hpower), Option.isNone_eq_false_iff.2 (Option.isSome_iff_ne_none.2 hwaking), hup]
    exact Bool.false_ne_true
  have hawake : s.dev.wakeDone.sys.awake = some (2, none, s.dev.sys.wakes + 1) := by
    rw [hrow]
    exact keptByUnrest_awake.unrest ..
  have hlink : s.dev.wakeDone.link = { s.dev.link with ltrUs := 20 } := by
    rw [hrow]
    exact Dev.unrest_link (d := s.dev.modSys (fun y => { y with wakes := y.wakes + 1 })) hpower 2
  have hshown := SysCtl.awake_eq ((keptByUnrest_awake.observed s.dev Dev.wakeDone).trans hawake)
  refine ⟨_, rfl, rfl, congrArg (·.1) hshown, congrArg (·.2.1) hshown, congrArg (·.2.2) hshown, ?_⟩
  exact (congrArg Link.ltrUs (Dev.observed_link ..)).trans (congrArg Link.ltrUs hlink)

end Sys2Proof.Machine

end

section
/-! The reset of one block (spec/19_startup_reset.md, R567, R568). -/

namespace Sys2Proof.Machine

/-! ### What a block's reset leaves -/

/-- A reading that engines leave besides. -/
structure KeptByBlock {α : Type} (p : Dev → α) : Prop extends Bystander p where
  eng : ∀ d e g, p (Dev.modEng d e g) = p d

namespace KeptByBlock

variable {α : Type} {p : Dev → α} (h : KeptByBlock p)
include h

theorem takeList (i : Nat) (l : List Rec) (d : Dev) : p (d.takeList i l) = p d := (h.records.stable _).takeList i l rfl

theorem dropClosed (d : Dev) (f r : Nat) : p (d.dropClosed f r) = p d := by
  unfold Dev.dropClosed
  extract_lets g l s1
  have h1 : p s1 = p d := (h.freeSlots ..).trans (h.ring ..)
  exact (foldl_kept p (fun _ _ => ite_kept p (h.records.lose ..) rfl) l s1).trans h1

theorem resetCaravan (d : Dev) : p d.resetCaravan = p d := by
  unfold Dev.resetCaravan
  extract_lets s1
  have h1 : p s1 = p d := h.tg ..
  refine (Dev.forAll_keeps p (fun _ _ => ?_)).trans h1
  exact (Dev.forAll_keeps p (fun _ _ => h.takeList ..)).trans (Dev.forAll_keeps p (fun _ _ => h.dropClosed ..))

theorem resetSurvey (d : Dev) : p d.resetSurvey = p d := by
  unfold Dev.resetSurvey
  extract_lets s1
  have h1 : p s1 = p d := by
    unfold s1
    split
    · exact h.finish? ..
    · rfl
  exact (h.svy ..).trans h1

theorem resetVector (d : Dev) : p d.resetVector = p d := by
  unfold Dev.resetVector
  extract_lets s1 s2
  have h1 : p s1 = p d := by
    unfold s1
    split
    · exact h.playerBreaks ..
    · rfl
  have h2 : p s2 = p s1 := Dev.forAll_keeps p (fun e k => by
    extract_lets i l e1
    exact (foldl_kept p (fun _ _ => h.records.lose ..) l e1).trans (h.records.stream ..))
  exact (h.vec ..).trans (h2.trans h1)

theorem discBegin (d : Dev) (k : Nat) : p (d.discBegin k) = p d := by
  unfold Dev.discBegin Dev.releaseChain
  exact (h.chain ..).trans (h.chain ..)

theorem rediscover (d : Dev) (k : Nat) : p (d.rediscover k) = p d := by
  unfold Dev.rediscover
  extract_lets s1
  have h1 : p s1 = p d := h.chain ..
  exact ite_kept p h1 ((h.discBegin ..).trans h1)

theorem resetChain (d : Dev) (k id : Nat) : p (d.resetChain k id) = p d := by
  unfold Dev.resetChain
  extract_lets ids s1 s2
  have h1 : p s1 = p d := (Dev.forAll_keeps p (fun _ _ => h.finish ..)).trans (h.chain ..)
  have h2 : p s2 = p s1 := Dev.forAll_keeps p (fun _ _ => h.setLeaves ..)
  exact (h.rediscover ..).trans ((h.chain ..).trans (h2.trans h1))

theorem resetIsland (d : Dev) (i : Nat) : p (d.resetIsland i) = p d := by
  unfold Dev.resetIsland
  extract_lets es s1
  have h1 : p s1 = p d := foldl_kept p (fun _ _ => h.swapGone ..) _ d
  exact (Dev.forAll_keeps p (fun _ _ => h.eng ..)).trans h1

theorem blockReset (d : Dev) (block index id : Nat) : p (d.blockReset block index id) = p d := by
  unfold Dev.blockReset
  exact ite_kept p (h.resetCaravan d) (ite_kept p (h.resetSurvey d) (ite_kept p (h.resetVector d) (ite_kept p (h.resetChain d index id)
    (h.resetIsland d index))))

end KeptByBlock

theorem keptByBlock_now : KeptByBlock Dev.now where
  toBystander := bystander_rest.comp (fun x => x.1.now)
  eng := fun _ _ _ => rfl

theorem keptByBlock_blocks : KeptByBlock (fun d : Dev => d.sys.blockReset) where
  toBystander := bystander_rest.comp (fun x => x.1.sys.blockReset)
  eng := fun _ _ _ => rfl

/-! ### A pending command stays one -/

/-- The ids of the pending commands. -/
def Dev.commands (d : Dev) : List Nat := d.tg.running.map (·.job.id)

theorem Dev.running?_id {d : Dev} {id : Nat} {r : Running} (h : d.running? id = some r) : r.job.id = id := by
  simpa [Dev.running?] using List.find?_some h

theorem Dev.commands_of_running {d : Dev} {id : Nat} {r : Running} (h : d.running? id = some r) : id ∈ d.commands :=
  List.mem_map.2 ⟨r, List.mem_of_find?_eq_some h, Dev.running?_id h⟩

/-- A command that finishes stays pending until its reply, and so do the others. -/
theorem Dev.finish_commands {d : Dev} {id : Nat} (h : id ∈ d.commands) (i st : Nat) (b : List Byte) :
    id ∈ (d.finish i st b).commands := by
  unfold Dev.finish
  split
  · exact h
  · next r hr =>
    extract_lets l
    split
    · exact h
    · show id ∈ l.map (·.job.id)
      unfold l
      rw [List.map_append, List.mem_append]
      by_cases hid : id = i
      · exact .inr (List.mem_singleton.2 (hid.trans (Dev.running?_id hr).symm))
      · obtain ⟨x, hx, rfl⟩ := List.mem_map.1 h
        exact .inl (List.mem_map.2 ⟨x, List.mem_filter.2 ⟨hx, bne_iff_ne.2 hid⟩, rfl⟩)

theorem Dev.finish?_commands {d : Dev} {id : Nat} (h : id ∈ d.commands) (i : Option Nat) (st : Nat) (b : List Byte) :
    id ∈ (d.finish? i st b).commands := by
  unfold Dev.finish?
  split
  · exact Dev.finish_commands h ..
  · exact h

/-- A pending command that finishes has a result. -/
theorem Dev.finish_result {d : Dev} {id : Nat} (h : id ∈ d.commands) (st : Nat) (b : List Byte) :
    ∃ r, (d.finish id st b).running? id = some r ∧ r.result.isSome = true := by
  obtain ⟨x, hx, hid⟩ := List.mem_map.1 h
  have hsome : (d.running? id).isSome = true := List.find?_isSome.2 ⟨x, hx, beq_iff_eq.2 hid⟩
  obtain ⟨r, hr⟩ := Option.isSome_iff_exists.1 hsome
  unfold Dev.finish
  rw [hr]
  dsimp only
  by_cases hres : r.result.isSome = true
  · rw [if_pos hres]
    exact ⟨r, hr, hres⟩
  · rw [if_neg hres]
    refine ⟨{ r with result := some (st, b) }, ?_, rfl⟩
    have hnone : (d.tg.running.filter (fun x => x.job.id != id)).find? (fun x => x.job.id == id) = none :=
      List.find?_eq_none.2 (fun y hy heq => (bne_iff_ne.1 (List.mem_filter.1 hy).2) (eq_of_beq heq))
    have hlast : ({ r with result := some (st, b) } : Running).job.id = id := (Dev.running?_id hr :)
    refine (List.find?_append ..).trans ?_
    rw [hnone, Option.none_or]
    exact List.find?_cons_of_pos (beq_iff_eq.2 hlast)

theorem updFirst_map {α β : Type} {p : α → Bool} {g : α → α} (f : α → β) (h : ∀ a, f (g a) = f a) (l : List α) :
    (updFirst p g l).map f = l.map f := by
  induction l with
  | nil => rfl
  | cons a r ih =>
    unfold updFirst
    split
    · rw [List.map_cons, List.map_cons, h]
    · rw [List.map_cons, List.map_cons, ih]

theorem Dev.setData_commands (d : Dev) (id : Nat) (l : List Int) : (d.setData id l).commands = d.commands :=
  updFirst_map (p := fun r : Running => r.job.id == id) (g := fun r : Running => { r with data := l }) (fun r : Running => r.job.id) (fun _ => rfl) d.tg.running

theorem keptByRecords_commands : KeptByRecords Dev.commands where
  stream := Dev.modStream_keeps Dev.commands (fun _ _ _ => rfl) (fun _ _ => rfl)
  ring := fun _ _ _ _ => rfl
  caravans := fun _ _ => rfl
  log := fun d k a e => congrArg (fun t => t.running.map (·.job.id)) (Dev.logIt_tg d k a e)

theorem Dev.commands_of_tg {a b : Dev} (h : a.tg = b.tg) : a.commands = b.commands := congrArg (fun t => t.running.map (·.job.id)) h

theorem Dev.vAbort_tg (d : Dev) (reason : Nat) : (d.vAbort reason).tg = d.tg := by
  refine ite_kept Dev.tg ?_ rfl
  unfold Dev.vEnd
  split
  · rfl
  · extract_lets s1 q s2
    have h1 : s1.tg = d.tg := Dev.modVec_tg ..
    have h2 : s2.tg = s1.tg := Dev.modVec_tg ..
    rw [Dev.pulseAt_tg, Dev.clearOverrun, Dev.modFab_tg, Dev.detach, Dev.modFab_tg, h2, h1]

theorem Dev.playerBreaks_tg (d : Dev) (f : Nat) : (d.playerBreaks f).tg = d.tg :=
  ite_kept Dev.tg ((Dev.irq_tg ..).trans ((Dev.logIt_tg ..).trans (Dev.vAbort_tg ..))) rfl

section
variable (d : Dev)

theorem Dev.resetCaravan_commands : d.resetCaravan.commands = d.commands := by
  have h := keptByRecords_commands
  unfold Dev.resetCaravan
  refine (Dev.forAll_keeps Dev.commands (fun e f => ?_)).trans rfl
  refine (Dev.forAll_keeps Dev.commands (fun e i => (h.stable _).takeList i _ rfl)).trans (Dev.forAll_keeps Dev.commands (fun e r => ?_))
  unfold Dev.dropClosed
  extract_lets g l s1
  have h1 : s1.commands = e.commands := (foldl_kept Dev.commands (fun _ _ => h.stream ..) l _).trans (h.ring ..)
  exact (foldl_kept Dev.commands (fun _ _ => ite_kept Dev.commands (h.lose ..) rfl) l s1).trans h1

theorem Dev.resetVector_commands : d.resetVector.commands = d.commands := by
  have h := keptByRecords_commands
  unfold Dev.resetVector
  extract_lets s1 s2
  have h1 : s1.commands = d.commands := by
    unfold s1
    split
    · exact Dev.commands_of_tg (Dev.playerBreaks_tg ..)
    · rfl
  have h2 : s2.commands = s1.commands := Dev.forAll_keeps Dev.commands (fun e k => by
    extract_lets i l e1
    exact (foldl_kept Dev.commands (fun _ _ => h.lose ..) l e1).trans (h.stream ..))
  exact h2.trans h1

theorem Dev.swapGone_commands (w : Swap) : (d.swapGone w).commands = d.commands := by
  unfold Dev.swapGone
  exact Dev.forAll_keeps Dev.commands

theorem Dev.resetIsland_commands (i : Nat) : (d.resetIsland i).commands = d.commands := by
  unfold Dev.resetIsland
  extract_lets es s1
  have h1 : s1.commands = d.commands :=
    foldl_kept Dev.commands (fun e w => Dev.swapGone_commands e w) _ d
  exact (Dev.forAll_keeps Dev.commands).trans h1

end

/-- The reset of a block other than a chain keeps its command pending. -/
theorem Dev.blockReset_commands {d : Dev} {id : Nat} (h : id ∈ d.commands) {block : Nat} (hblock : block ≠ 4) (index n : Nat) :
    id ∈ (d.blockReset block index n).commands := by
  unfold Dev.blockReset
  rw [if_neg hblock]
  split
  · exact (d.resetCaravan_commands).symm ▸ h
  · split
    · unfold Dev.resetSurvey
      extract_lets s1
      show id ∈ s1.commands
      unfold s1
      split
      · exact Dev.finish?_commands h ..
      · exact h
    · split
      · exact (d.resetVector_commands).symm ▸ h
      · exact (d.resetIsland_commands index).symm ▸ h

theorem Dev.svyRefuse_commands {d : Dev} {id : Nat} (h : id ∈ d.commands) : id ∈ d.svyRefuse.commands :=
  foldl_holds (fun e => id ∈ e.commands) (fun _ k he => Dev.finish?_commands he k.cmd stState []) d.svy.urgent h

theorem Dev.svyNext_commands {d : Dev} {id : Nat} (h : id ∈ d.commands) (t : Nat) : id ∈ (d.svyNext t).commands := by
  unfold Dev.svyNext
  extract_lets y hold
  have htable : id ∈ (if y.scanning then (d.modSvy (fun y => { y with urgentRan := false })).svyRun
      { entry := y.next, bytes := svyEntry y.active y.next, fn := 0, cmd := none, bank := none } t else d).commands :=
    ite_holds (fun e => id ∈ e.commands) h h
  refine ite_holds (fun e => id ∈ e.commands) (Dev.svyRefuse_commands h) ?_
  split
  · exact ite_holds (fun e => id ∈ e.commands) h htable
  · exact htable

end Sys2Proof.Machine

end

section
/-! BLOCK_IDLE_OR_TIMEOUT and the supply rails (spec/19_startup_reset.md, R567, R568; spec/23_power.md, R620). -/

namespace Sys2Proof.Machine

/-! ### The row (R567) -/

section
variable (d : Dev) (id : Nat) (r : Running)

/-- The microseconds that a reset has waited: TIMEOUT_US where it is forced. -/
def Dev.blockSpent (d : Dev) (r : Running) (forced : Bool) : Nat :=
  if forced then u32 r.job.p 4 else min (u32 r.job.p 4) ((d.now - (r.data.getD 0 0).toNat) / 1000000)

/-- The device at the reset of a block, with what its reply tells. -/
def Dev.blockAt (forced : Bool) : Dev :=
  (if forced then d.advance ((r.data.getD 0 0).toNat + u32 r.job.p 4 * 1000000) else d).setData id
    [(bit forced : Int), ((if forced then d.advance ((r.data.getD 0 0).toNat + u32 r.job.p 4 * 1000000) else d).blockSpent r forced : Int)]

/-- A block that has been reset works again; the survey converter goes on. -/
def Dev.blockBack (d : Dev) (block index : Nat) : Dev :=
  let s := d.modSys (fun y => { y with blockReset := y.blockReset.filter (fun p => p.1 != blockKey block index) })
  if block = 2 && s.svy.run.isNone then s.svyNext (s.edgeAfter s.now) else s

/-- The reset of a block that is idle, or that is forced. -/
theorem Dev.blockDone_runs {d : Dev} {id : Nat} {r : Running} {block index : Nat} {forced : Bool}
    (hfind : d.sys.blockReset.find? (fun p => p.1 == blockKey block index) = some (blockKey block index, id + 1))
    (hrun : d.running? id = some r) (h : d.blockIdle block index = true ∨ (forced = true ∧ block ≠ 5)) :
    let a := (d.blockAt id r (forced && block != 5)).blockReset block index id
    let wait := (if forced && block != 5 then d.advance ((r.data.getD 0 0).toNat + u32 r.job.p 4 * 1000000) else d).blockSpent r
      (forced && block != 5)
    d.blockDone block index forced = if block = 4 then a else
      (a.blockBack block index).finish id stOk (blockReply [(bit (forced && block != 5) : Int), (wait : Int)]) := by
  have hgo : ¬ (!(forced && block != 5) && !d.blockIdle block index) = true := by
    rcases h with h | ⟨h, hb⟩
    · rw [h, Bool.not_true, Bool.and_false]
      exact Bool.false_ne_true
    · rw [h, bne_iff_ne.2 hb]
      exact Bool.false_ne_true
  unfold Dev.blockDone
  dsimp only
  rw [hfind]
  dsimp only
  rw [Nat.add_sub_cancel, hrun]
  dsimp only
  rw [if_neg hgo]
  rfl

theorem Dev.blockAt_commands (h : id ∈ d.commands) (forced : Bool) : id ∈ (d.blockAt id r forced).commands := by
  unfold Dev.blockAt
  rw [Dev.setData_commands]
  exact ite_holds (fun e => id ∈ e.commands) h h

theorem Dev.blockAt_chain (forced : Bool) (k : Nat) : (d.blockAt id r forced).chain k = d.chain k :=
  ite_kept (fun e => e.chain k) rfl rfl

theorem Dev.blockAt_now : (d.blockAt id r true).now = max d.now ((r.data.getD 0 0).toNat + u32 r.job.p 4 * 1000000) := rfl

end

section
variable (d : Dev) (block index : Nat)

theorem Dev.blockBack_now : (d.blockBack block index).now = d.now := by
  unfold Dev.blockBack
  extract_lets s
  exact ite_kept Dev.now (keptByBlock_now.svyNext ..) rfl

theorem Dev.blockBack_blocks : (d.blockBack block index).sys.blockReset = d.sys.blockReset.filter (fun p => p.1 != blockKey block index) := by
  unfold Dev.blockBack
  extract_lets s
  exact ite_kept (fun e : Dev => e.sys.blockReset) (keptByBlock_blocks.svyNext ..) rfl

theorem Dev.blockBack_commands {d : Dev} {id : Nat} (h : id ∈ d.commands) (block index : Nat) :
    id ∈ (d.blockBack block index).commands := by
  unfold Dev.blockBack
  extract_lets s
  have hs : id ∈ s.commands := h
  exact ite_holds (fun e => id ∈ e.commands) (Dev.svyNext_commands hs _) hs

end

/-- Where the block is not the survey converter, its return is noted in the reset controller alone. -/
theorem Dev.blockBack_other {d : Dev} {block : Nat} (h : block ≠ 2) (index : Nat) : d.blockBack block index =
    d.modSys (fun y => { y with blockReset := y.blockReset.filter (fun p => p.1 != blockKey block index) }) := by
  unfold Dev.blockBack
  dsimp only
  exact if_neg (by rw [decide_eq_false h, Bool.false_and]; exact Bool.false_ne_true)

/-! ### A chain (R507, R535, R568) -/

/-- A chain but for the crosspoints that a break-only update opens. -/
def Dev.unopened (d : Dev) (k : Nat) : Chain := { d.chain k with opening := [] }

theorem Dev.setLeaves_unopened (d : Dev) (f q k : Nat) : (d.setLeaves f q).unopened k = d.unopened k := by
  have hloss : (d.setLoss q).1.unopened k = d.unopened k := by
    unfold Dev.setLoss
    extract_lets x i now opens s1 add
    have h1 : s1.unopened k = d.unopened k := rfl
    split
    · refine Eq.trans ?_ h1
      show ({ (s1.modChain i (fun c => { c with opening := add })).chain k with opening := [] } : Chain) = _
      rw [Dev.modChain_get]
      split
      · next h => rw [h]; rfl
      · rfl
    · exact h1
  have hnote : ∀ e : Dev, (e.orphaned f q).unopened k = e.unopened k := fun e => by
    have hchains : (e.orphaned f q).mxChains = e.mxChains :=
      (Dev.forAll_keeps Dev.mxChains (fun _ _ => (Dev.irq_mxChains ..).trans (Dev.logIt_mxChains ..))).trans
        ((Dev.irq_mxChains ..).trans (Dev.logIt_mxChains ..))
    exact congrArg (fun l => ({ tblGet chainInit l k with opening := [] } : Chain)) hchains
  exact ite_kept (fun e => e.unopened k) ((hnote _).trans hloss) hloss

/-- A chain whose update has been ended by force, asked for rediscovery. -/
def Chain.forced (c : Chain) (id : Nat) : Chain :=
  { c with update := none, state := if c.update.isSome then .ready else c.state, discCmd := some id, queue := [], opening := [] }

/-- The chain before its rediscovery. -/
def Dev.chainForced (d : Dev) (k id : Nat) : Dev :=
  let ids := match (d.chain k).update with | some u => u.cmds | none => []
  let s1 := (d.modChain k (fun c => { c with update := none, state := if c.update.isSome then .ready else c.state })).forAll ids
    (fun s i => s.finish i stIntegrity [])
  let s2 := s1.forAll ((s1.setsOn k).filter (fun q => (s1.xset q).locked)) (fun s q => s.setLeaves (s.setHolder q) q)
  s2.modChain k (fun c => { c with discCmd := some id, queue := [], opening := [] })

theorem Dev.chainForced_chain (d : Dev) (k id : Nat) : (d.chainForced k id).chain k = (d.chain k).forced id := by
  unfold Dev.chainForced
  extract_lets ids s1 s2
  have h1 : s1.unopened k =
      { d.chain k with update := none, state := if (d.chain k).update.isSome then .ready else (d.chain k).state, opening := [] } := by
    have hchains : s1.mxChains = _ := Dev.forAll_keeps Dev.mxChains (fun _ _ => Dev.finish_mxChains ..)
    refine (congrArg (fun l => ({ tblGet chainInit l k with opening := [] } : Chain)) hchains).trans ?_
    exact congrArg (fun c : Chain => { c with opening := [] }) (Dev.modChain_same ..)
  have h2 : s2.unopened k = s1.unopened k := Dev.forAll_keeps (fun e => e.unopened k) (fun _ _ => Dev.setLeaves_unopened ..)
  rw [Dev.modChain_same]
  exact congrArg (fun c : Chain => ({ c with discCmd := some id, queue := [] } : Chain)) (h2.trans h1)

/-- The wear of a chain that is reset is to be written back first. -/
def Chain.owes (c : Chain) : Bool := c.wbWant || ((c.up || c.update.isSome) && c.mods.any RelayMod.dirty)

theorem Chain.forced_up (c : Chain) (id : Nat) : (c.forced id).up = (c.up || c.update.isSome) := by
  cases hupdate : c.update with
  | none => rw [Option.isSome_none, Bool.or_false]; unfold Chain.forced Chain.up; rw [hupdate]; rfl
  | some u => rw [Option.isSome_some, Bool.or_true]; unfold Chain.forced Chain.up; rw [hupdate]; rfl

theorem Chain.forced_owes (c : Chain) (id : Nat) :
    ((c.forced id).wbWant || ((c.forced id).up && (c.forced id).mods.any RelayMod.dirty)) = c.owes := by
  rw [Chain.forced_up]
  rfl

theorem Dev.resetChain_waits {d : Dev} {k : Nat} (id : Nat) (h : (d.chain k).owes = true) :
    (d.resetChain k id).chain k = { (d.chain k).forced id with wbWant := true } := by
  have howes := ((d.chain k).forced_owes id).trans h
  have hwaits := Dev.rediscover_waits (d := d.chainForced k id) (k := k) (.inr (by rw [Dev.chainForced_chain]; exact howes))
  have hreset : d.resetChain k id = (d.chainForced k id).wbAsk k := hwaits
  rw [hreset, Dev.wbAsk_get, Dev.chainForced_chain, howes]

theorem Dev.resetChain_begins {d : Dev} {k : Nat} (id : Nat) (h : (d.chain k).owes = false) :
    (d.resetChain k id).chain k = { (d.chain k).forced id with
      state := .discovering, reason := 0, begun := true, wbWant := false,
      mods := (d.chain k).mods.map (fun m => { m with drive := 0 }) } := by
  have howes := ((d.chain k).forced_owes id).trans h
  have hbegins := Dev.rediscover_begins (d := d.chainForced k id) (k := k) (by rw [Dev.chainForced_chain]; rfl)
    (by rw [Dev.chainForced_chain]; exact howes)
  have hreset : d.resetChain k id = ((d.chainForced k id).wbAsk k).discBegin k := hbegins
  rw [hreset, Dev.discBegin_get, Dev.wbAsk_get, Dev.chainForced_chain]
  rfl

/-- What is seen of a chain's reset. -/
theorem Dev.resetChain_seen (d : Dev) (k id : Nat) : ((d.resetChain k id).chain k).discCmd = some id ∧
    ((d.resetChain k id).chain k).queue = [] ∧ ((d.resetChain k id).chain k).update = none ∧
    ((d.chain k).owes = false → ((d.resetChain k id).chain k).state = .discovering ∧
      ∀ m ∈ ((d.resetChain k id).chain k).mods, m.drive = 0) ∧
    ((d.chain k).owes = true → ((d.resetChain k id).chain k).wbWant = true ∧ ((d.resetChain k id).chain k).mods = (d.chain k).mods) := by
  cases howes : (d.chain k).owes with
  | true =>
    rw [Dev.resetChain_waits id howes]
    exact ⟨rfl, rfl, rfl, nofun, fun _ => ⟨rfl, rfl⟩⟩
  | false =>
    rw [Dev.resetChain_begins id howes]
    refine ⟨rfl, rfl, rfl, fun _ => ⟨rfl, fun m hm => ?_⟩, nofun⟩
    obtain ⟨x, -, rfl⟩ := List.mem_map.1 hm
    rfl

/-! ### VECTOR and ISLAND (R568) -/

theorem Dev.resetVector_player (d : Dev) :
    d.resetVector.vec.player = { playerInit with lastEnd := d.resetVector.vec.player.lastEnd } := rfl

theorem Dev.resetIsland_eng (d : Dev) {i e : Nat} (hlow : 16 * i ≤ e) (hhigh : e < 16 * i + 16) : (d.resetIsland i).eng e = engInit e := by
  unfold Dev.resetIsland
  extract_lets es s1
  have hmem : e ∈ es := List.mem_map.2 ⟨e - 16 * i, List.mem_range.2 (by omega), by omega⟩
  refine Dev.forAll_reaches (I := fun _ => True) (P := fun x => x.eng e = engInit e) hmem (fun _ _ _ _ => trivial)
    (fun x _ => Dev.modEng_same ..) (fun x n _ _ hx => ?_) trivial
  rw [Dev.modEng_get]
  split
  · next h => rw [h]
  · exact hx

end Sys2Proof.Machine

end

section
/-! Resets, power states, block resets and supply rails: what the obligation states (O58). -/

namespace Sys2Proof.Machine

/-! ### BLOCK_IDLE_OR_TIMEOUT (R567, R568) -/

/-- What is seen of a block's reset, of a command `id` with the data `r`. -/
def Dev.BlockSeen (d t : Dev) (b i : Nat) (forced : Bool) (id : Nat) (r : Running) : Prop :=
  (forced = true → b ≠ 5 → t.now = max d.now ((r.data.getD 0 0).toNat + u32 r.job.p 4 * 1000000)) ∧
  (b = 4 → (t.chain i).discCmd = some id ∧ (t.chain i).queue = [] ∧ (t.chain i).update = none ∧
    ((d.chain i).owes = false → (t.chain i).state = .discovering ∧ ∀ m ∈ (t.chain i).mods, m.drive = 0) ∧
    ((d.chain i).owes = true → (t.chain i).wbWant = true ∧ (t.chain i).mods = (d.chain i).mods)) ∧
  (b ≠ 4 → t.sys.blockReset.any (fun p => p.1 == 16 * b + i) = false ∧
    ∃ r' : Running, t.running? id = some r' ∧ r'.result.isSome = true) ∧
  (b = 3 → t.vec.player = { playerInit with lastEnd := t.vec.player.lastEnd }) ∧
  (b = 5 → ∀ e : Nat, 16 * i ≤ e → e < 16 * i + 16 → t.eng e = engInit e)

theorem Dev.BlockSeen.observed {d : Dev} {g : Dev → Dev} {b i : Nat} {forced : Bool} {id : Nat} {r : Running}
    (h : d.BlockSeen (g d) b i forced id r) : d.BlockSeen (d.observed g) b i forced id r := by
  have hchain : (d.observed g).chain i = (g d).chain i := congrArg (fun l => tblGet chainInit l i) (Dev.observed_mxChains ..)
  have hblocks : (d.observed g).sys.blockReset = (g d).sys.blockReset := keptByBlock_blocks.observed d g
  have heng : ∀ e, (d.observed g).eng e = (g d).eng e := fun e => congrArg (fun l => tblGet engInit l e) (Dev.observed_engines ..)
  unfold Dev.BlockSeen
  rw [Dev.observed_now, hchain, hblocks, Dev.observed_running?, Dev.observed_vec]
  simp only [heng]
  exact h

section
variable {d : Dev} {b i : Nat} {forced : Bool} {id : Nat} {r : Running}

theorem Dev.blockReset_vector (d : Dev) (i id : Nat) : d.blockReset 3 i id = d.resetVector := by
  unfold Dev.blockReset
  rw [if_neg (by decide), if_neg (by decide), if_pos rfl]

theorem Dev.blockReset_chain (d : Dev) (i id : Nat) : d.blockReset 4 i id = d.resetChain i id := by
  unfold Dev.blockReset
  rw [if_neg (by decide), if_neg (by decide), if_neg (by decide), if_pos rfl]

theorem Dev.blockReset_island (d : Dev) (i id : Nat) : d.blockReset 5 i id = d.resetIsland i := by
  unfold Dev.blockReset
  rw [if_neg (by decide), if_neg (by decide), if_neg (by decide), if_neg (by decide)]

/-- A chain's command goes on with its rediscovery. -/
theorem Dev.chainReset_seen (forced : Bool) :
    d.BlockSeen ((d.blockAt id r (forced && 4 != 5)).blockReset 4 i id) 4 i forced id r := by
  have hchain := (d.blockAt id r (forced && 4 != 5)).resetChain_seen i id
  rw [Dev.blockAt_chain] at hchain
  have hnow : ((d.blockAt id r (forced && 4 != 5)).resetChain i id).now = _ := keptByBlock_now.resetChain ..
  rw [Dev.blockReset_chain]
  generalize (d.blockAt id r (forced && 4 != 5)).resetChain i id = a at hchain hnow
  refine ⟨fun hforced _ => ?_, fun _ => hchain, fun h => absurd rfl h, fun h => absurd h (by decide), fun h => absurd h (by decide)⟩
  rw [hnow, hforced]
  exact Dev.blockAt_now ..

/-- The command of another block completes with its reset. -/
theorem Dev.blockReset_seen (hb : b ≠ 4) (hrun : d.running? id = some r) (l : List Byte) :
    d.BlockSeen ((((d.blockAt id r (forced && b != 5)).blockReset b i id).blockBack b i).finish id stOk l) b i forced id r := by
  have hcommands := Dev.blockReset_commands (d.blockAt_commands id r (Dev.commands_of_running hrun) (forced && b != 5)) hb i id
  have hback : ∀ h : b ≠ 2, ((d.blockAt id r (forced && b != 5)).blockReset b i id).blockBack b i = _ :=
    fun h => Dev.blockBack_other h i
  refine ⟨fun hforced hb5 => ?_, fun h => absurd h hb, fun _ => ⟨?_, Dev.finish_result (Dev.blockBack_commands hcommands b i) stOk l⟩,
    fun h3 => ?_, fun h5 e hlow hhigh => ?_⟩
  · rw [Dev.finish_now, Dev.blockBack_now, keptByBlock_now.blockReset, hforced, bne_iff_ne.2 hb5]
    exact Dev.blockAt_now ..
  · rw [show ((((d.blockAt id r (forced && b != 5)).blockReset b i id).blockBack b i).finish id stOk l).sys.blockReset = _ from
      keptByBlock_blocks.finish .., Dev.blockBack_blocks]
    refine List.any_eq_false.2 (fun p hp => ?_)
    exact Bool.not_eq_true _ ▸ (bne_iff_ne.1 (List.mem_filter.1 hp).2 |> beq_eq_false_iff_ne.2)
  · subst h3
    rw [Dev.finish_vec, hback (by decide), Dev.modSys_vec, Dev.blockReset_vector]
    exact Dev.resetVector_player _
  · subst h5
    refine (congrArg (fun t => tblGet engInit t e) (Dev.finish_engines ..)).trans ?_
    rw [hback (by decide), Dev.modSys_engines, Dev.blockReset_island]
    exact Dev.resetIsland_eng _ hlow hhigh

theorem Dev.blockDone_seen (hfind : d.sys.blockReset.find? (fun p => p.1 == 16 * b + i) = some (16 * b + i, id + 1))
    (hrun : d.running? id = some r) (h : d.blockIdle b i = true ∨ (forced = true ∧ b ≠ 5)) :
    d.BlockSeen (d.blockDone b i forced) b i forced id r := by
  have hdone := Dev.blockDone_runs (block := b) (index := i) (forced := forced) hfind hrun h
  by_cases hb : b = 4
  · subst hb
    rw [hdone, if_pos rfl]
    exact Dev.chainReset_seen forced
  · rw [hdone, if_neg hb]
    exact Dev.blockReset_seen hb hrun _

end

/-! ### Supply rails (R620) -/

theorem exec_helonRailFall (s : State) : ∃ t : State, exec .helonRailFall s = .next t ∧ t.mem = s.mem ∧ t.dev.sys.helonGood = false ∧
    t.dev.hel = [] ∧ t.dev.seam.powered = false ∧ t.dev.seam.lossAt = some (s.dev.seam.lossAt.getD s.dev.now) := by
  refine ⟨_, rfl, rfl, ?_⟩
  rw [State.on_dev, Dev.observed_hel, Dev.observed_seam]
  refine ⟨(congrArg SysCtl.helonGood (Dev.observed_sys s.dev Dev.helonFalls) :), ?_, rfl, rfl⟩
  exact (Dev.clearHelon_parts s.dev).1

/-- The device as a Denrix rail falls: the scope in force is DENRIX or wider. -/
def Dev.railFallen (d : Dev) : Dev :=
  d.resetLatch.modSys (fun y => { y with scope := if d.sys.phase != .ready then min 2 d.sys.scope else 2 })

theorem Dev.denrixFalls_cleared (d : Dev) : d.denrixFalls =
    (d.railFallen.denrixCleared false (decide ((if d.sys.phase != .ready then min 2 d.sys.scope else 2) ≤ 1))).modSys (fun y =>
      { y with phase := .held, eccDone := false, denrixGood := false }) := rfl

theorem exec_denrixRailFall (s : State) : ∃ t : State, exec .denrixRailFall s = .next t ∧ t.mem = s.mem ∧ t.dev.sys.phase = .held ∧
    t.dev.sys.denrixGood = false ∧ (∀ f : Nat, t.dev.fn f = fnInit f) ∧ t.dev.store.bankA = s.dev.store.bankA := by
  refine ⟨_, rfl, rfl, ?_⟩
  rw [State.on_dev, Dev.denrixFalls_cleared]
  exact ⟨rfl, rfl, fun f => congrArg (fun l => tblGet fnInit l f) (Dev.denrixCleared_fns ..),
    congrArg Prod.fst (Dev.denrixCleared_banks s.dev.railFallen false _)⟩

end Sys2Proof.Machine

open Sys2Proof.Machine

/-- Settles O58: a wide source leaves what `Dev.ResetMade` names, a narrow one from READY what `Dev.assertReset_stood` names; a fatal
fault first leaves its crash record (`Dev.fatal_made`); entry to DEEP, wakes and block resets are read off what their parts keep
(`KeptByUnrest`, `KeptByBlock`); a rail's fall clears its die. -/
theorem resetsAndPower : Obligations.ResetsAndPower := by
  unfold Obligations.ResetsAndPower
  refine ⟨fun e he s hsmb => exec_source s he hsmb,
    fun s => ⟨exec_helonPowerOn, exec_helonPowerOn_recorded, fun t0 hloss hup hready => exec_seamLossEscalation hloss hup hready⟩,
    fun dump pair addr e he s => exec_fatal dump pair addr s he,
    fun s l hreset hl => ⟨exec_sysResetAssertion_waits hreset, exec_sysResetAssertion hreset hl⟩,
    fun hot s => rfl, fun code data ok s => rfl, fun s h => exec_smbMgmtReadStatus h,
    fun s _ hwaits => exec_deepEntryDone_waits hwaits, fun s hdeep hwaits => exec_deepEntryDone hdeep hwaits,
    fun c s hc => ⟨exec_wake_latched hc, exec_wake_begun hc⟩, fun s hpower hwaking hup => exec_wakeDone hpower hwaking hup,
    fun b i forced s id r hfind hrun h => ?block, fun s => ⟨exec_helonRailFall s, exec_denrixRailFall s⟩⟩
  case block =>
    exact ⟨_, rfl, rfl, Dev.BlockSeen.observed (g := fun d => d.blockDone b.val i.val forced) (Dev.blockDone_seen hfind hrun h)⟩

end
